-- ==== Sys2Proof/Word.lean ====
section
/-!
DEFINITION. The words of the engine: bytes, 64-bit register and packet words, and the shape of a sparse table.
Registers are 64 bits wide (spec/00_scope.md, Conventions).
-/
namespace Sys2Proof

/-- One byte on a port or in a memory line. -/
abbrev Byte := BitVec 8

/-- One register, packet word or journal beat: 64 bits. -/
abbrev W64 := BitVec 64

/-- A sparse table: keys strictly rising, no entry equal to the table's default (Sys2Proof.Machine.smWf). -/
abbrev SMap (α : Type) := List (Nat × α)

end Sys2Proof
end

