-- ==== Sys2Proof/Packets.lean ====
section
/-!
DEFINITION. What the commands carry: port segments (R35, R38), requesters and command packets (R322, R324),
fabric message headers and bodies (R286, R287), journal and key agreement items.
-/
namespace Sys2Proof

/-- Egress or ingress. -/
inductive Dir | egr | ing
deriving DecidableEq, Repr

/-- One 64-byte segment of a streaming port (R35, R38). `permitted` says whether backpressure permits a transfer
in its cycle (R46). -/
structure Seg where
  valid : Bool
  sop : Bool
  eop : Bool
  /-- Idle bytes after the ending frame's last byte, 0–63. -/
  empty : Nat
  /-- Link of the frame that starts here. -/
  link : Nat
  /-- The frame that ends here is bad. -/
  err : Bool
  /-- FD sideband of the frame that starts here (R42). -/
  fd : BitVec 16
  /-- The segment's 64 bytes, earliest first. -/
  data : List Byte
  permitted : Bool
deriving DecidableEq, Repr

/-- What the memories under a frame's lookups report: the ECC of its SecY's and of its SA's cistern line (0 clean, 1 corrected, 2 uncorrectable,
R262), the parity of the vault row of its key (R210). -/
structure FrameFaults where
  secyEcc : Nat
  cisEcc : Nat
  vltPar : Bool
deriving DecidableEq, Repr

/-- A requester of commands (R324). -/
inductive Req
  | hq (n : Nat)
  | svc
  | fab (addr : Nat)
deriving DecidableEq, Repr

/-- A command packet without its opcode (R322): requester and host slot, privilege, FLAGS, LEN, TAG, reserved bits
of the header, DST and the parameter words. -/
structure Pkt where
  req : Req
  slot : Nat
  priv : Bool
  flags : BitVec 8
  len : Nat
  tag : Nat
  rsv : BitVec 10
  dst : Nat
  words : List W64
deriving DecidableEq, Repr

/-- What a participant announces or distributes about a new SAK: AN, key number, suite, offset, wrapped key. -/
structure DistSak where
  an : Nat
  kn : Nat
  suite : Nat
  off : Nat
  wrapped : List Byte
deriving DecidableEq, Repr

/-- An MKPDU as the service engine reads it from CTQ (R252). Its byte encoding belongs to IEEE 802.1X-2020 and is not
in the spec; `bad` says that its ICV fails or that it cannot be parsed. -/
structure Mkpdu where
  bad : Bool
  /-- MKA version; versions 1 to 3 are accepted (R249). -/
  version : Nat
  ckn : List Byte
  sci : W64
  /-- Member identifier and message number. -/
  mi : Nat
  mn : Nat
  prio : Nat
  /-- The sender lists this engine as a live peer. -/
  listsUs : Bool
  /-- The sender transmits, and so needs a receive SC (R254). -/
  sends : Bool
  /-- Announced suites (coded as SVC_MKA_CFG.SUITES) and largest offset code permitted. -/
  suites : Nat
  offCap : Nat
  /-- Key number on which the sender receives, and on which it transmits; 0 for none. -/
  rxKn : Nat
  txKn : Nat
  /-- Its transmit PN has reached the rekey threshold (R252). -/
  pnThr : Bool
  dist : Option DistSak
deriving DecidableEq, Repr

/-! Fabric messages (R286, R287). -/

/-- What a received message's SOM and MAC word say, and the port it arrived on (R286, R287). -/
structure MsgHdr where
  port : Nat
  /-- SRC, where SRC_VALID is 1. -/
  src : Option Nat
  hop : Bool
  dst : Nat
  ttl : Nat
  lseq : Nat
  /-- The MAC word; 0 on messages without one. -/
  mac : W64
deriving DecidableEq, Repr

/-- HELLO (R301). -/
structure Hello where
  id : W64
  addr : Option Nat
  cls : Nat
  port : Nat
  unsync : Bool
  paired : Bool
deriving DecidableEq, Repr

/-- CAPS (R293). -/
structure Caps where
  id : W64
  cls : Nat
  major : Nat
  minor : Nat
  addr : Option Nat
  port : Nat
  width : Nat
  rate : Bool
  spine : Bool
  rcvd : Bool
  prio : Nat
  hasKey : Bool
  unsync : Bool
  paired : Bool
  keyCheck : W64
deriving DecidableEq, Repr

/-- An adjacency of an LSA (R304): neighbour address, local port, width, rate. -/
structure Adj where
  addr : Nat
  port : Nat
  width : Nat
  rate : Bool
deriving DecidableEq, Repr

/-- LSA (R304). Class, key check and time priority of the originator travel in it so that every engine can judge
membership (R305) and the master (R307); the spec gives no byte layout. -/
structure Lsa where
  addr : Option Nat
  id : W64
  seq : Nat
  /-- Address of the originator's partner and of its pair's home. -/
  partner : Option Nat
  home : Option Nat
  adjs : List Adj
  cls : Nat
  keyCheck : W64
  prio : Nat
  unsync : Bool
deriving DecidableEq, Repr

/-- LEASE_REQ (R183, R288). -/
structure LeaseReq where
  home : Nat
  sa : Nat
  req : Nat
  rid : Nat
  epoch : Nat
deriving DecidableEq, Repr

/-- LEASE_GRANT (R183, R288); `stop` is END as sent, 0 meaning 2^64. -/
structure LeaseGrant where
  home : Nat
  sa : Nat
  req : Nat
  rid : Nat
  status : Nat
  start : Nat
  stop : Nat
deriving DecidableEq, Repr

/-- LEASE_SYNC and LEASE_SYNC_ACK (R183, R288). -/
structure LeaseSync where
  home : Nat
  sa : Nat
  epoch : Nat
  mark : Nat
deriving DecidableEq, Repr

/-- A record of MIRROR_TX (R313). -/
structure MirTx where
  current : Bool
  valid : Bool
  sa : Nat
  link : Nat
  batch : Nat
  pn : Nat
deriving DecidableEq, Repr

/-- A record of MIRROR_RX, MIRROR_QUERY or MIRROR_REPLY (R313, R314). -/
structure MirRx where
  an : Nat
  link : Nat
  sci : W64
  low : Nat
deriving DecidableEq, Repr

/-- PAIR_HELLO (R310): epoch and 32-byte configuration digest. -/
structure PairHello where
  epoch : Nat
  digest : List Byte
deriving DecidableEq, Repr

/-- PAIR_HB (R312). -/
structure PairHb where
  epoch : Nat
  digest : W64
  deg : BitVec 8
  unsync : Bool
  batch : Nat
deriving DecidableEq, Repr

/-- A mark of MARK_MERGE (R317). -/
structure MarkRec where
  sa : Nat
  xpn : Bool
  mark : Nat
deriving DecidableEq, Repr

/-- CUT_OFFER (R319); CUT_ACK and CUT_ABORT name the same SA and AN. -/
structure CutMsg where
  home : Nat
  sa : Nat
  an : Nat
  t : Nat
  key : List Byte
  status : BitVec 8
deriving DecidableEq, Repr

/-- The messages of R287. -/
inductive FabMsg
  | hello (m : Hello)
  | lsa (m : Lsa)
  | timeReq
  | timeResp (t2 t3 : Nat) (offset : Int)
  | caps (m : Caps)
  | leaseReq (m : LeaseReq)
  | leaseGrant (m : LeaseGrant)
  | leaseSync (m : LeaseSync)
  | leaseSyncAck (m : LeaseSync)
  | mirrorTx (rs : List MirTx)
  | mirrorRx (rs : List MirRx)
  | mirrorQuery (rs : List MirRx)
  | mirrorReply (rs : List MirRx)
  | pairHello (m : PairHello)
  | pairHb (m : PairHb)
  | markMerge (rs : List MarkRec) (last : Bool)
  | mergeAck
  | yieldNote
  | cutOffer (m : CutMsg)
  | cutAck (m : CutMsg)
  | cutAbort (m : CutMsg)
  | cmd (header : W64) (words : List W64)
  | reply (header : W64) (words : List W64)
deriving DecidableEq, Repr

/-- The fields of a leader block (R291). -/
structure Leader where
  /-- Found in the inverted payload (R292). -/
  inverted : Bool
  lane : Nat
  width : Nat
  spine : Bool
  phase : Nat
  rxLocked : Bool
  deskewed : Bool
  tseq : Nat
deriving DecidableEq, Repr

/-- What the receive bus of a lane carries in one fc: fab_rx_cnt and fab_rx_blk, the first block lowest (R65, R66). -/
structure RxBus where
  cnt : Nat
  blks : BitVec 132
deriving DecidableEq, Repr

/-- Kinds of symbol error on a lane (R285, R286, R295). -/
inductive BlockErr | syncHeader | controlType
deriving DecidableEq, Repr

end Sys2Proof
end

