-- ==== Sys2Proof/Syntax.lean ====
section
/-!
DEFINITION. The commands of the block, one constructor for each row of spec/opcode_table.json, in its order.
MCI commands carry their packet (R322); the others carry what their event brings.
-/
namespace Sys2Proof

/-- A command: a row of spec/opcode_table.json. -/
inductive Instr
  /-- POWER_ON_RESET (R99): Assertion of rst_por_n or loss of power clears every state of the engine, including
  AON, the divider chain and fabric time. -/
  | powerOnReset
  /-- SYSTEM_RESET (R99): Assertion of rst_sys_n restarts the engine, keeps AON, records LAST_MODE and zeroizes
  the vault. -/
  | systemReset
  /-- RESET_RELEASE (R85): The later release of the two resets starts the autonomous start-up sequence and
  tamper qualification. -/
  | resetRelease
  /-- ROOTKEY_WORD (R69): A root secret word, or rootkey_err, arrives; after the eighth word the secret is
  checked, held in the vault and the capture register cleared. -/
  | rootkeyWord (data : BitVec 32) (err : Bool)
  /-- ROOTKEY_DEADLINE (R69): No complete root secret arrives within 1,000 ac, so the secret is absent and the
  engine will reach COLD without resume. -/
  | rootkeyDeadline
  /-- FIRMWARE_VERIFIED (R87): ROM and patch integrity checking completes; GLB_ID firmware fields take the
  running version, a bad patch is rejected and a bad ROM leads to LOCKOUT. -/
  | firmwareVerified (romOk : Bool) (patch : Option (Option (BitVec 24)))
  /-- DOMAIN_RAMP_DONE (R22): A switched-on power domain finishes its ramp, is locally reset, reloaded from the
  PD01 shadow and released from isolation. -/
  | domainRampDone (pd : Nat) (err : BitVec 512)
  /-- COMMAND_READY (R86): Start-up reaches command-ready: COLD is entered, command queues open and the input
  readies rise. -/
  | commandReady
  /-- JOURNAL_RESOLUTION (R196): Reading of all journal slots completes and the journal is resolved into marks,
  floors, image, sequence and write pointer. -/
  | journalResolution
  /-- RESUME_COMPLETE (R88): Resume from the journal image ends by entering PROTECT or DEGRADED, or fails with
  RESUME 3 and the engine stays in COLD. -/
  | resumeComplete
  /-- ENTROPY_SAMPLE (R221): A raw entropy sample, or ent_err, arrives and passes the repetition count and
  adaptive proportion tests. -/
  | entropySample (byte : Byte) (err : Bool)
  /-- DRBG_INSTANTIATE (R221): Enough tested samples complete the instantiation of the DRBG. -/
  | drbgInstantiate
  /-- DRBG_RESEED (R220): After 65,536 generate requests or 1 s since the last seed the DRBG reseeds. -/
  | drbgReseed
  /-- ENTROPY_RETEST (R222): Once per second while ENTROPY is set the start-up tests run again on a fresh batch,
  and a passing batch reseeds the DRBG. -/
  | entropyRetest
  /-- TAMPER_INPUT (R89): A tmp_in input qualified at two consecutive ac samples latches and sends the engine to
  LOCKOUT at once. -/
  | tamperInput (level : BitVec 4)
  /-- VOLTAGE_GLITCH (R70): A pulse on tmp_glitch is captured asynchronously, latched and sends the engine to
  LOCKOUT. -/
  | voltageGlitch
  /-- CLOCK_FAULT (R376): clk_root stops or leaves its range against the AON ring oscillator, and the AON clock
  event is raised. -/
  | clockFault (bad : Bool)
  /-- PRT_UP_CHANGE (R71): A change of a prt_up bit changes MAC_Operational of the SecYs on that port and may
  wake the engine from DOZE. -/
  | prtUpChange (v : W64)
  /-- STEER_ACK_RISE (R73): steer_ack rises; the engine drops steer_req within 2 fc, or raises STEER_PROTO if no
  request is presented. -/
  | steerAckRise
  /-- STEER_ACK_FALL (R74): steer_ack falls, completing the handshake and releasing the next held steering need.
  -/
  | steerAckFall
  /-- STEER_LATE (R73): No steer_ack arrives within 100 µs of steer_req, and the fabric steering-late event is
  raised. -/
  | steerLate
  /-- STEER_ACK_STUCK (R74): steer_ack stays 1 for more than 100 µs after steer_req falls and the PEER event
  with cause STEER_PROTO is raised. -/
  | steerAckStuck
  /-- SYS_NOP (R336): Command that does nothing and replies OK. -/
  | sysNop (p : Pkt)
  /-- SYS_GET_INFO (R337): Command that returns GLB_ID, GLB_MODE, GLB_DEG_CAUSE and resource counts. -/
  | sysGetInfo (p : Pkt)
  /-- SYS_SET_MODE (R337): Command that requests a mode transition of R83 and replies when it is complete. -/
  | sysSetMode (p : Pkt)
  /-- SYS_READ_STATE (R337): Command that returns the state summary or the 14 FIRST records. -/
  | sysReadState (p : Pkt)
  /-- SYS_SET_POLICY (R338): Command that writes bypass rules into a staging set and installs it atomically on
  COMMIT. -/
  | sysSetPolicy (p : Pkt)
  /-- STAGING_SET_TIMEOUT (R338): A staging set left 100 ms without a part loses its owner and is discarded. -/
  | stagingSetTimeout (dir : Dir)
  /-- SECY_CREATE (R340): Command that creates an OFF SecY on a link with its parameters. -/
  | secyCreate (p : Pkt)
  /-- SECY_MODIFY (R340): Command that changes a SecY's parameters, taking effect at the stage of each
  parameter. -/
  | secyModify (p : Pkt)
  /-- SECY_ENABLE (R97): Command that turns a SecY ON, or holds the enable pending while it drains. -/
  | secyEnable (p : Pkt)
  /-- SECY_DISABLE (R97): Command that moves an ON SecY to DRAINING and cancels a pending enable. -/
  | secyDisable (p : Pkt)
  /-- SECY_DELETE (R340): Command that cancels a pending cut, ends MKA, retires SAs and SCs and frees an OFF
  SecY. -/
  | secyDelete (p : Pkt)
  /-- SECY_QUERY (R340): Command that returns a SecY's parameters, state and statistics. -/
  | secyQuery (p : Pkt)
  /-- SECY_DRAIN_COMPLETE (R97): A DRAINING SecY's in-flight count reaches 0 in both directions; its leases are
  abandoned, it becomes OFF and a pending enable executes. -/
  | secyDrainComplete (link : Nat)
  /-- SECY_DRAIN_TIMEOUT (R97): Frames still held 1 ms after SECY_DISABLE are discarded and counted. -/
  | secyDrainTimeout (link : Nat)
  /-- SC_ADD_RX (R134): Command that places a receive SC in the cuckoo table, relocating entries or using the
  stash, and returns its index. -/
  | scAddRx (p : Pkt)
  /-- SC_REMOVE_RX (R134): Command that frees a receive SC with no installed SA. -/
  | scRemoveRx (p : Pkt)
  /-- SC_QUERY (R341): Command that returns a receive SC's link, SCI and SA bits. -/
  | scQuery (p : Pkt)
  /-- SA_INSTALL (R342): Command that installs a transmit stand-in after a durable INTENT, or a disabled receive
  SA. -/
  | saInstall (p : Pkt)
  /-- SA_ENABLE_RX (R343): Command that enables or disables a receive SA. -/
  | saEnableRx (p : Pkt)
  /-- SA_SET_TX (R230): Command that arms a cut to a stand-in AN and replies when the cut is taken. -/
  | saSetTx (p : Pkt)
  /-- SA_RETIRE (R246): Command that abandons an SA's leases or disqualifies a receive SA and waits for its
  frames. -/
  | saRetire (p : Pkt)
  /-- SA_RETIRE_COMPLETE (R246): The last frame of a retiring SA is released or committed; its line is freed,
  REFS lowered and the command replies. -/
  | saRetireComplete (dir : Dir) (sa : Nat)
  /-- SA_QUERY (R343): Command that returns an SA's configuration word, PNs, leases and times. -/
  | saQuery (p : Pkt)
  /-- SA_STATS_READ (R343): Command that returns an SA's four statistics with their flags. -/
  | saStatsRead (p : Pkt)
  /-- KEY_LOAD_WRAPPED (R216): Command that unwraps a host blob, or clear-imports a KEK, into a vault slot and
  returns its KID. -/
  | keyLoadWrapped (p : Pkt)
  /-- KEY_DERIVE (R344): Command that derives a key with the KDF from a HOST_KDK or CAK. -/
  | keyDerive (p : Pkt)
  /-- KEY_WRAP_EXPORT (R219): Command that returns an exportable host key wrapped under a named HOST_KEK. -/
  | keyWrapExport (p : Pkt)
  /-- KEY_RETIRE (R226): Command that puts an unreferenced key into RETIRING. -/
  | keyRetire (p : Pkt)
  /-- KEY_SLOT_ZEROIZED (R226): A RETIRING slot's INFLIGHT clears; the slot is zeroized and KEY_RETIRE replies
  OK. -/
  | keySlotZeroized (slot : Nat)
  /-- KEY_QUERY (R201): Command that returns a slot's key descriptor. -/
  | keyQuery (p : Pkt)
  /-- KEY_GENERATE (R344): Command that generates a random host key from the DRBG. -/
  | keyGenerate (p : Pkt)
  /-- CUT_SCHEDULE (R240): Command that commits TIMED cuts of up to 1,024 SecYs at one fabric-time instant. -/
  | cutSchedule (p : Pkt)
  /-- CUT_CANCEL (R230): Command that cancels an ARMED or TIMED cut with a CUT_DONE of outcome CANCELLED. -/
  | cutCancel (p : Pkt)
  /-- CUT_QUERY (R345): Command that returns a SecY's cut state, target AN, instant and COMMIT SEQ. -/
  | cutQuery (p : Pkt)
  /-- MKA_ENABLE (R346): Command that starts MKA on a SecY with its policy values. -/
  | mkaEnable (p : Pkt)
  /-- MKA_DISABLE (R257): Command that ends a SecY's CA at once and retires its SAs. -/
  | mkaDisable (p : Pkt)
  /-- MKA_SET_CAK (R256): Command that gives a SecY its CAK and CKN, or starts a second participant for a CAK
  change. -/
  | mkaSetCak (p : Pkt)
  /-- MKA_QUERY (R346): Command that returns a CA's participant state, key server and peers. -/
  | mkaQuery (p : Pkt)
  /-- MKA_FORCE_REKEY (R252): Command that makes the key server generate and distribute new SAKs, optionally
  cutting at an instant. -/
  | mkaForceRekey (p : Pkt)
  /-- LEASE_QUERY (R347): Command that returns an SA's lease state, leases and headwater mark. -/
  | leaseQuery (p : Pkt)
  /-- LEASE_SET_GRAIN (R347): Command that sets a default grain or a per-SA grain override. -/
  | leaseSetGrain (p : Pkt)
  /-- FAB_QUERY (R348): Command that returns fabric summary, port or peer registers. -/
  | fabQuery (p : Pkt)
  /-- FAB_SET_ROLE (R348): Command that sets identity, sets time, requests a handover or binds a PAIR key. -/
  | fabSetRole (p : Pkt)
  /-- FAB_PAIR (R310): Command that names a partner, PAIR key and pair set and writes a PAIR record. -/
  | fabPair (p : Pkt)
  /-- FAB_UNPAIR (R310): Command that ends the pair, rewrites PMARK cells and writes a PAIR record naming no
  partner. -/
  | fabUnpair (p : Pkt)
  /-- FAB_PORT_CTL (R348): Command that disables, enables, idles, activates or tests a fabric port. -/
  | fabPortCtl (p : Pkt)
  /-- JNL_COMMIT_IMAGE (R349): Command that writes the running configuration as image pieces and an IMAGE_HDR.
  -/
  | jnlCommitImage (p : Pkt)
  /-- JNL_QUERY (R349): Command that returns journal status, wear, sequence and image information. -/
  | jnlQuery (p : Pkt)
  /-- JNL_ERASE (R190): Command that erases the committed image by writing an IMAGE_HDR with piece count 0. -/
  | jnlErase (p : Pkt)
  /-- CXM_REKEY_SCRAMBLE (R282): Command that starts the sweep moving every data line to the next line-mix key.
  -/
  | cxmRekeyScramble (p : Pkt)
  /-- CXM_REBUILD (R281): Command that re-primes one leaf group or the whole region. -/
  | cxmRebuild (p : Pkt)
  /-- CHK_RUN (R390): Command that starts a check job or dailies program, or stops dailies. -/
  | chkRun (p : Pkt)
  /-- CHK_QUERY (R391): Command that returns a check engine's state, outcome, CRC and scanned bytes. -/
  | chkQuery (p : Pkt)
  /-- TEL_SLATE (R401): Command that freezes a snapshot of all telemetry counters or releases it. -/
  | telSlate (p : Pkt)
  /-- DIAG_LANE_KAT (R351): Command that runs the known-answer test on one lane. -/
  | diagLaneKat (p : Pkt)
  /-- DIAG_VAULT_KAT (R351): Command that tests the unwrap engines, KDF, CMAC and DRBG against ROM values. -/
  | diagVaultKat (p : Pkt)
  /-- COMMAND_SLOT_WRITE (R325): A CSR write stores a word into a FREE command slot, or is refused BLOCKED. -/
  | commandSlotWrite (q slot k : Nat) (data : W64) (priv : Bool)
  /-- DOORBELL (R325): A write to MCI_HQn_DB posts the slot's packet as a command to the dispatcher. -/
  | doorbell (q slot : Nat) (priv : Bool)
  /-- COMMAND_START (R330): A waiting command starts once every earlier command sharing its objects, or its
  fence, has completed. -/
  | commandStart
  /-- REPLY_RELEASE (R325): A write to MCI_HQn_REL returns DONE slots to FREE. -/
  | replyRelease (q : Nat) (mask : Byte) (priv : Bool)
  /-- FWD_RESEND (R333): A forwarded command with no REPLY is sent again every 1 ms. -/
  | fwdResend (dst tag : Nat)
  /-- FWD_TIMEOUT (R333): No REPLY within FWD_TMO makes the forwarded command reply TIMEOUT. -/
  | fwdTimeout (dst tag : Nat)
  /-- CLI_RX_FRAME (R100): A client frame on cli_rx_ is parsed, classified, looked up and assigned a PN, or
  discarded. -/
  | cliRxFrame (segs : List Seg) (flt : FrameFaults)
  /-- EGRESS_RELEASE (R119): The ERB releases the oldest due frame of a link on lin_tx_, or an empty entry for a
  discarded frame. -/
  | egressRelease (fdBad : Bool)
  /-- INJECTED_FRAME (R117): A complete frame offered in INJQ leaves on lin_tx_ at the next frame boundary in
  clear. -/
  | injectedFrame
  /-- LIN_RX_FRAME (R125): A line frame on lin_rx_ is parsed, tag-checked, looked up and replay pre-checked, or
  decided early. -/
  | linRxFrame (segs : List Seg) (flt : FrameFaults)
  /-- INGRESS_COMMIT (R138): A frame's ICV verdict is committed in link order, applying the replay decision and
  updating NEXT_PN. -/
  | ingressCommit (link : Nat) (fdBad : Bool)
  /-- INGRESS_RELEASE (R143): The IHB releases the oldest due frame of a link on cli_tx_, or an empty entry. -/
  | ingressRelease (fdBad : Bool)
  /-- SHED_RISE (R121): Waiting blocks above SHED_HI for 1 µs raise the shed level by 1. -/
  | shedRise (dir : Dir) (blocks : Nat)
  /-- SHED_FALL (R121): Waiting blocks below SHED_LO for 100 µs lower the shed level by 1. -/
  | shedFall (dir : Dir) (blocks : Nat)
  /-- LANE_FAULT_FLAG (R163): The dispatcher sees a block's fault flag and reissues the block as two copies on
  other lanes. -/
  | laneFaultFlag (dir : Dir) (lane stage check : Nat) (link order block : Nat) (copy : Bool)
  /-- SPARE_READY (R168): A ramping spare passes its known-answer test and enters the slot map, or is retired if
  it fails. -/
  | spareReady (dir : Dir) (lane : Nat) (err : BitVec 512)
  /-- CXM_READ_BEAT (R56): A read data beat with its ECC outcome arrives on the context memory port. -/
  | cxmReadBeat (tag : Nat) (data : List Byte) (last : Bool) (ecc : BitVec 2)
  /-- CXM_WRITE_DONE (R57): A context write response arrives, freeing its tag, or reporting a write fault. -/
  | cxmWriteDone (tag : Nat) (err : Bool)
  /-- CXM_READ_TIMEOUT (R57): A context read does not complete within RD_TMO; its tag is held and the read
  retried once. -/
  | cxmReadTimeout (tag : Nat)
  /-- CXM_WRITE_TIMEOUT (R57): A context write gets no response within WR_TMO and is a port fault. -/
  | cxmWriteTimeout (tag : Nat)
  /-- FILL_COMPLETE (R273): A fill's line and leaf are checked, unmixed and unwrapped, the line installed and
  its sump entries released, or the fill fails. -/
  | fillComplete (line : Nat)
  /-- REPRIME_START (R278): The next quarantined leaf group is taken from the queue and its sources located. -/
  | reprimeStart
  /-- MIRROR_QUERY_TIMEOUT (R314): No MIRROR_REPLY arrives within 100 µs and re-priming proceeds without
  mirrored values. -/
  | mirrorQueryTimeout
  /-- REPRIME_DONE (R280): A group's 72 writes are confirmed and its quarantine is lifted, or it restarts or
  fails. -/
  | reprimeDone
  /-- REGION_BUILD_DONE (R281): A whole-region build completes and REBUILD clears. -/
  | regionBuildDone
  /-- SWEEP_STEP (R282): Every INTERVAL mc the line at the sweep pointer is rewritten under the next line-mix
  key. -/
  | sweepStep
  /-- JNL_READ_BEAT (R60): A journal read beat arrives; a bad beat invalidates that slot for the read. -/
  | jnlReadBeat (tag : Nat) (data : W64) (err : Bool)
  /-- JNL_READ_TIMEOUT (R62): A journal read without its last beat within RD_TMO holds no valid record. -/
  | jnlReadTimeout (tag : Nat)
  /-- JNL_WRITE_DONE (R61): A journal write is confirmed durable, or reports an error that retries the record at
  the next slot. -/
  | jnlWriteDone (err : Bool)
  /-- JNL_WRITE_TIMEOUT (R195): A journal write with no response within WR_TMO is a fault and is retried at the
  next live slot. -/
  | jnlWriteTimeout
  /-- LEASE_REQ (R181): A lease request reaching the home is answered from cache or granted after a durable mark
  and sync, or refused. -/
  | leaseReq (hdr : MsgHdr) (m : LeaseReq)
  /-- LEASE_GRANT (R177): A grant or refusal reaching the requester moves its lease state. -/
  | leaseGrant (hdr : MsgHdr) (m : LeaseGrant)
  /-- LEASE_RESEND (R178): A lease request or sync without reply is sent again after RESEND. -/
  | leaseResend (sa : Nat)
  /-- LEASE_SYNC (R185): A partner records a synced mark as a PMARK cell and acknowledges after it is durable.
  -/
  | leaseSync (hdr : MsgHdr) (m : LeaseSync)
  /-- LEASE_SYNC_ACK (R185): The home receives the partner's acknowledge and gives the pending grant. -/
  | leaseSyncAck (hdr : MsgHdr) (m : LeaseSync)
  /-- CUT_TAKEN (R232): An ARMED cut in the next core cycle, or a TIMED cut at fabric time T, changes the SecY's
  current transmit AN. -/
  | cutTaken (link : Nat)
  /-- ARM_TIMEOUT (R230): A stand-in without a lease within ARM_TMO ends arming with TIMEOUT. -/
  | armTimeout (link : Nat)
  /-- CUT_SCHEDULE_DEADLINE (R240): COMMITs not all confirmed by T − 1 ms cancel the schedule and reply TIMEOUT
  or ABORTED. -/
  | cutScheduleDeadline (links : List Nat)
  /-- MKPDU_RECEIVED (R252): The service engine reads an MKPDU from CTQ and updates the MKA participant. -/
  | mkpduReceived (m : Mkpdu)
  /-- MKA_HELLO_TIMER (R249): The MKA Hello Time or Bounded Hello Time expires and an MKPDU is sent through
  INJQ. -/
  | mkaHelloTimer (link : Nat)
  /-- MKA_LIFE_TIME (R257): A peer or CA with no live peer for the Life Time is lost, retiring its SAs and SCs.
  -/
  | mkaLifeTime (link : Nat) (peer : Option W64)
  /-- REKEY_INTERVAL (R252): The periodic rekey interval ends and the key server makes a new SAK. -/
  | rekeyInterval (link : Nat)
  /-- OVERLAP_END (R255): The overlap passes and the old receive SA is disabled and retired. -/
  | overlapEnd (link sc an : Nat)
  /-- DOZE_HELD_TIMEOUT (R93): Frames still held 1 ms after DOZE entry began are discarded and counted. -/
  | dozeHeldTimeout
  /-- DOZE_ENTRY_COMPLETE (R93): Write-back ends, domains are gated and SYS_SET_MODE DOZE replies. -/
  | dozeEntryComplete
  /-- WAKE_CAUSE (R94): A wake cause is latched in AON and domain switching starts. -/
  | wakeCause
  /-- TIMED_WAKE (R94): Fabric time reaches AON_WAKE_TIME, or 100 µs before the earliest cut, and the engine
  wakes. -/
  | timedWake
  /-- WAKE_COMPLETE (R95): Contexts are resident, lanes tested, and the engine enters PROTECT or DEGRADED with
  readies high. -/
  | wakeComplete
  /-- WAKE_LATE (R95): A wake running longer than 40 µs raises the wake-late event. -/
  | wakeLate
  /-- COLD_DRAIN_COMPLETE (R83): After SYS_SET_MODE COLD the SecYs have drained and been deleted, keys zeroized
  and COLD entered. -/
  | coldDrainComplete
  /-- REMASK_SWEEP_START (R208): A new re-mask sweep starts with a fresh generator key at VLT_REMASK_PERIOD. -/
  | remaskSweepStart
  /-- REMASK_STALLED (R209): A sweep not completed in time, or an unchanged share, raises the re-mask-stalled
  event. -/
  | remaskStalled (sameShare : Bool)
  /-- UNWRAP_DONE (R215): An unwrap engine finishes an operation; faults or failed checks retry once and may
  take the engine out of service. -/
  | unwrapDone (engine : Nat) (parityFault : Bool)
  /-- FAB_LANE_READY (R67): fab_lane_rdy rises for a lane, making it present. -/
  | fabLaneReady (lane : Nat) (up : Bool)
  /-- CDR_LOCK_LOSS (R295): fab_rx_cdr_lock falls on a lane in use and the port loses lock. -/
  | cdrLockLoss (lane : Nat)
  /-- PORT_SIGNAL_DETECT (R290): A configured lane shows ready, signal and CDR lock, moving the port from DETECT
  to TRAIN. -/
  | portSignalDetect (lane : Nat) (sig cdr : Bool)
  /-- LEADER_RECEIVED (R291): A valid leader block gives lane identity, polarity, phase and partner lock state.
  -/
  | leaderReceived (port lane : Nat) (m : RxBus)
  /-- CAPS (R293): A CAPS message is checked for width and rate and brings the port to ACTIVE. -/
  | caps (hdr : MsgHdr) (m : Caps)
  /-- CAPS_SEND (R293): In CAPS the port sends a CAPS message every 10 µs. -/
  | capsSend (port : Nat)
  /-- PHASE_TIMEOUT (R294): A phase timer expires; the failure is counted and the port backs off in DETECT or
  enters ABSENT. -/
  | phaseTimeout (port : Nat)
  /-- BACKOFF_END (R294): A port's backoff ends and it may leave DETECT again. -/
  | backoffEnd (port : Nat)
  /-- ABSENT_PROBE (R294): An ABSENT port runs one probe every BACKOFF_MAX. -/
  | absentProbe (port : Nat)
  /-- FABRIC_MESSAGE_DROP (R286): A message with bad CRC, wrong length or embedded control block is dropped as a
  symbol error. -/
  | fabricMessageDrop (port : Nat)
  /-- PORT_HOLD_END (R296): A held-down port resumes bring-up after HOLD. -/
  | portHoldEnd (port : Nat)
  /-- RETURN_WIN_EXPIRY (R295): A port below ACTIVE for RETURN_WIN has its adjacency withdrawn from the LSA. -/
  | returnWinExpiry (port : Nat)
  /-- REFRESH_TIMER (R297): After REFRESH without other messages the port sends a leader refresh run. -/
  | refreshTimer (port : Nat)
  /-- IDLE_REQ (R298): An IDLE_REQ is answered with IDLE_ACK and the port enters IDLE. -/
  | idleReq (port : Nat)
  /-- IDLE_ACK (R298): An IDLE_ACK raises electrical idle and the port enters IDLE. -/
  | idleAck (port : Nat)
  /-- IDLE_EXIT (R298): An IDLE port leaves with a phase-5 leader and returns to ACTIVE, or to TRAIN after
  PHASE_TMO. -/
  | idleExit (port : Nat)
  /-- PRBS_INJECT (R300): A write of INJ inverts one bit in the next block of each selected lane. -/
  | prbsInject (port : Nat)
  /-- HELLO_SEND (R301): Each ACTIVE port sends a HELLO every HB_PERIOD. -/
  | helloSend (port : Nat)
  /-- HELLO (R301): A received HELLO refreshes neighbour liveness and identity. -/
  | hello (hdr : MsgHdr) (m : Sys2Proof.Hello)
  /-- HELLO_LOSS (R295): No HELLO for five HB_PERIODs loses lock on the port. -/
  | helloLoss (port : Nat)
  /-- LSA (R304): A newer LSA is flooded onward and routes are recomputed. -/
  | lsa (hdr : MsgHdr) (m : Sys2Proof.Lsa)
  /-- LSA_REFRESH (R304): An engine refreshes its own LSA every 1 s. -/
  | lsaRefresh
  /-- LSA_AGE_OUT (R304): An originator's LSA not refreshed for 3 s is discarded. -/
  | lsaAgeOut (id : W64)
  /-- ADDRESS_CLAIM (R303): After collecting LSAs for 200 µs an engine claims its preferred or lowest free
  address. -/
  | addressClaim
  /-- TIME_SYNC_TIMER (R308): Every 1 ms a non-master engine sends TIME_REQ toward the master. -/
  | timeSyncTimer
  /-- TIME_REQ (R308): A neighbour stamps a TIME_REQ and answers with TIME_RESP. -/
  | timeReq (hdr : MsgHdr) (t2 t3 : Nat)
  /-- TIME_RESP (R308): A TIME_RESP gives the offset to the master and the servo adjusts the rate. -/
  | timeResp (hdr : MsgHdr) (t2 t3 : Nat) (offset : Int) (t4 : Nat)
  /-- SYNC_LOSS_TIMEOUT (R309): No successful sync for 10 ms makes the engine UNSYNC. -/
  | syncLossTimeout
  /-- PAIR_HELLO (R310): A PAIR_HELLO naming this engine forms the pair and decides the pair home. -/
  | pairHello (hdr : MsgHdr) (m : PairHello)
  /-- PAIR_HB (R312): A received PAIR_HB refreshes partner liveness and reports digest, causes and mirror batch.
  -/
  | pairHb (hdr : MsgHdr) (m : PairHb)
  /-- PAIR_HB_SEND (R312): Each paired engine sends PAIR_HB every HB_PERIOD. -/
  | pairHbSend
  /-- PARTNER_LOST (R312): No PAIR_HB for HB_LOSS declares the partner lost and starts takeover or caps. -/
  | partnerLost
  /-- DIGEST_MISMATCH_TIMER (R311): A configuration digest mismatch lasting 2 ms puts the pair in SPLIT, and a
  match lasting 2 ms ends it. -/
  | digestMismatchTimer
  /-- MIRROR_SEND (R313): A paired engine sends MIRROR_TX every 100 µs and MIRROR_RX every 1 ms. -/
  | mirrorSend
  /-- MIRROR_TX (R313): Received transmit mirror records are kept for the partner. -/
  | mirrorTx (hdr : MsgHdr) (rs : List MirTx) (last : Bool)
  /-- MIRROR_RX (R313): Received receive mirror records are kept for the partner. -/
  | mirrorRx (hdr : MsgHdr) (rs : List MirRx)
  /-- MIRROR_QUERY (R314): A partner answers a mirror query with the lowest acceptable PNs it holds. -/
  | mirrorQuery (hdr : MsgHdr) (rs : List MirRx)
  /-- MIRROR_REPLY (R314): A mirror reply within 100 µs supplies receive floors for re-priming. -/
  | mirrorReply (hdr : MsgHdr) (rs : List MirRx)
  /-- MARK_MERGE (R317): After reunion the home merges received marks, journals them, drops caps and answers
  MERGE_ACK. -/
  | markMerge (hdr : MsgHdr) (rs : List MarkRec) (last : Bool)
  /-- MERGE_ACK (R317): The lower-epoch engine rewrites its marks as PMARK cells with the merged values. -/
  | mergeAck (hdr : MsgHdr)
  /-- YIELD_NOTE (R318): The partner learns that the engine is about to request YIELD steering. -/
  | yieldNote (hdr : MsgHdr)
  /-- CUT_OFFER (R244): An engine installs a shared stand-in, writes INTENT and COMMIT and answers CUT_ACK. -/
  | cutOffer (hdr : MsgHdr) (m : CutMsg)
  /-- CUT_ACK (R244): The home collects acknowledges and replies OK or cancels the shared cut. -/
  | cutAck (hdr : MsgHdr) (m : CutMsg)
  /-- CUT_ABORT (R319): A receiving engine cancels its committed shared cut. -/
  | cutAbort (hdr : MsgHdr) (m : CutMsg)
  /-- CMD (R334): A peer's CMD message is admitted as a FAB command or refused. -/
  | cmd (hdr : MsgHdr) (header : W64) (words : List W64)
  /-- REPLY (R333): A REPLY to a forwarded command is delivered to the host slot with its tag restored. -/
  | reply (hdr : MsgHdr) (header : W64) (words : List W64)
  /-- QUEUE_FLUSH (R360): Setting FLUSH discards the queue's items and writes a splice marker. -/
  | queueFlush (q : Nat)
  /-- POINTER_MISMATCH (R362): The two copies of a queue pointer disagree and the queue is reset and flushed. -/
  | pointerMismatch (q : Nat)
  /-- EVT_STAT_CLEAR (R370): A W1C write clears event STAT and RAW bits unless a cause or condition holds. -/
  | evtStatClear (sub w : Nat) (data : W64)
  /-- EVT_FORCE (R372): A privileged FORCE write sets event status as a real cause would, without any action. -/
  | evtForce (sub w : Nat) (data : W64) (priv : Bool)
  /-- FIRST_CLEAR (R374): Writing VALID clears a subsystem's FIRST record. -/
  | firstClear (sub : Nat) (data : W64)
  /-- ESCALATION_EXPIRY (R378): The escalation timer expires and the configured actions are applied. -/
  | escalationExpiry (sub : Nat)
  /-- SVC_RAM_UNCORRECTABLE (R383): An uncorrectable service RAM error restarts the service engine, aborting
  commands, or stops it after three restarts. -/
  | svcRamUncorrectable
  /-- TAMPER_LATCH_CLEAR (R91): A privileged write to AON_TMP_CLR in LOCKOUT clears latched tamper bits. -/
  | tamperLatchClear (data : W64) (priv : Bool)
  /-- PD_GATE_REQUEST (R25): A write to GLB_PD_REQ asks to gate or restore PD52–PD55. -/
  | pdGateRequest (data : W64)
  /-- PD_GATE_COMPLETE (R25): A requested domain's units are idle and it is isolated and switched off. -/
  | pdGateComplete (pd : Nat)
  /-- CHK_JOB_END (R391): A check job ends; outcome, CRC and SCANNED are written, ALIVE rises and its event is
  raised. -/
  | chkJobEnd (k : Nat) (data : List Byte) (fail : Bool) (refDamaged : Bool)
  /-- DAILIES_START (R392): A dailies start instant arrives and a new job starts, or is skipped if one runs. -/
  | dailiesStart (k : Nat)
  /-- TEL_CNT_WRITE (R397): A write to TEL_CNTi sets COUNT and may clear OVF. -/
  | telCntWrite (i : Nat) (data : W64) (priv : Bool)
  /-- WRAP_SAMPLE (R398): A wrap with WRAP_INT is sampled, raising EV304 and capturing the wrap log. -/
  | wrapSample (i link : Nat)
  /-- WRAP_LOG_CLEAR (R398): Writing VALID clears the telemetry wrap log and MORE. -/
  | wrapLogClear (data : W64) (priv : Bool)
  /-- READ_CLEAR (R8): A read of an RC field returns its value and clears it or restarts it at its restart
  value. -/
  | readClear (addr : Nat) (priv : Bool)
  /-- REGISTER_WRITE (R407): A write to a register with no row of its own sets its RW and RWL fields under the
  lock and privilege rules. -/
  | registerWrite (addr : Nat) (data : W64) (priv : Bool)
  /-- SCAN_ENTER (R421): The SCAN_ENTER instruction zeroizes the vault, stops traffic and enters test mode. -/
  | scanEnter
  /-- MBIST_RUN (R422): The MBIST_RUN instruction enters test mode and runs March C− on the selected memory
  groups. -/
  | mbistRun (mask : BitVec 8)
  /-- REMASK_ROW_WRITE (R208): In each ac cycle the re-mask unit reads one vault row, XORs fresh randomness into
  both shares, MW and parity, and writes it back unless another write intervened. -/
  | remaskRowWrite (parBad : Bool)
  /-- INVALID_BLOCK (R295): A block with an invalid sync header or an invalid control type arrives on a fabric
  lane, counts as a symbol error, and 16 invalid headers within 64 blocks lose lock. -/
  | invalidBlock (port lane : Nat) (blk : BitVec 66)
  /-- PRBS_CHECKER (R300): In TEST, received PRBS bits seed the lane checker, which locks after 1,024 error-free
  bits, counts differing bits and drops lock after 64 errors in 1,024 bits. -/
  | prbsChecker (port lane bits errs : Nat)
  /-- MESSAGE_FORWARD (R304): A routed fabric message whose DST is another engine is forwarded on its route with
  TTL reduced, or dropped and counted when it has no route or its TTL reaches 0. -/
  | messageForward (hdr : MsgHdr) (m : FabMsg)
  /-- PORT_SHUTDOWN_COMPLETE (R299): A fabric port that is going down reaches OFF, clears its state, and a
  DEFERRED enable held for it executes. -/
  | portShutdownComplete (port : Nat)
  /-- FIRST_PARTICIPANT_END (R256): One MKA Life Time after the cut of a CAK change, the first participant ends
  and a further MKA_SET_CAK is accepted again. -/
  | firstParticipantEnd (link : Nat)
  /-- SPARE_SWITCH_OFF (R167): When a lane's fault count within WINDOW falls below LIMIT − 1 as old faults age
  out, a prewarmed WARM spare that no other lane needs is switched off again. -/
  | spareSwitchOff (dir : Dir) (lane : Nat)
  /-- MBIST_COMPLETE (R422): The March C− or ROM CRC test of a selected group ends and sets its done and failed
  bits in TEST_STATUS, and after the vault array's test the array is zeroized and read back. -/
  | mbistComplete (group : Nat) (pass : Bool)
  /-- SVC_RESTART_DONE (R383): The service engine finishes restarting from ROM and patch within 1 ms, and its
  MKA participants restart and agree again. -/
  | svcRestartDone
deriving DecidableEq, Repr

end Sys2Proof
end

