-- ==== Sys2Proof/Config.lean ====
section
/-!
DEFINITION. What the spec names without giving: the functions of named standards (uninterpreted, log 1) and the free
values behind random numbers and unspecified choices (log 4). None of them has a body that a proof could see.
-/
namespace Sys2Proof.Config

/-- The `n` bytes of a value, most significant first. -/
def bytesOf (n : Nat) (x : BitVec (8 * n)) : List Byte := (List.range n).map (fun i => x.extractLsb' (8 * (n - 1 - i)) 8)

/-- AES-CMAC, 16 bytes (NIST SP 800-38B). -/
opaque cmacBlock (key msg : List Byte) : BitVec (8 * 16)
def cmac (key msg : List Byte) : List Byte := bytesOf 16 (cmacBlock key msg)

/-- AES key wrap and unwrap (NIST SP 800-38F); unwrap answers none where the recovered ICV is not the default. -/
opaque wrap (key plain : List Byte) : List Byte
opaque unwrap (key blob : List Byte) : Option (List Byte)

/-- SHA-256, 32 bytes. -/
opaque shaDigest (msg : List Byte) : BitVec (8 * 32)
def sha256 (msg : List Byte) : List Byte := bytesOf 32 (shaDigest msg)

/-- Random output of the DRBG or of the re-mask generator, by the number of values drawn before (R220). -/
opaque rand (n : Nat) : BitVec 256

/-- An unspecified choice (which free slot, R198; which free SC index, R133), by the number of values drawn before. -/
opaque pick (n : Nat) : Nat

/-- The keyed hash of a receive SC (R134) and of a line index (R259). -/
opaque scHash (key : BitVec 128) (link : Nat) (sci : W64) : Nat
opaque setHash (key : W64) (line : Nat) : Nat

/-- What a lane's silicon adds to the results of a known-answer test that DIAG_LANE_KAT runs: 0 in a sound lane (R162). -/
opaque laneDefect (n : Nat) : BitVec 512

/-- Outcome of a known-answer test of the vault that the engine runs by itself: true for pass (R351). -/
opaque kat (n : Nat) : Bool

/-- What a cistern slot without a line holds, and what the scan chains give out in test mode, by the number of values drawn before (R385,
R419). -/
opaque emptySlot (n : Nat) : BitVec 1024
opaque scanOut (n : Nat) : BitVec 32

/-- The frame of an MKPDU, by the ICK that protects it and its content, item by item: the encoding and the ICV are those of IEEE
802.1X-2020, not in the spec. -/
opaque mkpdu (ick : List Byte) (items : List (List Byte)) : List Byte

/-- The KEK and the ICK of a CA from its CAK and CKN; the SSCI of an SCI in a CA; the salt of a SAK (IEEE 802.1X-2020, 802.1AE). -/
opaque mkaKek (cak ckn : List Byte) : List Byte
opaque mkaIck (cak ckn : List Byte) : List Byte
opaque mkaSsci (sci : Nat) (all : List Nat) : BitVec 32
opaque mkaSalt (serverMi kn : Nat) : List Byte

/-- What the servo makes of an offset, before its limit of 400 ppm (R308). -/
opaque servo (offset : Int) : Int

/-- The canonical encoding under the configuration digest (R311), by the items it covers. -/
opaque canon (items : List Nat) : List Byte

/-- The message bytes a MAC covers where the spec gives no byte layout (R287, R304, R310–R319), by type and fields. -/
opaque fields (typ : Nat) (items : List Nat) : List Byte

end Sys2Proof.Config
end

