-- ==== Sys2Proof/Machine/Operands.lean ====
section
/-!
DEFINITION. Operand forms: the sparse tables, the bit fields of 64-bit words, the byte order of packet words
(R322: most significant byte first) and of port words (R36, R60: byte b in bits [8b+7:8b]), sets kept as lists.
-/
namespace Sys2Proof.Machine

/-! Sparse tables. -/

/-- The value at key `k`; `d` where the table lists none. -/
def smGet {α : Type} (d : α) : SMap α → Nat → α
  | [], _ => d
  | (j, v) :: m, k => if k = j then v else smGet d m k

/-- `m` without key `k`. -/
def smErase {α : Type} : SMap α → Nat → SMap α
  | [], _ => []
  | (j, v) :: m, k => if k = j then smErase m k else (j, v) :: smErase m k

/-- `m` with `(k, v)` put before the first larger key. -/
def smInsert {α : Type} (k : Nat) (v : α) : SMap α → SMap α
  | [] => [(k, v)]
  | (j, w) :: m => if k < j then (k, v) :: (j, w) :: m else (j, w) :: smInsert k v m

/-- The table with `v` at key `k`: the entry goes away when `v` is the default. -/
def smSet {α : Type} [DecidableEq α] (d : α) (m : SMap α) (k : Nat) (v : α) : SMap α :=
  if v = d then smErase m k else smInsert k v (smErase m k)

/-- The table with the value at `k` changed by `f`. -/
def smMod {α : Type} [DecidableEq α] (d : α) (m : SMap α) (k : Nat) (f : α → α) : SMap α :=
  smSet d m k (f (smGet d m k))

/-- Every key of the table is above `b` and the keys rise strictly. -/
def smSorted {α : Type} : Option Nat → SMap α → Bool
  | _, [] => true
  | b, (k, _) :: m => (match b with | none => true | some j => decide (j < k)) && smSorted (some k) m

/-- The canonical form: keys strictly rising, no entry equal to the default. -/
def smWf {α : Type} [DecidableEq α] (d : α) (m : SMap α) : Bool :=
  smSorted none m && m.all (fun e => decide (e.2 ≠ d))

/-- The keys listed. -/
def smKeys {α : Type} (m : SMap α) : List Nat := m.map (·.1)

/-- The lowest number from `i` on, among `fuel` candidates, that satisfies `p`. -/
def firstFrom (p : Nat → Bool) : Nat → Nat → Option Nat
  | _, 0 => none
  | i, fuel + 1 => if p i then some i else firstFrom p (i + 1) fuel

/-! Bit fields. -/

/-- Field of `n` bits at bit `lo` of a word. -/
def fld (w : W64) (lo n : Nat) : Nat := (w.toNat >>> lo) % 2 ^ n

/-- Bit `i` of a word. -/
def bitAt (w : W64) (i : Nat) : Bool := w.getLsbD i

/-- A value placed at bit `lo` in a field of `n` bits; higher bits of the value fall away. -/
def put (v lo n : Nat) : W64 := BitVec.ofNat 64 ((v % 2 ^ n) <<< lo)

/-- A flag placed at bit `i`. -/
def putB (b : Bool) (i : Nat) : W64 := if b then put 1 i 1 else 0

/-- A word of ones in bits [lo+n-1:lo]. -/
def ones (lo n : Nat) : W64 := BitVec.ofNat 64 ((2 ^ n - 1) <<< lo)

/-- `old` with the bits of `m` taken from `new`. -/
def blend (m old new : W64) : W64 := (old &&& ~~~m) ||| (new &&& m)

/-- `w` with the field of `n` bits at `lo` replaced. -/
def setFld (w : W64) (lo n v : Nat) : W64 := blend (ones lo n) w (put v lo n)

/-- Word `i` of a packet; 0 past its end. -/
def wordAt (ws : List W64) (i : Nat) : W64 := ws.getD i 0

/-- Bits of `w` outside the mask `m` are all zero (R7). -/
def onlyBits (m w : W64) : Bool := (w &&& ~~~m) == 0

/-- `b` as 0 or 1. -/
def bn (b : Bool) : Nat := if b then 1 else 0

/-! Bytes. -/

/-- Bytes, most significant first, as a number (R322). -/
def beNat : List Byte → Nat
  | [] => 0
  | b :: bs => b.toNat * 256 ^ bs.length + beNat bs

/-- The `n` bytes of a number, most significant first. -/
def beBytes : Nat → Nat → List Byte
  | 0, _ => []
  | n + 1, v => BitVec.ofNat 8 (v / 256 ^ n) :: beBytes n v

/-- Bytes, first byte least significant (R36), as a number. -/
def leNat : List Byte → Nat
  | [] => 0
  | b :: bs => b.toNat + 256 * leNat bs

/-- The `n` bytes of a number, least significant first. -/
def leBytes : Nat → Nat → List Byte
  | 0, _ => []
  | n + 1, v => BitVec.ofNat 8 v :: leBytes n (v / 256)

/-- Packet words as bytes, most significant byte of each word first (R322). -/
def wordsBytes (ws : List W64) : List Byte := ws.flatMap (fun w => beBytes 8 w.toNat)

/-- Bytes as packet words, `n` words of 8 bytes, zero padded. -/
def bytesWords : Nat → List Byte → List W64
  | 0, _ => []
  | n + 1, bs => BitVec.ofNat 64 (beNat ((bs ++ List.replicate 8 0).take 8)) :: bytesWords n (bs.drop 8)

/-- `n` bytes of `bs` from position `i`, zero padded at the end. -/
def slice (bs : List Byte) (i n : Nat) : List Byte :=
  let part := (bs.drop i).take n
  part ++ List.replicate (n - part.length) 0

/-- Bytewise exclusive or, as long as both last. -/
def xorBytes (a b : List Byte) : List Byte := List.zipWith (· ^^^ ·) a b

/-! Counters and sets. -/

/-- A counter of `n` bits that stays at its top (saturating). -/
def satAdd (n old k : Nat) : Nat := Nat.min (2 ^ n - 1) (old + k)

/-- Insert into an ascending list without repeats. -/
def setAdd (x : Nat) : List Nat → List Nat
  | [] => [x]
  | y :: ys => if x < y then x :: y :: ys else if x = y then y :: ys else y :: setAdd x ys

/-- Union of an ascending list with further members. -/
def setUnion (xs ys : List Nat) : List Nat := xs.foldl (fun acc x => setAdd x acc) ys

/-- The bits of a 1,024-bit link set held in 16 words (R345): link l is bit l mod 64 of word l div 64. -/
def linkSet (ws : List W64) : List Nat :=
  (List.range 1024).filter (fun l => (wordAt ws (l / 64)).getLsbD (l % 64))

/-- The 16 words of a link set. -/
def linkSetWords (ls : List Nat) : List W64 :=
  (List.range 16).map (fun i =>
    BitVec.ofNat 64 (ls.foldl (fun acc l => if l / 64 = i then acc ||| (1 <<< (l % 64)) else acc) 0))

/-- The first element of `xs` that satisfies `p`, replaced by `f` of it. -/
def replaceFirst {α : Type} (p : α → Bool) (f : α → α) : List α → List α
  | [] => []
  | x :: xs => if p x then f x :: xs else x :: replaceFirst p f xs

/-- `xs` with every element that satisfies `p` changed by `f`. -/
def mapWhere {α : Type} (p : α → Bool) (f : α → α) (xs : List α) : List α :=
  xs.map (fun x => if p x then f x else x)

end Sys2Proof.Machine
end

