-- ==== Sys2Proof/Machine/Aes.lean ====
section
/-!
DEFINITION. What one lane computes: the AES rounds and the key path of stages L0 to L14 (R155, R156), the parity that each stage
predicts (R160), the unreduced product of stage M with its residue and its reduction (R161), the frame's groups in the finisher
(R159). AES itself is FIPS 197 (log 1): a state is 16 bytes, byte 4c + r in column c and row r.
-/
namespace Sys2Proof.Machine

/-! ### Rounds -/

/-- The S-box, sixteen entries a row, entry 0 of a row in its lowest byte. -/
def sboxRows : List Nat :=
  [0x76ABD7FE2B670130C56F6BF27B777C63, 0xC072A49CAFA2D4ADF04759FA7DC982CA,
   0x1531D871F1E5A534CCF73F362693FDB7, 0x75B227EBE28012079A059618C323C704,
   0x842FE329B3D63B52A05A6E1B1A2C8309, 0xCF584C4A39BECB6A5BB1FC20ED00D153,
   0xA89F3C507F02F94585334D43FBAAEFD0, 0xD2F3FF1021DAB6BCF5389D928F40A351,
   0x73195D643D7EA7C41744975FEC130CCD, 0xDB0B5EDE14B8EE4688902A22DC4F8160,
   0x79E4959162ACD3C25C2406490A3A32E0, 0x08AE7A65EAF4566CA94ED58D6D37C8E7,
   0x8A8BBD4B1F74DDE8C6B4A61C2E2578BA, 0x9E1DC186B95735610EF6034866B53E70,
   0xDF2855CEE9871E9B948ED9691198F8E1, 0x16BB54B00F2D99416842E6BF0D89A18C]

/-- The S-box, and the parity column stored with it (R160). -/
def sbox (b : Byte) : Byte := BitVec.ofNat 8 (sboxRows.getD (b.toNat / 16) 0 >>> (8 * (b.toNat % 16)))
def sboxPar (b : Byte) : Bool :=
  Nat.testBit 0xB0BF99A6BD878815EC2E9B13612CFB2D177D8D9B72907F2E8507CD4A2500D632 b.toNat

/-- Parity of a byte. -/
def byteParity (b : Byte) : Bool := (List.range 8).foldl (fun p i => xor p (b.getLsbD i)) false

/-- A byte times x. -/
def xtime (b : Byte) : Byte := (b <<< 1) ^^^ (if b.getLsbD 7 then 0x1B else 0)

def subBytes (st : List Byte) : List Byte := st.map sbox

/-- Where ShiftRows takes byte `i` from; ShiftRows of bytes or of their parities. -/
def shiftFrom (i : Nat) : Nat := (i + 4 * (i % 4)) % 16
def shiftRows {α : Type} (d : α) (st : List α) : List α := (List.range 16).map (fun i => st.getD (shiftFrom i) d)

/-- Byte `k` rows below byte `i` of its column. -/
def below (i k : Nat) : Nat := 4 * (i / 4) + (i + k) % 4

def mixColumns (st : List Byte) : List Byte :=
  let at_ := fun i => st.getD i 0
  (List.range 16).map (fun i => xtime (at_ i) ^^^ xtime (at_ (below i 1)) ^^^ at_ (below i 1) ^^^ at_ (below i 2) ^^^ at_ (below i 3))

/-! ### The key path -/

/-- Rcon of step `n`, n from 1. -/
def rcon : Nat → Byte
  | 0 => 0x8D
  | n + 1 => xtime (rcon n)

/-- Four words, each XORed with the one before it, the first with `t`. -/
def chainWords (t : List Byte) (prev : List Byte) : List Byte :=
  let w0 := xorBytes t (prev.take 4)
  let w1 := xorBytes w0 ((prev.drop 4).take 4)
  let w2 := xorBytes w1 ((prev.drop 8).take 4)
  w0 ++ w1 ++ w2 ++ xorBytes w2 (prev.drop 12)

/-- RotWord, then SubWord, then Rcon. -/
def coreWord (n : Nat) (w : List Byte) : List Byte := xorBytes ((w.drop 1 ++ w.take 1).map sbox) [rcon n, 0, 0, 0]

/-- The key path of stage `n + 1` from that of stage `n`: one round key for a 128-bit key, two for a 256-bit key, the stage's own
first. -/
def keyStep (k256 : Bool) (n : Nat) (kp : List Byte) : List Byte :=
  if k256 then
    let a := kp.take 16
    let b := kp.drop 16
    let t := if n % 2 = 0 then coreWord (n / 2 + 1) (b.drop 12) else (b.drop 12).map sbox
    b ++ chainWords t a
  else chainWords (coreWord (n + 1) (kp.drop 12)) kp

/-- Key path registers at the end of stage `n`: stages L11 to L13 idle for a 128-bit key, L14 clears them (R155, R156). -/
def keyPath (k256 : Bool) (key : List Byte) : Nat → List Byte
  | 0 => key
  | n + 1 => if 14 ≤ n + 1 then [] else if !k256 && decide (10 ≤ n) then [] else keyStep k256 n (keyPath k256 key n)

/-- The round key of stage `n`. -/
def roundKey (k256 : Bool) (key : List Byte) (n : Nat) : List Byte :=
  if n = 14 then (keyStep k256 13 (keyPath k256 key 13)).take 16 else (keyPath k256 key n).take 16

/-! ### The data path -/

/-- Stage whose round is the final one. -/
def lastRound (k256 : Bool) : Nat := if k256 then 14 else 10

/-- What stage `n` does to the state. -/
def roundStep (k256 : Bool) (n : Nat) (key st : List Byte) : List Byte :=
  if n = 0 then xorBytes st (roundKey k256 key 0)
  else if lastRound k256 < n then st
  else if n = lastRound k256 then xorBytes (shiftRows 0 (subBytes st)) (roundKey k256 key n)
  else xorBytes (mixColumns (shiftRows 0 (subBytes st))) (roundKey k256 key n)

/-- The state at the end of stage `n`. -/
def dataPath (k256 : Bool) (key ctr : List Byte) : Nat → List Byte
  | 0 => roundStep k256 0 key ctr
  | n + 1 => roundStep k256 (n + 1) key (dataPath k256 key ctr n)

/-- One block through L0 to L14: 16 bytes out. -/
def aes (key block : List Byte) : List Byte := slice (dataPath (decide (16 < key.length)) key block 14) 0 16

/-! ### Parity (R160) -/

/-- One parity bit for each byte. -/
def parities (bs : List Byte) : List Bool := bs.map byteParity

/-- The parity of MixColumns' output from its input bytes and their parities: the top bits of the two bytes that are doubled. -/
def mixPar (st : List Byte) (p : List Bool) : List Bool :=
  let b := fun i => (st.getD i 0).getLsbD 7
  let q := fun i => p.getD i false
  (List.range 16).map (fun i => xor (xor (xor (q i) (b i)) (b (below i 1))) (xor (q (below i 2)) (q (below i 3))))

/-- The parity predicted for the state at the end of stage `n`, from its input state and the parity of its round key. -/
def predictState (k256 : Bool) (n : Nat) (st : List Byte) (rk : List Bool) : List Bool :=
  if n = 0 then List.zipWith xor (parities st) rk
  else if lastRound k256 < n then parities st
  else
    let p := shiftRows false (st.map sboxPar)
    List.zipWith xor (if n = lastRound k256 then p else mixPar (shiftRows 0 (subBytes st)) p) rk

/-- The parity predicted for four chained words. -/
def chainPar (t prev : List Bool) : List Bool :=
  let w0 := List.zipWith xor t (prev.take 4)
  let w1 := List.zipWith xor w0 ((prev.drop 4).take 4)
  let w2 := List.zipWith xor w1 ((prev.drop 8).take 4)
  w0 ++ w1 ++ w2 ++ List.zipWith xor w2 (prev.drop 12)

/-- The parity predicted for the key path of stage `n + 1` from that of stage `n`. -/
def predictKey (k256 : Bool) (n : Nat) (kp : List Byte) : List Bool :=
  let core := fun (m : Nat) (w : List Byte) =>
    List.zipWith xor ((w.drop 1 ++ w.take 1).map sboxPar) [byteParity (rcon m), false, false, false]
  if k256 then
    let b := kp.drop 16
    let t := if n % 2 = 0 then core (n / 2 + 1) (b.drop 12) else (b.drop 12).map sboxPar
    parities b ++ chainPar t (parities (kp.take 16))
  else chainPar (core (n + 1) (kp.drop 12)) (parities kp)

/-- The check of a stage: what it computed, `out`, against the parity predicted. -/
def stageClean (k256 : Bool) (n : Nat) (key st out : List Byte) : Bool :=
  parities out == predictState k256 n st (parities (roundKey k256 key n))

/-! ### The GHASH product (R159, R161); SP 800-38D's field, bit 127 the coefficient of x^0 -/

/-- The unreduced product of two operands, `k` bits still to take. -/
def clmulLoop : Nat → BitVec 128 → BitVec 255 → BitVec 255 → BitVec 255
  | 0, _, _, z => z
  | k + 1, x, y, z => clmulLoop k (x >>> 1) (y <<< 1) (if x.getLsbD 0 then z ^^^ y else z)

/-- The 255-bit product: bit 254 is the coefficient of x^0. -/
def clmul (x y : BitVec 128) : BitVec 255 := clmulLoop 128 x (y.setWidth 255) 0

/-- One step of the remainder modulo q(x) = x^16 + x^14 + x^13 + x^11 + 1. -/
def resStep (c : BitVec 16) (b : Bool) : BitVec 16 :=
  (c <<< 1) ^^^ (if c.getLsbD 15 then 0x6801 else 0) ^^^ (if b then 1 else 0)

/-- The residue of a polynomial of `n` coefficients whose highest degree is bit 0. -/
def residue (n : Nat) (v : BitVec n) : BitVec 16 := (List.range n).foldl (fun c i => resStep c (v.getLsbD i)) 0

/-- The product of two residues modulo q(x). -/
def resMul (a b : BitVec 16) : BitVec 16 :=
  (List.range 16).foldl (fun c i => resStep c false ^^^ (if a.getLsbD (15 - i) then b else 0)) 0

/-- The check of a multiplier on the product that it formed. -/
def productClean (x y : BitVec 128) (z : BitVec 255) : Bool := residue 255 z == resMul (residue 128 x) (residue 128 y)

/-- The terms whose XOR is the product reduced modulo x^128 + x^7 + x^2 + x + 1. -/
def reduceTerms (v : BitVec 255) : List (BitVec 128) :=
  let x : BitVec 128 := (v.extractLsb' 0 127).setWidth 128 <<< 1
  let y := x ^^^ (x <<< 127) ^^^ (x <<< 126) ^^^ (x <<< 121)
  [v.extractLsb' 127 128, y, y >>> 1, y >>> 2, y >>> 7]

/-- The reduced product. -/
def reduce (v : BitVec 255) : BitVec 128 := (reduceTerms v).foldl (· ^^^ ·) 0

/-- The parity predicted for the reduced product, byte by byte, and its check (R160). -/
def reducePar (v : BitVec 255) : List Bool :=
  (reduceTerms v).foldl (fun p t => List.zipWith xor p (parities (beBytes 16 t.toNat))) (List.replicate 16 false)
def reduceClean (v : BitVec 255) (out : BitVec 128) : Bool := parities (beBytes 16 out.toNat) == reducePar v

/-- The product of two field elements. -/
def gmul (x y : BitVec 128) : BitVec 128 := reduce (clmul x y)

/-- The powers H, H^2, …, H^n. -/
def hPow (h : BitVec 128) : Nat → BitVec 128
  | 0 => BitVec.ofNat 128 (2 ^ 127)
  | n + 1 => gmul (hPow h n) h

/-- A group of blocks in the finisher: the sum times H^g, and the products of the blocks (R159). -/
def foldGroup (h s : BitVec 128) (bs : List (BitVec 128)) : BitVec 128 :=
  (bs.zipIdx.foldl (fun a e => a ^^^ gmul e.1 (hPow h (bs.length - e.2))) 0) ^^^ gmul s (hPow h bs.length)

/-- Blocks cut into the groups that the dispatcher made, groups of sixteen after those; at most `n` groups. -/
def cutGroups {α : Type} : Nat → List Nat → List α → List (List α)
  | 0, _, _ => []
  | _, _, [] => []
  | n + 1, [], bs => bs.take 16 :: cutGroups n [] (bs.drop 16)
  | n + 1, g :: gs, bs => if g = 0 then cutGroups n gs bs else bs.take g :: cutGroups n gs (bs.drop g)

/-- The running sum over a frame's blocks, group by group. -/
def ghash (h : BitVec 128) (gs : List Nat) (bs : List (BitVec 128)) : BitVec 128 :=
  (cutGroups (gs.length + bs.length) gs bs).foldl (foldGroup h) 0

/-! ### GCM (R113, R140, R154, R159) -/

/-- A run of bytes as 16-byte blocks, at most `n` of them. -/
def blockBytes : Nat → List Byte → List (List Byte)
  | 0, _ => []
  | n + 1, bs => if bs.isEmpty then [] else bs.take 16 :: blockBytes n (bs.drop 16)

/-- The blocks of a byte run, the last one perhaps short. -/
def cutBlocks (bs : List Byte) : List (List Byte) := blockBytes (bs.length / 16 + 1) bs

/-- A block's number for GHASH: zeros pad a short one. -/
def blockNum (b : List Byte) : BitVec 128 := BitVec.ofNat 128 (beNat (slice b 0 16))

/-- CTR of a block (R154): J0 for A0, IV followed by i + 1 for the i-th block of P or C. -/
def ctrOf (iv : List Byte) (i : Nat) : List Byte := iv ++ beBytes 4 (i + 1)

/-- GHASH subkey H = E(K, 0^128). -/
def hashKey (k : List Byte) : BitVec 128 := BitVec.ofNat 128 (beNat (aes k (List.replicate 16 0)))

/-- Counter-mode bytes: the i-th block under IV followed by i + 1 (R154). -/
def gctr (k iv : List Byte) : Nat → Nat → List Byte → List Byte
  | 0, _, _ => []
  | n + 1, i, bs => if bs.isEmpty then [] else xorBytes (bs.take 16) (aes k (ctrOf iv i)) ++ gctr k iv n (i + 1) (bs.drop 16)

/-- P or C through the lanes: the same operation both ways. -/
def gcmCrypt (k iv bs : List Byte) : List Byte := gctr k iv (bs.length / 16 + 1) 1 bs

/-- The tag over A and the ciphertext, with the groups that the dispatcher made (R159). -/
def gcmTag (k iv a c : List Byte) (gs : List Nat) : List Byte :=
  let h := hashKey k
  let len := BitVec.ofNat 128 (8 * a.length * 2 ^ 64 + 8 * c.length)
  let sum := ghash h gs ((cutBlocks a ++ cutBlocks c).map blockNum)
  xorBytes (beBytes 16 (gmul (sum ^^^ len) h).toNat) (aes k (ctrOf iv 0))

/-! ### The known-answer test (R162) -/

/-- What the test passes through a lane, one after the other: an AES-256 and an AES-128 block, with one GHASH product each (FIPS 197 C.3
and C.1, and the products of the GCM specification's case 2; log 60). -/
def katResults : BitVec 512 :=
  let plain := beBytes 16 0x00112233445566778899AABBCCDDEEFF
  let h : BitVec 128 := 0x66E94BD4EF8A2C3B884CFA59CA342B2E
  let big := aes (beBytes 32 0x000102030405060708090A0B0C0D0E0F101112131415161718191A1B1C1D1E1F) plain
  let small := aes (beBytes 16 0x000102030405060708090A0B0C0D0E0F) plain
  BitVec.ofNat 512 (((beNat big * 2 ^ 128 + (gmul 0x0388DACE60B6A392F328C2B971B2FE78 h).toNat) * 2 ^ 128 + beNat small) * 2 ^ 128
    + (gmul 0x5E2EC746917062882C85B0685353DE37 h).toNat)

/-- The values held in ROM. -/
def katRom : BitVec 512 :=
  0x8EA2B7CA516745BFEAFC49904B4960895E2EC746917062882C85B0685353DEB769C4E0D86A7B0430D8CDB78070B4C55AF38CBB1AD69223DCC3457AE5B6B0F885

/-- A lane passes its test; `err` is what the lane's silicon adds to its results, 0 in a sound lane. -/
def katClean (err : BitVec 512) : Bool := katResults ^^^ err == katRom

end Sys2Proof.Machine
end

