-- ==== Sys2Proof/Machine/State.lean ====
section
/-!
DEFINITION. The state of the engine as plain data: everything the spec gives the machine, subsystem by subsystem, the
queue of waiting commands, and what the ports have carried out. Sparse tables (SMap) list only entries that differ
from their default.
-/
namespace Sys2Proof.Machine

/-! ### Always-on domain and global registers -/

/-- AON: what PD00 holds (R17, R69, R70, R90, R94). -/
structure Aon where
  /-- The divider chain's 5-bit counter (R17). -/
  divc : BitVec 5
  tmpLive : BitVec 4
  /-- tmp_in at the ac sample before (R70). -/
  tmpPrev : BitVec 4
  tmpLatched : BitVec 5
  lastMode : BitVec 3
  rstCause : BitVec 2
  bootCnt : Nat
  wakeCfg : W64
  wakeTime : W64
  porLow : Bool
  sysLow : Bool
  rootReq : Bool
  /-- Root secret words captured so far. -/
  rootWords : List (BitVec 32)
  rootAbsent : Bool
  clkBad : Bool
  /-- A wake cause is latched. -/
  wakeLatched : Bool
  /-- AON is up (BOOT_STAGE 0x01 reached, R75). -/
  up : Bool
deriving DecidableEq, Repr

/-- The six modes (R79). -/
inductive Mode | cold | provision | protect | degraded | doze | lockout
deriving DecidableEq, Repr

/-- A mode change or resume that has started and not ended (R82, R88); `built`: the resume's region is on its way to DRAM. -/
inductive ChangeKind | toCold | toDoze | waking | resume | built
deriving DecidableEq, Repr

/-- The change in progress and the running command, by its number, that waits for it. -/
structure Change where
  kind : ChangeKind
  cmd : Option Nat
deriving DecidableEq, Repr

/-- GLB: identity, mode, degraded causes, power domains, lock, test mode. -/
structure Glb where
  fw : BitVec 24
  mode : Mode
  prev : Mode
  cause : BitVec 8
  bootStage : BitVec 8
  resume : BitVec 4
  deg : BitVec 8
  pinSev : W64
  denied : Nat
  locked : Bool
  pdOn : BitVec 56
  /-- Domains still to be switched on, in the order of R21; the first RAMP_MAX of them ramp now (R23). -/
  ramping : List Nat
  pdReq : BitVec 4
  gating : BitVec 4
  rampMax : Nat
  prt : W64
  change : Option Change
  testMode : Bool
  zeroTest : Bool
  mbistRun : BitVec 8
  mbistDone : BitVec 8
  mbistFail : BitVec 8
  booting : Bool
  /-- ROM and patch integrity verified. -/
  fwOk : Bool
  /-- The LOCKOUT in force was caused by a tamper (R79). -/
  tampered : Bool
deriving DecidableEq, Repr

/-! ### Events -/

/-- The fourteen subsystems that keep an event set, in csr_irq order (R52, R367). -/
inductive Sub | aon | mci | svc | vlt | cis | egr | ing | lne | cxm | jnl | fab | chk | tel | que
deriving DecidableEq, Repr

/-- Escalation timer state (R378). -/
inductive EscState | idle | running | fired
deriving DecidableEq, Repr

/-- One event set (R369), 72 source bits wide; `pendReal`, `pendForced`, `clr` and `clrFirst` are what the step being
taken has brought to it and are empty between steps. -/
structure EvSet where
  stat : BitVec 72
  raw : BitVec 72
  forced : BitVec 72
  mask : BitVec 72
  sev : BitVec 144
  first : W64
  escTime : Nat
  escState : EscState
  /-- Nanoseconds left. -/
  escRemain : Nat
  /-- Affected SecYs while the timer is not idle. -/
  aff : List Nat
  /-- (source, link) of every real cause not cleared; 2,000 + u in place of a link names unit u (R378). -/
  links : List (Nat × Nat)
  escAct : W64
  pendReal : BitVec 72
  pendForced : BitVec 72
  clr : BitVec 72
  clrFirst : Bool
deriving DecidableEq, Repr

/-- The fourteen sets. -/
structure Evts where
  aon : EvSet
  mci : EvSet
  svc : EvSet
  vlt : EvSet
  cis : EvSet
  egr : EvSet
  ing : EvSet
  lne : EvSet
  cxm : EvSet
  jnl : EvSet
  fab : EvSet
  chk : EvSet
  tel : EvSet
  que : EvSet
deriving DecidableEq, Repr

/-- An event set after reset with the default severities of R375. -/
def EvSet.reset (sev : Nat) : EvSet :=
  { stat := 0, raw := 0, forced := 0, mask := 0, sev := BitVec.ofNat 144 sev, first := 0, escTime := 0x3E8,
    escState := .idle, escRemain := 0, aff := [], links := [], escAct := 0, pendReal := 0, pendForced := 0, clr := 0,
    clrFirst := false }

/-- Every set after reset (R375, R410). -/
def Evts.reset : Evts :=
  { aon := .reset 0x000DFBFF, mci := .reset 0x500, svc := .reset 0xC16, vlt := .reset 0x3A8BA, cis := .reset 0x64,
    egr := .reset 0x959, ing := .reset 0x19, lne := .reset 0xAAAAAAAAAAAAAAAAAA000000000000000000,
    cxm := .reset 0x2A254A, jnl := .reset 0x27A2, fab := .reset 0x8181818181818181, chk := .reset 0x5555AA00,
    tel := .reset 0, que := .reset 0x1AA }

/-! ### The command interface -/

/-- A host slot's state (R325). -/
inductive SlotSt | free | posted | done
deriving DecidableEq, Repr

/-- A host slot: state, command words (65 at most), reply words. -/
structure HostSlot where
  st : SlotSt
  cmd : SMap W64
  rep : List W64
deriving DecidableEq, Repr

/-- A FREE slot with no words. -/
def HostSlot.reset : HostSlot := { st := .free, cmd := [], rep := [] }

/-- A command with its opcode and acceptance number; `fwdDst` is set while it waits for a remote reply (R333). -/
structure QCmd where
  id : Nat
  opcode : BitVec 8
  pkt : Pkt
deriving DecidableEq, Repr

/-- What a started, unfinished command waits for. -/
inductive Wait
  /-- The journal record of the numbered request is confirmed (R227, R230, R310, R190). -/
  | jnl (req : Nat)
  /-- The image of a generation is committed (R349). -/
  | image (gen : Nat)
  /-- The cut of a link is taken (R343). -/
  | cut (link : Nat)
  /-- The CANCELLED CUT_DONE of a link is confirmed (R230). -/
  | cutCancel (link : Nat)
  /-- Scheduled cuts of these links are armed (R240). -/
  | timed (links : List Nat)
  /-- The frames of a retired SA have left (R246, R247). -/
  | saRetire (dir : Dir) (sa : Nat)
  /-- A SecY's SAs have retired (R340). -/
  | secyDelete (link : Nat)
  /-- A vault slot is zeroized (R226). -/
  | slotZero (kid : Nat)
  /-- The mode change or resume ends (R337). -/
  | mode
  /-- DOZE is left, then the command runs (R94). -/
  | wake
  /-- The line-mix sweep ends (R282). -/
  | sweep
  /-- A leaf group, or the whole region, is rebuilt (R280, R281). -/
  | rebuild (group : Option Nat)
  /-- A remote engine replies (R333). -/
  | remote (dst tag : Nat)
  /-- A fabric port enters IDLE, or ACTIVE again (R348). -/
  | port (p : Nat)
deriving DecidableEq, Repr

/-- A command that has started and not completed (R330). -/
structure Running where
  cmd : QCmd
  wait : Wait
deriving DecidableEq, Repr

/-- A completed command kept for the duplicate check (R329). -/
structure Dup where
  /-- 0–3 for HQ0–HQ3, 0x40 + address for a peer. -/
  key : Nat
  tag : Nat
  opcode : BitVec 8
  crc : BitVec 32
  status : BitVec 8
  rlen : Nat
  words : List W64
deriving DecidableEq, Repr

/-- A staging set of bypass rules (R338). -/
structure Staging where
  owner : Req
  rules : List (W64 × W64)
deriving DecidableEq, Repr

/-- MCI: R325–R333, R338, R352. -/
structure Mci where
  cfg : W64
  ready : Bool
  /-- Slot s of HQn at key 8n + s. -/
  slots : SMap HostSlot
  /-- Accepted, waiting, in acceptance order (R330). -/
  cmdq : List QCmd
  running : List Running
  nextId : Nat
  dups : List Dup
  /-- Forwarding tag counter per destination (R333). -/
  fwdTag : SMap Nat
  stageEgr : Option Staging
  stageIng : Option Staging
deriving DecidableEq, Repr

/-! ### Queues, check engines, telemetry -/

/-- One item of a packet queue (R356, R357). -/
structure QItem where
  splice : Bool
  /-- SPLICE: items lost. -/
  dropped : Nat
  /-- Storage units it takes. -/
  units : Nat
  pport : Nat
  link : Nat
  time : Nat
  body : List Byte
deriving DecidableEq, Repr

/-- One queue (R354, R363, R365). Pointers count modulo 2Q when read. -/
structure Que where
  rd : Nat
  wr : Nat
  cmt : Nat
  hw : Nat
  mismatch : Nat
  splices : Nat
  dropped : Nat
  items : List QItem
deriving DecidableEq, Repr

/-- A queue after reset: empty. -/
def Que.reset : Que :=
  { rd := 0, wr := 0, cmt := 0, hw := 0, mismatch := 0, splices := 0, dropped := 0, items := [] }

/-- Check engine states (R390). -/
inductive ChkSt | idle | running | stopping | waiting
deriving DecidableEq, Repr

/-- A check program (R384, R387, R388, R392). -/
structure ChkProg where
  region : Nat
  alg64 : Bool
  dailies : Bool
  useRef : Bool
  start : Nat
  len : Nat
  /-- Milliseconds. -/
  period : Nat
  reference : W64
  crc8 : Byte
deriving DecidableEq, Repr

/-- A check engine (R390–R393). -/
structure Chk where
  st : ChkSt
  outcome : Nat
  prog : Option ChkProg
  skipped : Nat
  alive : Nat
  crc : W64
  scanned : Nat
  /-- Paused by DOZE (R393). -/
  paused : Bool
  /-- A CHK_RUN held until the engine is IDLE (R390). -/
  deferred : Option ChkProg
  /-- Offset from which the next unit is read, the beats of that unit so far, the bytes of the range read, a unit that failed (R385,
  R389). -/
  pos : Nat
  unit : List Byte
  buf : List Byte
  err : Bool
deriving DecidableEq, Repr

/-- A check engine after reset. -/
def Chk.reset : Chk :=
  { st := .idle, outcome := 0, prog := none, skipped := 0, alive := 0, crc := 0, scanned := 0, paused := false,
    deferred := none, pos := 0, unit := [], buf := [], err := false }

/-- One direction's slot ledger (R399, R400). -/
structure Ledger where
  cyc : Nat
  pumped : Nat
  spilled : Nat
  dry : Nat
  choked : Nat
deriving DecidableEq, Repr

/-- An empty ledger. -/
def Ledger.zero : Ledger := { cyc := 0, pumped := 0, spilled := 0, dry := 0, choked := 0 }

/-- Telemetry (R394–R403). `backEgr` and `backIng` are slots whose fate is known and that the ledger has yet to book: (pumped, spilled,
choked). -/
structure Tel where
  userEn : Bool
  frozen : Bool
  slateTime : W64
  wrapLog : W64
  wrapTime : W64
  cfg : SMap W64
  cnt : SMap W64
  shd : SMap W64
  egr : Ledger
  ing : Ledger
  egrShd : Ledger
  ingShd : Ledger
  backEgr : Nat × Nat × Nat
  backIng : Nat × Nat × Nat
  /-- Counters with WRAP_INT that wrapped and are not yet sampled (R398). -/
  wrapPend : List Nat
deriving DecidableEq, Repr

/-! ### Egress, ingress and lanes -/

/-- SecY states (R97). -/
inductive SecySt | off | on | draining
deriving DecidableEq, Repr

/-- Cut states (R230). -/
inductive CutSt | none | arming | armed | timed
deriving DecidableEq, Repr

/-- What decides a frame before release (R100, R125). -/
inductive Fate
  /-- Waits in the sump: for a line, or for a position under R13. -/
  | wait (line : Option Nat)
  /-- Protected (egress) or in the lanes (ingress): its PN is assigned or recovered. -/
  | crypt
  /-- Leaves in clear under a bypass rule. -/
  | bypass
  /-- On the uncontrolled port. -/
  | uncontrolled
  /-- Sent or delivered unmodified: PROTECT_FRAMES 0 on egress; no SecTAG on ingress. -/
  | unmodified
  /-- Ingress: delivered unchecked with its SecTAG removed. -/
  | unchecked
  /-- Ingress: committed as verified. -/
  | verified
  /-- Ingress: tapped to CTQ. -/
  | tapped
  | discard
deriving DecidableEq, Repr

/-- A frame in flight in one direction, with its frame descriptor (R11). -/
structure Frame where
  link : Nat
  orderTag : Nat
  /-- FD sideband as received. -/
  fdIn : BitVec 16
  /-- Input bytes so far, FCS included. -/
  bytes : List Byte
  ended : Bool
  inErr : Bool
  /-- Cut off as too long (R102, R127). -/
  tooLong : Bool
  /-- Closed by a port protocol error (R44). -/
  proto : Bool
  fate : Fate
  /-- What parse decided of a frame that waits for a position of its link (R13); none where the lookup follows. -/
  parked : Option Fate
  /-- Its verdict came after it had started (R145). -/
  poison : Bool
  saIdx : Nat
  pn : Nat
  kid : Nat
  /-- The frame's key as the lanes took it at PN assignment or after step 19. -/
  key : List Byte
  pport : Nat
  /-- TXP, RXP and SCI of the SecY as the frame took them (R105, R126). -/
  txp : W64
  rxp : W64
  sci : W64
  /-- SSCI and salt of the SA. -/
  ssci : BitVec 32
  salt : List Byte
  /-- Suite of the SA, and the confidentiality offset code that governs the frame (R105, R132). -/
  suite : Nat
  offCode : Nat
  /-- A block of the frame was abandoned (R165). -/
  abandoned : Bool
  redo : Bool
  started : Bool
  fdBad : Bool
  /-- Ingress: the SecY statistic that its unchecked delivery counts (R150). -/
  stat : Option Nat
  /-- Ingress: delivered without the lanes and counted, at its end (R149). -/
  counted : Bool
  /-- Ingress: the SA whose PKTS_LATE a discard at step 19 counts when its turn to commit has come (R150). -/
  lateSa : Option Nat
  /-- First and last word in its buffer (R358). -/
  firstWord : Nat
  lastWord : Nat
  /-- Its blocks that the dispatcher has taken, cycle by cycle: the groups of R159. -/
  groups : List Nat
  /-- Its blocks have entered the block queue (R154). -/
  queued : Bool
deriving DecidableEq, Repr

/-- A SecY (R105, R132, R267): parameters, state, current transmit AN, its pending cut, statistics 0–10 with their
saturation flags. -/
structure Secy where
  sci : W64
  txp : W64
  rxp : W64
  st : SecySt
  pendEn : Bool
  curAn : Nat
  cut : CutSt
  cutAn : Nat
  /-- Instant of a timed cut; 0 for an immediate one. -/
  cutTime : Nat
  /-- Sequence of the COMMIT. -/
  cutSeq : Nat
  /-- A CUT_SCHEDULE with a partner that also agreed (R244). -/
  cutShared : Bool
  /-- The key service takes the cut, not a command. -/
  cutBySvc : Bool
  stats : SMap Nat
  sat : BitVec 11
  reprimed : Bool
  /-- SECY_DELETE is retiring its SAs (R340). -/
  deleting : Bool
deriving DecidableEq, Repr

/-- Lease states (R177). -/
inductive LeaseSt | none | wait | one | fetch | two
deriving DecidableEq, Repr

/-- A lease: first PN and end (R173). -/
structure Lease where
  start : Nat
  stop : Nat
deriving DecidableEq, Repr

/-- A security association, transmit or receive (R266, R343). -/
structure Sa where
  kid : Nat
  suite : Nat
  /-- Receive: enabled for receive. -/
  enabled : Bool
  shared : Bool
  home : Nat
  homeSa : Nat
  fresh : Bool
  /-- Confidentiality offset code agreed for the SA (R132). -/
  offCode : Nat
  ssci : BitVec 32
  salt : List Byte
  /-- Next PN (transmit) or NEXT_PN (receive). -/
  pn : Nat
  /-- Receive: NEXT_PN and FLOOR as installed (R350). -/
  pn0 : Nat
  floor0 : Nat
  /-- FLOOR (receive). -/
  floor : Nat
  /-- The PN threshold event has been raised (R174). -/
  thr : Bool
  exhausted : Bool
  retiring : Bool
  lease : LeaseSt
  cur : Lease
  nxt : Lease
  /-- A CAP of the home limits it (R316). -/
  stats : SMap Nat
  sat : BitVec 4
  reprimed : Bool
  /-- Installed, started and stopped times (R343). -/
  tInst : Nat
  tStart : Nat
  tStop : Nat
  /-- The device blob of the line (R266). -/
  blob : List Byte
  /-- Transmit: SEQ of the newest copy of its INTENT (R190, R236). -/
  intentSeq : Nat
  /-- SEQ at which it was installed; 0 where resume installed it (R234). -/
  intentAt : Nat
deriving DecidableEq, Repr

/-- A receive SC (R133). -/
structure Sc where
  link : Nat
  sci : W64
deriving DecidableEq, Repr

/-- Kinds of block (R154). -/
inductive BlkKind | a0 | a | x
deriving DecidableEq, Repr

/-- A block of a frame (R154). -/
structure Block where
  kind : BlkKind
  /-- CTR, 16 bytes; none for A. -/
  ctr : List Byte
  /-- DATA, 1 to 16 bytes. -/
  data : List Byte
  kid : Nat
  k256 : Bool
  /-- POS: the position counted back from the last block of its frame in its cycle; 0 until the block is taken. -/
  pos : Nat
  /-- FRAME: its handle, and whether this is its last block. -/
  link : Nat
  order : Nat
  last : Bool
  /-- The block's number in its frame. -/
  idx : Nat
deriving DecidableEq, Repr

/-- A block in a lane (R155) with what the vault delivered for it: the key, H^POS, one parity bit for each byte of both (R158). -/
structure LaneBlk where
  lane : Nat
  blk : Block
  /-- A copy of R163. -/
  copy : Bool
  /-- Cycles since its intake. -/
  age : Nat
  /-- Its fault flag has come. -/
  bad : Bool
  key : List Byte
  hpow : BitVec 128
  par : List Bool
deriving DecidableEq, Repr

/-- One direction of the datapath: frames in arrival order, order counters, shedding, bypass rules, ports, block queue. -/
structure Path where
  frames : List Frame
  /-- Whether the newest frame is open on the input port (R38). -/
  isOpen : Bool
  /-- The next ORDER_TAG of each link. -/
  order : SMap Nat
  shed : Nat
  lanes : Nat
  shedCfg : W64
  rules : List (W64 × W64)
  /-- Segments that the input has taken since its ready fell; 8 once the two beats of R46 are over. -/
  late : Nat
  /-- Ready of the output port as the sink drives it (R35, R47). -/
  txReady : Bool
  /-- The byte of the present output segment behind the last frame sent; 0 where a segment begins (R27, R38). -/
  txPos : Nat
  /-- The block queue (R153); its length is WAIT_BLK. -/
  blkq : List Block
  /-- The blocks that the lanes took in the last 32 cycles, newest first: age 1 to 16 is in stage L0 to M, all 32 cycles are what the
  dispatcher keeps (R155, R163). -/
  pipe : List LaneBlk
deriving DecidableEq, Repr

/-- A path after reset. -/
def Path.reset : Path :=
  { frames := [], isOpen := false, order := [], shed := 0, lanes := 0x10, shedCfg := 0x04000100,
    rules := List.replicate 32 (0, 0), late := 0, txReady := true, txPos := 0, blkq := [], pipe := [] }

/-- Lane states, coded as in R152. -/
inductive LaneSt | off | inService | warm | retired
deriving DecidableEq, Repr

/-- One lane (R152, R166). -/
structure Lane where
  st : LaneSt
  /-- A spare that ramps towards WARM (`false`) or straight into service (`true`). -/
  ramping : Option Bool
  /-- Permanent, kept in the slot map (R170, R171). -/
  held : Bool
  stamps : List Nat
  total : Nat
  lastStage : Nat
  lastCheck : Nat
deriving DecidableEq, Repr

/-- A lane after reset. -/
def Lane.reset : Lane :=
  { st := .off, ramping := none, held := false, stamps := [], total := 0, lastStage := 0, lastCheck := 0 }

/-- A block under recomputation (R163). -/
structure Redo where
  dir : Dir
  link : Nat
  order : Nat
  block : Nat
  /-- The block's fields as the dispatcher keeps them. -/
  kept : Block
  /-- 1 for the first pair of copies, 2 for the second. -/
  round : Nat
  /-- Lanes that the pair's copies go to, and those of them whose copy has faulted. -/
  lanes : List Nat
  faulted : List Nat
  /-- Core cycles since the pair was issued. -/
  age : Nat
deriving DecidableEq, Repr

/-- LNE: EL00–EL17 at keys 0–17, IL00–IL17 at keys 18–35. -/
structure Lne where
  retryCfg : W64
  lanes : SMap Lane
  redo : List Redo
deriving DecidableEq, Repr

/-! ### Key vault -/

/-- Slot states (R201). -/
inductive SlotState | empty | loaded | parked | retiring
deriving DecidableEq, Repr

/-- Key attributes (R201, R204). -/
inductive Attr | encOnly | decOnly | wrapOnly | deriveOnly
deriving DecidableEq, Repr

/-- Key roles (R201). -/
inductive Role | traffic | hostKek | cak | kek | ick | system | pair | hostKdk
deriving DecidableEq, Repr

/-- A vault slot: directory, descriptor and row (R200, R201). -/
structure VSlot where
  st : SlotState
  attr : Attr
  k256 : Bool
  exp : Bool
  role : Role
  origin : Nat
  gen : BitVec 2
  refs : Nat
  kcv : Nat
  shareA : BitVec 256
  shareB : BitVec 256
  mw : BitVec 128
  /-- One parity bit for each byte of the row. -/
  par : BitVec 80
  /-- Last use, for the MKA pool (R217). -/
  used : Nat
deriving DecidableEq, Repr

/-- An EMPTY slot of generation 0. -/
def VSlot.reset : VSlot :=
  { st := .empty, attr := .encOnly, k256 := false, exp := false, role := .traffic, origin := 0, gen := 0, refs := 0,
    kcv := 0, shareA := 0, shareB := 0, mw := 0, par := 0, used := 0 }

/-- What an entropy collection serves (R221, R222). -/
inductive EntPurpose | startup | instantiate | reseed | retest
deriving DecidableEq, Repr

/-- An entropy collection and the two health tests (R221). -/
structure Ent where
  purpose : Option EntPurpose
  got : Nat
  last : Option Byte
  run : Nat
  /-- First sample of the proportion window, matches and samples seen in it. -/
  winVal : Option Byte
  winHit : Nat
  winPos : Nat
deriving DecidableEq, Repr

/-- No collection. -/
def Ent.idle : Ent := { purpose := none, got := 0, last := none, run := 0, winVal := none, winHit := 0, winPos := 0 }

/-- VLT. -/
structure Vlt where
  slots : SMap VSlot
  cfg : W64
  remaskPeriod : W64
  entCfg : W64
  retryCfg : W64
  rootOk : Bool
  /-- The root row failed its parity (R210). -/
  rootPar : Bool
  zeroOk : Bool
  /-- The DRBG is instantiated. -/
  drbg : Bool
  /-- The DRBG has stopped generating (R222). -/
  drbgStop : Bool
  lastSeed : Nat
  failCnt : Nat
  reqSince : Nat
  sweeps : Nat
  row : Nat
  /-- A sweep runs. -/
  sweeping : Bool
  sweepStart : Nat
  remaskKey : BitVec 256
  /-- Number of re-mask generator blocks drawn under the key. -/
  remaskIdx : Nat
  /-- The row that the re-mask unit has read, and its contents then (R209). -/
  remaskRead : Option (Nat × BitVec 256)
  ent : Ent
  entStamps : List Nat
  /-- The boot generator's key, while it has one (R223). -/
  bootKey : Option (BitVec 256)
  bootStage : Nat
  bootV : Nat
  bootIdx : Nat
  /-- Unwrap engines on, engines out of service, fault stamps of each. -/
  unwOn : Bool
  unwOos : List Nat
  unwStamps : SMap (List Nat)
deriving DecidableEq, Repr

/-! ### Journal -/

/-- A journal record (R189): TYPE, OBJ, WCNT, SEQ, 40 payload bytes. -/
structure JRec where
  typ : Nat
  obj : BitVec 16
  wcnt : Nat
  seq : Nat
  payload : List Byte
deriving DecidableEq, Repr

/-- What the engine knows of a slot: WCNT (none: unknown), its valid record, retired, skipped this lap (R193, R195). -/
structure JSlot where
  wcnt : Option Nat
  record : Option JRec
  retired : Bool
  /-- The lap on which a write to it failed: it is skipped for the rest of that lap (R195). -/
  skip : Option Nat
  /-- Blank: every byte 0xFF or 0x00, no event at start-up (R196). -/
  blank : Bool
deriving DecidableEq, Repr

/-- A slot not read yet. -/
def JSlot.reset : JSlot := { wcnt := none, record := none, retired := false, skip := none, blank := true }

/-- A lease request at its home (R181, R183). `sa` is a transmit SA index of this engine, or 4,096 + an index of the
partner whose SAs were taken over (R186). -/
structure LeaseAsk where
  /-- Requesting engine's address; this engine's own requests carry `none`. -/
  req : Option Nat
  sa : Nat
  rid : Nat
  epoch : Nat
deriving DecidableEq, Repr

/-- What follows when a piece of journal work is confirmed. -/
inductive JDone
  | nothing
  /-- The MARK of a grant (R181). -/
  | grant (ask : LeaseAsk) (start stop : Nat)
  /-- The PMARK of a LEASE_SYNC or of a merge: acknowledge to the partner (R185, R317). -/
  | syncAck (sa mark : Nat)
  /-- The INTENT of a transmit SA: it is installed as given; then the running command replies, or the engine at the
  address goes on with the shared cut to instant t that it offered (R227, R244). -/
  | intent (index : Nat) (sa : Sa) (cmd : Option Nat) (offer : Option (Nat × Nat))
  /-- The COMMIT of a link (R235). -/
  | commit (link : Nat)
  /-- CUT_DONE of a link, TAKEN or CANCELLED. -/
  | cutDone (link : Nat) (cancelled : Bool)
  /-- PAIR record of FAB_PAIR or FAB_UNPAIR. -/
  | pair (cmd : Option Nat)
  /-- BULK of a takeover, with its D32 and D64 (R186). -/
  | takeover (d32 d64 : Nat)
  /-- BULK of resume, with its D32 and D64 (R196). -/
  | resumeBulk (d32 d64 : Nat)
  /-- IMAGE_HDR, with the command that asked for it. -/
  | image (cmd : Option Nat)
  /-- IMAGE_HDR with no pieces: JNL_ERASE. -/
  | erase (cmd : Option Nat)
  /-- The ENTRY of stage 2 of the boot generator (R223). -/
  | bootEntry
  /-- PMARK cells of a merge: MERGE_ACK once the last is durable (R317). -/
  | merge (last : Bool)
deriving DecidableEq, Repr

/-- The body of a piece of journal work: one cell, or a whole record. -/
inductive JBody
  | cell (kind index : Nat) (value : W64)
  | whole (typ : Nat) (obj : BitVec 16) (payload : List Byte)
deriving DecidableEq, Repr

/-- Waiting journal work with its step of R424. -/
structure JWork where
  id : Nat
  step : Nat
  body : JBody
  done : JDone
deriving DecidableEq, Repr

/-- The write outstanding: slot, record, the work it carries, time of issue (µs counted from fabric time). -/
structure JWrite where
  slot : Nat
  /-- The lap of the ring on which it was issued. -/
  lap : Nat
  record : JRec
  works : List JWork
  issued : Nat
deriving DecidableEq, Repr

/-- A read outstanding: tag, slot, bytes so far, an error on a beat. -/
structure JRead where
  tag : Nat
  slot : Nat
  bytes : List Byte
  err : Bool
  /-- The check engine that reads (R385). -/
  chk : Option Nat
deriving DecidableEq, Repr

/-- The last reply given to a requester for an SA (R181, R184). -/
structure LastGrant where
  req : Option Nat
  sa : Nat
  rid : Nat
  start : Nat
  stop : Nat
deriving DecidableEq, Repr

/-- A grant on its way: its mark's journal write and its sync (R181, R185). -/
structure PendGrant where
  ask : LeaseAsk
  start : Nat
  stop : Nat
  durable : Bool
  synced : Bool
deriving DecidableEq, Repr

/-- A configuration image: generation and its words (R350). -/
structure Image where
  gen : Nat
  words : List W64
  /-- SEQ that the journal had reached when the image was built (R234). -/
  built : Nat
deriving DecidableEq, Repr

/-- JNL. -/
structure Jnl where
  portCfg : W64
  wrLat : Nat
  tmoCnt : Nat
  errCnt : Nat
  endurance : W64
  /-- RESEND, µs (R177). -/
  resend : Nat
  /-- log2 of the default grains (R179). -/
  grainXpn : Nat
  grainPn : Nat
  /-- log2 of the per-SA overrides; 0 for none. -/
  grainOver : SMap Nat
  rekey : W64
  retryCfg : W64
  slots : SMap JSlot
  seq : Nat
  ptr : Nat
  /-- Laps of the ring since start-up. -/
  lap : Nat
  resolved : Bool
  portOos : Bool
  overCap : Bool
  wrStamps : List Nat
  work : List JWork
  nextWork : Nat
  wr : Option JWrite
  reads : List JRead
  /-- Next slot of the start-up read; 4,096 once every read is issued. -/
  nextRead : Nat
  /-- Slots whose start-up read has ended. -/
  readDone : Nat
  /-- Headwater marks (0: none), keyed by local transmit SA index. -/
  hw : SMap Nat
  /-- Marks dropped for capacity (R192). -/
  dropped : List Nat
  /-- Partner marks and their suites are told by the cell kind. -/
  pmark : SMap Nat
  pmark64 : List Nat
  /-- Cap marks (R316). -/
  caps : SMap Nat
  /-- Journaled receive floors. -/
  floors : SMap Nat
  last : List LastGrant
  asks : List LeaseAsk
  pend : List PendGrant
  /-- Last own request by transmit SA: twice its RID, plus 1 once a refusal asks for a new one (R177, R184). -/
  rid : SMap Nat
  image : Option Image
  /-- The image being written. -/
  imgWr : Option Image
  /-- Another image follows the one being written (R234). -/
  imgNext : Bool
  /-- CUT_DONE records that wait for the image of a generation: generation, link, SA, instant (R235). -/
  afterImg : List (Nat × Nat × Nat × Nat)
  /-- Cuts taken whose image of R235's step 5 is not asked for yet: link, SA, instant. -/
  cutImg : List (Nat × Nat × Nat)
deriving DecidableEq, Repr

/-! ### Service engine -/

/-- A peer of a CA (R249, R251). -/
structure MkPeer where
  sci : W64
  mi : Nat
  mn : Nat
  prio : Nat
  live : Bool
  suites : Nat
  offCap : Nat
  rxKn : Nat
  txKn : Nat
  /-- It transmits (R254). -/
  sends : Bool
  sc : Option Nat
deriving DecidableEq, Repr

/-- How far the newest SAK of a participant has come (R252). -/
inductive SakPhase | none | distributing | installing | arming | done
deriving DecidableEq, Repr

/-- A participant of a CA (R250–R256). -/
structure MkPart where
  ckn : List Byte
  k256 : Bool
  /-- The CAK in custody, as a device blob (R217). -/
  cak : List Byte
  mi : Nat
  mn : Nat
  peers : List MkPeer
  ks : Option W64
  kn : Nat
  an : Nat
  suite : Nat
  off : Nat
  txKid : Option Nat
  rxKid : Option Nat
  phase : SakPhase
  /-- Instant carried by MKA_FORCE_REKEY; 0 for none. -/
  cutT : Nat
  /-- A new SAK is wanted and not yet generated. -/
  want : Bool
deriving DecidableEq, Repr

/-- Key agreement of a SecY (R250, R256, R346). -/
structure MkCa where
  enabled : Bool
  prio : Nat
  suites : Nat
  offs : Nat
  rekeyS : Nat
  overlapMs : Nat
  first : Option MkPart
  second : Option MkPart
  /-- The first participant ends one Life Time after the cut (R256). -/
  ending : Bool
  /-- Bounded Hello Time runs (R252 step 4). -/
  bounded : Bool
  /-- The AN that was current before the last cut, until its overlap is over (R255). -/
  oldAn : Option Nat
deriving DecidableEq, Repr

/-- No key agreement. -/
def MkCa.reset : MkCa :=
  { enabled := false, prio := 0, suites := 0, offs := 0, rekeyS := 0, overlapMs := 0, first := none, second := none,
    ending := false, bounded := false, oldAn := none }

/-- A key of the MKA pool: its KID, the link and CKN of its CA, and what it is: CAK, KEK or ICK (R216, R217). -/
structure PoolKey where
  kid : Nat
  link : Nat
  ckn : List Byte
  role : Role
deriving DecidableEq, Repr

/-- SVC. -/
structure Svc where
  mkaCfg : W64
  sakGen : Nat
  cas : SMap MkCa
  /-- The fabric key in custody, as a device blob, and its length (R289, R350). -/
  fabKey : Option (List Byte × Bool)
  /-- MKA state restored from the image of links whose session restarts (R88). -/
  restartStamps : List Nat
  stopped : Bool
  restarting : Bool
  /-- Mirror records held for the partner: transmit PNs and receive states (R313). -/
  mirTx : SMap Nat
  /-- Keyed by ((SCI · 1,024) + link) · 4 + AN. -/
  mirRx : SMap Nat
  /-- 0 no patch seen, 1 accepted, 2 rejected. -/
  patch : Nat
  /-- Keys of CAs in the MKA pool. -/
  pool : List PoolKey
  /-- MKA SecYs whose CA MKA_DISABLE has ended: keyed statically (R257). -/
  manual : List Nat
  /-- Receive SCs that go once their last SA is gone (R254, R257). -/
  scOut : List Nat
deriving DecidableEq, Repr

/-! ### Cistern and context store -/

/-- A line in the cistern (R259, R261): its slot and dirty flag. -/
structure CLine where
  slot : Nat
  dirty : Bool
deriving DecidableEq, Repr

/-- A fill under way (R273): its line, the read of its leaf and of the line, the beats so far, retries. -/
structure Fill where
  line : Nat
  /-- Beats of the reads of its leaf and of the line so far. -/
  leafBytes : List Byte
  lineBytes : List Byte
  leafDone : Bool
  lineDone : Bool
  leafRetry : Bool
  lineRetry : Bool
  /-- A retry had an uncorrectable beat too: memory error; of the leaf's read or of the line's. -/
  memErr : Bool
  errLeaf : Bool
  /-- Two timeouts. -/
  timedOut : Bool
  /-- Served from the write-back buffer (R261). -/
  fromWb : Bool
  /-- Not a fill: the line waits for its leaf and is then written (R274 step 1). -/
  forWrite : Bool
deriving DecidableEq, Repr

/-- A read outstanding on cxm_ (R53): tag, leaf or line of which fill, beats returned, held after a timeout. -/
structure CxmRead where
  tag : Nat
  /-- Line that the read serves. -/
  line : Nat
  leaf : Bool
  offset : Nat
  held : Bool
  /-- A beat so far was uncorrectable. -/
  bad : Bool
  /-- The check engine that reads (R385). -/
  chk : Option Nat
deriving DecidableEq, Repr

/-- A write outstanding on cxm_, or waiting for a tag (tag 32); or, where `held`, only the tag of one that timed out, out of use until its
response (R54, R274, R277). -/
structure CxmWrite where
  tag : Nat
  offset : Nat
  data : List Byte
  /-- Data line of the write-back buffer that it writes; none for a node and in a build. -/
  line : Option Nat
  held : Bool
deriving DecidableEq, Repr

/-- A leaf in the tree cache (R268, R269): entries (counter, tag), dirty, last use. -/
structure Leaf where
  ents : SMap (Nat × Nat)
  dirty : Bool
  used : Nat
deriving DecidableEq, Repr

/-- The re-priming under way (R280). -/
structure Reprime where
  group : Nat
  /-- MIRROR_QUERY is out and unanswered. -/
  asking : Bool
  /-- Low values of the partner's reply. -/
  lows : List MirRx
  /-- The group's writes have been assembled. -/
  written : Bool
deriving DecidableEq, Repr

/-- CIS. -/
structure Cis where
  lines : SMap (Option CLine)
  /-- Bank pairs in service, and pairs retired (R262). -/
  pairs : BitVec 4
  retired : BitVec 4
  retryCfg : W64
  stamps : SMap (List Nat)
  setKey : W64
  /-- The tree pseudo-LRU bits of each set, node k of the tree at bit k (R261). -/
  plru : SMap Nat
deriving DecidableEq, Repr

/-- CXM. -/
structure Cxm where
  portCfg : W64
  tmoCnt : Nat
  errCnt : Nat
  region : W64
  interval : Nat
  sweepOn : Bool
  sweepPtr : Nat
  gen : Nat
  retryCfg : W64
  topCtr : Nat
  lastErr : W64
  nonce : W64
  /-- The region is built and trusted (R99). -/
  trusted : Bool
  /-- Counters of the leaves, in their L4 nodes; unlisted ones hold 1 after a build. -/
  leafCtr : SMap Nat
  /-- Counters of L4, L3, L2 and L1 nodes, key 8192 x level + node, level 1 to 4. -/
  nodeCtr : SMap Nat
  /-- Leaves in the tree cache. -/
  leaves : SMap (Option Leaf)
  /-- Counter of leaf uses, for their replacement. -/
  clock : Nat
  /-- Lines of quarantined groups that were evicted and are kept as sources (R278). -/
  kept : List Nat
  fills : List Fill
  reads : List CxmRead
  /-- Writes issued, and the write-back buffer's lines among them. -/
  writes : List CxmWrite
  oos : Bool
  stamps : List Nat
  rebuild : Bool
  /-- Quarantined groups; those that stay until CXM_REBUILD (R280). -/
  quar : List Nat
  failed : List Nat
  queue : List Nat
  job : Option Reprime
  repStamps : SMap (List Nat)
  /-- A sweep step's line is being read. -/
  sweepRead : Bool
  /-- Lines that wait for an entry of the full write-back buffer (R261). -/
  wbq : List Nat
  /-- Lines changed while they were not resident: their fill installs them dirty (R261). -/
  changed : List Nat
  /-- DOZE entry has sent out the interior nodes (R269). -/
  nodesOut : Bool
  /-- Fabric time from which the check engines may issue their next read (R389). -/
  chkAt : Nat
deriving DecidableEq, Repr

/-! ### Fabric -/

/-- Fabric port states, coded as FAB_PORT_STAT.STATE (R290). -/
inductive PortSt | detect | train | lock | caps | active | idle | absent | off
deriving DecidableEq, Repr

/-- What a port has waiting to be sent, in order (R285, R297): a block of its stream before the scrambler, or one block on each lane of a
leader run, by phase and TSEQ. -/
inductive TxItem
  | blk (b : BitVec 66)
  | lead (phase tseq : Nat)
deriving DecidableEq, Repr

/-- A lane's PRBS checker (R300): locked, errors, error-free bits while it is not locked, and the bits and errors of the current
1,024 while it is. -/
structure Prbs where
  lock : Bool
  errs : Nat
  run : Nat
  bits : Nat
  bad : Nat
deriving DecidableEq, Repr

/-- A checker that has seen nothing. -/
def Prbs.reset : Prbs := { lock := false, errs := 0, run := 0, bits := 0, bad := 0 }

/-- A fabric port (R284–R300). -/
structure Port where
  en : Bool
  width : Nat
  rate : Bool
  st : PortSt
  test : Bool
  held : Bool
  fails : Nat
  widthUse : Nat
  peerAddr : Option Nat
  peerId : W64
  peerClass : Nat
  peerPrio : Nat
  peerKeyOk : Bool
  peerUnsync : Bool
  laneMap : BitVec 8
  polarity : BitVec 4
  retrains : Nat
  symErr : Nat
  /-- Times of the symbol errors within ERR_WIN (R295). -/
  errAt : List Nat
  rdy : BitVec 4
  sig : BitVec 4
  cdr : BitVec 4
  /-- Lanes with block lock and identity. -/
  locked : BitVec 4
  /-- Consecutive leader blocks with RX_LOCKED and DESKEWED (R290). -/
  lockRun : Nat
  /-- A CAPS with PEER_CAPS_RCVD has been sent. -/
  capsSent : Bool
  /-- A valid CAPS has arrived; one that carried PEER_CAPS_RCVD has. -/
  capsGot : Bool
  capsAck : Bool
  /-- Leaving IDLE (R298). -/
  exiting : Bool
  backoff : Bool
  probing : Bool
  stamps : List Nat
  /-- Going down; an enable is held until OFF (R299). -/
  down : Bool
  deferred : Option (Nat × Bool)
  /-- The adjacency is listed in the LSA (RETURN_WIN, R295). -/
  adj : Bool
  prbsCtl : W64
  prbs : SMap Prbs
  lseq : Nat
  /-- Departure stamp of an unanswered TIME_REQ (R308). -/
  t1 : Option Nat
  /-- Instants of the invalid sync headers of each lane in the time of the last 64 blocks (R295). -/
  badHdr : SMap (List Nat)
  /-- Blocks that wait to be sent; the scrambler; TSEQ of the leader being sent; the PRBS generators (R285, R291, R300). -/
  txq : List TxItem
  scr : BitVec 58
  tseq : Nat
  gen : SMap (BitVec 31)
  /-- Injected errors still to be sent: lane and bit. -/
  inj : List (Nat × Nat)
  /-- fab_tx_blk of each lane in this fc, fab_tx_take of every lane, what the lane rate leaves over, in 64ths of a block, and
  fab_tx_eidle (R65, R66). -/
  tx : List (BitVec 132)
  take : Nat
  txAcc : Nat
  eidle : BitVec 4
  /-- fab_rx_blk and fab_rx_cnt of each lane as presented last in this fc; fab_rx_slip, and when each lane pulsed it last, ns + 1. -/
  rxBlk : SMap (BitVec 132)
  rxCnt : SMap Nat
  slip : BitVec 4
  slipAt : SMap Nat
  /-- Consecutive valid sync headers of each lane (R290); TSEQ + 1 seen last on each lane (R292). -/
  hdrs : SMap Nat
  rseq : SMap Nat
deriving DecidableEq, Repr

/-- A port after reset: OFF. -/
def Port.reset : Port :=
  { en := false, width := 0, rate := false, st := .off, test := false, held := false, fails := 0, widthUse := 0,
    peerAddr := none, peerId := 0, peerClass := 0, peerPrio := 0, peerKeyOk := false, peerUnsync := false, laneMap := 0,
    polarity := 0, retrains := 0, symErr := 0, errAt := [], rdy := 0, sig := 0, cdr := 0, locked := 0, lockRun := 0,
    capsSent := false, capsGot := false, capsAck := false, exiting := false, backoff := false, probing := false,
    stamps := [], down := false, deferred := none, adj := false, prbsCtl := 0, prbs := [], lseq := 0, t1 := none,
    badHdr := [], txq := [], scr := 0, tseq := 0, gen := [], inj := [], tx := [], take := 0, txAcc := 0, eidle := 0xF, rxBlk := [],
    rxCnt := [], slip := 0, slipAt := [], hdrs := [], rseq := [] }

/-- What the engine records of the engine at an address (R305). -/
structure Peer where
  reach : Bool
  quar : Nat
  unsync : Bool
  cls : Nat
  hops : Nat
  nextPort : Nat
  id : W64
  prio : Nat
deriving DecidableEq, Repr

/-- No engine known. -/
def Peer.reset : Peer :=
  { reach := false, quar := 0, unsync := false, cls := 0, hops := 0, nextPort := 0, id := 0, prio := 0 }

/-- The pair (R310–R317). -/
structure Pair where
  partner : Option Nat
  kid : Nat
  set : List Nat
  formed : Bool
  live : Bool
  split : Bool
  home : Bool
  takenOver : Bool
  capped : Bool
  epoch : Nat
  peerEpoch : Nat
  /-- Nanoseconds since the last complete batch. -/
  mirAge : Nat
  peerDigest : W64
  peerDeg : BitVec 8
  /-- Digests disagree now (R311). -/
  mismatch : Bool
  /-- Batch number of the next MIRROR_TX; last batch received. -/
  batch : Nat
  peerBatch : Nat
  /-- The start-up wait of R187: epochs not yet exchanged. -/
  unsettled : Bool
  merging : Bool
deriving DecidableEq, Repr

/-- The steering port (R72–R74). -/
structure Steer where
  req : Bool
  code : BitVec 2
  peer : Nat
  ack : Bool
  needTake : Bool
  needYield : Bool
  /-- The held YIELD is the handover request's (R318). -/
  handover : Bool
  /-- The request was acknowledged and has fallen while steer_ack stays 1. -/
  draining : Bool
deriving DecidableEq, Repr

/-- A shared cut that this engine, the home, has offered (R244). -/
structure Offer where
  links : List Nat
  link : Nat
  an : Nat
  sa : Nat
  t : Nat
  waiting : List Nat
  acked : List Nat
  cmd : Option Nat
deriving DecidableEq, Repr

/-- FAB. -/
structure Fab where
  cfg : W64
  trainCfg : W64
  retryCfg : W64
  engineId : W64
  addr : Option Nat
  pref : Nat
  auto : Bool
  prio : Nat
  /-- KID of the fabric ICK in the MKA pool (R289). -/
  ickKid : Option Nat
  ports : SMap Port
  peers : SMap Peer
  lsdb : List Lsa
  lsaSeq : Nat
  /-- 200 µs of LSA collection run before the address claim (R303). -/
  claiming : Bool
  master : Bool
  masterAddr : Option Nat
  unsync : Bool
  offset : Int
  syncs : Nat
  good : Nat
  pair : Pair
  peerLog : W64
  bound : SMap Nat
  steer : Steer
  offers : List Offer
deriving DecidableEq, Repr

/-! ### Outputs and the whole machine -/

/-- What the engine drives on its ports, as events (R35, R48, R53, R59, R65). -/
inductive Out
  /-- A frame on lin_tx_: link, fd, bytes, err (R109, R42), and its share of the segments that carry it, everything else in them zero
  (R27, R38, R39): where a frame begins behind the end of another, the port carries the two shares' bitwise OR. -/
  | linTx (link : Nat) (fd : BitVec 16) (bytes : List Byte) (err : Bool) (segs : List Seg)
  /-- A frame on cli_tx_ (R141). -/
  | cliTx (link : Nat) (fd : BitVec 16) (bytes : List Byte) (err : Bool) (segs : List Seg)
  /-- A CSR response: code and read data (R50). -/
  | csr (code : BitVec 2) (data : W64)
  | cxmRead (offset : Nat) (two : Bool) (tag : Nat)
  | cxmWrite (offset : Nat) (data : List Byte) (tag : Nat)
  | jnlRead (slot tag : Nat)
  | jnlWrite (slot : Nat) (data : List Byte)
  /-- A fabric message sent on a port (R286). -/
  | fab (hdr : MsgHdr) (msg : FabMsg)
  /-- A leader run of 100 fc or longer on a port with its phase (R291). -/
  | leader (port phase : Nat)
  | idleReq (port : Nat)
  | idleAck (port : Nat)
  /-- One bit inverted in the next block of each lane of the mask, in TEST (R300). -/
  | prbsError (port : Nat) (lanes : BitVec 4)
deriving DecidableEq, Repr

/-- Egress-only state: TPIDs, cut configuration and counts (R103, R240). -/
structure EgrCfg where
  tpid : W64
  cutCfg : W64
  abandoned : Nat
  rearmed : Nat
deriving DecidableEq, Repr

/-- The receive SC table (R133, R134): the SCs by index, the buckets and stash of indices, the hash keys. -/
structure ScTab where
  scs : SMap (Option Sc)
  buckets : SMap (List Nat)
  stash : List Nat
  key0 : BitVec 128
  key1 : BitVec 128
  relocHw : Nat
deriving DecidableEq, Repr

/-- States of the TAP controller (R419, R420). -/
inductive Tap
  | logicReset | idle | selDr | capDr | shiftDr | exit1Dr | pauseDr | exit2Dr | updDr
  | selIr | capIr | shiftIr | exit1Ir | pauseIr | exit2Ir | updIr
deriving DecidableEq, Repr

/-- The test port (R419, R420): the inputs as they stand, the levels of the two clocks in the cycle before, the outputs, and the TAP: its
state, instruction and shift register. -/
structure Tst where
  tck : Bool
  tms : Bool
  tdi : Bool
  trstN : Bool
  scanEn : Bool
  scanClk : Bool
  si : BitVec 32
  tckWas : Bool
  scanWas : Bool
  tdo : Bool
  so : BitVec 32
  tap : Tap
  ir : BitVec 5
  sr : W64
deriving DecidableEq, Repr

/-- The engine. -/
structure State where
  /-- Commands waiting, first in, first out. -/
  pending : List Instr
  /-- What the ports have carried out, oldest first. -/
  out : List Out
  /-- Free values drawn so far. -/
  rng : Nat
  /-- Fabric time, ns; its 32-bit fraction; the servo's rate, in 2^-32 ns per fc (R306, R308). -/
  time : W64
  frac : BitVec 32
  servo : Int
  aon : Aon
  glb : Glb
  evt : Evts
  mci : Mci
  svc : Svc
  vlt : Vlt
  cis : Cis
  cxm : Cxm
  egr : Path
  ing : Path
  ecfg : EgrCfg
  sct : ScTab
  secys : SMap (Option Secy)
  tx : SMap (Option Sa)
  rx : SMap (Option Sa)
  lne : Lne
  jnl : Jnl
  fab : Fab
  chkCfg : W64
  chk : SMap Chk
  tel : Tel
  que : SMap Que
  /-- The counters of R122, keyed by their telemetry type (R395). -/
  cnt : SMap Nat
  tst : Tst
deriving DecidableEq, Repr

/-- How the machine stops. No step of this model stops: every row of the table has an effect. -/
inductive Fault
  /-- Never raised: every row of the table has an effect in every state. Safe: nothing is claimed of a stop. -/
  | unreachable
deriving DecidableEq, Repr

/-- Why a command has no meaning. -/
inductive Refusal
  /-- A command whose meaning is not written yet, by its mnemonic; raised by Sys2Proof.Machine.exec alone. Safe: the
  machine stops where the hardware goes on. -/
  | notModelled (mnemonic : String)
deriving DecidableEq, Repr

/-! ### Reset -/

/-- AON after rst_por_n (R90, R94, R99). -/
def Aon.reset : Aon :=
  { divc := 0, tmpLive := 0, tmpPrev := 0, tmpLatched := 0, lastMode := 0, rstCause := 0b01, bootCnt := 0, wakeCfg := 0x3,
    wakeTime := 0, porLow := false, sysLow := false, rootReq := false, rootWords := [], rootAbsent := false,
    clkBad := false, wakeLatched := false, up := false }

/-- GLB after reset (R4, R23, R24, R80, R380). -/
def Glb.reset : Glb :=
  { fw := 0, mode := .cold, prev := .cold, cause := 0, bootStage := 0, resume := 0, deg := 0, pinSev := 0x2, denied := 0,
    locked := false, pdOn := 1, ramping := [], pdReq := 0, gating := 0, rampMax := 4, prt := 0, change := none,
    testMode := false, zeroTest := false, mbistRun := 0, mbistDone := 0, mbistFail := 0, booting := false, fwOk := false,
    tampered := false }

/-- MCI after reset (R352). -/
def Mci.reset : Mci :=
  { cfg := 0x0000000A00000100, ready := false, slots := [], cmdq := [], running := [], nextId := 0, dups := [],
    fwdTag := [], stageEgr := none, stageIng := none }

/-- SVC after reset. -/
def Svc.reset : Svc :=
  { mkaCfg := 0x03E810000000000F, sakGen := 0, cas := [], fabKey := none, restartStamps := [], stopped := false,
    restarting := false, mirTx := [], mirRx := [], patch := 0, pool := [], manual := [], scOut := [] }

/-- VLT after reset (R198, R216, R221). -/
def Vlt.reset : Vlt :=
  { slots := [], cfg := 0, remaskPeriod := 0, entCfg := 0x019A002900000008, retryCfg := 0x03E80003, rootOk := false,
    rootPar := false, zeroOk := false, drbg := false, drbgStop := false, lastSeed := 0, failCnt := 0, reqSince := 0, sweeps := 0, row := 0,
    sweeping := false, sweepStart := 0, remaskKey := 0, remaskIdx := 0, remaskRead := none, ent := .idle, entStamps := [],
    bootKey := none, bootStage := 0, bootV := 0, bootIdx := 0, unwOn := false, unwOos := [], unwStamps := [] }

/-- CIS after reset. -/
def Cis.reset : Cis :=
  { lines := [], pairs := 0, retired := 0, retryCfg := 0x03E80003, stamps := [], setKey := 0, plru := [] }

/-- CXM after reset (R57, R282). -/
def Cxm.reset : Cxm :=
  { portCfg := 0x0400010000208000, tmoCnt := 0, errCnt := 0, region := 0, interval := 0x40, sweepOn := false, sweepPtr := 0,
    gen := 0, retryCfg := 0x03E80003, topCtr := 0, lastErr := 0, nonce := 0, trusted := false, leafCtr := [], nodeCtr := [],
    leaves := [], clock := 0, kept := [], fills := [], reads := [], writes := [], oos := false, stamps := [], rebuild := false, quar := [],
    failed := [], queue := [], job := none, repStamps := [], sweepRead := false, wbq := [], changed := [], nodesOut := false, chkAt := 0 }

/-- EGR's own registers after reset (R103, R240). -/
def EgrCfg.reset : EgrCfg := { tpid := 0x0000910088A88100, cutCfg := 0x00642710, abandoned := 0, rearmed := 0 }

/-- The receive SC table after reset: empty. -/
def ScTab.reset : ScTab :=
  { scs := [], buckets := [], stash := [], key0 := 0, key1 := 0, relocHw := 0 }

/-- LNE after reset: every lane OFF (R166). -/
def Lne.reset : Lne := { retryCfg := 0x00000001_03E80003, lanes := [], redo := [] }

/-- JNL after reset (R60, R174, R177, R179). -/
def Jnl.reset : Jnl :=
  { portCfg := 0x03E8006400000008, wrLat := 0, tmoCnt := 0, errCnt := 0, endurance := 0x05F5E100, resend := 0xC8,
    grainXpn := 24, grainPn := 16, grainOver := [], rekey := 0xC0000000C0000000, retryCfg := 0x03E80003, slots := [],
    seq := 0, ptr := 0, lap := 0, resolved := false, portOos := false, overCap := false, wrStamps := [], work := [], nextWork := 0,
    wr := none, reads := [], nextRead := 0, readDone := 0, hw := [], dropped := [], pmark := [], pmark64 := [],
    caps := [], floors := [], last := [], asks := [], pend := [], rid := [], image := none, imgWr := none,
    imgNext := false, afterImg := [], cutImg := [] }

/-- No pair (R310). -/
def Pair.reset : Pair :=
  { partner := none, kid := 0, set := [], formed := false, live := false, split := false, home := false, takenOver := false,
    capped := false, epoch := 0, peerEpoch := 0, mirAge := 0, peerDigest := 0, peerDeg := 0, mismatch := false, batch := 0,
    peerBatch := 0, unsettled := false, merging := false }

/-- The steering port at rest (R72). -/
def Steer.reset : Steer :=
  { req := false, code := 0, peer := 0, ack := false, needTake := false, needYield := false, handover := false, draining := false }

/-- FAB after reset (R284–R321). -/
def Fab.reset : Fab :=
  { cfg := 0x0000013F00320A00, trainCfg := 0x020140801001020A, retryCfg := 0x000003E803E80003, engineId := 0, addr := none,
    pref := 0, auto := true, prio := 0x80, ickKid := none, ports := [], peers := [], lsdb := [], lsaSeq := 0,
    claiming := false, master := true, masterAddr := none, unsync := false, offset := 0, syncs := 0, good := 0,
    pair := .reset, peerLog := 0, bound := [], steer := .reset, offers := [] }

/-- TEL after reset. -/
def Tel.reset : Tel :=
  { userEn := false, frozen := false, slateTime := 0, wrapLog := 0, wrapTime := 0, cfg := [], cnt := [], shd := [],
    egr := .zero, ing := .zero, egrShd := .zero, ingShd := .zero, backEgr := (0, 0, 0), backIng := (0, 0, 0),
    wrapPend := [] }

/-- The test port after reset, its inputs tied off as in mission mode (R419). -/
def Tst.reset : Tst :=
  { tck := false, tms := false, tdi := false, trstN := false, scanEn := false, scanClk := false, si := 0, tckWas := false,
    scanWas := false, tdo := false, so := 0, tap := .logicReset, ir := 0x1F, sr := 0 }

/-- The machine right after a power-on reset, before its release is acted on (R76, R99, R409). -/
def State.reset : State :=
  { pending := [], out := [], rng := 0, time := 0, frac := 0, servo := 0, aon := .reset, glb := .reset, evt := .reset,
    mci := .reset, svc := .reset, vlt := .reset, cis := .reset, cxm := .reset, egr := .reset, ing := .reset,
    ecfg := .reset, sct := .reset, secys := [], tx := [], rx := [], lne := .reset, jnl := .reset, fab := .reset,
    chkCfg := 0x10, chk := [], tel := .reset, que := [], cnt := [], tst := .reset }

end Sys2Proof.Machine
end

