-- ==== Sys2Proof/Machine/Flags.lean ====
section
/-!
DEFINITION. Flags: the event sets (R366–R380), the counters of R122 and the telemetry that counts both, fault windows
(R381). A meaning raises causes; `settle`, at its end, brings them and every level condition into the sets as one cycle.
-/
namespace Sys2Proof.Machine

/-! Reading a set. -/

/-- The event set of a subsystem. -/
def Evts.get (e : Evts) : Sub → EvSet
  | .aon => e.aon | .mci => e.mci | .svc => e.svc | .vlt => e.vlt | .cis => e.cis | .egr => e.egr | .ing => e.ing
  | .lne => e.lne | .cxm => e.cxm | .jnl => e.jnl | .fab => e.fab | .chk => e.chk | .tel => e.tel | .que => e.que

/-- The sets with one replaced. -/
def Evts.put (e : Evts) (u : Sub) (v : EvSet) : Evts :=
  match u with
  | .aon => { e with aon := v } | .mci => { e with mci := v } | .svc => { e with svc := v } | .vlt => { e with vlt := v }
  | .cis => { e with cis := v } | .egr => { e with egr := v } | .ing => { e with ing := v } | .lne => { e with lne := v }
  | .cxm => { e with cxm := v } | .jnl => { e with jnl := v } | .fab => { e with fab := v } | .chk => { e with chk := v }
  | .tel => { e with tel := v } | .que => { e with que := v }

/-- The subsystems in csr_irq order (R52). -/
def subs : List Sub := [.aon, .mci, .svc, .vlt, .cis, .egr, .ing, .lne, .cxm, .jnl, .fab, .chk, .tel, .que]

/-- The subsystem at a csr_irq bit. -/
def subAt (n : Nat) : Option Sub := subs[n]?

/-- First global event number of a subsystem (R367). -/
def Sub.first : Sub → Nat
  | .aon => 0 | .mci => 16 | .svc => 32 | .vlt => 56 | .cis => 80 | .egr => 104 | .ing => 128 | .lne => 160 | .cxm => 232
  | .jnl => 248 | .fab => 256 | .chk => 288 | .tel => 304 | .que => 312

/-- The sources that a table of the manual defines (R368, R376). -/
def Sub.defined : Sub → BitVec 72
  | .aon => 0x3FF | .mci => 0xFF | .svc => 0x7F | .vlt => 0x1FF | .cis => 0xF | .egr => 0x3F | .ing => 0x7F
  | .lne => 0xFFFFFFFFFFFFFFFFFF | .cxm => 0xFFF | .jnl => 0xFF | .fab => 0xFFFFFFFF | .chk => 0xFFFF | .tel => 0x1
  | .que => 0xFF

/-- The level sources (R172, R283, R368, R376). -/
def Sub.levels : Sub → BitVec 72
  | .aon => 0xBF | .vlt => 0xA4 | .cis => 0x4 | .egr => 0x4 | .ing => 0x44 | .lne => 0xFFFFFFFFF000000000 | .cxm => 0x40
  | .jnl => 0x58 | .mci | .svc | .fab | .chk | .tel | .que => 0

/-- The sources whose SecYs enter the affected set (R378, action 2). -/
def Sub.affecting : Sub → BitVec 72
  | .vlt => 0xB | .cis => 0x6 | .egr => 0x1B | .ing => 0x3B | .cxm => 0x30B | .fab => 0x88888888
  | .aon | .mci | .svc | .lne | .jnl | .chk | .tel | .que => 0

/-- Severity of a source now. -/
def EvSet.sevOf (e : EvSet) (n : Nat) : Nat := (e.sev.toNat >>> (2 * n)) % 4

/-- Action configured for a severity (R369). -/
def EvSet.action (e : EvSet) (sev : Nat) : Nat := fld e.escAct (4 * sev) 3

/-- FORCE_ESC of ESC_ACT. -/
def EvSet.forceEsc (e : EvSet) : Bool := bitAt e.escAct 63

/-! Telemetry. -/

/-- Telemetry types that belong to a frame's link (R396). -/
def linkBound (code : Nat) : Bool :=
  code ≤ 0x3E || (0x1C1 ≤ code && code ≤ 0x1C8) || code == 0x1CD

/-- PD55 is on (R399, R403). -/
def telOn (s : State) : Bool := s.glb.pdOn.getLsbD 55

/-- Whether counter configuration `w` counts type `code` on `link` (R394–R396). -/
def telCounts (w : W64) (code : Nat) (link : Option Nat) : Bool :=
  bitAt w 63 && fld w 0 9 == code &&
    (!bitAt w 61 || (linkBound code && link == some (fld w 16 10)))

/-- One counter raised by `n`: it wraps at 2^48 and sets OVF (R397). -/
def telAdd (w : W64) (n : Nat) : W64 :=
  let c := fld w 0 48 + n
  put c 0 48 ||| putB (bitAt w 63 || decide (2 ^ 48 ≤ c)) 63

/-- Every counter of a type raised by `n` (R394); a wrap with WRAP_INT waits for its sample (R398). -/
def telBump (code n : Nat) (link : Option Nat) (s : State) : State :=
  if telOn s then
    let hit := (s.tel.cfg.filter (fun e => telCounts e.2 code link))
    let wraps := hit.filter (fun e => bitAt e.2 62 && decide (2 ^ 48 ≤ fld (smGet 0 s.tel.cnt e.1) 0 48 + n))
    { s with tel := { s.tel with
        cnt := hit.foldl (fun m e => smMod 0 m e.1 (telAdd · n)) s.tel.cnt,
        wrapPend := setUnion (wraps.map (·.1)) s.tel.wrapPend } }
  else s

/-- A counter of R122, named by its telemetry type, raised by `n`: it saturates at 2^63 − 1. -/
def bumpN (code n : Nat) (link : Option Nat) (s : State) : State :=
  telBump code n link { s with cnt := smMod 0 s.cnt code (satAdd 63 · n) }

/-- A counter of R122 raised by 1. -/
def bump (code : Nat) (link : Option Nat) (s : State) : State := bumpN code 1 link s

/-- A counter of R122 as a register: SAT and COUNT. -/
def cntReg (s : State) (code : Nat) : W64 :=
  let c := smGet 0 s.cnt code
  putB (decide (2 ^ 63 - 1 ≤ c)) 63 ||| put c 0 63

/-! Raising causes. -/

/-- A real cause of local source `n` of `u`, of a frame or object on the links given (R370, R378). Each occurrence of an edge source
is counted (R395). -/
def raiseL (u : Sub) (n : Nat) (links : List Nat) (s : State) : State :=
  let e := s.evt.get u
  let e' := { e with pendReal := e.pendReal ||| (1 <<< n), links := e.links ++ links.map (fun l => (n, l)) }
  let s1 := { s with evt := s.evt.put u e' }
  if u.levels.getLsbD n then s1 else telBump (0x80 + u.first + n) 1 none s1

/-- A real cause of a source with no link. -/
def raise (u : Sub) (n : Nat) (s : State) : State := raiseL u n [] s

/-! Journal thresholds, needed by the level conditions. -/

/-- Live journal slots L; 0 with the port out of service (R194, R195). -/
def liveSlots (s : State) : Nat :=
  if s.jnl.portOos then 0 else 4096 - (s.jnl.slots.filter (fun e => e.2.retired)).length

/-- WORN_LOW (R194). -/
def wornLow (s : State) : Bool := decide (liveSlots s < 512)

/-- READ_ONLY (R194), or the JNL_RO that an escalation set (R378). -/
def readOnly (s : State) : Bool := decide (liveSlots s < 64) || s.glb.deg.getLsbD 6

/-! Level conditions (R376). -/

/-- `1` at bit `n` where `b`. -/
def bitIf (b : Bool) (n : Nat) : BitVec 72 := if b then 1 <<< n else 0

/-- Lanes whose PERMANENT condition holds: RETIRED, or held under R170. -/
def lanePermMask (s : State) : BitVec 72 :=
  s.lne.lanes.foldl (fun m e => m ||| bitIf (e.2.st == .retired || e.2.held) (36 + e.1)) 0

/-- The level sources of a subsystem whose condition holds now. -/
def levelOf (s : State) : Sub → BitVec 72
  | .aon => bitIf (s.aon.tmpLatched.getLsbD 0) 0 ||| bitIf (s.aon.tmpLatched.getLsbD 1) 1
      ||| bitIf (s.aon.tmpLatched.getLsbD 2) 2 ||| bitIf (s.aon.tmpLatched.getLsbD 3) 3
      ||| bitIf (s.aon.tmpLatched.getLsbD 4) 4 ||| bitIf s.aon.rootAbsent 5 ||| bitIf s.aon.clkBad 7
  | .vlt => bitIf s.vlt.rootPar 2 ||| bitIf (!s.vlt.unwOos.isEmpty) 5 ||| bitIf (s.glb.deg.getLsbD 7) 7
  | .cis => bitIf (s.cis.retired != 0) 2
  | .egr => bitIf (decide (0 < s.egr.shed)) 2
  | .ing => bitIf (decide (0 < s.ing.shed)) 2 ||| bitIf (decide (32 < s.sct.stash.length)) 6
  | .lne => lanePermMask s
  | .cxm => bitIf s.cxm.oos 6
  | .jnl => bitIf (wornLow s) 3 ||| bitIf (readOnly s) 4 ||| bitIf s.jnl.portOos 6
  | _ => 0

/-! Bringing a step's causes into a set. -/

/-- Bits of `m` as source numbers, ascending. -/
def bitsOf (m : BitVec 72) : List Nat := (List.range 72).filter (fun i => m.getLsbD i)

/-- The rising source of highest severity, lowest number first (R374). -/
def topSource (e : EvSet) (rising : BitVec 72) : Nat :=
  match bitsOf rising with
  | [] => 0
  | i :: is => is.foldl (fun b j => if e.sevOf b < e.sevOf j then j else b) i

/-- The FIRST record captured at fabric time `now` (R369, R374). -/
def firstRecord (e : EvSet) (rising real : BitVec 72) (now : Nat) : W64 :=
  let i := topSource e rising
  let cause := if real.getLsbD i then (if e.pendForced.getLsbD i then 3 else 1) else 2
  putB true 63 ||| putB ((bitsOf rising).length > 1) 62 ||| put cause 60 2 ||| put (e.sevOf i) 58 2 ||| put i 48 8
    ||| put now 0 48

/-- Tamper sources, which never qualify for escalation (R373, R379). -/
def tamperSources : Sub → BitVec 72
  | .aon => 0x1F
  | _ => 0

/-- Sources that qualify for escalation (R373). -/
def EvSet.qualifying (u : Sub) (e : EvSet) : BitVec 72 :=
  (e.raw ||| (if e.forceEsc then e.forced else 0)) &&& ~~~tamperSources u

/-- Some qualifying source has an action (R378). -/
def EvSet.escActive (u : Sub) (e : EvSet) : Bool :=
  e.escAct &&& 0x7777 != 0 && (bitsOf (e.qualifying u)).any (fun i => e.action (e.sevOf i) != 0)

/-- Links recorded for the sources of a mask. -/
def EvSet.linksOf (e : EvSet) (m : BitVec 72) : List Nat :=
  e.links.foldl (fun acc p => if m.getLsbD p.1 && decide (p.2 < 1024) then setAdd p.2 acc else acc) []

/-- How a cause names unit `u`, a bank pair or an unwrap engine, beside links; and the units recorded for the sources of a mask
(R378, action 1). -/
def unitNo (u : Nat) : Nat := 2000 + u
def EvSet.unitsOf (e : EvSet) (m : BitVec 72) : List Nat :=
  e.links.foldl (fun acc p => if m.getLsbD p.1 && decide (2000 ≤ p.2) then setAdd (p.2 - 2000) acc else acc) []

/-- The escalation timer's start and return to idle (R378). -/
def EvSet.escStep (u : Sub) (e : EvSet) : EvSet :=
  if e.escActive u then
    match e.escState with
    | .idle => { e with escState := .running, escRemain := e.escTime * 1000, aff := e.linksOf (e.qualifying u &&& u.affecting) }
    | .running => { e with aff := setUnion (e.linksOf (e.qualifying u &&& u.affecting)) e.aff }
    | .fired => e
  else { e with escState := .idle, escRemain := 0, aff := [] }

/-- A FIRST record whose source comes again, by the other kind of cause, in the same cycle: its cause says both (R171, R374). Steps at one
fabric time are one cycle (log 136). -/
def mergeCause (e : EvSet) (real : BitVec 72) (now : Nat) (rec : W64) : W64 :=
  let i := fld rec 48 8
  if bitAt rec 63 && fld rec 0 48 == now % 2 ^ 48 then
    rec ||| put (bn (real.getLsbD i) + 2 * bn (e.pendForced.getLsbD i)) 60 2
  else rec

/-- One cycle of a set: causes set STAT and RAW, clears take effect where no cause stands, a rise captures FIRST or sets
OVF, the escalation timer follows (R370, R374, R378). -/
def EvSet.cycle (u : Sub) (level : BitVec 72) (now : Nat) (e : EvSet) : EvSet :=
  let real := (e.pendReal ||| level) &&& u.defined
  let cause := real ||| (e.pendForced &&& u.defined)
  let gone := e.clr &&& ~~~cause
  let rising := cause &&& ~~~e.stat
  let kept := if e.clrFirst then 0 else mergeCause e (e.pendReal &&& u.defined) now e.first
  let first :=
    if rising == 0 then kept
    else if bitAt kept 63 then kept ||| putB true 62
    else firstRecord e rising real now
  EvSet.escStep u
    { e with
      stat := (e.stat &&& ~~~gone) ||| cause
      raw := (e.raw &&& ~~~gone) ||| real
      forced := (e.forced &&& ~~~gone) ||| (e.pendForced &&& u.defined)
      first := first
      links := e.links.filter (fun p => !gone.getLsbD p.1)
      pendReal := 0, pendForced := 0, clr := 0, clrFirst := false }

/-- Every set's cycle: what a step ends with. -/
def settle (s : State) : State :=
  let t := s.time.toNat
  let f := fun u => (s.evt.get u).cycle u (levelOf s u) t
  { s with evt := { aon := f .aon, mci := f .mci, svc := f .svc, vlt := f .vlt, cis := f .cis, egr := f .egr, ing := f .ing,
                    lne := f .lne, cxm := f .cxm, jnl := f .jnl, fab := f .fab, chk := f .chk, tel := f .tel, que := f .que } }

/-- A meaning's end: the sets take the step's causes, and the machine goes on. -/
def done (s : State) : Host.Outcome State Fault Refusal := .next (settle s)

/-- A reset input of the engine is low: every output holds its reset value and no input is taken (R34). -/
def resetLow (s : State) : Bool := s.aon.porLow || s.aon.sysLow

/-- The end of a meaning that rst_por_n and rst_sys_n hold off: while one of them is low nothing happens. -/
def run (s t : State) : Host.Outcome State Fault Refusal := if resetLow s then .next s else done t

/-- The end of a meaning of PD00, which rst_sys_n leaves alone (R99). -/
def runAon (s t : State) : Host.Outcome State Fault Refusal := if s.aon.porLow then .next s else done t

/-! Interrupts and the fault pin. -/

/-- A set's share of the fault pin (R380). -/
def pinOf (s : State) (u : Sub) : Bool :=
  let e := s.evt.get u
  let m := if bitAt s.glb.pinSev 8 then e.raw else e.stat
  (bitsOf m).any (fun i => decide (fld s.glb.pinSev 0 2 ≤ e.sevOf i))

/-- IRQ of a set (R369). -/
def irqOf (s : State) (u : Sub) : Bool := ((s.evt.get u).stat &&& ~~~(s.evt.get u).mask) != 0

/-- Highest severity among set STAT bits. -/
def maxSev (e : EvSet) : Nat := (bitsOf e.stat).foldl (fun m i => Nat.max m (e.sevOf i)) 0

/-- xxx_INT (R369). -/
def intReg (s : State) (u : Sub) : W64 :=
  put (maxSev (s.evt.get u)) 8 2 ||| putB (pinOf s u) 4 ||| putB (irqOf s u) 0

/-- csr_irq (R52); 0 while a reset is low (R34). -/
def csrIrq (s : State) : BitVec 14 :=
  if resetLow s then 0 else BitVec.ofNat 14 ((List.range 14).foldl (fun a i =>
    match subAt i with | some u => a + bn (irqOf s u) * 2 ^ i | none => a) 0)

/-- GLB_FAULT_SUM.SUBSYS (R380). -/
def faultSum (s : State) : Nat :=
  (List.range 14).foldl (fun a i => match subAt i with | some u => a + bn (pinOf s u) * 2 ^ i | none => a) 0

/-- blk_fault: 0 until AON is up, then the OR of the shares (R75, R380). -/
def blkFault (s : State) : Bool := s.aon.up && !resetLow s && faultSum s != 0

/-! Fault windows (R381). -/

/-- The stamps after a fault at `now`, the last 15 kept. -/
def stampAdd (stamps : List Nat) (now : Nat) : List Nat :=
  let l := stamps ++ [now]
  l.drop (l.length - 15)

/-- LIMIT and WINDOW (in ns) of a retry register. -/
def retryLimit (cfg : W64) : Nat := fld cfg 0 4
def retryWindow (cfg : W64) : Nat := fld cfg 16 16 * 10000

/-- The last stamp is the LIMIT-th fault within WINDOW of the earliest of the last LIMIT faults. -/
def isPermanent (cfg : W64) (stamps : List Nat) : Bool :=
  let k := retryLimit cfg
  decide (k ≤ stamps.length) &&
    (match stamps.getLast?, stamps[stamps.length - k]? with
     | some b, some a => decide (b - a ≤ retryWindow cfg)
     | _, _ => false)

/-- Faults within WINDOW of `now`. -/
def inWindow (cfg : W64) (stamps : List Nat) (now : Nat) : Nat :=
  (stamps.filter (fun t => decide (now - t ≤ retryWindow cfg))).length

end Sys2Proof.Machine
end

