-- ==== Sys2Proof/Machine/Ops.lean ====
section
/-!
DEFINITION. Named operations: tables of SecYs and SAs, outputs, modes and power domains, random values, the vault's rows
(R198–R210, R223, R224), the KDF (R203), the CRCs (R387, R388).
-/
namespace Sys2Proof.Machine

/-! Tables. -/

/-- The SecY of a link. -/
def secyOf (s : State) (l : Nat) : Option Secy := smGet none s.secys l

/-- The SecY of a link set. -/
def setSecy (l : Nat) (y : Option Secy) (s : State) : State := { s with secys := smSet none s.secys l y }

/-- The SecY of a link changed where there is one. -/
def modSecy (l : Nat) (f : Secy → Secy) (s : State) : State :=
  match secyOf s l with
  | some y => setSecy l (some (f y)) s
  | none => s

/-- The transmit SA at an index. -/
def txOf (s : State) (i : Nat) : Option Sa := smGet none s.tx i
def setTx (i : Nat) (a : Option Sa) (s : State) : State := { s with tx := smSet none s.tx i a }
def modTx (i : Nat) (f : Sa → Sa) (s : State) : State :=
  match txOf s i with
  | some a => setTx i (some (f a)) s
  | none => s

/-- The receive SA at an index. -/
def rxOf (s : State) (i : Nat) : Option Sa := smGet none s.rx i
def setRx (i : Nat) (a : Option Sa) (s : State) : State := { s with rx := smSet none s.rx i a }
def modRx (i : Nat) (f : Sa → Sa) (s : State) : State :=
  match rxOf s i with
  | some a => setRx i (some (f a)) s
  | none => s

/-- A data line changes (R261): a resident one is dirty; of one that is not, the change is held for its fill. -/
def lineChanged (n : Nat) (s : State) : State :=
  match smGet none s.cis.lines n with
  | some c => { s with cis := { s.cis with lines := smSet none s.cis.lines n (some { c with dirty := true }) } }
  | none => if s.cxm.trusted then { s with cxm := { s.cxm with changed := setAdd n s.cxm.changed } } else s

/-- A transmit SA put in its place with what its line holds of it. -/
def putTx (i : Nat) (a : Sa) (s : State) : State := lineChanged i (setTx i (some a) s)

/-- The receive SC at an index (R133). -/
def scOf (s : State) (i : Nat) : Option Sc := smGet none s.sct.scs i

/-- Links that have a SecY, ascending. -/
def secyLinks (s : State) : List Nat := smKeys s.secys

/-- A direction's path. -/
def pathOf (s : State) : Dir → Path
  | .egr => s.egr
  | .ing => s.ing
def setPath (d : Dir) (p : Path) (s : State) : State :=
  match d with
  | .egr => { s with egr := p }
  | .ing => { s with ing := p }

/-- Fields of TXP and RXP (R339). -/
def txpSuite (w : W64) : Nat := fld w 62 2
def txpProtect (w : W64) : Bool := bitAt w 61
def txpConf (w : W64) : Bool := bitAt w 60
def txpOff (w : W64) : Nat := fld w 58 2
def txpSciMode (w : W64) : Nat := fld w 56 2
def txpClear (w : W64) : Nat := fld w 54 2
def txpPport (w : W64) : Nat := fld w 48 6
def txpPrio (w : W64) : Nat := fld w 45 3
def txpEarly (w : W64) : Bool := bitAt w 44
def txpMka (w : W64) : Bool := bitAt w 43
def rxpVal (w : W64) : Nat := fld w 62 2
def rxpReplay (w : W64) : Bool := bitAt w 61
def rxpCut (w : W64) : Bool := bitAt w 60
def rxpNoTag (w : W64) : Bool := bitAt w 59
def rxpWindow (w : W64) : Nat := fld w 0 31

/-- The suite uses extended packet numbers (R173). -/
def isXpn (suite : Nat) : Bool := decide (2 ≤ suite)

/-- The suite's key is 256 bits long. -/
def suite256 (suite : Nat) : Bool := suite % 2 == 1

/-- pn_max + 1 (R173). -/
def pnEnd (suite : Nat) : Nat := if isXpn suite then 2 ^ 64 else 2 ^ 32

/-- Confidentiality offset in bytes (R339). -/
def offBytes (code : Nat) : Nat := if code = 1 then 30 else if code = 2 then 50 else 0

/-! Outputs, time, free values. -/

/-- A port output. -/
def emit (o : Out) (s : State) : State := { s with out := s.out ++ [o] }

/-- Fabric time in ns (R306). -/
def now (s : State) : Nat := s.time.toNat

/-- An unspecified choice, with the counter advanced. -/
def pickFree (s : State) : Nat × State := (Config.pick s.rng, { s with rng := s.rng + 1 })

/-! Modes and power domains. -/

/-- The mode's code (R79). -/
def Mode.code : Mode → Nat
  | .cold => 0 | .provision => 1 | .protect => 2 | .degraded => 3 | .doze => 4 | .lockout => 5

/-- A mode change with its cause (R80); entering PROTECT or DEGRADED locks RWL fields (R407). -/
def setMode (m : Mode) (cause : Nat) (s : State) : State :=
  { s with glb := { s.glb with
      prev := s.glb.mode, mode := m, cause := BitVec.ofNat 8 cause,
      locked := s.glb.locked || m == .protect || m == .degraded } }

/-- PROTECT, or DEGRADED if a cause is set (R83, R84); a DRBG that never instantiated sets ENTROPY now (R222). -/
def enterWorking (cause : Nat) (s : State) : State :=
  let deg := if s.vlt.drbgStop then s.glb.deg ||| 0x80 else s.glb.deg
  setMode (if deg == 0 then .protect else .degraded) cause { s with glb := { s.glb with deg := deg } }

/-- The engine protects traffic: PROTECT or DEGRADED. -/
def working (s : State) : Bool := s.glb.mode == .protect || s.glb.mode == .degraded

/-- Domain `n` is on (R24). -/
def pdIsOn (s : State) (n : Nat) : Bool := s.glb.pdOn.getLsbD n
def pdSet (n : Nat) (s : State) : State := { s with glb := { s.glb with pdOn := s.glb.pdOn ||| BitVec.ofNat 56 (2 ^ n) } }
def pdClear (n : Nat) (s : State) : State := { s with glb := { s.glb with pdOn := s.glb.pdOn &&& ~~~BitVec.ofNat 56 (2 ^ n) } }

/-- BOOT_STAGE and RESUME (R80). -/
def setStage (v : Nat) (s : State) : State := { s with glb := { s.glb with bootStage := BitVec.ofNat 8 v } }
def setResume (v : Nat) (s : State) : State := { s with glb := { s.glb with resume := BitVec.ofNat 4 v } }

/-! Keys as bytes. Byte 0 of a key or share is its most significant byte (log 7). -/

/-- 32 bytes of a share or key. -/
def bytes256 (x : BitVec 256) : List Byte := beBytes 32 x.toNat

/-- A key as 256 bits: a 128-bit key in bytes 0–15, zeros after it (R200). -/
def key256 (k : List Byte) : BitVec 256 := BitVec.ofNat 256 (beNat (slice k 0 32))

/-- The fold of SHARE_A (R200). -/
def fold256 (x : BitVec 256) : BitVec 128 := x.extractLsb' 128 128 ^^^ x.extractLsb' 0 128

/-- The parity bits of a row: bytes of SHARE_A, SHARE_B and MW in row order (R200). -/
def rowParity (a b : BitVec 256) (mw : BitVec 128) : BitVec 80 :=
  BitVec.ofNat 80 ((bytes256 a ++ bytes256 b ++ beBytes 16 mw.toNat).foldr (fun x acc => bn (byteParity x) + 2 * acc) 0)

/-- The key a slot holds: SHARE_A XOR SHARE_B, 16 or 32 bytes (R200, R211). -/
def slotKey (v : VSlot) : List Byte := (bytes256 (v.shareA ^^^ v.shareB)).take (if v.k256 then 32 else 16)

/-- A vault slot. -/
def vslot (s : State) (n : Nat) : VSlot := smGet .reset s.vlt.slots n
def setVslot (n : Nat) (v : VSlot) (s : State) : State :=
  { s with vlt := { s.vlt with slots := smSet .reset s.vlt.slots n v } }

/-- KID of the key in a slot (R198). -/
def kidOf (s : State) (n : Nat) : Nat := n + 2 ^ 14 * (vslot s n).gen.toNat

/-- The slot that a KID names: not EMPTY, of the KID's generation (R198). -/
def kidSlot (s : State) (kid : Nat) : Option Nat :=
  let n := kid % 2 ^ 14
  if n < 8448 ∧ kid < 2 ^ 16 ∧ (vslot s n).st ≠ .empty ∧ (vslot s n).gen.toNat = kid / 2 ^ 14 then some n else none

/-- The slot that a command may name: no system key but the transport key, no MKA pool key (R198, R202, R217). -/
def cmdSlot (s : State) (kid : Nat) : Option Nat :=
  match kidSlot s kid with
  | some n => if (8192 ≤ n ∧ n < 8200 ∧ n ≠ 8198) ∨ 8264 ≤ n then none else some n
  | none => none

/-- System slots (R202). -/
def rootSlot : Nat := 8192
def jnlKeySlot : Nat := 8193
def tagKeySlot : Nat := 8194
def mixKeySlot : Nat := 8195
def mixNextSlot : Nat := 8196
def kbSlot : Nat := 8197
def transportSlot : Nat := 8198

/-- The key bytes in a slot. -/
def keyAt (s : State) (n : Nat) : List Byte := slotKey (vslot s n)

/-! KDF (R203). -/

/-- KDF output of `len` bytes; [L] counts bits. -/
def kdf (k label ctx : List Byte) (len : Nat) : List Byte :=
  let t := fun i => Config.cmac k (beBytes 1 i ++ label ++ [0x00] ++ ctx ++ beBytes 2 (8 * len))
  ((List.range ((len + 15) / 16)).flatMap (fun i => t (i + 1))).take len

/-- ASCII of a label, by its codes. -/
def lbl (cs : List Nat) : List Byte := cs.map (BitVec.ofNat 8)

/-- "LX3200 " and the labels of R202, R223, R289, R302. -/
def lblLx : List Nat := [0x4C, 0x58, 0x33, 0x32, 0x30, 0x30, 0x20]
def lblJournal : List Byte := lbl (lblLx ++ [0x6A, 0x6F, 0x75, 0x72, 0x6E, 0x61, 0x6C])
def lblTag : List Byte := lbl (lblLx ++ [0x74, 0x61, 0x67])
def lblMix : List Byte := lbl (lblLx ++ [0x6D, 0x69, 0x78])
def lblBlob : List Byte := lbl (lblLx ++ [0x62, 0x6C, 0x6F, 0x62])
def lblTransport : List Byte := lbl (lblLx ++ [0x74, 0x72, 0x61, 0x6E, 0x73, 0x70, 0x6F, 0x72, 0x74])
def lblBoot : List Byte := lbl (lblLx ++ [0x62, 0x6F, 0x6F, 0x74])
def lblFabric : List Byte := lbl (lblLx ++ [0x66, 0x61, 0x62, 0x72, 0x69, 0x63])
def lblEngineId : List Byte := lbl (lblLx ++ [0x65, 0x6E, 0x67, 0x69, 0x6E, 0x65, 0x20, 0x69, 0x64])

/-! Random values (R207, R220, R223). -/

/-- The DRBG generates. -/
def drbgOn (s : State) : Bool := s.vlt.drbg && !s.vlt.drbgStop

/-- The boot generator's key for a stage and its value V (R223). -/
def bootKeyOf (root : List Byte) (stage v : Nat) : BitVec 256 :=
  BitVec.ofNat 256 (beNat (kdf root lblBoot (beBytes 1 stage ++ beBytes 8 v) 32))

/-- 256 bits from the boot generator: AES-256 in counter mode under its stage key (R223; counter form: log 8). While it has no key, between
the DRBG's stop and the ENTRY record that stage 2 rests on, what a draw gives is a free value. -/
def bootDraw (s : State) : BitVec 256 × State :=
  match s.vlt.bootKey with
  | some k =>
    let i := s.vlt.bootIdx
    (BitVec.ofNat 256 (beNat (aes (bytes256 k) (beBytes 16 (2 * i)) ++ aes (bytes256 k) (beBytes 16 (2 * i + 1)))),
     { s with vlt := { s.vlt with bootIdx := i + 1 } })
  | none => (Config.rand s.rng, { s with rng := s.rng + 1 })

/-- 256 bits from the DRBG while it generates, from the boot generator otherwise (R220, R223). -/
def draw (s : State) : BitVec 256 × State :=
  if drbgOn s then
    (Config.rand s.rng, { s with rng := s.rng + 1, vlt := { s.vlt with reqSince := s.vlt.reqSince + 1 } })
  else bootDraw s

/-- 2^20 requests have passed without a reseed: further ones wait (R220). -/
def drbgFull (s : State) : Bool := drbgOn s && decide (2 ^ 20 ≤ s.vlt.reqSince)

/-- A share mask: from the re-mask generator under the key it has from the DRBG, or from the boot generator (R207, R208, R223). -/
def drawMask (s : State) : BitVec 256 × State :=
  if drbgOn s || (s.vlt.drbg && s.vlt.bootKey.isNone) then
    let k := bytes256 s.vlt.remaskKey
    let i := s.vlt.remaskIdx
    (BitVec.ofNat 256 (beNat (aes k (beBytes 16 (2 * i)) ++ aes k (beBytes 16 (2 * i + 1)))),
     { s with vlt := { s.vlt with remaskIdx := i + 1 } })
  else bootDraw s

/-! Vault rows. -/

/-- Write a key into a slot, masked afresh (R207); the re-mask unit's pending write of that row is dropped (R209). -/
def writeKey (n : Nat) (attr : Attr) (k256 exp : Bool) (role : Role) (origin : Nat) (k : List Byte) (s : State) : State :=
  let (r, s1) := drawMask s
  let old := vslot s1 n
  let mw := (if role == .traffic then hashKey k else 0) ^^^ fold256 r
  let b := key256 k ^^^ r
  let kcv := if 8200 ≤ n ∧ n < 8264 then beNat ((aes k (List.replicate 16 0)).take 3) else 0
  let v : VSlot := { st := .loaded, attr := attr, k256 := k256, exp := exp, role := role, origin := origin, gen := old.gen,
                     refs := old.refs, kcv := kcv, shareA := r, shareB := b, mw := mw, par := rowParity r b mw, used := now s1 }
  let s2 := setVslot n v s1
  { s2 with vlt := { s2.vlt with
      remaskRead := match s2.vlt.remaskRead with
        | some (row, a) => if row = n then none else some (row, a)
        | none => none } }

/-- Zeroize a slot: all zero, EMPTY, GEN raised where it was not EMPTY (R198, R224). -/
def zeroSlot (n : Nat) (s : State) : State :=
  let v := vslot s n
  let s1 := setVslot n { VSlot.reset with gen := if v.st = .empty then v.gen else v.gen + 1 } s
  { s1 with vlt := { s1.vlt with
      remaskRead := match s1.vlt.remaskRead with
        | some (row, a) => if row = n then none else some (row, a)
        | none => none } }

/-- Zeroize every slot that satisfies `p`. -/
def zeroSlots (p : Nat → Bool) (s : State) : State :=
  ((smKeys s.vlt.slots).filter p).foldl (fun t n => zeroSlot n t) s

/-- Slot groups (R198). -/
def isTraffic (n : Nat) : Bool := decide (n < 8192)
def isHost (n : Nat) : Bool := decide (8200 ≤ n) && decide (n < 8264)
def isPool (n : Nat) : Bool := decide (8264 ≤ n) && decide (n < 8448)

/-- A free slot among `n` from `lo`; which one is not specified (R198). -/
def freeSlot (lo n : Nat) (s : State) : Option Nat × State :=
  let (c, s1) := pickFree s
  ((firstFrom (fun i => (vslot s1 (lo + (c + i) % n)).st == .empty) 0 n).map (fun i => lo + (c + i) % n), s1)

/-- Non-EMPTY slots of a group. -/
def usedSlots (s : State) (p : Nat → Bool) : Nat := (s.vlt.slots.filter (fun e => p e.1 && e.2.st != .empty)).length

/-- REFS of a key changed (R218). -/
def addRef (kid : Nat) (up : Bool) (s : State) : State :=
  match kidSlot s kid with
  | some n => let v := vslot s n
              setVslot n { v with refs := if up then v.refs + 1 else v.refs - 1 } s
  | none => s

/-- A frame of either direction, or its key delivery, holds the key (R226). -/
def inFlight (s : State) (kid : Nat) : Bool :=
  (s.egr.frames ++ s.ing.frames).any (fun f => f.fate == .crypt && f.kid == kid)

/-- Unwrap engines in service (R212, R215). -/
def unwInSvc (s : State) : Nat := if s.vlt.unwOn then 8 - s.vlt.unwOos.length else 0

/-- A device blob of a key (R213). -/
def deviceBlob (s : State) (k : List Byte) : List Byte := Config.wrap (keyAt s kbSlot) (slice k 0 32)

/-- The key in a device blob, of the length its holder gives (R213). -/
def openDevice (s : State) (k256 : Bool) (blob : List Byte) : Option (List Byte) :=
  match Config.unwrap (keyAt s kbSlot) blob with
  | some p => if k256 || (p.drop 16).all (· == 0) then some (p.take (if k256 then 32 else 16)) else none
  | none => none

/-- KEY_QUERY's descriptor (R201). -/
def SlotState.code : SlotState → Nat
  | .empty => 0 | .loaded => 1 | .parked => 2 | .retiring => 3
def Attr.code : Attr → Nat
  | .encOnly => 0 | .decOnly => 1 | .wrapOnly => 2 | .deriveOnly => 3
def Role.code : Role → Nat
  | .traffic => 0 | .hostKek => 1 | .cak => 2 | .kek => 3 | .ick => 4 | .system => 5 | .pair => 6 | .hostKdk => 7
def attrAt (n : Nat) : Attr := if n = 0 then .encOnly else if n = 1 then .decOnly else if n = 2 then .wrapOnly else .deriveOnly
def roleAt (n : Nat) : Role :=
  match n with
  | 0 => .traffic | 1 => .hostKek | 2 => .cak | 3 => .kek | 4 => .ick | 5 => .system | 6 => .pair | _ => .hostKdk
def descriptor (s : State) (n : Nat) : W64 :=
  let v := vslot s n
  put v.st.code 62 2 ||| put v.attr.code 60 2 ||| putB v.k256 59 ||| putB v.exp 58 ||| put v.role.code 55 3
    ||| put v.origin 52 3 ||| put v.gen.toNat 50 2 ||| putB (inFlight s (kidOf s n)) 49 ||| put v.refs 32 17 ||| put v.kcv 0 24

/-! The IV (R113, R140). -/

/-- IV of a frame (R113, R140): SCI and PN for 32-bit suites; (SSCI, PN) XOR salt for XPN. -/
def frameIv (suite : Nat) (sci : W64) (ssci : BitVec 32) (salt : List Byte) (pn : Nat) : List Byte :=
  if isXpn suite then xorBytes (beBytes 4 ssci.toNat ++ beBytes 8 pn) (slice salt 0 12)
  else beBytes 8 sci.toNat ++ beBytes 4 pn

/-! CRCs. -/

/-- One bit of CRC-8 (x^8 + x^2 + x + 1, R388). -/
def crc8Bits : Nat → Byte → Byte
  | 0, c => c
  | n + 1, c => crc8Bits n (if c.getLsbD 7 then (c <<< 1) ^^^ 0x07 else c <<< 1)

/-- CRC-8 over bytes, initial value 0. -/
def crc8 (bs : List Byte) : Byte := bs.foldl (fun c b => crc8Bits 8 (c ^^^ b)) 0

/-- One bit of CRC-32C, reflected (0x1EDC_6F41 reflected is 0x82F6_3B78, R387). -/
def crc32Bits : Nat → BitVec 32 → BitVec 32
  | 0, c => c
  | n + 1, c => crc32Bits n (if c.getLsbD 0 then (c >>> 1) ^^^ 0x82F63B78 else c >>> 1)

/-- CRC-32C before its final XOR, from a running value. -/
def crc32Run (c : BitVec 32) (bs : List Byte) : BitVec 32 :=
  bs.foldl (fun c b => crc32Bits 8 (c ^^^ b.setWidth 32)) c

/-- CRC-32C (R387). -/
def crc32c (bs : List Byte) : BitVec 32 := ~~~crc32Run 0xFFFFFFFF bs

/-- One bit of CRC-64 (0x42F0_E1EB_A9EA_3693, not reflected, R387). -/
def crc64Bits : Nat → W64 → W64
  | 0, c => c
  | n + 1, c => crc64Bits n (if c.getLsbD 63 then (c <<< 1) ^^^ 0x42F0E1EBA9EA3693 else c <<< 1)

/-- CRC-64 over bytes, initial value 0. -/
def crc64 (bs : List Byte) : W64 := bs.foldl (fun c b => crc64Bits 8 (c ^^^ BitVec.ofNat 64 (b.toNat * 2 ^ 56))) 0

end Sys2Proof.Machine
end

