-- ==== Sys2Proof/Machine/FrameOps.lean ====
section
/-!
DEFINITION. A frame on its way: its descriptor (R11), its bytes on the line (R109–R113) and towards the client (R129, R130, R140,
R141), the segments that carry it out (R27, R35–R42), its blocks for the lanes (R154).
-/
namespace Sys2Proof.Machine

/-! ### Frame bytes -/

def be16 (bs : List Byte) (i : Nat) : Nat := beNat (slice bs i 2)

/-- A recognised TPID (R104): 0x0000 recognises nothing. -/
def isTpid (s : State) (v : Nat) : Bool :=
  v != 0 && (v == fld s.ecfg.tpid 0 16 || v == fld s.ecfg.tpid 16 16 || v == fld s.ecfg.tpid 32 16)

/-- VLAN tags that directly follow the source address, at most `n`. -/
def vlanTags (s : State) (bs : List Byte) : Nat → Nat
  | 0 => 0
  | 1 => if isTpid s (be16 bs 12) then 1 else 0
  | _ => if isTpid s (be16 bs 12) then (if isTpid s (be16 bs 16) then 2 else 1) else 0

/-- The EtherType after at most `n` VLAN tags. -/
def etypeAt (s : State) (bs : List Byte) (n : Nat) : Nat := be16 bs (12 + 4 * vlanTags s bs n)

/-- A frame's bytes with its FCS field written as zeros (R37). -/
def zeroFcs (bs : List Byte) : List Byte := bs.take (bs.length - 4) ++ [0, 0, 0, 0]

/-- A frame that ends in its FCS field, brought to the least length of 64 bytes with zeros before a zero FCS (R37, R43). -/
def padFrame (bs : List Byte) : List Byte := zeroFcs (bs.take (bs.length - 4) ++ List.replicate (64 - bs.length) 0 ++ [0, 0, 0, 0])

/-! ### Frames of a path -/

/-- A frame that starts on an input port. -/
def newFrame (link tag word : Nat) (fd : BitVec 16) : Frame :=
  { link := link, orderTag := tag, fdIn := fd, bytes := [], ended := false, inErr := false, tooLong := false, proto := false,
    fate := .wait none, parked := none, poison := false, saIdx := 0, pn := 0, kid := 0, key := [], pport := 0, txp := 0, rxp := 0,
    sci := 0, ssci := 0, salt := [], suite := 0, offCode := 0, abandoned := false, redo := false, started := false, fdBad := false,
    stat := none, counted := false, lateSa := none, firstWord := word, lastWord := word, groups := [], queued := false }

/-- The frame at an order position of a link. -/
def frameOf (s : State) (d : Dir) (l o : Nat) : Option Frame := (pathOf s d).frames.find? (fun f => f.link == l && f.orderTag == o)
def modFrame (d : Dir) (l o : Nat) (f : Frame → Frame) (s : State) : State :=
  setPath d { pathOf s d with frames := mapWhere (fun x => x.link == l && x.orderTag == o) f (pathOf s d).frames } s
/-- A frame is gone, and the recomputations of its blocks with it. -/
def dropFrame (d : Dir) (l o : Nat) (s : State) : State :=
  let s1 := setPath d { pathOf s d with frames := (pathOf s d).frames.filter (fun x => !(x.link == l && x.orderTag == o)) } s
  { s1 with lne := { s1.lne with redo := s1.lne.redo.filter (fun r => !(r.dir == d && r.link == l && r.order == o)) } }

/-- In-flight limit of a link (R13): frames of the link older than this one. -/
def atLimit (s : State) (d : Dir) (f : Frame) : Bool :=
  decide (2048 ≤ ((pathOf s d).frames.takeWhile (fun x => !(x.link == f.link && x.orderTag == f.orderTag))).countP (fun x => x.link == f.link))

/-- A frame's fate is decided; over its link's limit it waits in the sump for a position first (R13). -/
def setFate (d : Dir) (f : Frame) (v : Fate) (s : State) : State :=
  let full := atLimit s d f
  modFrame d f.link f.orderTag (fun x => if full then { x with fate := .wait none, parked := some v }
    else { x with fate := v, started := x.started && v != .discard }) s

/-- The sump holds the frame. -/
def inSump (f : Frame) : Bool := match f.fate with | .wait _ => true | _ => false

/-- The frame will leave nothing: its fate is discard, known or parked. -/
def isDead (f : Frame) : Bool := f.fate == .discard || f.parked == some .discard

/-! ### The frame descriptor (R11) -/

/-- The verdict bits [8:1] of a frame's descriptor. -/
def fdVerdict (d : Dir) (f : Frame) : Nat :=
  256 * bn (isDead f) + 128 * bn (inSump f) + 64 * bn (f.fate == .bypass) + 32 * bn (f.fate == .uncontrolled) + 16 * bn (f.fate == .tapped)
    + 8 * bn f.redo + 4 * bn f.poison + 2 * bn (d == .ing && (f.fate == .unchecked || f.fate == .unmodified))

/-- Even parity of bits [127:1]. -/
def fdParity (w : BitVec 128) : Bool := (List.range 127).foldl (fun p i => xor p (w.getLsbD (i + 1))) false

/-- The descriptor of a frame, with FD_PAR. -/
def fdWord (d : Dir) (f : Frame) : BitVec 128 :=
  let w := BitVec.ofNat 128 ((match d with | .egr => 0 | .ing => 2 ^ 127) + f.link % 2 ^ 10 * 2 ^ 117 + f.saIdx % 2 ^ 16 * 2 ^ 101
    + f.pn % 2 ^ 64 * 2 ^ 37 + f.kid % 2 ^ 16 * 2 ^ 21 + f.orderTag % 2 ^ 12 * 2 ^ 9 + fdVerdict d f)
  w ||| BitVec.ofNat 128 (bn (fdParity w))

/-- The descriptor as release or commit reads it back: `flip` says that a bit of it has turned; its parity check (R12). -/
def fdClean (d : Dir) (f : Frame) (flip : Bool) : Bool :=
  let w := fdWord d f ^^^ BitVec.ofNat 128 (bn flip)
  fdParity w == w.getLsbD 0

/-! ### The line frame (R109–R113) -/

/-- The SecTAG has no SCI: POINT_TO_POINT, or END_STATION from the SCI's own address (R111). -/
def shortTag (f : Frame) : Bool :=
  txpSciMode f.txp == 2 || (txpSciMode f.txp == 1 && slice f.bytes 6 6 == (beBytes 8 f.sci.toNat).take 6)

/-- TCI and AN (R110). -/
def tciByte (f : Frame) : Nat :=
  64 * bn (shortTag f && txpSciMode f.txp == 1) + 32 * bn (!shortTag f) + 12 * bn (txpConf f.txp) + f.saIdx % 4

/-- The SecTAG for `n` bytes of secure data. -/
def secTag (f : Frame) (n : Nat) : List Byte :=
  [0x88, 0xE5] ++ beBytes 1 (tciByte f) ++ beBytes 1 (if n < 48 then n else 0) ++ beBytes 4 (f.pn % 2 ^ 32)
    ++ (if shortTag f then [] else beBytes 8 f.sci.toNat)

/-- Secure-data bytes authenticated in clear, of `n`. -/
def clearOf (txp : W64) (off n : Nat) : Nat := if txpConf txp then Nat.min off n else n

/-- The parts of a protected frame: clear head, A, clear and encrypted secure data. -/
def protParts (s : State) (f : Frame) (body : List Byte) : List Byte × List Byte × List Byte × List Byte :=
  let t := vlanTags s f.bytes (txpClear f.txp)
  let head := body.take (12 + 4 * t)
  let sd := body.drop (12 + 4 * t)
  let k := clearOf f.txp (offBytes f.offCode) sd.length
  (head, head.take 12 ++ secTag f sd.length ++ sd.take k, sd.take k, sd.drop k)

/-- IV of a frame (R113, R140). -/
def ivOf (f : Frame) : List Byte := frameIv f.suite f.sci f.ssci f.salt f.pn

/-- A protected frame: SecTAG, secure data, ICV, zero FCS (R109, R113). -/
def protectFrame (s : State) (f : Frame) : List Byte :=
  let (head, a, clear, p) := protParts s f (f.bytes.take (f.bytes.length - 4))
  let c := gcmCrypt f.key (ivOf f) p
  head ++ secTag f (clear.length + p.length) ++ clear ++ c ++ gcmTag f.key (ivOf f) a c f.groups ++ [0, 0, 0, 0]

/-- A protected frame that ends early: no ICV (R44, R102). -/
def protectPart (s : State) (f : Frame) (n : Nat) : List Byte :=
  let (head, _, clear, p) := protParts s f (f.bytes.take n)
  head ++ secTag f (clear.length + p.length) ++ clear ++ gcmCrypt f.key (ivOf f) p

/-- fd of a line frame (R42). -/
def lineFd (f : Frame) : BitVec 16 := BitVec.ofNat 16 (64 * bn (f.fate != .crypt) + f.pport)

/-! ### The SecTAG of a received frame (R129, R130) -/

/-- A SecTAG as read: offset of its EtherType, TCI and AN byte, SL, PN field, carried SCI, bytes of the tag, secure-data length,
whether every check passes. -/
structure Tag where
  off : Nat
  tci : Nat
  sl : Nat
  pn : Nat
  sci : W64
  len : Nat
  sd : Nat
  good : Bool
deriving DecidableEq, Repr

def Tag.bit (t : Tag) (i : Nat) : Bool := t.tci.testBit i

/-- The SecTAG of a frame, if it has one; `xpn` by the SecY's suite. -/
def tagOf (s : State) (bs : List Byte) (clear : Nat) (xpn : Bool) : Option Tag :=
  let off := 12 + 4 * vlanTags s bs clear
  if be16 bs off ≠ 0x88E5 then none
  else
    let tci := beNat (slice bs (off + 2) 1)
    let slb := beNat (slice bs (off + 3) 1)
    let sc := tci.testBit 5
    let len := if sc then 16 else 8
    let n := bs.length - 4 - (off + len)
    let fits := decide (off + len + 4 ≤ bs.length) && decide (16 ≤ n)
    let lenOk := if slb = 0 then decide (48 ≤ n - 16)
      else decide (slb < 48) && decide (slb ≤ n - 16) && (decide (n - 16 = slb) || decide (bs.length = 64))
    let pn := beNat (slice bs (off + 4) 4)
    some { off := off, tci := tci, sl := slb, pn := pn, sci := BitVec.ofNat 64 (beNat (slice bs (off + 8) 8)), len := len,
           sd := if slb = 0 then n - 16 else slb
           good := !tci.testBit 7 && !(tci.testBit 6 && sc) && !(tci.testBit 4 && sc) && (!tci.testBit 3 || tci.testBit 2)
             && decide (slb < 64) && fits && lenOk && (xpn || pn != 0) }

/-! ### The client frame (R140, R141) -/

/-- fd of a client frame (R42, R141). -/
def clientFd (f : Frame) (an : Nat) (unchk unctrl bypass : Bool) : BitVec 16 :=
  BitVec.ofNat 16 (512 * (if bypass || unctrl then 0 else an) + 256 * bn unchk + 128 * bn unctrl + 64 * bn bypass + f.pport)

/-- Secure data of a frame, its ICV, A without the secure data. -/
def ingParts (f : Frame) (t : Tag) : List Byte × List Byte × List Byte :=
  let at_ := t.off + t.len
  (slice f.bytes at_ t.sd, slice f.bytes (at_ + t.sd) 16, f.bytes.take 12 ++ slice f.bytes t.off t.len)

/-- Secure-data bytes under the tag in clear: all without E, the offset's with it. -/
def ingClear (f : Frame) (t : Tag) : Nat := if t.bit 3 then Nat.min (offBytes f.offCode) t.sd else t.sd

/-- The secure data as the lanes give it. -/
def ingPlain (f : Frame) (t : Tag) : List Byte :=
  let (sd, _, _) := ingParts f t
  sd.take (ingClear f t) ++ gcmCrypt f.key (ivOf f) (sd.drop (ingClear f t))

/-- The ICV verdict (R140, R165). -/
def icvOk (f : Frame) (t : Tag) : Bool :=
  let (sd, icv, a) := ingParts f t
  let k := ingClear f t
  !f.abandoned && decide (f.pn < 2 ^ 64) && gcmTag f.key (ivOf f) (a ++ sd.take k) (sd.drop k) f.groups == icv

/-- The rebuilt frame, padded to 64 bytes (R141). -/
def rebuilt (f : Frame) (t : Tag) (plain : List Byte) : List Byte :=
  let body := f.bytes.take t.off ++ plain
  body ++ List.replicate (60 - body.length) 0 ++ [0, 0, 0, 0]

/-- What a delivered frame carries on cli_tx_: fd and bytes. UNCHK of a bypass or uncontrolled-port frame is 0: R141 names V_UNCHK
and no rule sets it for them (log 139, DESIGN CHOICE). -/
def clientFrame (s : State) (f : Frame) : BitVec 16 × List Byte :=
  match tagOf s f.bytes (txpClear f.txp) (isXpn (txpSuite f.txp)) with
  | some t =>
    (match f.fate with
     | .bypass => (clientFd f 0 false false true, zeroFcs f.bytes)
     | .uncontrolled => (clientFd f 0 false true false, zeroFcs f.bytes)
     | .unchecked => (clientFd f (t.tci % 4) true false false, rebuilt f t (if f.key.isEmpty then (ingParts f t).1 else ingPlain f t))
     | _ => (clientFd f (t.tci % 4) false false false, rebuilt f t (ingPlain f t)))
  | none => (clientFd f 0 (f.fate == .unmodified) (f.fate == .uncontrolled) (f.fate == .bypass), zeroFcs f.bytes)

/-- The bytes of a frame delivered cut-through that stand for its first `n` input bytes (R44, R127): the clear head, then the secure
data among them. The end of the secure data is known only from SL or from the frame's end. -/
def clientPart (s : State) (f : Frame) (n : Nat) : List Byte :=
  match tagOf s f.bytes (txpClear f.txp) (isXpn (txpSuite f.txp)) with
  | some t =>
    let at_ := t.off + t.len
    let got := n - at_
    let sd := if t.sl = 0 then got else Nat.min t.sl got
    f.bytes.take t.off ++ ingPlain f { t with sd := sd }
  | none => f.bytes.take n

/-! ### Segments of an output port (R27, R35–R39) -/

/-- Segment `i` of the `n` that carry a frame from byte `pos` of the first. -/
def segAt (pos link : Nat) (fd : BitVec 16) (bytes : List Byte) (err : Bool) (n i : Nat) : Seg :=
  let all := List.replicate pos 0 ++ bytes
  let last := i + 1 == n
  { valid := true, sop := i == 0, eop := last, empty := if last then (64 - all.length % 64) % 64 else 0,
    link := if i = 0 then link else 0, err := last && err, fd := if i = 0 then fd else 0, data := slice (all.drop (64 * i)) 0 64,
    permitted := true }

/-- The share of a frame in the segments that carry it: zero wherever the frame says nothing (R39). -/
def frameSegs (pos link : Nat) (fd : BitVec 16) (bytes : List Byte) (err : Bool) : List Seg :=
  let n := (pos + bytes.length + 63) / 64
  (List.range n).map (segAt pos link fd bytes err n)

/-- A frame on the output port of a direction, at the port's present byte. -/
def frameOut (d : Dir) (s : State) (link : Nat) (fd : BitVec 16) (bytes : List Byte) (err : Bool) : Out :=
  let segs := frameSegs (pathOf s d).txPos link fd bytes err
  match d with
  | .egr => .linTx link fd bytes err segs
  | .ing => .cliTx link fd bytes err segs

/-- A frame leaves; the next one begins on the byte behind it (R27, log 140). -/
def sendFrame (d : Dir) (link : Nat) (fd : BitVec 16) (bytes : List Byte) (err : Bool) (s : State) : State :=
  let p := pathOf s d
  emit (frameOut d s link fd bytes err) (setPath d { p with txPos := (p.txPos + bytes.length) % 64 } s)

/-- A started frame ends early on its output with err = 1 and its own fd, after the bytes that stand for `n` bytes of input. -/
def cutFrame (d : Dir) (f : Frame) (n : Nat) (s : State) : State :=
  match d with
  | .egr => sendFrame .egr f.link (lineFd f) (if f.fate == .crypt then protectPart s f n else f.bytes.take n) true s
  | .ing => sendFrame .ing f.link (clientFd f (f.saIdx % 4) false false false) (clientPart s f n) true s

/-! ### Blocks for the lanes (R154) -/

/-- Blocks of a run of bytes, from number `i` on: kinds and counters as `kind` and `ctr` give them by number. -/
def runBlocks (f : Frame) (kind : Nat → BlkKind) (ctr : Nat → List Byte) (i : Nat) (runs : List (List Byte)) : List Block :=
  runs.zipIdx.map (fun e =>
    { kind := kind (i + e.2), ctr := ctr (i + e.2), data := e.1, kid := f.kid, k256 := decide (16 < f.key.length), pos := 0, link := f.link,
      order := f.orderTag, last := false, idx := i + e.2 })

/-- A frame's blocks: those of A, the first of which carries J0, then those of P or C. -/
def frameBlocks (f : Frame) (a x : List Byte) : List Block :=
  let iv := ivOf f
  let as := cutBlocks a
  let bs := runBlocks f (fun i => if i = 0 then .a0 else .a) (fun i => if i = 0 then ctrOf iv 0 else []) 0 as
    ++ runBlocks f (fun _ => .x) (fun i => ctrOf iv (i - as.length + 1)) as.length (cutBlocks x)
  match bs.reverse with
  | b :: r => ({ b with last := true } :: r).reverse
  | [] => []

/-- The parts of a frame that the lanes work on: A, and P or C. -/
def laneParts (d : Dir) (s : State) (f : Frame) : List Byte × List Byte :=
  match d with
  | .egr =>
    let (_, a, _, p) := protParts s f (f.bytes.take (f.bytes.length - 4))
    (a, p)
  | .ing =>
    match tagOf s f.bytes (txpClear f.txp) (isXpn (txpSuite f.txp)) with
    | some t =>
      let (sd, _, a) := ingParts f t
      (a ++ sd.take (ingClear f t), sd.drop (ingClear f t))
    | none => ([], [])

/-- The blocks of a frame whose key and bytes are complete enter the block queue, once. -/
def queueBlocks (d : Dir) (f : Frame) (s : State) : State :=
  if f.queued || f.fate != .crypt || !f.ended then s
  else
    let parts := laneParts d s f
    let s1 := modFrame d f.link f.orderTag (fun x => { x with queued := true }) s
    setPath d { pathOf s1 d with blkq := (pathOf s1 d).blkq ++ frameBlocks f parts.1 parts.2 } s1

end Sys2Proof.Machine
end

