-- ==== Sys2Proof/Machine/QueOps.lean ====
section
/-!
DEFINITION. The queue design every queue shares (R353–R363): pointers, commit and rewind, splice markers, flush,
high-water mark.
-/
namespace Sys2Proof.Machine

/-- Storage units of queue `q` (R353). -/
def queSize (q : Nat) : Nat :=
  if q = 0 then 32768 else if q = 1 then 8192 else if q ≤ 3 then 512 else if q ≤ 7 then 64 else 16

/-- Power domain that holds the storage of queue `q`. -/
def queDomain (q : Nat) : Nat :=
  if q = 0 then 48 else if q = 1 then 49 else if q = 2 then 44 else if q = 3 then 45 else if q ≤ 5 then 2
  else if q ≤ 7 then 1 else if q < 12 then 52 else if q < 16 then 53 else if q < 20 then 52 else 53

/-- Packet queues: CTQ, INJQ, the fabric queues. -/
def isPacketQue (q : Nat) : Bool := q == 4 || q == 5 || (decide (8 ≤ q) && decide (q < 24))

def queOf (s : State) (q : Nat) : Que := smGet .reset s.que q
def setQue (q : Nat) (v : Que) (s : State) : State := { s with que := smSet .reset s.que q v }
def modQue (q : Nat) (f : Que → Que) (s : State) : State := setQue q (f (queOf s q)) s

/-- Count of a queue in its units (R354, R363): for an entry pool the entries in use. -/
def queCount (v : Que) : Nat := v.wr - v.rd

/-- The high-water mark follows the count. -/
def Que.mark (v : Que) : Que := { v with hw := Nat.max v.hw (queCount v) }

/-- `n` units written and committed at once. -/
def Que.add (v : Que) (n : Nat) : Que :=
  let w := { v with wr := v.wr + n, cmt := v.wr + n }
  w.mark

/-- `n` units consumed. -/
def Que.take (v : Que) (n : Nat) : Que := { v with rd := v.rd + n }

/-- Units through a queue whose consumer takes them within the step, any splice markers of a fabric queue with them. -/
def quePass (q n : Nat) (s : State) : State :=
  modQue q (fun v =>
    let w := (v.add n).take n
    if 8 ≤ q then { w with rd := w.wr, items := [] } else w) s

/-- An item fits: all its units and the marker's reserve (R357). -/
def queFits (q : Nat) (v : Que) (units : Nat) : Bool := decide (units + 1 + queCount v ≤ queSize q)

/-- A splice item, and an item that carries a body (R356). -/
def spliceItem (n pport link time : Nat) : QItem :=
  { splice := true, dropped := Nat.min n 0xFFFF, units := 1, pport := pport, link := link, time := time, body := [] }
def bodyItem (units pport link time : Nat) (body : List Byte) : QItem :=
  { splice := false, dropped := 0, units := units, pport := pport, link := link, time := time, body := body }

/-- A splice marker for `n` lost items: the newest marker's DROPPED rises, or a marker takes the reserved unit (R357). -/
def queSplice (n pport link time : Nat) (v : Que) : Que :=
  match v.items.getLast? with
  | some it =>
    if it.splice then { v with items := v.items.dropLast ++ [{ it with dropped := satAdd 16 it.dropped n }] }
    else Que.add { v with items := v.items ++ [spliceItem n pport link time], splices := satAdd 16 v.splices 1 } 1
  | none => Que.add { v with items := v.items ++ [spliceItem n pport link time], splices := satAdd 16 v.splices 1 } 1

/-- Offer an item to a queue that drops the newest when full; answers whether it was taken (R357). -/
def queOffer (q pport link time : Nat) (body : List Byte) (units : Nat) (v : Que) : Que × Bool :=
  if queFits q v units then
    (Que.add { v with items := v.items ++ [bodyItem units pport link time body] } units, true)
  else (queSplice 1 pport link time { v with dropped := satAdd 32 v.dropped 1 }, false)

/-- Units of a CTQ or INJQ item: the header word and its body in 64-byte words (R356). -/
def itemUnits (body : List Byte) : Nat := 1 + (body.length + 63) / 64

/-- The first item that is not a splice marker, and the queue after the consumer has read up to it. -/
def queTake (v : Que) : Option QItem × Que :=
  match v.items.dropWhile (·.splice) with
  | it :: rest =>
    let skipped := (v.items.takeWhile (·.splice)).length
    (some it, { v with items := rest, rd := v.rd + skipped + it.units })
  | [] => (none, { v with items := [], rd := v.rd + v.items.length })

/-- A flush (R360): committed items are discarded, and `cut` items that were being written; a splice marker records the loss. -/
def queFlush (time cut : Nat) (v : Que) : Que :=
  let lost := v.items.foldl (fun n it => n + (if it.splice then it.dropped else 1)) cut
  let items := (v.items.filter (fun it => !it.splice)).length
  let v1 : Que := { v with items := [], rd := v.wr, cmt := v.wr, dropped := satAdd 32 v.dropped (items + cut) }
  queSplice lost 0 0 time v1

/-- Pointers at 0 and no contents, losses kept: a domain switched off (R361). -/
def queOff (v : Que) : Que :=
  { Que.reset with mismatch := v.mismatch, splices := v.splices, dropped := v.dropped }

end Sys2Proof.Machine
end

