-- ==== Sys2Proof/Machine/Blocks.lean ====
section
/-!
DEFINITION. The 66-bit blocks of the fabric (R65, R66, R285, R286, R291, R292, R300): what a block is on the wire, leaders, the
scrambler, the test patterns, and the stream of blocks that a port sends.
-/
namespace Sys2Proof.Machine

/-! ### A block (R66, R285) -/

/-- One block: sync header in bits [1:0], bit 0 first on the wire, payload byte 0 in bits [9:2]. -/
abbrev Blk := BitVec 66

/-- A block of a sync header and 8 payload bytes. -/
def mkBlk (sync : Nat) (bs : List Byte) : Blk :=
  BitVec.ofNat 66 (sync + 4 * (slice bs 0 8).foldr (fun b n => b.toNat + 256 * n) 0)

/-- Its sync header and its payload bytes. -/
def blkSync (b : Blk) : Nat := b.toNat % 4
def blkByte (b : Blk) (k : Nat) : Byte := BitVec.ofNat 8 (b.toNat / 4 / 256 ^ k)
def blkBytes (b : Blk) : List Byte := (List.range 8).map (blkByte b)

/-- A data block, a control block, and a valid sync header. -/
def dataBlk (bs : List Byte) : Blk := mkBlk 1 bs
def ctlBlk (typ : Byte) (bs : List Byte) : Blk := mkBlk 2 (typ :: slice bs 0 7)
def syncOk (b : Blk) : Bool := blkSync b == 1 || blkSync b == 2

/-- IDLE, IDLE_REQ and IDLE_ACK (R286). -/
def idleBlk : Blk := ctlBlk 0x87 []
def idleReqBlk : Blk := ctlBlk 0x99 []
def idleAckBlk : Blk := ctlBlk 0x9A []

/-- Kind of symbol error that a block is, after the descrambler (R286, R295): a bad sync header, or a type that R286 does not list. -/
def blockErr (b : Blk) : Option BlockErr :=
  if !syncOk b then some .syncHeader
  else if blkSync b == 2 && !([0xC3, 0x87, 0x55, 0x66, 0x99, 0x9A] : List Byte).contains (blkByte b 0) then some .controlType
  else none

/-- The valid blocks of a lane's 132 bits, the earlier first (R66). -/
def busBlks (cnt : Nat) (bus : BitVec 132) : List Blk := [bus.extractLsb' 0 66, bus.extractLsb' 66 66].take cnt
def mkBus (bs : List Blk) : BitVec 132 := (bs.getD 1 0).setWidth 132 <<< 66 ||| (bs.getD 0 0).setWidth 132

/-! ### Leaders (R291, R292) -/

/-- A leader block. -/
def leaderBlk (m : Leader) : Blk :=
  let bs := [0xC3, BitVec.ofNat 8 (64 * m.lane + 16 * m.width + 8 * bn m.spine + m.phase),
             BitVec.ofNat 8 (128 * bn m.rxLocked + 64 * bn m.deskewed)] ++ beBytes 2 m.tseq ++ [0x6A, 0x5C]
  mkBlk 2 (bs ++ [crc8 bs])

/-- The leader that a block is, as it stands; none where its type, marker or CRC-8 is not right. -/
def plainLeader (b : Blk) : Option Leader :=
  let bs := blkBytes b
  let at_ := fun k => (bs.getD k 0).toNat
  if blkSync b == 2 && bs.getD 0 0 == 0xC3 && at_ 5 == 0x6A && at_ 6 == 0x5C && crc8 (bs.take 7) == bs.getD 7 0 then
    some { inverted := false, lane := at_ 1 / 64, width := at_ 1 / 16 % 4, spine := at_ 1 / 8 % 2 == 1, phase := at_ 1 % 8,
           rxLocked := decide (128 ≤ at_ 2), deskewed := at_ 2 / 64 % 2 == 1, tseq := 256 * at_ 3 + at_ 4 }
  else none

/-- The leader in a block, or in the inverted block of a lane whose pair is swapped (R292). -/
def leaderOf (b : Blk) : Option Leader :=
  match plainLeader b with
  | some m => some m
  | none => (plainLeader (~~~b)).map (fun m => { m with inverted := true })

/-! ### The scrambler and the test patterns (R285, R300) -/

/-- `n` bits of `x` through the scrambler x^58 + x^39 + 1, bit 0 first: the bits sent and the state after them. -/
def scramble : Nat → Nat → Nat → BitVec 58 → Nat × BitVec 58
  | 0, _, _, st => (0, st)
  | n + 1, i, x, st =>
    let o := (x.testBit i != st.getLsbD 38) != st.getLsbD 57
    let r := scramble n (i + 1) x (st <<< 1 ||| BitVec.ofNat 58 (bn o))
    (bn o * 2 ^ i + r.1, r.2)

/-- A block with its payload scrambled; a leader passes as it is, and the scrambler stands still. -/
def scrBlk (b : Blk) (st : BitVec 58) : Blk × BitVec 58 :=
  let r := scramble 64 0 (b.toNat / 4) st
  (BitVec.ofNat 66 (b.toNat % 4 + 4 * r.1), r.2)

/-- One bit of PRBS31 or PRBS15 (R300). -/
def prbsBit (long : Bool) (st : BitVec 31) : Bool × BitVec 31 :=
  let o := if long then st.getLsbD 30 != st.getLsbD 27 else st.getLsbD 14 != st.getLsbD 13
  (o, st <<< 1 ||| BitVec.ofNat 31 (bn o))

/-- A block of the pattern: all 66 bits, bit 0 first. -/
def prbsFill (long : Bool) : Nat → Nat → BitVec 31 → Nat × BitVec 31
  | 0, _, st => (0, st)
  | n + 1, i, st =>
    let (o, st1) := prbsBit long st
    let r := prbsFill long n (i + 1) st1
    (bn o * 2 ^ i + r.1, r.2)

/-! ### What a port sends -/

/-- Blocks appended to a port's stream. -/
def pushBlks (bs : List Blk) (t : Port) : Port := { t with txq := t.txq ++ bs.map .blk }

/-- Blocks per lane of a leader run of 100 fc (R291). -/
def runLen (rate : Bool) : Nat := if rate then 196 else 79

/-- A leader run of 100 fc queued, TSEQ counting its blocks. -/
def pushRun (phase : Nat) (t : Port) : Port :=
  { t with txq := t.txq ++ (List.range (runLen t.rate)).map (fun k => TxItem.lead phase k) }

/-- Lanes that a port of a width code uses, as a count; the lanes as a mask. -/
def laneCount (w : Nat) : Nat := if w = 0 then 1 else if w = 1 then 2 else 4
def laneMask (w : Nat) : BitVec 4 := if w = 0 then 1 else if w = 1 then 3 else 0xF

/-- Lane enables of a port (R65, R290): its lanes from the enable until it reads OFF. -/
def laneEn (t : Port) : BitVec 4 := if t.st == .off then 0 else laneMask t.width

/-- Logical lane that physical lane `l` carries (R292). -/
def logicalLane (t : Port) (l : Nat) : Nat := (t.laneMap.toNat / 4 ^ l) % 4

/-- Logical lanes below `n` each have a physical lane with lock and identity. -/
def lanesReady (t : Port) (n : Nat) : Bool :=
  (List.range n).all (fun k => (List.range (laneCount t.width)).any (fun l => t.locked.getLsbD l && logicalLane t l == k))

/-- The lanes are aligned: the TSEQ seen last on each differ by 32 blocks at most (R292). -/
def deskewed (t : Port) : Bool :=
  let seqs := t.rseq.map (·.2)
  seqs.all (fun a => seqs.all (fun b => let d := (a + 65536 - b) % 65536; decide (d ≤ 32) || decide (65504 ≤ d)))

/-- Phase of the leader that a port sends without end in its state (R290, R294, R298); none where it sends a stream or nothing. -/
def leadPhase (t : Port) : Option Nat :=
  match t.st with
  | .detect => some 0 | .train => some 1 | .lock => some 2
  | .idle => if t.exiting then some 5 else none
  | .caps | .active | .absent | .off => none

/-- The transmitters are in electrical idle (R65, R290, R294, R298). -/
def quiet (t : Port) : Bool :=
  !t.test && (match t.st with | .off | .absent => true | .idle => !t.exiting && t.txq.isEmpty | _ => false)

/-- The leader block of lane `l`, which carries logical lane `l` of the sender. -/
def ownLeader (p l phase tseq : Nat) (t : Port) : Blk :=
  leaderBlk { inverted := false, lane := l, width := t.widthUse, spine := decide (p < 2), phase := phase,
              rxLocked := lanesReady t (laneCount t.widthUse), deskewed := deskewed t, tseq := tseq % 65536 }

/-- One block for each lane of the port in use: a leader of a run, a leader of the state, or the next blocks of the stream with IDLE
where it has run dry (R285, R297). -/
def nextBlks (p : Nat) (t : Port) : List Blk × Port :=
  let lanes := List.range (laneCount t.widthUse)
  match t.txq, leadPhase t with
  | .lead ph k :: rest, _ => (lanes.map (fun l => ownLeader p l ph k t), { t with txq := rest, tseq := 0 })
  | _, some ph => (lanes.map (fun l => ownLeader p l ph t.tseq t), { t with tseq := (t.tseq + 1) % 65536 })
  | _, none =>
    lanes.foldl (fun (acc : List Blk × Port) _ =>
      let u := acc.2
      let (b, q) := match u.txq with
        | .blk b :: rest => (b, rest)
        | q => (idleBlk, q)
      let r := scrBlk b u.scr
      (acc.1 ++ [r.1], { u with txq := q, scr := r.2 })) ([], { t with tseq := 0 })

/-- A block of the pattern with the bit inverted that an injected error asks for on its lane. -/
def injected (inj : List (Nat × Nat)) (l : Nat) (b : Blk) : Blk :=
  match inj.find? (fun e => e.1 == l) with
  | some e => b ^^^ BitVec.ofNat 66 (2 ^ (e.2 % 66))
  | none => b

/-- The test pattern on every configured lane while GEN_EN is 1; its generators start from all ones (log 150). -/
def testBlks (t : Port) : List Blk × Port :=
  let long := !bitAt t.prbsCtl 5
  if !bitAt t.prbsCtl 7 then ((List.range (laneCount t.width)).map (fun _ => 0), t)
  else
    let r := (List.range (laneCount t.width)).foldl (fun (acc : List Blk × Port) l =>
      let r := prbsFill long 66 0 (smGet (BitVec.allOnes 31) acc.2.gen l)
      (acc.1 ++ [injected t.inj l (BitVec.ofNat 66 r.1)], { acc.2 with gen := smSet (BitVec.allOnes 31) acc.2.gen l r.2 })) ([], t)
    (r.1, { r.2 with inj := [] })

/-- One fc of a port: pulses of fab_rx_slip end and what the receive buses carried is past; the SerDes takes 0 to 2 blocks of each
lane, evenly at the lane rate, 125/64 or 50/64 blocks per fc (R66; log 149, DESIGN CHOICE). -/
def portTx (p : Nat) (t0 : Port) : Port :=
  let t := { t0 with slip := 0, rxCnt := [] }
  if quiet t || t.rdy &&& laneEn t == 0 then { t with eidle := if quiet t then 0xF else ~~~laneEn t, take := 0, tx := [] }
  else
    let acc := t.txAcc + (if t.rate then 125 else 50)
    let n := acc / 64
    let rows := (List.range n).foldl (fun (acc : List (List Blk) × Port) _ =>
      let r := if t.test then testBlks acc.2 else nextBlks p acc.2
      (acc.1 ++ [r.1], r.2)) ([], { t with txAcc := acc % 64, take := n, eidle := ~~~laneEn t })
    { rows.2 with tx := (List.range (laneCount t.width)).map (fun l => mkBus (rows.1.map (fun bs => bs.getD l 0))) }

end Sys2Proof.Machine
end

