-- ==== Sys2Proof/Machine/Net.lean ====
section
/-!
DEFINITION. Sending on the fabric: message bytes and MACs (R286–R289), routes (R304, R305), the PEER event and its log
(R321), steering needs (R73, R74, R318), and the degraded causes that raise them (R84).
-/
namespace Sys2Proof.Machine

def portOf (s : State) (n : Nat) : Port := smGet .reset s.fab.ports n
def setPort (n : Nat) (p : Port) (s : State) : State :=
  { s with fab := { s.fab with ports := smSet .reset s.fab.ports n p } }
def modPort (n : Nat) (f : Port → Port) (s : State) : State := setPort n (f (portOf s n)) s
def peerOf (s : State) (a : Nat) : Peer := smGet .reset s.fab.peers a
def setPeer (a : Nat) (p : Peer) (s : State) : State :=
  { s with fab := { s.fab with peers := smSet .reset s.fab.peers a p } }
def modPair (f : Pair → Pair) (s : State) : State := { s with fab := { s.fab with pair := f s.fab.pair } }

/-- MEMBER relation (R305). -/
def isMember (s : State) (a : Nat) : Bool := (peerOf s a).reach && (peerOf s a).quar == 0

/-- FAB_CLASS of block version 2.4 (R4). -/
def fabClass : Nat := 0x03

/-- Fields of FAB_CFG. -/
def cfgAutoYield (s : State) : Bool := bitAt s.fab.cfg 41
def cfgCmdEn (s : State) : Bool := bitAt s.fab.cfg 40
def cfgTtl (s : State) : Nat := fld s.fab.cfg 32 8

/-- The fabric ICK (R289); empty with no fabric key. -/
def fabIck (s : State) : List Byte :=
  match s.fab.ickKid with
  | some kid => (match kidSlot s kid with | some n => keyAt s n | none => [])
  | none => []

/-- KEY_CHECK (R293). -/
def keyCheck (s : State) : W64 :=
  if s.fab.ickKid.isNone then 0 else BitVec.ofNat 64 (beNat ((Config.cmac (fabIck s) (List.replicate 16 0)).take 8))

/-- TYPE of a message (R287). -/
def msgTyp : FabMsg → Nat
  | .hello _ => 0x01 | .lsa _ => 0x02 | .timeReq => 0x03 | .timeResp _ _ _ => 0x04 | .caps _ => 0x0C
  | .leaseReq _ => 0x10 | .leaseGrant _ => 0x11 | .leaseSync _ => 0x12 | .leaseSyncAck _ => 0x13
  | .mirrorTx _ => 0x20 | .mirrorRx _ => 0x21 | .mirrorQuery _ => 0x22 | .mirrorReply _ => 0x23
  | .pairHello _ => 0x30 | .pairHb _ => 0x31 | .markMerge _ _ => 0x32 | .mergeAck => 0x33 | .yieldNote => 0x34
  | .cutOffer _ => 0x40 | .cutAck _ => 0x41 | .cutAbort _ => 0x42 | .cmd _ _ => 0x50 | .reply _ _ => 0x51

/-- Messages of hop or flood scope cross one link at a time (R287). -/
def msgIsHop (m : FabMsg) : Bool :=
  match msgTyp m with
  | 0x01 | 0x02 | 0x03 | 0x04 | 0x0C => true
  | _ => false

/-- Messages marked MAC (R287). -/
def msgHasMac (m : FabMsg) : Bool := !(msgTyp m == 0x01 || msgTyp m == 0x0C)

/-- A number for an optional address: 0 for none, 0x80 + address. -/
def optAddr (a : Option Nat) : Nat := match a with | some x => 0x80 + x | none => 0

/-- Body of a lease message without its MAC word (R288). -/
def leaseReqBytes (m : LeaseReq) : List Byte :=
  beBytes 1 m.home ++ beBytes 2 m.sa ++ beBytes 1 m.req ++ beBytes 2 m.rid ++ beBytes 2 m.epoch
def leaseGrantBytes (m : LeaseGrant) : List Byte :=
  beBytes 1 m.home ++ beBytes 2 m.sa ++ beBytes 1 m.req ++ beBytes 2 m.rid ++ beBytes 1 m.status ++ [0]
    ++ beBytes 8 m.start ++ beBytes 8 m.stop
def leaseSyncBytes (m : LeaseSync) : List Byte :=
  beBytes 1 m.home ++ beBytes 2 m.sa ++ [0] ++ beBytes 2 m.epoch ++ [0, 0] ++ beBytes 8 m.mark

/-- Body of HELLO (R301) and CAPS (R293). -/
def helloBytes (m : Hello) : List Byte :=
  beBytes 8 m.id.toNat ++ beBytes 1 (optAddr m.addr) ++ beBytes 1 m.cls ++ beBytes 1 m.port
    ++ beBytes 1 (128 * bn m.unsync + 64 * bn m.paired) ++ [0, 0, 0, 0]
def capsBytes (m : Caps) : List Byte :=
  beBytes 8 m.id.toNat ++ beBytes 1 m.cls ++ beBytes 1 m.major ++ beBytes 1 m.minor ++ beBytes 1 (optAddr m.addr)
    ++ beBytes 1 (32 * m.port + 8 * m.width + 4 * bn m.rate + 2 * bn m.spine + bn m.rcvd) ++ beBytes 1 m.prio
    ++ beBytes 1 (128 * bn m.hasKey + 64 * bn m.unsync + 32 * bn m.paired) ++ [0] ++ beBytes 8 m.keyCheck.toNat

/-- Records of MIRROR_TX and MIRROR_RX (R313). -/
def mirTxBytes (r : MirTx) : List Byte :=
  beBytes 2 (32768 * bn r.current + 16384 * bn r.valid + r.sa) ++ beBytes 2 r.link ++ beBytes 4 r.batch ++ beBytes 8 r.pn
def mirRxBytes (r : MirRx) : List Byte :=
  beBytes 2 (4096 * r.an + r.link) ++ beBytes 8 r.sci.toNat ++ beBytes 8 r.low ++ [0, 0]

/-- Body of a message without its MAC word, in the layouts the spec gives; other bodies are uninterpreted encodings of
their fields (log 9). -/
def msgBody : FabMsg → List Byte
  | .hello m => helloBytes m
  | .caps m => capsBytes m
  | .leaseReq m => leaseReqBytes m
  | .leaseGrant m => leaseGrantBytes m
  | .leaseSync m => leaseSyncBytes m
  | .leaseSyncAck m => leaseSyncBytes m
  | .mirrorTx rs => rs.flatMap mirTxBytes
  | .mirrorRx rs => rs.flatMap mirRxBytes
  | .cmd h ws => wordsBytes (h :: ws)
  | .reply h ws => wordsBytes (h :: ws)
  | .lsa m => Config.fields 0x02
      ([optAddr m.addr, m.id.toNat, m.seq, optAddr m.partner, optAddr m.home, m.cls, m.keyCheck.toNat, m.prio, bn m.unsync]
        ++ m.adjs.flatMap (fun a => [a.addr, a.port, a.width, bn a.rate]))
  | .timeReq => Config.fields 0x03 []
  | .timeResp t2 t3 o => Config.fields 0x04 [t2, t3, o.toNat, (-o).toNat]
  | .mirrorQuery rs => Config.fields 0x22 (rs.flatMap (fun r => [r.an, r.link, r.sci.toNat]))
  | .mirrorReply rs => Config.fields 0x23 (rs.flatMap (fun r => [r.an, r.link, r.sci.toNat, r.low]))
  | .pairHello m => Config.fields 0x30 (m.epoch :: m.digest.map (·.toNat))
  | .pairHb m => Config.fields 0x31 [m.epoch, m.digest.toNat, m.deg.toNat, bn m.unsync, m.batch]
  | .markMerge rs l => Config.fields 0x32 (bn l :: rs.flatMap (fun r => [r.sa, bn r.xpn, r.mark]))
  | .mergeAck => Config.fields 0x33 []
  | .yieldNote => Config.fields 0x34 []
  | .cutOffer m => Config.fields 0x40 ([m.home, m.sa, m.an, m.t] ++ m.key.map (·.toNat))
  | .cutAck m => Config.fields 0x41 [m.home, m.sa, m.an, m.status.toNat]
  | .cutAbort m => Config.fields 0x42 [m.home, m.sa, m.an]

/-- LEN of a message in 8-byte words (R286). -/
def msgLen (m : FabMsg) : Nat := ((msgBody m).length + 7) / 8 + bn (msgHasMac m)

/-- SOM bytes 1–7 (R286). -/
def somBytes (h : MsgHdr) (m : FabMsg) : List Byte :=
  beBytes 1 (msgLen m) ++ beBytes 1 (msgTyp m) ++ beBytes 1 (optAddr h.src) ++ beBytes 1 (128 * bn h.hop + h.dst)
    ++ beBytes 1 h.ttl ++ beBytes 2 h.lseq

/-- The MAC word of a message under the fabric ICK (R287). -/
def msgMac (s : State) (h : MsgHdr) (m : FabMsg) : W64 :=
  if msgHasMac m then BitVec.ofNat 64 (beNat ((Config.cmac (fabIck s) (somBytes h m ++ msgBody m)).take 8)) else 0

/-- The blocks of a message: SOM, its body with the MAC word in 8-byte words, EOM with the CRC-32C over SOM bytes 1–7 and the body (R286). -/
def msgBlks (h : MsgHdr) (m : FabMsg) : List Blk :=
  let words := (msgBody m).length / 8 + bn ((msgBody m).length % 8 != 0)
  let body := slice (msgBody m) 0 (8 * words) ++ (if msgHasMac m then beBytes 8 h.mac.toNat else [])
  [ctlBlk 0x55 (somBytes h m)] ++ (List.range (msgLen m)).map (fun k => dataBlk (slice body (8 * k) 8))
    ++ [ctlBlk 0x66 (beBytes 4 (crc32c (somBytes h m ++ body)).toNat)]

/-- Send a message of an originator on a port that is ACTIVE, or in CAPS for the capability exchange; every link has its own
LSEQ, and the MAC covers it (R286, R287). -/
def sendFrom (src : Option Nat) (p dst ttl : Nat) (m : FabMsg) (s : State) : State :=
  let pt := portOf s p
  if pt.st == .active || (pt.st == .caps && msgTyp m == 0x0C) then
    let h0 : MsgHdr :=
      { port := p, src := src, hop := msgIsHop m, dst := if msgIsHop m then 0 else dst, ttl := ttl, lseq := pt.lseq % 65536, mac := 0 }
    let h := { h0 with mac := msgMac s h0 m }
    telBump 0x1D7 1 none (emit (.fab h m) (quePass (16 + p) 1
      (setPort p (pushBlks (msgBlks h m) { pt with lseq := (pt.lseq + 1) % 65536 }) s)))
  else s

/-- Send an own message on a port. -/
def sendPort (p dst ttl : Nat) (m : FabMsg) (s : State) : State := sendFrom s.fab.addr p dst ttl m s

/-- Send a hop message to the neighbour on a port. -/
def sendHop (p : Nat) (m : FabMsg) (s : State) : State := sendPort p 0 (cfgTtl s) m s

/-- Send a routed message; without a route it is dropped and counted (R304); without an own address nothing is sent
(R303). -/
def sendTo (dst : Nat) (m : FabMsg) (s : State) : State :=
  if s.fab.addr.isNone then s
  else if isMember s dst && (portOf s (peerOf s dst).nextPort).st == .active then
    sendPort (peerOf s dst).nextPort dst (cfgTtl s) m s
  else bump 0x60 none s

/-- The ACTIVE ports. -/
def activePorts (s : State) : List Nat := (List.range 8).filter (fun p => (portOf s p).st == .active)

/-- The PEER event of a port with its cause, logged (R321); it affects the SecYs of the pair set (R378). -/
def peerEvent (port cause : Nat) (peer : Option Nat) (s : State) : State :=
  let w := put cause 60 4 ||| put port 57 3 ||| putB peer.isSome 54 ||| put (peer.getD 0) 48 6 ||| put (now s) 0 48
  raiseL .fab (4 * port + 3) s.fab.pair.set { s with fab := { s.fab with peerLog := w } }

/-- Port of the route toward an engine; FP0 without one (R321). -/
def peerPort (s : State) (a : Option Nat) : Nat :=
  match a with
  | some x => if (peerOf s x).reach then (peerOf s x).nextPort else 0
  | none => 0

/-- A PEER event that concerns the partner. -/
def partnerEvent (cause : Nat) (s : State) : State :=
  peerEvent (peerPort s s.fab.pair.partner) cause s.fab.pair.partner s

/-! Steering. -/

/-- The steering needs, changed. -/
def modSteer (f : Steer → Steer) (s : State) : State := { s with fab := { s.fab with steer := f s.fab.steer } }

/-- A request raised with its code and the partner (R72, R73). -/
def steerRaise (code : BitVec 2) (s : State) : State :=
  modSteer (fun t => { t with req := true, code := code, peer := s.fab.pair.partner.getD 0 }) s

/-- Raise a held need once the port is at rest: TAKE before YIELD (R74). In DOZE a TAKE waits for the wake (R315); in LOCKOUT the fabric
asks for nothing (R89). -/
def steerPump (s : State) : State :=
  let t := s.fab.steer
  if t.req || t.ack || s.fab.pair.partner.isNone || s.glb.mode == .lockout then s
  else if t.needTake && s.glb.mode != .doze then steerRaise 0b01 (modSteer (fun t => { t with needTake := false }) s)
  else if t.needYield then steerRaise 0b10 (modSteer (fun t => { t with needYield := false, handover := false }) s)
  else s

/-- A need for TAKE. -/
def steerTake (s : State) : State := steerPump (modSteer (fun t => { t with needTake := true }) s)

/-- A need for YIELD, by the handover request or by a cause: the partner is told first (R318). -/
def steerYield (handover : Bool) (s : State) : State :=
  match s.fab.pair.partner with
  | some p =>
    steerPump (modSteer (fun t => { t with needYield := true, handover := t.handover || handover }) (sendTo p .yieldNote s))
  | none => s

/-- The causes that AUTO_YIELD heeds: LANE_EGR, LANE_ING, CXM_PORT, JNL_RO (R318). -/
def yieldMask : BitVec 8 := 0x53

/-- Held needs whose cause is gone are dropped (R74): a YIELD once no cause that AUTO_YIELD heeds is set, unless the handover request
asked for it; a TAKE once this engine no longer stands for a lost partner. -/
def steerDrop (s : State) : State :=
  modSteer (fun t => { t with
    needYield := t.needYield && (t.handover || (s.glb.deg &&& yieldMask) != 0)
    needTake := t.needTake && s.fab.pair.takenOver }) s

/-! Degraded causes (R84). -/

/-- Set a cause; PROTECT becomes DEGRADED; AUTO_YIELD may hand the traffic over. -/
def setDeg (b : Nat) (s : State) : State :=
  let s1 := { s with glb := { s.glb with deg := s.glb.deg ||| BitVec.ofNat 8 (2 ^ b) } }
  let s2 := if s1.glb.mode == .protect then setMode .degraded 3 s1 else s1
  let fresh := !s.glb.deg.getLsbD b
  if fresh && yieldMask.getLsbD b && cfgAutoYield s && s.fab.pair.partner.isSome && (s.fab.pair.peerDeg &&& yieldMask) == 0 then
    steerYield false s2
  else s2

/-- Clear a cause; DEGRADED without causes becomes PROTECT; a YIELD held for a cause that is gone is dropped (R74). -/
def clrDeg (b : Nat) (s : State) : State :=
  let s1 := { s with glb := { s.glb with deg := s.glb.deg &&& ~~~BitVec.ofNat 8 (2 ^ b) } }
  let s2 := if s1.glb.mode == .degraded && s1.glb.deg == 0 then setMode .protect 4 s1 else s1
  let s3 := if b = 0 then { s2 with egr := { s2.egr with shed := 0 } }
            else if b = 1 then { s2 with ing := { s2.ing with shed := 0 } } else s2
  steerDrop s3

end Sys2Proof.Machine
end

