-- ==== Sys2Proof/Machine/JnlOps.lean ====
section
/-!
DEFINITION. The journal (R188–R195, R424): records and cells, what is live, the work that waits and the choice and issue
of the next record.
-/
namespace Sys2Proof.Machine

def jslot (s : State) (n : Nat) : JSlot := smGet .reset s.jnl.slots n
def setJslot (n : Nat) (v : JSlot) (s : State) : State :=
  { s with jnl := { s.jnl with slots := smSet .reset s.jnl.slots n v } }

/-! Records (R189–R191). -/

/-- Kind of cell `c` of an ENTRY. -/
def cellKind (obj : BitVec 16) (c : Nat) : Nat := (obj.toNat >>> (4 * c)) % 16

/-- Bytes 0–55 of a record. -/
def recHead (r : JRec) : List Byte :=
  beBytes 1 r.typ ++ [0x01] ++ beBytes 2 r.obj.toNat ++ beBytes 4 r.wcnt ++ beBytes 8 r.seq ++ slice r.payload 0 40

/-- TAG over the slot number and bytes 0–55. -/
def recTag (key : List Byte) (slot : Nat) (head : List Byte) : List Byte := (Config.cmac key (beBytes 2 slot ++ head)).take 8

/-- A record's 64 bytes in a slot. -/
def recBytes (key : List Byte) (slot : Nat) (r : JRec) : List Byte := recHead r ++ recTag key slot (recHead r)

/-- The fields of 64 bytes. -/
def recFields (bs : List Byte) : JRec :=
  { typ := beNat (slice bs 0 1), obj := BitVec.ofNat 16 (beNat (slice bs 2 2)), wcnt := beNat (slice bs 4 4),
    seq := beNat (slice bs 8 8), payload := slice bs 16 40 }

/-- A defined TYPE, and for an ENTRY no reserved cell kind. -/
def recTypeOk (r : JRec) : Bool :=
  decide (1 ≤ r.typ) && decide (r.typ ≤ 8) && (r.typ != 1 || (List.range 4).all (fun c => decide (cellKind r.obj c ≤ 8)))

/-- The valid record that a slot's bytes hold: TAG, FMT, TYPE (R189). -/
def readRec (key : List Byte) (slot : Nat) (bs : List Byte) : Option JRec :=
  if bs.length = 64 ∧ bs.drop 56 = recTag key slot (bs.take 56) ∧ beNat (slice bs 1 1) = 1 ∧ recTypeOk (recFields bs) = true then
    some (recFields bs) else none

/-- A copy of a cell in a slot. -/
structure JCopy where
  slot : Nat
  seq : Nat
  pos : Nat
  kind : Nat
  index : Nat
  value : W64
deriving DecidableEq, Repr

/-- The cells of a record, EMPTY ones left out. -/
def recCells (slot : Nat) (r : JRec) : List JCopy :=
  if r.typ = 1 then
    ((List.range 4).map (fun c =>
      { slot := slot, seq := r.seq, pos := c, kind := cellKind r.obj c, index := beNat (slice r.payload (10 * c) 2),
        value := BitVec.ofNat 64 (beNat (slice r.payload (10 * c + 2) 8)) : JCopy })).filter (fun c => c.kind != 0)
  else []

/-- An ENTRY's object and payload for up to four cells (kind, index, value). -/
def entryObj (cs : List (Nat × Nat × W64)) : BitVec 16 :=
  BitVec.ofNat 16 ((cs.take 4).foldr (fun c acc => c.1 % 16 + 16 * acc) 0)
def entryPayload (cs : List (Nat × Nat × W64)) : List Byte :=
  slice ((cs.take 4).flatMap (fun c => beBytes 2 c.2.1 ++ beBytes 8 c.2.2.toNat)) 0 40

/-- MARK32 and MARK64 of an index speak of one mark, as PMARK32 and PMARK64 do (log 12). -/
def kindClass (k : Nat) : Nat := if k = 2 then 1 else if k = 4 then 3 else k

/-- What a copy speaks of: a DROP, of the cell it drops. -/
def JCopy.obj (c : JCopy) : Nat × Nat := (kindClass (if c.kind = 8 then c.value.toNat % 16 else c.kind), c.index)

/-- `a` is later than `b` by (SEQ, cell position). -/
def JCopy.after (a b : JCopy) : Bool := decide (b.seq < a.seq) || (decide (b.seq = a.seq) && decide (b.pos < a.pos))

/-- Valid records of the slots that are not retired. -/
def validRecs (s : State) : List (Nat × JRec) :=
  s.jnl.slots.filterMap (fun e => if e.2.retired then none else e.2.record.map (fun r => (e.1, r)))

/-- Every cell copy. -/
def copies (s : State) : List JCopy := (validRecs s).flatMap (fun e => recCells e.1 e.2)

/-- The latest copies, one for each object. -/
def latestCopies (s : State) : List JCopy :=
  let cs := copies s
  cs.filter (fun c => cs.all (fun d => d.obj != c.obj || !d.after c))

/-- An image piece of the committed image or of the one being written. -/
def pieceLive (s : State) (c : JCopy) : Bool :=
  let of := fun (m : Option Image) => match m with
    | some im => decide (c.kind = 6 + im.gen % 2) && decide (c.index < im.words.length)
    | none => false
  of s.jnl.image || of s.jnl.imgWr

/-- A latest copy is live: a DROP while a copy of the cell that it drops remains, a piece while its image counts, every
other cell always (R191). -/
def cellLive (s : State) (c : JCopy) : Bool :=
  if c.kind = 8 then (copies s).any (fun d => d.obj == c.obj && d.kind != 8)
  else if c.kind = 6 ∨ c.kind = 7 then pieceLive s c
  else true

/-- The live cells. -/
def liveCells (s : State) : List JCopy := (latestCopies s).filter (cellLive s)

/-- The newest copy of a record equal in TYPE, OBJ and PAYLOAD (R190). -/
def newestCopy (s : State) (r : JRec) : Nat :=
  (validRecs s).foldl (fun m e =>
    if e.2.typ = r.typ ∧ e.2.obj = r.obj ∧ e.2.payload = r.payload then Nat.max m e.2.seq else m) r.seq

/-- SEQ of the newest record of a type for an object, 0 with none. -/
def newestSeq (s : State) (typ : Nat) (obj : BitVec 16) : Nat :=
  (validRecs s).foldl (fun m e => if e.2.typ = typ ∧ e.2.obj = obj then Nat.max m e.2.seq else m) 0

/-- Every SEQ that a record and its copies carry. -/
def copySeqs (s : State) (r : JRec) : List Nat :=
  (validRecs s).filterMap (fun e =>
    if e.2.typ = r.typ ∧ e.2.obj = r.obj ∧ e.2.payload = r.payload then some e.2.seq else none)

/-- Some record of type `typ` names one of these SEQs in its first eight bytes (R236). -/
def namedBy (s : State) (typ : Nat) (seqs : List Nat) : Bool :=
  (validRecs s).any (fun e => e.2.typ == typ && seqs.contains (beNat (slice e.2.payload 0 8)))

/-- The SEQ of the newest PAIR or partner BULK. -/
def newestPair (s : State) : Nat :=
  (validRecs s).foldl (fun m e =>
    if e.2.typ = 7 ∨ (e.2.typ = 2 ∧ beNat (slice e.2.payload 0 1) = 1) then Nat.max m e.2.seq else m) 0

/-- A whole record is live (R190): the newest copy of itself, and by its type. -/
def wholeLive (s : State) (r : JRec) : Bool :=
  decide (newestCopy s r = r.seq) &&
  (match r.typ with
   | 2 =>
     let partner := beNat (slice r.payload 0 1) = 1
     (latestCopies s).any (fun c => decide (c.seq < r.seq) &&
       (if partner then c.kind == 3 || c.kind == 4 else c.kind == 1 || c.kind == 2))
   | 3 =>
     decide (newestSeq s 3 r.obj = r.seq) && !namedBy s 4 (copySeqs s r) &&
       (s.glb.mode == .cold || (match txOf s r.obj.toNat with | some a => a.blob == r.payload | none => false))
   | 4 => decide (newestSeq s 4 r.obj = r.seq) && !namedBy s 5 (copySeqs s r)
   | 6 => (validRecs s).all (fun e => e.2.typ != 6 || decide (e.2.seq ≤ r.seq))
   | 7 => decide (newestPair s = r.seq)
   | _ => false)

/-- The live whole records with their slots. -/
def liveWholes (s : State) : List (Nat × JRec) := (validRecs s).filter (fun e => wholeLive s e.2)

/-- Capacity C (R192). -/
def jnlCap (s : State) : Nat := 2 * (liveSlots s - 16 - (liveWholes s).length)

/-! The ring (R188, R193, R195). -/

/-- ENDURANCE. -/
def endurance (s : State) : Nat := fld s.jnl.endurance 0 33

/-- Writes to a slot so far. -/
def slotWrites (s : State) (n : Nat) : Nat := (jslot s n).wcnt.getD 0

/-- The next slot from `p` on that is not retired. -/
def nextLive (s : State) (p : Nat) : Nat :=
  ((firstFrom (fun i => !(jslot s ((p + i) % 4096)).retired) 0 4096).map (fun i => (p + i) % 4096)).getD p

/-- Live cells and live whole records whose latest copy lies in slot `n`. -/
def cellsIn (s : State) (n : Nat) : List JCopy := (liveCells s).filter (fun c => c.slot == n)
def wholeIn (s : State) (n : Nat) : Option JRec := ((liveWholes s).find? (fun e => e.1 == n)).map (·.2)

/-- The lap on which the ring comes to slot `n` next: it wraps from 4,095 to 0. -/
def lapOf (s : State) (n : Nat) : Nat := if n < s.jnl.ptr then s.jnl.lap + 1 else s.jnl.lap

/-- A slot that may be overwritten now: live, not skipped on its lap, nothing live in it. -/
def slotFree (s : State) (n : Nat) : Bool :=
  let v := jslot s n
  !v.retired && v.skip != some (lapOf s n) && (cellsIn s n).isEmpty && (wholeIn s n).isNone

/-- The slot of the next write: from the pointer on, the first that may be overwritten (log 13). -/
def writeSlot (s : State) : Nat :=
  ((firstFrom (fun i => slotFree s ((s.jnl.ptr + i) % 4096)) 0 4096).map (fun i => (s.jnl.ptr + i) % 4096)).getD s.jnl.ptr

/-! Work (R424). -/

/-- Work in the order it is taken: by step, then by request. -/
def workOrder (ws : List JWork) : List JWork := (List.range 6).flatMap (fun k => ws.filter (fun w => w.step == k))

/-- Work that is a cell. -/
def JWork.isCell (w : JWork) : Bool :=
  match w.body with
  | .cell _ _ _ => true
  | .whole _ _ _ => false

/-- Add work; it waits for its turn. -/
def jAdd (step : Nat) (body : JBody) (done : JDone) (s : State) : State :=
  { s with jnl := { s.jnl with
      work := s.jnl.work ++ [{ id := s.jnl.nextWork, step := step, body := body, done := done }],
      nextWork := s.jnl.nextWork + 1 } }

/-- The payload of a whole record as it is written: a COMMIT names its INTENT's newest copy, a CUT_DONE its COMMIT's
(R190, R236). -/
def stampPayload (s : State) (typ : Nat) (obj : BitVec 16) (payload : List Byte) : List Byte :=
  if typ = 4 then
    beBytes 8 (Nat.max (newestSeq s 3 obj) (match smGet none s.tx obj.toNat with | some a => a.intentSeq | none => 0)) ++ payload.drop 8
  else if typ = 5 then beBytes 8 (newestSeq s 4 obj) ++ payload.drop 8
  else payload

/-- A mark as a cell value: 2^64 is written as 0 (R173). -/
def markVal (m : Nat) : W64 := BitVec.ofNat 64 m

/-- A cell value as a mark. -/
def valMark (k : Nat) (v : W64) : Nat := if v = 0 ∧ (k = 2 ∨ k = 4) then 2 ^ 64 else v.toNat

/-- The current value of a cell that is carried: of a mark what the tables hold where a BULK has raised it since its copy (R182, R191). -/
def carriedValue (s : State) (c : JCopy) : W64 :=
  let m := if c.kind = 1 ∨ c.kind = 2 then smGet 0 s.jnl.hw c.index
    else if (c.kind = 3 ∨ c.kind = 4) ∧ c.index < 0x8000 then smGet 0 s.jnl.pmark c.index else 0
  if valMark c.kind c.value < m then markVal m else c.value
def JCopy.carried (s : State) (c : JCopy) : Nat × Nat × W64 := (c.kind, c.index, carriedValue s c)

/-- Live cells of other slots, those that the ring overwrites soonest first. -/
def carryOrder (s : State) (from_ : Nat) : List JCopy :=
  let cs := liveCells s
  (cs.filter (fun c => decide (from_ ≤ c.slot))) ++ (cs.filter (fun c => decide (c.slot < from_)))

/-- The record that goes to slot `t`, with the work it carries: a RETIRE for a worn slot; the copy of a live whole record
that the next slot holds; otherwise the carried cells that must move and the first waiting work (R424). -/
def chooseRec (s : State) (t : Nat) : Option (Nat × BitVec 16 × List Byte × List JWork) :=
  let t1 := nextLive s ((t + 1) % 4096)
  let order := workOrder s.jnl.work
  if order.isEmpty then none
  else if endurance s ≤ slotWrites s t + 1 then some (8, 0, [], [])
  else match wholeIn s t1 with
  | some r => some (r.typ, r.obj, r.payload, [])
  | none =>
    let forced := (cellsIn s t1).take 4
    match order with
    | w :: _ =>
      if forced.isEmpty && !w.isCell then
        match w.body with
        | .whole typ obj payload => some (typ, obj, stampPayload s typ obj payload, [w])
        | .cell _ _ _ => none
      else
        let new := (order.filter JWork.isCell).take (Nat.min 2 (4 - forced.length))
        let newCells := new.filterMap (fun w => match w.body with | .cell k i v => some (k, i, v) | .whole _ _ _ => none)
        let objs := newCells.map (fun c => (kindClass (if c.1 = 8 then c.2.2.toNat % 16 else c.1), c.2.1))
        let fill := (carryOrder s t1).filter (fun c => !forced.contains c && !objs.contains c.obj)
        let carried := (forced.filter (fun c => !objs.contains c.obj) ++ fill).map (JCopy.carried s)
        let cells := newCells ++ carried.take (4 - newCells.length)
        some (1, entryObj cells, entryPayload cells, new)
    | [] => none

/-- Issue a record to slot `t` (R59, R188): SEQ rises, the pointer moves on to the next live slot, on the next lap where it wraps. -/
def jWrite (t : Nat) (typ : Nat) (obj : BitVec 16) (payload : List Byte) (ws : List JWork) (s : State) : State :=
  let r : JRec := { typ := typ, obj := obj, wcnt := slotWrites s t + 1, seq := s.jnl.seq, payload := slice payload 0 40 }
  let ids := ws.map (·.id)
  let key := keyAt s jnlKeySlot
  emit (.jnlWrite t (recBytes key t r)) { s with jnl := { s.jnl with
    work := s.jnl.work.filter (fun w => !ids.contains w.id), seq := s.jnl.seq + 1, ptr := nextLive s ((t + 1) % 4096),
    lap := lapOf s t + bn (decide (nextLive s ((t + 1) % 4096) ≤ t)),
    wr := some { slot := t, lap := lapOf s t, record := r, works := ws, issued := now s } } }

/-- Issue the next record if none is outstanding and one may be written (R60, R194, R424). -/
def jIssue (s : State) : State :=
  if s.jnl.wr.isSome || !s.jnl.resolved || readOnly s then s
  else
    match chooseRec s (writeSlot s) with
    | some (typ, obj, payload, ws) => jWrite (writeSlot s) typ obj payload ws s
    | none => s

/-! Capacity (R192). -/

/-- Cells that the engine's tables hold. -/
def cellsUsed (s : State) : Nat :=
  let img := fun (m : Option Image) => match m with | some im => im.words.length | none => 0
  s.jnl.hw.length + s.jnl.pmark.length + s.jnl.caps.length + s.jnl.floors.length + img s.jnl.image + img s.jnl.imgWr

/-- They and the DROP cells that are live: what is held against C before a new floor or a new image is taken in. Giving way does not count
the DROPs, since each of them takes the place of the cell dropped (log 152). -/
def cellsLive (s : State) : Nat := cellsUsed s + ((liveCells s).filter (fun c => c.kind == 8)).length

/-- The image in an IMAGE_HDR: generation, piece count, digest (R190). -/
def imageDigest (ws : List W64) : List Byte := Config.sha256 (wordsBytes ws)
def imagePayload (gen : Nat) (ws : List W64) : List Byte := beBytes 4 gen ++ beBytes 2 ws.length ++ [0, 0] ++ imageDigest ws

/-- A transmit SA holds a lease (R177). -/
def holdsLease (s : State) (i : Nat) : Bool :=
  match smGet none s.tx i with | some a => a.lease == .one || a.lease == .fetch || a.lease == .two | none => false

/-- The local transmit SA that is the partner's SA of index `k`. -/
def sharedAs (s : State) (k : Nat) : Option Nat :=
  (smKeys s.tx).find? (fun i => match smGet none s.tx i with
    | some a => a.shared && some a.home == s.fab.pair.partner && a.homeSa == k
    | none => false)

/-- The mark to drop, by its key: of an SA without a lease if there is one, of the highest index; keys from 4,096 on are the partner's marks
(R192; log 153: they go first, as the higher keys). -/
def markToDrop (s : State) : Option Nat :=
  let ks := smKeys s.jnl.hw ++ (smKeys s.jnl.pmark).map (4096 + ·)
  let idle := ks.filter (fun k => if k < 4096 then !holdsLease s k else !(sharedAs s (k - 4096)).any (holdsLease s))
  if idle.isEmpty then ks.getLast? else idle.getLast?

/-- A mark is dropped: its DROP cell goes out, and its SA counts as exhausted. -/
def dropMark (k : Nat) (s : State) : State :=
  let s1 := { s with jnl := { s.jnl with dropped := setAdd k s.jnl.dropped } }
  if k < 4096 then
    let kind := if (smGet none s.tx k).any (fun a => isXpn a.suite) then 2 else 1
    jAdd 2 (.cell 8 k kind) .nothing { s1 with jnl := { s1.jnl with hw := smErase s1.jnl.hw k } }
  else
    jAdd 2 (.cell 8 (k - 4096) (if s.jnl.pmark64.contains (k - 4096) then 4 else 3)) .nothing
      { s1 with jnl := { s1.jnl with pmark := smErase s1.jnl.pmark (k - 4096) } }

/-- One capacity drop with its event: a floor, the image, or a mark. -/
def capDrop (s : State) : State :=
  let s1 := raise .jnl 2 { s with jnl := { s.jnl with overCap := true } }
  match (smKeys s1.jnl.floors).getLast? with
  | some i => jAdd 4 (.cell 8 i 5) .nothing { s1 with jnl := { s1.jnl with floors := smErase s1.jnl.floors i } }
  | none =>
    match s1.jnl.image with
    | some im => jAdd 5 (.whole 6 0 (imagePayload (im.gen + 1) [])) .nothing { s1 with jnl := { s1.jnl with image := none } }
    | none =>
      match markToDrop s1 with
      | some k => dropMark k s1
      | none => s1

/-- Drops until the cells fit, at most `fuel` of them. -/
def capDrops : Nat → State → State
  | 0, s => s
  | n + 1, s => if cellsUsed s ≤ jnlCap s then s else capDrops n (capDrop s)

/-- The engine gives way until the cells in use fit C (R192). -/
def capFix (s : State) : State := capDrops (cellsUsed s) s

/-- Every threshold of L applied (R194). -/
def jnlWear (s : State) : State :=
  let s1 := if wornLow s && !s.glb.deg.getLsbD 5 then setDeg 5 s else s
  if readOnly s1 && !s1.glb.deg.getLsbD 6 then setDeg 6 s1 else s1

/-! Tables of marks. -/

/-- The headwater mark held or kept; 0 with none. -/
def hwOf (s : State) (i : Nat) : Nat := smGet 0 s.jnl.hw i
def setHw (i v : Nat) (s : State) : State := { s with jnl := { s.jnl with hw := smSet 0 s.jnl.hw i v } }

/-- Cell kind of a mark by suite. -/
def markKind (suite : Nat) : Nat := if isXpn suite then 2 else 1
def pmarkKind (xpn : Bool) : Nat := if xpn then 4 else 3

/-- Effective grain in log2: the override or the default, doubled while WORN_LOW, capped at 32 (R179). -/
def effGrain (s : State) (g : Nat) : Nat := if wornLow s then Nat.min 32 (g + 1) else g
def grainLog (s : State) (i suite : Nat) : Nat :=
  let o := smGet 0 s.jnl.grainOver i
  effGrain s (if o = 0 then (if isXpn suite then s.jnl.grainXpn else s.jnl.grainPn) else o)

/-- A BULK record's payload (R190). -/
def bulkPayload (scope epoch d32 d64 : Nat) : List Byte :=
  beBytes 2 scope ++ beBytes 2 epoch ++ beBytes 4 0 ++ beBytes 8 d32 ++ beBytes 8 d64 ++ beBytes 16 0

/-- A PAIR record's payload. -/
def pairPayload (addr epoch : Nat) : List Byte := beBytes 1 addr ++ [0] ++ beBytes 2 epoch ++ beBytes 36 0

/-- A COMMIT's payload, its INTENT's SEQ to be stamped (R236). -/
def commitPayload (t cur kid : Nat) : List Byte := beBytes 8 0 ++ beBytes 8 t ++ beBytes 2 cur ++ beBytes 2 kid ++ beBytes 20 0

/-- A CUT_DONE's payload, its COMMIT's SEQ to be stamped. -/
def cutDonePayload (t outcome : Nat) : List Byte := beBytes 8 0 ++ beBytes 8 t ++ beBytes 1 outcome ++ beBytes 23 0

/-- Numbers of waiting or outstanding work that ends in `d`. -/
def workPending (s : State) (p : JDone → Bool) : Bool :=
  s.jnl.work.any (fun w => p w.done) || (match s.jnl.wr with | some w => w.works.any (fun x => p x.done) | none => false)

end Sys2Proof.Machine
end

