-- ==== Sys2Proof/Machine/LeaseOps.lean ====
section
/-!
DEFINITION. Leases: the requester's lease states (R176–R178, R184), the home's grants (R175, R181, R185, R187) and caps
(R316).
-/
namespace Sys2Proof.Machine

/-- Epoch `a` is higher than `b` as serial numbers (R310). -/
def epochAbove (a b : Nat) : Bool :=
  let d := (a + 65536 - b % 65536) % 65536
  decide (1 ≤ d) && decide (d ≤ 32767)

/-- A link of the pair set while the pair stands. -/
def inPairSet (s : State) (link : Nat) : Bool := s.fab.pair.partner.isSome && s.fab.pair.set.contains link

/-- The link of a transmit SA index (R342). -/
def saLink (i : Nat) : Nat := i / 4

/-- The PN space of the SA that a mark's key names (R186: keys from 4,096 on are the partner's). -/
def keyXpn (s : State) (k : Nat) : Bool :=
  if k < 4096 then (match txOf s k with | some a => isXpn a.suite | none => false) else s.jnl.pmark64.contains (k - 4096)
def keyEnd (s : State) (k : Nat) : Nat := if keyXpn s k then 2 ^ 64 else 2 ^ 32

/-- The headwater mark of a key. -/
def markOf (s : State) (k : Nat) : Nat := if k < 4096 then hwOf s k else smGet 0 s.jnl.pmark (k - 4096)
def setMark (k v : Nat) (s : State) : State :=
  if k < 4096 then setHw k v s
  else { s with jnl := { s.jnl with pmark := smSet 0 s.jnl.pmark (k - 4096) v } }

/-- A mark's cell kind and index. -/
def markCell (s : State) (k v : Nat) : JBody :=
  if k < 4096 then .cell (if keyXpn s k then 2 else 1) k (markVal v)
  else .cell (pmarkKind (keyXpn s k)) (k - 4096) (markVal v)

/-- An SA of this engine's own that the pair set holds: the partner may grant for it while it is the pair home (R187, R317). -/
def ownPair (s : State) (i : Nat) : Bool :=
  inPairSet s (saLink i) && (match txOf s i with | some a => !a.shared | none => false)

/-- The cap of a key; 0 for none (R316). -/
def capOf (s : State) (k : Nat) : Nat :=
  if k < 4096 then (if ownPair s k then smGet 0 s.jnl.caps k else 0) else smGet 0 s.jnl.caps (k - 4096)

/-- The end that a grant may reach: the cap of a taken-over SA or the end of the PN space (R316). -/
def grantEnd (s : State) (k : Nat) : Nat := if capOf s k = 0 then keyEnd s k else Nat.min (capOf s k) (keyEnd s k)

/-- The journal holds the cap cell of a taken-over SA, or is about to. -/
def capWritten (s : State) (k : Nat) : Bool :=
  let i := k % 4096 + 0x8000
  (latestCopies s).any (fun c => (c.kind == 3 || c.kind == 4) && c.index == i)
    || s.jnl.work.any (fun w => match w.body with | .cell _ j _ => j == i | .whole _ _ _ => false)

/-- The cap cell goes with the SA's next mark (R316). -/
def capCell (k : Nat) (s : State) : State :=
  if capOf s k = 0 ∨ capWritten s k = true then s
  else jAdd 2 (.cell (pmarkKind (keyXpn s k)) (k % 4096 + 0x8000) (markVal (capOf s k))) .nothing s

/-- This engine grants for its partner's SAs: it took them over, or it is the pair home (R186, R187, R317). -/
def actsForPartner (s : State) : Bool := s.fab.pair.takenOver || (s.fab.pair.formed && s.fab.pair.home)

/-- Grants for a key wait for the exchange of epochs after a start-up (R187). -/
def pairWaits (s : State) (k : Nat) : Bool :=
  s.fab.pair.partner.isSome && s.fab.pair.unsettled && (decide (4096 ≤ k) || inPairSet s (saLink k))

/-- This engine is the home of a key's SA (R175, R187). -/
def isHome (s : State) (k : Nat) : Bool :=
  if k < 4096 then
    (match txOf s k with
     | some a => !a.shared && (!inPairSet s (saLink k) || !s.fab.pair.formed || s.fab.pair.home)
     | none => false)
  else actsForPartner s && smGet 0 s.jnl.pmark (k - 4096) != 0

/-- The partner is declared lost (R312). -/
def partnerGone (s : State) : Bool := s.fab.pair.formed && !s.fab.pair.live

/-- Grants for a key need the partner's acknowledge: the home is paired and the fabric has not declared the partner lost (R185). -/
def needsSync (s : State) (k : Nat) : Bool :=
  s.fab.pair.partner.isSome && !partnerGone s && (decide (4096 ≤ k) || inPairSet s (saLink k))

/-- The local transmit SA of a key. -/
def localOf (s : State) (k : Nat) : Option Nat :=
  if k < 4096 then some k
  else
    match sharedAs s (k - 4096) with
    | some i => some i
    | none => if ownPair s (k - 4096) then some (k - 4096) else none

/-- The engine that grants for the SAs homed at address `o`: the pair home that the LSAs name (R317). -/
def homeEngine (s : State) (o : Nat) : Nat :=
  match s.fab.lsdb.find? (fun l => (l.partner == some o || l.addr == some o) && l.home.isSome) with
  | some l => l.home.getD o
  | none => o

/-- The prefetch point of a lease (R178). -/
def prefetchPoint (l : Lease) : Nat := l.start + (l.stop - l.start) / 2

/-! The requester. -/

/-- Where a request of transmit SA `i` goes: to this engine under a key, or to another engine. -/
inductive LeaseTo
  | here (key : Nat)
  | there (engine home sa : Nat)
deriving DecidableEq, Repr

/-- The home of SA `i` as the fabric names it now. -/
def leaseTo (s : State) (i : Nat) (a : Sa) : LeaseTo :=
  let self := s.fab.addr.getD 0
  if a.shared then
    if some a.home == s.fab.pair.partner && actsForPartner s then .here (4096 + a.homeSa)
    else .there (homeEngine s a.home) a.home a.homeSa
  else if inPairSet s (saLink i) && s.fab.pair.formed && !s.fab.pair.home then .there (s.fab.pair.partner.getD 0) self i
  else .here i

/-- Give SA `i` a grant: WAIT becomes ONE from the lease's start, FETCH becomes TWO (R177); a SecY that is not ON takes none (R176). -/
def leaseGranted (i start stop : Nat) (s : State) : State :=
  match txOf s i with
  | some a =>
    match a.lease with
    | .wait => putTx i { a with lease := .one, cur := ⟨start, stop⟩, pn := start } s
    | .fetch => putTx i { a with lease := .two, nxt := ⟨start, stop⟩ } s
    | .none | .one | .two => s
  | none => s

/-- A refusal: EXHAUSTED ends the wait, READ_ONLY and FULL ask for a new RID after RESEND (R177). -/
def leaseRefused (i status : Nat) (s : State) : State :=
  match txOf s i with
  | some a =>
    if a.lease != .wait then s
    else if status = 1 then setTx i (some { a with lease := .none, exhausted := true }) s
    else if status = 2 ∨ status = 4 then
      { s with jnl := { s.jnl with rid := smMod 0 s.jnl.rid i (fun v => v / 2 * 2 + 1) } }
    else s
  | none => s

/-- The home's answer to a request: to this engine's SA, or in a LEASE_GRANT (R183). -/
def leaseReply (q : LeaseAsk) (status start stop : Nat) (s : State) : State :=
  match q.req with
  | none =>
    match localOf s q.sa with
    | some i =>
      if smGet 0 s.jnl.rid i / 2 ≠ q.rid then s
      else if status = 0 then leaseGranted i start stop s else leaseRefused i status s
    | none => s
  | some r =>
    let home := if q.sa < 4096 then s.fab.addr.getD 0 else s.fab.pair.partner.getD 0
    let m : LeaseGrant :=
      { home := home, sa := q.sa % 4096, req := r, rid := q.rid, status := status,
        start := if status = 0 then start else 0, stop := if status = 0 then stop % 2 ^ 64 else 0 }
    sendTo r (.leaseGrant m) s

/-! The home. -/

/-- Modes in which a home grants (R175). -/
def homeGrants (s : State) : Bool := s.glb.mode != .cold && s.glb.mode != .lockout

/-- The BULK of resume is on its way to the journal: what it grants is not granted twice, so requests for own SAs wait for it (R182,
R196). -/
def bulkWaits (s : State) (k : Nat) : Bool :=
  decide (k < 4096) && workPending s (fun d => match d with | .resumeBulk _ _ => true | _ => false)

/-- log2 of the grain of a key's SA: the override of its local transmit SA, else the default of its suite (R179). -/
def keyGrain (s : State) (k : Nat) : Nat :=
  let suite := if keyXpn s k then 2 else 0
  match localOf s k with
  | some i => grainLog s i suite
  | none => effGrain s (if isXpn suite then s.jnl.grainXpn else s.jnl.grainPn)

/-- Answer or start to serve one request (R181). A home that may not grant, in COLD or LOCKOUT or before epochs are exchanged, gives no
reply: the requester sends again after RESEND (log 155, DESIGN CHOICE: R181 and R183 have no status for it). -/
def leaseNow (q : LeaseAsk) (s : State) : State :=
  match s.jnl.last.find? (fun g => g.req == q.req && g.sa == q.sa && g.rid == q.rid) with
  | some g => leaseReply q 0 g.start g.stop s
  | none =>
    if !homeGrants s || pairWaits s q.sa then s
    else if !isHome s q.sa then leaseReply q 3 0 0 s
    else if epochAbove q.epoch s.fab.pair.epoch then leaseReply q 5 0 0 s
    else if readOnly s then leaseReply q 2 0 0 s
    else if s.jnl.dropped.contains q.sa then leaseReply q 4 0 0 s
    else
      let start := markOf s q.sa
      let top := grantEnd s q.sa
      if top ≤ start then leaseReply q 1 0 0 s
      else
        let lim := Nat.min (start + 2 ^ keyGrain s q.sa) top
        let s1 := { s with jnl := { s.jnl with
          pend := s.jnl.pend ++ [{ ask := q, start := start, stop := lim, durable := false, synced := false }] } }
        jIssue (capFix (jAdd 2 (markCell s1 q.sa lim) (.grant q start lim) (capCell q.sa s1)))

/-- A request at the home: requests for one SA are served one at a time, in arrival order; a repeat of the one being served waits behind
it and finds its grant (R181, R184). -/
def leaseAsk (q : LeaseAsk) (s : State) : State :=
  if s.jnl.pend.any (fun p => p.ask.sa == q.sa) || bulkWaits s q.sa then
    if s.jnl.asks.contains q then s else { s with jnl := { s.jnl with asks := s.jnl.asks ++ [q] } }
  else leaseNow q s

/-- Requests that waited are served. -/
def asksServe (p : LeaseAsk → Bool) (s : State) : State :=
  (s.jnl.asks.filter p).foldl (fun t x => leaseAsk x t) { s with jnl := { s.jnl with asks := s.jnl.asks.filter (fun x => !p x) } }

/-- A grant whose mark is durable and synced is given: the mark rises, the grant is kept for its requester (R181, R184);
the next request for the SA is served. -/
def grantGive (p : PendGrant) (s : State) : State :=
  let q := p.ask
  let s1 := telBump 0x1CF 1 none (setMark q.sa (Nat.max (markOf s q.sa) p.stop) s)
  let keep := s1.jnl.last.filter (fun g => !(g.req == q.req && g.sa == q.sa))
  let s2 := { s1 with jnl := { s1.jnl with
    last := keep ++ [{ req := q.req, sa := q.sa, rid := q.rid, start := p.start, stop := p.stop }],
    pend := s1.jnl.pend.filter (fun x => x.ask.sa != q.sa) } }
  asksServe (fun x => x.sa == q.sa) (leaseReply q 0 p.start p.stop s2)

/-- LEASE_SYNC of a pending grant to the partner (R183, R185). -/
def sendSync (p : PendGrant) (s : State) : State :=
  match s.fab.pair.partner with
  | some a =>
    let m : LeaseSync :=
      { home := if p.ask.sa < 4096 then s.fab.addr.getD 0 else a, sa := p.ask.sa % 4096, epoch := s.fab.pair.epoch,
        mark := p.stop % 2 ^ 64 }
    sendTo a (.leaseSync m) s
  | none => s

/-- The mark of a pending grant is durable: sync it, or give the grant (R181, R185). -/
def grantDurable (q : LeaseAsk) (start : Nat) (s : State) : State :=
  match s.jnl.pend.find? (fun p => p.ask == q && p.start == start) with
  | some p =>
    if needsSync s q.sa then
      let p1 := { p with durable := true }
      sendSync p1 { s with jnl := { s.jnl with pend := mapWhere (fun x => x.ask == q) (fun _ => p1) s.jnl.pend } }
    else grantGive p s
  | none => s

/-- Pending grants whose mark is durable and that only the sync held are given: the partner is lost or gone (R185). -/
def grantsUnheld (s : State) : State :=
  (s.jnl.pend.filter (fun p => p.durable)).foldl (fun t p => if needsSync t p.ask.sa then t else grantGive p t) s

/-! The requester again. -/

/-- SA `i` waits for the exchange of epochs after a start-up: its home is one of the pair (R187). -/
def pairHolds (s : State) (i : Nat) (a : Sa) : Bool :=
  s.fab.pair.partner.isSome && s.fab.pair.unsettled
    && (inPairSet s (saLink i) || (a.shared && some a.home == s.fab.pair.partner))

/-- Send SA `i`'s request with the RID on record (R177, R178); an SA whose pair has not exchanged epochs stays in WAIT (R187). -/
def leaseSend (i : Nat) (s : State) : State :=
  match txOf s i with
  | some a =>
    let rid := smGet 0 s.jnl.rid i / 2
    let epoch := if inPairSet s (saLink i) || (a.shared && some a.home == s.fab.pair.partner) then
        (if epochAbove s.fab.pair.peerEpoch s.fab.pair.epoch then s.fab.pair.peerEpoch else s.fab.pair.epoch) else 0
    let s := telBump 0x1CE 1 none s
    if pairHolds s i a then s
    else
    match leaseTo s i a with
    | .here k => leaseAsk { req := none, sa := k, rid := rid, epoch := s.fab.pair.epoch } s
    | .there e home sa =>
      sendTo e (.leaseReq { home := home, sa := sa, req := s.fab.addr.getD 0, rid := rid, epoch := epoch }) s
  | none => s

/-- A new request of SA `i`, with the next RID (R184). After a reset the count starts at 0, so the first request has RID 1 (log 151, DESIGN
CHOICE: the spec names no first RID). -/
def leaseNew (i : Nat) (s : State) : State :=
  leaseSend i { s with jnl := { s.jnl with rid := smMod 0 s.jnl.rid i (fun v => (v / 2 + 1) % 65536 * 2) } }

/-- NONE becomes WAIT: an SA on an ON SecY asks for its first lease (R177). -/
def leaseStart (i : Nat) (s : State) : State :=
  match txOf s i with
  | some a => if a.lease == .none && !a.exhausted then leaseNew i (setTx i (some { a with lease := .wait }) s) else s
  | none => s

/-- Leases abandoned, never returned (R177). -/
def leaseAbandon (i : Nat) (s : State) : State :=
  match txOf s i with
  | some a => putTx i { a with lease := .none, cur := ⟨0, 0⟩, nxt := ⟨0, 0⟩ } s
  | none => s

/-- The threshold of JNL_PN_REKEY for a suite (R174), and whether an SA's next PN reaches it for the first time. -/
def pnThreshold (s : State) (suite : Nat) : Nat :=
  if isXpn suite then fld s.jnl.rekey 32 32 * 2 ^ 32 else fld s.jnl.rekey 0 32
def thrDue (s : State) (a : Sa) : Bool := !a.thr && decide (pnThreshold s a.suite ≤ a.pn)

/-- What the next PN brings about: the prefetch point, the end of the current lease (R177, R178). With its SecY not ON an SA asks for
nothing (R176). -/
def leaseStep (i : Nat) (s : State) : State :=
  match txOf s i with
  | some a =>
    let on := (secyOf s (saLink i)).any (fun y => y.st == .on)
    match a.lease with
    | .one =>
      if on && decide (prefetchPoint a.cur ≤ a.pn) then leaseNew i (putTx i { a with lease := .fetch } s)
      else if !on && decide (a.cur.stop ≤ a.pn) then putTx i { a with lease := .none, cur := ⟨0, 0⟩ } s
      else s
    | .two =>
      if a.cur.stop ≤ a.pn then putTx i { a with lease := .one, cur := a.nxt, nxt := ⟨0, 0⟩, pn := a.nxt.start } s else s
    | .fetch => if a.cur.stop ≤ a.pn then putTx i { a with lease := .wait, cur := ⟨0, 0⟩ } s else s
    | .none | .wait => s
  | none => s

/-- Both ends of a PN: the current lease may end and the next one may be due for its prefetch at once. -/
def leaseAdvance (i : Nat) (s : State) : State := leaseStep i (leaseStep i s)

/-- The transmit SAs of a link, by index. -/
def txOfLink (s : State) (l : Nat) : List Nat := (List.range 4).map (fun a => 4 * l + a) |>.filter (fun i => (txOf s i).isSome)

/-- Waiting requests of SAs whose home the fabric names anew go there at once (R178). -/
def leaseRehomed (old s : State) : State :=
  (smKeys s.tx).foldl (fun t i => match txOf t i with
    | some a => if (a.lease == .wait || a.lease == .fetch) && leaseTo old i a != leaseTo t i a then leaseSend i t else t
    | none => t) s

/-- Requests of every waiting SA sent again, with the same RID, to the home the fabric names now (R177, R178). -/
def leaseResendAll (s : State) : State :=
  (smKeys s.tx).foldl (fun t i => match txOf t i with
    | some a => if a.lease == .wait || a.lease == .fetch then leaseSend i t else t
    | none => t) s

end Sys2Proof.Machine
end

