-- ==== Sys2Proof/Machine/CtxOps.lean ====
section
/-!
DEFINITION. The cistern and the protected context store (R259–R280): line contents, placement and eviction, the line mix
and tags, leaves, reads and writes on cxm_, fills, quarantine.
A line index n is the data line at offset 128n of the region (R265): transmit SA i is line i, SecY j is line 4,096 + j,
receive SA r is line 8,192 + r.
-/
namespace Sys2Proof.Machine

def txLine (i : Nat) : Nat := i
def secyLine (j : Nat) : Nat := 4096 + j
def rxLine (r : Nat) : Nat := 8192 + r

/-- Leaf of a line, leaf group of a line, and their offsets (R265, R268). -/
def leafOfLine (n : Nat) : Nat := n / 8
def groupOfLine (n : Nat) : Nat := n / 64
def lineOffset (n : Nat) : Nat := 128 * n
def leafOffset (j : Nat) : Nat := 0x900000 + 128 * j

/-- Offset of node k of a level, 2 (L4) to 5 (L1). -/
def nodeOffset (level k : Nat) : Nat :=
  (if level = 2 then 0xA20000 else if level = 3 then 0xA32000 else if level = 4 then 0xA34400 else 0xA34880) + 64 * k

/-- Byte address on cxm_ of an offset of the region. -/
def cxmAddr (s : State) (off : Nat) : Nat := fld s.cxm.region 24 16 * 2 ^ 24 + off

/-! Contents of a line (R266, R267). -/

/-- The link of a receive SA: its SC's. -/
def rxLink (s : State) (r : Nat) : Nat := match scOf s (r / 4) with | some c => c.link | none => 0

/-- The configuration word of an SA. -/
def saConfig (dir : Bool) (an link : Nat) (a : Sa) : W64 :=
  put a.kid 48 16 ||| putB true 47 ||| putB dir 46 ||| put an 44 2 ||| put a.suite 42 2 ||| put a.offCode 40 2
    ||| putB (dir && a.enabled) 39 ||| putB (!dir && a.shared) 38 ||| put (if dir then 0 else a.home) 32 6
    ||| put (if dir then 0 else a.homeSa) 20 12 ||| put a.sat.toNat 16 4 ||| putB a.reprimed 15 ||| put link 0 10

/-- Bytes of an SA line. -/
def saBytes (dir : Bool) (an link : Nat) (a : Sa) : List Byte :=
  slice a.blob 0 40 ++ slice a.salt 0 12 ++ beBytes 4 a.ssci.toNat ++ beBytes 8 a.pn
    ++ beBytes 8 (if dir then a.floor else a.cur.stop)
    ++ beBytes 8 (smGet 0 a.stats 0) ++ beBytes 8 (smGet 0 a.stats 1) ++ beBytes 8 (smGet 0 a.stats 2)
    ++ beBytes 8 (smGet 0 a.stats 3) ++ beBytes 8 (saConfig dir an link a).toNat
    ++ beBytes 8 (if dir then 0 else a.nxt.start) ++ beBytes 8 (if dir then 0 else a.nxt.stop)

/-- Code of a SecY state. -/
def SecySt.code : SecySt → Nat
  | .off => 0 | .on => 1 | .draining => 2

/-- The state word of a SecY line. -/
def secyWord (y : Secy) : W64 := put y.st.code 62 2 ||| put y.curAn 60 2 ||| put y.sat.toNat 49 11 ||| putB y.reprimed 48

/-- Bytes of a SecY line. -/
def secyBytes (y : Secy) : List Byte :=
  wordsBytes [y.sci, y.txp, y.rxp, secyWord y] ++ (List.range 11).flatMap (fun i => beBytes 8 (smGet 0 y.stats i)) ++ beBytes 8 0

/-- The 128 bytes that a line holds by the engine's tables. -/
def lineBytes (s : State) (n : Nat) : List Byte :=
  if n < 4096 then (match txOf s n with | some a => saBytes false (n % 4) (n / 4) a | none => List.replicate 128 0)
  else if n < 5120 then (match secyOf s (n - 4096) with | some y => secyBytes y | none => List.replicate 128 0)
  else if n < 8192 then List.replicate 128 0
  else (match rxOf s (n - 8192) with
    | some a => saBytes true (n % 4) (rxLink s (n - 8192)) a
    | none => List.replicate 128 0)

/-- The SA fields of a line's bytes put into an SA (R266); the lease's state follows from the leases that the line holds. -/
def saFromBytes (dir : Bool) (bs : List Byte) (a : Sa) : Sa :=
  let c := BitVec.ofNat 64 (beNat (slice bs 104 8))
  let st := (List.range 4).foldl (fun m i => smSet 0 m i (beNat (slice bs (72 + 8 * i) 8))) a.stats
  let low := beNat (slice bs 64 8)
  { a with
    blob := slice bs 0 40, salt := slice bs 40 12, ssci := BitVec.ofNat 32 (beNat (slice bs 52 4)), pn := beNat (slice bs 56 8),
    floor := if dir then low else a.floor, stats := st, sat := BitVec.ofNat 4 (fld c 16 4),
    kid := fld c 48 16, suite := fld c 42 2, offCode := fld c 40 2, reprimed := bitAt c 15,
    enabled := if dir then bitAt c 39 else a.enabled, shared := if dir then a.shared else bitAt c 38,
    home := if dir then a.home else fld c 32 6, homeSa := if dir then a.homeSa else fld c 20 12,
    cur := if dir then a.cur else { a.cur with stop := low },
    nxt := if dir then a.nxt else ⟨beNat (slice bs 112 8), beNat (slice bs 120 8)⟩ }

/-- What the check of R273 step 4 asks of an SA line: VALID, DIR and LINK. -/
def lineCheck (s : State) (n : Nat) (bs : List Byte) : Bool :=
  let c := BitVec.ofNat 64 (beNat (slice bs 104 8))
  if n < 4096 then bitAt c 47 && !bitAt c 46 && fld c 0 10 == n / 4
  else if n < 8192 then true
  else bitAt c 47 && bitAt c 46 && fld c 0 10 == rxLink s (n - 8192)

/-- SecY state of a code. -/
def SecySt.ofCode (n : Nat) : SecySt := if n = 1 then .on else if n = 2 then .draining else .off

/-- The SecY fields of a line's bytes put into a SecY (R267). -/
def secyFromBytes (bs : List Byte) (y : Secy) : Secy :=
  let c := BitVec.ofNat 64 (beNat (slice bs 24 8))
  { y with
    sci := BitVec.ofNat 64 (beNat (slice bs 0 8)), txp := BitVec.ofNat 64 (beNat (slice bs 8 8)),
    rxp := BitVec.ofNat 64 (beNat (slice bs 16 8)), st := SecySt.ofCode (fld c 62 2), curAn := fld c 60 2,
    sat := BitVec.ofNat 11 (fld c 49 11), reprimed := bitAt c 48,
    stats := (List.range 11).foldl (fun m i => smSet 0 m i (beNat (slice bs (32 + 8 * i) 8))) y.stats }

/-- A line's bytes taken into the tables; a line that a command or a frame changed meanwhile keeps its change (R261). -/
def takeLine (n : Nat) (bs : List Byte) (s : State) : State :=
  if s.cxm.changed.contains n then s
  else if n < 4096 then modTx n (saFromBytes false bs) s
  else if n < 5120 then modSecy (n - 4096) (secyFromBytes bs) s
  else if n < 8192 then s
  else modRx (n - 8192) (saFromBytes true bs) s

/-! Placement (R259, R261, R262). -/

/-- A line in the cistern. -/
def cline (s : State) (n : Nat) : Option CLine := smGet none s.cis.lines n
def setCline (n : Nat) (c : Option CLine) (s : State) : State :=
  { s with cis := { s.cis with lines := smSet none s.cis.lines n c } }
def isResident (s : State) (n : Nat) : Bool := (cline s n).isSome

/-- Bank pair `p` serves. -/
def pairUp (s : State) (p : Nat) : Bool := s.cis.pairs.getLsbD p

/-- The pinned slot of a transmit SA or SecY line whose pair serves. -/
def pinnedSlot (s : State) (n : Nat) : Option Nat := if n < 5120 ∧ pairUp s (n / 2048) = true then some n else none

/-- A slot is pinned while its SA or SecY is configured. -/
def slotPinned (s : State) (k : Nat) : Bool :=
  if k < 4096 then (txOf s k).isSome else if k < 5120 then (secyOf s (k - 4096)).isSome else false

/-- The set of an associative line. -/
def setOf (s : State) (n : Nat) : Nat := Config.setHash s.cis.setKey n % 512

/-- Ways of a set that may hold an associative line. -/
def waysOf (s : State) (st : Nat) : List Nat :=
  (List.range 16).filter (fun w => pairUp s (w / 4) && !slotPinned s (st + 512 * w))

/-- The line in a slot. -/
def lineAt (s : State) (slot : Nat) : Option Nat :=
  (s.cis.lines.find? (fun e => match e.2 with | some c => c.slot == slot | none => false)).map (·.1)

/-- One step of the walk down the tree: node `k` covers ways [lo, lo + 2^d). Its bit says which half is older. -/
def plruWalk (bits : Nat) (ok : List Nat) : Nat → Nat → Nat → Nat
  | 0, _, lo => lo
  | d + 1, k, lo =>
    let half := 2 ^ d
    let right := decide ((bits >>> k) % 2 = 1)
    let hasL := ok.any (fun w => decide (lo ≤ w) && decide (w < lo + half))
    let hasR := ok.any (fun w => decide (lo + half ≤ w) && decide (w < lo + 2 * half))
    if (right && hasR) || !hasL then plruWalk bits ok d (2 * k + 1) (lo + half) else plruWalk bits ok d (2 * k) lo

/-- The bits after way `w` is used: every node on its path points to the other half. -/
def plruTouch (w : Nat) : Nat → Nat → Nat → Nat
  | 0, _, bits => bits
  | d + 1, k, bits =>
    let b := (w >>> d) % 2
    let cleared := bits - (bits >>> k) % 2 * 2 ^ k
    plruTouch w d (2 * k + b) (if b = 0 then cleared + 2 ^ k else cleared)

/-- A line is used: its set's tree moves away from its way. -/
def touchLine (n : Nat) (s : State) : State :=
  match cline s n with
  | some c =>
    if c.slot = n ∧ n < 5120 then s
    else { s with cis := { s.cis with plru := smMod 0 s.cis.plru (c.slot % 512) (plruTouch (c.slot / 512) 4 1) } }
  | none => s

/-- The write-back buffer holds a line: its write is outstanding, or it waits for its leaf, or for an entry (R261, R274). -/
def inWb (s : State) (n : Nat) : Bool :=
  s.cxm.writes.any (fun w => w.line == some n) || s.cxm.fills.any (fun f => f.line == n && f.forWrite) || s.cxm.wbq.contains n
def wbCount (s : State) : Nat :=
  (s.cxm.writes.filter (fun w => w.line.isSome)).length + (s.cxm.fills.filter (·.forWrite)).length

/-- Lines of a group are quarantined. -/
def isQuar (s : State) (n : Nat) : Bool := s.cxm.quar.contains (groupOfLine n)

/-! Line mix and tags (R271, R272). -/

/-- Key and generation of the mix of a line: by the sweep pointer (R282). -/
def mixNext (s : State) (n : Nat) : Bool := s.cxm.sweepOn && decide (n < s.cxm.sweepPtr)
def mixKey (s : State) (n : Nat) : List Byte := keyAt s (if mixNext s n then mixNextSlot else mixKeySlot)
def mixGen (s : State) (n : Nat) : Nat := s.cxm.gen + bn (mixNext s n)

/-- Word i of the keystream. -/
def mixWord (key : List Byte) (nonce : W64) (off ctr i : Nat) : List Byte :=
  aes key (xorBytes (beBytes 8 nonce.toNat) (beBytes 4 off ++ [0, 0, 0] ++ beBytes 1 i) ++ beBytes 7 ctr ++ [0])

/-- Mixing and its removal: the same exclusive or. -/
def mixLine (key : List Byte) (nonce : W64) (off ctr : Nat) (bs : List Byte) : List Byte :=
  xorBytes (slice bs 0 128) ((List.range 8).flatMap (mixWord key nonce off ctr))

/-- Tag over HDR and BODY. -/
def ctxTag (s : State) (kind level off ctr gen : Nat) (body : List Byte) : Nat :=
  beNat ((Config.cmac (keyAt s tagKeySlot)
    (beBytes 1 kind ++ beBytes 1 level ++ [0, 0] ++ beBytes 4 off ++ beBytes 8 s.cxm.nonce.toNat ++ beBytes 7 ctr ++ [0]
      ++ beBytes 4 gen ++ [0, 0, 0, 0] ++ body)).take 8)

/-- The tag of a data line's stored bytes. -/
def lineTag (s : State) (n ctr : Nat) (stored : List Byte) : Nat := ctxTag s 1 0 (lineOffset n) ctr (mixGen s n) stored

/-! Leaves (R268–R270). -/

/-- Counter of a leaf in its L4 node; a build sets every counter to 1. -/
def leafCtrOf (s : State) (j : Nat) : Nat := smGet 1 s.cxm.leafCtr j

/-- A leaf's bytes 0–119. -/
def leafBody (l : Leaf) : List Byte :=
  (List.range 8).flatMap (fun e => beBytes 7 (smGet (0, 0) l.ents e).1 ++ beBytes 8 (smGet (0, 0) l.ents e).2)
def leafBytes (s : State) (j ctr : Nat) (l : Leaf) : List Byte :=
  leafBody l ++ beBytes 8 (ctxTag s 2 1 (leafOffset j) ctr 0 (leafBody l))

/-- The entries of a leaf's bytes. -/
def leafParse (bs : List Byte) : SMap (Nat × Nat) :=
  (List.range 8).foldl (fun m e => smSet (0, 0) m e (beNat (slice bs (15 * e) 7), beNat (slice bs (15 * e + 7) 8))) []

/-- The leaf's tag verifies against the L4 counter (R273 step 1). -/
def leafOk (s : State) (j : Nat) (bs : List Byte) : Bool :=
  beNat (slice bs 120 8) == ctxTag s 2 1 (leafOffset j) (leafCtrOf s j) 0 (slice bs 0 120)

def leafOf (s : State) (j : Nat) : Option Leaf := smGet none s.cxm.leaves j
def setLeaf (j : Nat) (l : Option Leaf) (s : State) : State :=
  { s with cxm := { s.cxm with leaves := smSet none s.cxm.leaves j l } }

/-- TOP_CTR follows a counter (R270). -/
def topAtLeast (c : Nat) (s : State) : State := { s with cxm := { s.cxm with topCtr := Nat.max s.cxm.topCtr c } }

/-! Writes on cxm_ (R54, R55, R274). -/

/-- WR_MAX and RD_MAX. -/
def wrMax (s : State) : Nat := fld s.cxm.portCfg 16 6
def rdMax (s : State) : Nat := fld s.cxm.portCfg 8 8

/-- An address is busy with an outstanding request; a write that timed out is not one any more (R55, R277). -/
def addrBusy (s : State) (off : Nat) : Bool :=
  s.cxm.reads.any (fun r => r.offset == off) || s.cxm.writes.any (fun w => w.offset == off && decide (w.tag < 32) && !w.held)

/-- Issue the waiting writes that have a tag and a free address, oldest first, `fuel` at most. -/
def pumpWrites : Nat → State → State
  | 0, s => s
  | n + 1, s =>
    let used := (s.cxm.writes.filter (fun w => decide (w.tag < 32))).map (·.tag)
    if wrMax s ≤ used.length then s
    else
      match s.cxm.writes.find? (fun w => w.tag == 32 && !addrBusy s w.offset), firstFrom (fun t => !used.contains t) 0 32 with
      | some w, some t =>
        pumpWrites n (telBump 0x1D3 1 none <| emit (.cxmWrite (cxmAddr s w.offset) w.data t)
          { s with cxm := { s.cxm with writes := replaceFirst (fun x => x == w) (fun x => { x with tag := t }) s.cxm.writes } })
      | _, _ => s

/-- Add writes of (offset, bytes), of no line of the write-back buffer; they are issued as tags and addresses allow. -/
def cxmPutAll (ws : List (Nat × List Byte)) (s : State) : State :=
  pumpWrites 32 { s with cxm := { s.cxm with
    writes := s.cxm.writes ++ ws.map (fun w => { tag := 32, offset := w.1, data := w.2, line := none, held := false }) } }

/-- Add a write; it is issued once a tag is free and its address is not busy. -/
def cxmPut (off : Nat) (data : List Byte) (line : Option Nat) (s : State) : State :=
  pumpWrites 1 { s with cxm := { s.cxm with
    writes := s.cxm.writes ++ [{ tag := 32, offset := off, data := data, line := line, held := false }] } }

/-- Write a leaf to DRAM under a new counter (R269, R274). -/
def writeLeaf (j : Nat) (l : Leaf) (s : State) : State :=
  let ctr := leafCtrOf s j + 1
  let s1 := topAtLeast ctr { s with cxm := { s.cxm with leafCtr := smSet 1 s.cxm.leafCtr j ctr } }
  cxmPut (leafOffset j) (leafBytes s1 j ctr l) none s1

/-- The least recently used leaf that no fill or write waits for. -/
def leafVictim (s : State) : Option Nat :=
  let idle := s.cxm.leaves.filter (fun e => !s.cxm.fills.any (fun f => leafOfLine f.line == e.1))
  match idle with
  | [] => none
  | e :: es =>
    some (es.foldl (fun b x => if (x.2.elim 0 (·.used)) < (b.2.elim 0 (·.used)) then x else b) e).1

/-- Take a leaf into the tree cache; a displaced dirty leaf is written (R269). -/
def cacheLeaf (j : Nat) (ents : SMap (Nat × Nat)) (s : State) : State :=
  let s1 :=
    if s.cxm.leaves.length < 1376 then s
    else match leafVictim s with
      | some v =>
        (match leafOf s v with
         | some l => let t := setLeaf v none s
                     if l.dirty then bump 0x56 none (writeLeaf v l t) else t
         | none => s)
      | none => s
  setLeaf j (some { ents := ents, dirty := false, used := s1.cxm.clock + 1 })
    { s1 with cxm := { s1.cxm with clock := s1.cxm.clock + 1 } }

/-- A cached leaf is used. -/
def useLeaf (j : Nat) (s : State) : State :=
  match leafOf s j with
  | some l => setLeaf j (some { l with used := s.cxm.clock + 1 }) { s with cxm := { s.cxm with clock := s.cxm.clock + 1 } }
  | none => s

/-- Write a data line whose leaf is cached (R274 steps 2 to 4). -/
def writeLineNow (n : Nat) (s : State) : State :=
  match leafOf s (leafOfLine n) with
  | some l =>
    let ctr := (smGet (0, 0) l.ents (n % 8)).1 + 1
    let s1 := topAtLeast ctr s
    let stored := mixLine (mixKey s1 n) s1.cxm.nonce (lineOffset n) ctr (lineBytes s1 n)
    let l1 : Leaf := { l with ents := smSet (0, 0) l.ents (n % 8) (ctr, lineTag s1 n ctr stored), dirty := true }
    cxmPut (lineOffset n) stored (some n) (setLeaf (leafOfLine n) (some l1) s1)
  | none => s

/-! Reads on cxm_. -/

/-- An empty fill of a line. -/
def newFill (n : Nat) (leafThere wb write : Bool) : Fill :=
  { line := n, leafBytes := [], lineBytes := [], leafDone := leafThere, lineDone := false, leafRetry := false,
    lineRetry := false, memErr := false, errLeaf := false, timedOut := false, fromWb := wb, forWrite := write }

/-- A read of a fill that is wanted, not outstanding and whose address is free: `true` for the leaf. -/
def readWanted (s : State) (f : Fill) : Option Bool :=
  let out := fun (b : Bool) => s.cxm.reads.any (fun r => r.line == f.line && r.leaf == b && !r.held && r.chk.isNone)
  let wb := fun (o : Nat) => s.cxm.writes.any (fun w => w.offset == o && !w.held)
  if f.fromWb || f.memErr || f.timedOut then none
  else if !f.leafDone && !out true && !wb (leafOffset (leafOfLine f.line)) then some true
  else if !f.forWrite && !f.lineDone && !out false && !wb (lineOffset f.line) then some false
  else none

/-- Issue wanted reads while tags last, `fuel` at most. -/
def pumpReads : Nat → State → State
  | 0, s => s
  | n + 1, s =>
    let used := s.cxm.reads.map (·.tag)
    if rdMax s ≤ used.length then s
    else
      match s.cxm.fills.find? (fun f => (readWanted s f).isSome), firstFrom (fun t => !used.contains t) 0 128 with
      | some f, some t =>
        let leaf := (readWanted s f).getD false
        let off := if leaf then leafOffset (leafOfLine f.line) else lineOffset f.line
        pumpReads n (telBump 0x1D2 1 none <| emit (.cxmRead (cxmAddr s off) true t)
          { s with cxm := { s.cxm with reads := s.cxm.reads ++
            [{ tag := t, line := f.line, leaf := leaf, offset := off, held := false, bad := false, chk := none }] } })
      | _, _ => s

/-- The fill of a line, if one runs. -/
def fillOf (s : State) (n : Nat) : Option Fill := s.cxm.fills.find? (fun f => f.line == n && !f.forWrite)

/-- Start a fill of a line unless one runs (R260, R273); the leaf counts as hit or miss. -/
def startFill (n : Nat) (s : State) : State :=
  if (fillOf s n).isSome then s
  else
    let wb := inWb s n
    let there := (leafOf s (leafOfLine n)).isSome
    let s1 := if wb then s else bump (if there then 0x54 else 0x55) none (useLeaf (leafOfLine n) s)
    pumpReads 2 { s1 with cxm := { s1.cxm with fills := s1.cxm.fills ++ [newFill n there wb false] } }

/-- A line of a quarantined group is kept as a source and not written (R278). -/
def keepLine (n : Nat) (s : State) : State := { s with cxm := { s.cxm with kept := setAdd n s.cxm.kept } }

/-- Write a data line that has an entry of the write-back buffer, bringing its leaf in first where it is not cached (R274). -/
def wbWrite (n : Nat) (s : State) : State :=
  let j := leafOfLine n
  if isQuar s n then keepLine n s
  else if (leafOf s j).isSome then writeLineNow n (bump 0x54 none (useLeaf j s))
  else if s.cxm.fills.any (fun f => f.line == n && f.forWrite) then s
  else pumpReads 2 (bump 0x55 none { s with cxm := { s.cxm with fills := s.cxm.fills ++ [newFill n false false true] } })

/-- Lines that waited take the entries that are free, `fuel` at most. -/
def pumpWb : Nat → State → State
  | 0, s => s
  | k + 1, s =>
    match s.cxm.wbq with
    | n :: rest => if 32 ≤ wbCount s then s else pumpWb k (wbWrite n { s with cxm := { s.cxm with wbq := rest } })
    | [] => s

/-- What freed entries, tags and addresses let go on. -/
def pumpCxm (s : State) : State := pumpReads 128 (pumpWrites 32 (pumpWb 32 s))

/-- A data line goes to DRAM through the write-back buffer; with all its 32 entries in use it waits for one (R261; log 159, DESIGN CHOICE
for lines that a command, a retired bank pair, DOZE entry or the sweep moves). -/
def writeLine (n : Nat) (s : State) : State :=
  if wbCount s < 32 then wbWrite n s
  else if s.cxm.wbq.contains n then s
  else { s with cxm := { s.cxm with wbq := s.cxm.wbq ++ [n] } }

/-! Eviction and installation (R261). -/

/-- A line changed: dirty where it is resident; one that is not is brought in (R261). -/
def dirtyLine (n : Nat) (s : State) : State :=
  let s1 := lineChanged n s
  if isResident s n || !s.cxm.trusted || s.cxm.oos || isQuar s n then s1 else startFill n s1

/-- Take a line out of the cistern: a dirty one goes to DRAM, or stays a source where its group is quarantined (R278). -/
def dropLine (n : Nat) (s : State) : State :=
  match cline s n with
  | some c =>
    let s1 := setCline n none s
    if isQuar s n then keepLine n s1 else if c.dirty then writeLine n s1 else s1
  | none => s

/-- A victim leaves the cistern; a dirty one that is written counts in CIS_WB_CNT. -/
def evictLine (n : Nat) (s : State) : State :=
  dropLine n (if (match cline s n with | some c => c.dirty && !isQuar s n | none => false) then bump 0x4B none s else s)

/-- The victim way of a set: an empty one, else by the tree; with the port out of service no dirty line (R261, R277). -/
def victimSlot (s : State) (st : Nat) : Option Nat :=
  let ways := waysOf s st
  let free := ways.filter (fun w => (lineAt s (st + 512 * w)).isNone)
  match free with
  | w :: _ => some (st + 512 * w)
  | [] =>
    let ok := ways.filter (fun w => !s.cxm.oos || (match lineAt s (st + 512 * w) with
      | some m => (match cline s m with | some c => !c.dirty | none => true)
      | none => true))
    if ok.isEmpty then none else some (st + 512 * plruWalk (smGet 0 s.cis.plru st) ok 4 1 0)

/-- The victim of a slot is a dirty line that the full write-back buffer cannot take (R261). -/
def victimStuck (s : State) (slot : Nat) : Bool :=
  match lineAt s slot with
  | some m => (match cline s m with | some c => c.dirty && !isQuar s m && decide (32 ≤ wbCount s) | none => false)
  | none => false

/-- The slot that a line would take now. -/
def slotFor (s : State) (n : Nat) : Option Nat :=
  match pinnedSlot s n with
  | some k => some k
  | none => victimSlot s (setOf s n)

/-- Put a line into a slot, evicting what is there; a change that waited for it makes it dirty, as does its return from the queue of the
write-back buffer. -/
def placeLine (n slot : Nat) (dirty : Bool) (s : State) : State :=
  let s1 := match lineAt s slot with | some m => if m = n then s else evictLine m s | none => s
  let d := dirty || s1.cxm.changed.contains n || s1.cxm.wbq.contains n
  touchLine n (setCline n (some { slot := slot, dirty := d })
    { s1 with cxm := { s1.cxm with changed := s1.cxm.changed.filter (· != n), wbq := s1.cxm.wbq.filter (· != n) } })

/-- Make a configured transmit or SecY line resident (R16, R227). -/
def pinLine (n : Nat) (s : State) : State :=
  match slotFor s n with
  | some k => placeLine n k true s
  | none => dirtyLine n s

/-- Free a line: it leaves the cistern and is written as zeros (R261); the tables no longer hold it. -/
def freeLine (n : Nat) (s : State) : State :=
  let s0 := setCline n none s
  let s1 := { s0 with cxm := { s0.cxm with changed := s0.cxm.changed.filter (· != n) } }
  if s1.cxm.trusted then writeLine n s1 else s1

/-! Errors and quarantine (R276–R278). -/

/-- CXM_LAST_ERR. -/
def lastErr (cls level off : Nat) (s : State) : State :=
  { s with cxm := { s.cxm with lastErr := put cls 61 3 ||| put level 58 3 ||| put off 0 24 } }

/-- Links with a line in a group. -/
def groupLinks (s : State) (g : Nat) : List Nat :=
  if g < 64 then setUnion (((List.range 64).filter (fun k => (txOf s (64 * g + k)).isSome)).map (fun k => (64 * g + k) / 4)) []
  else if g < 80 then ((List.range 64).map (fun k => 64 * (g - 64) + k)).filter (fun l => (secyOf s l).isSome)
  else if g < 128 then []
  else setUnion ((((List.range 64).map (fun k => 64 * (g - 128) + k)).filter (fun r => (rxOf s r).isSome)).map (rxLink s)) []

/-- A whole-region rebuild begins in service: every group quarantined and queued in index order (R281). -/
def rebuildAll (s : State) : State :=
  raise .cxm 10 { s with cxm := { s.cxm with
    rebuild := true, quar := List.range 1152, queue := List.range 1152, failed := [], job := none } }

/-- Quarantine a leaf group and queue its re-priming; the running one of that group restarts; one restart too many leaves
it failed (R278, R280). -/
def quarGroup (g : Nat) (s : State) : State :=
  if s.cxm.failed.contains g then s
  else
    match s.cxm.job with
    | some j =>
      if j.group = g then
        let st := stampAdd (smGet [] s.cxm.repStamps g) (now s)
        let s1 := { s with cxm := { s.cxm with repStamps := smSet [] s.cxm.repStamps g st } }
        if isPermanent s.cxm.retryCfg st then
          raiseL .cxm 8 (groupLinks s g) { s1 with cxm := { s1.cxm with job := none, failed := setAdd g s1.cxm.failed } }
        else { s1 with cxm := { s1.cxm with job := none, queue := g :: s1.cxm.queue } }
      else if s.cxm.queue.contains g then s
      else if !s.cxm.rebuild && decide (32 ≤ s.cxm.queue.length) then rebuildAll s
      else { s with cxm := { s.cxm with quar := setAdd g s.cxm.quar, queue := s.cxm.queue ++ [g] } }
    | none =>
      if s.cxm.queue.contains g then s
      else if !s.cxm.rebuild && decide (32 ≤ s.cxm.queue.length) then rebuildAll s
      else { s with cxm := { s.cxm with quar := setAdd g s.cxm.quar, queue := s.cxm.queue ++ [g] } }

/-- An integrity failure of a data line (`tree` false) or of its leaf (R276). -/
def ctxAlarm (tree : Bool) (n : Nat) (s : State) : State :=
  let off := if tree then leafOffset (leafOfLine n) else lineOffset n
  quarGroup (groupOfLine n) (raiseL .cxm (if tree then 1 else 0) (groupLinks s (groupOfLine n))
    (bump 0x50 none (lastErr (if tree then 2 else 1) (if tree then 1 else 0) off s)))

/-- A memory error (R276). -/
def ctxMemErr (tree : Bool) (n : Nat) (s : State) : State :=
  let off := if tree then leafOffset (leafOfLine n) else lineOffset n
  quarGroup (groupOfLine n) (raiseL .cxm 3 (groupLinks s (groupOfLine n))
    (bump 0x51 none (lastErr (if tree then 4 else 3) (if tree then 1 else 0) off s)))

/-- A fault of the port (R277): with the LIMIT-th in WINDOW it is out of service and every fill fails. -/
def cxmFault (s : State) : State :=
  let st := stampAdd s.cxm.stamps (now s)
  let s1 := { s with cxm := { s.cxm with stamps := st } }
  if isPermanent s.cxm.retryCfg st then setDeg 4 { s1 with cxm := { s1.cxm with oos := true } } else s1

/-- A counter renewal starts once TOP_CTR reaches 2^56 - 2^32 (R270, R281). -/
def renewCheck (s : State) : State :=
  if 2 ^ 56 - 2 ^ 32 ≤ s.cxm.topCtr ∧ s.cxm.rebuild = false ∧ s.cxm.trusted = true then
    let (r, s1) := draw s
    rebuildAll { s1 with cxm := { s1.cxm with nonce := r.extractLsb' 0 64, topCtr := 0, leafCtr := [], nodeCtr := [], leaves := [] } }
  else s

end Sys2Proof.Machine
end

