-- ==== Sys2Proof/Machine/MciOps.lean ====
section
/-!
DEFINITION. The command interface (R322–R336): statuses, the opcode table's columns, replies and the duplicate cache,
the checks of R327 that every command meets, forwarding, objects and order.
-/
namespace Sys2Proof.Machine

/-! Status codes (R328). -/
def stOk : Nat := 0x00
def stDeferred : Nat := 0x01
def stDuplicate : Nat := 0x02
def stBadOpcode : Nat := 0x10
def stBadLength : Nat := 0x11
def stBadParam : Nat := 0x12
def stNoResource : Nat := 0x13
def stNotFound : Nat := 0x14
def stWrongState : Nat := 0x15
def stWrongMode : Nat := 0x16
def stAttrDenied : Nat := 0x17
def stAuthFail : Nat := 0x18
def stIntegrityFail : Nat := 0x19
def stTampered : Nat := 0x1A
def stFabricSplit : Nat := 0x1B
def stTimeUnsync : Nat := 0x1C
def stJnlWorn : Nat := 0x1D
def stBusy : Nat := 0x1E
def stTimeout : Nat := 0x1F
def stPrivDenied : Nat := 0x20
def stAborted : Nat := 0x21

/-- Columns of the opcode table (R336): LEN, COLD permitted, wakes from DOZE first (Z+), privileged only. -/
structure OpInfo where
  len : Nat → List W64 → Bool
  cold : Bool
  wake : Bool
  priv : Bool

/-- A fixed LEN. -/
def lenIs (n : Nat) : Nat → List W64 → Bool := fun l _ => l == n

/-- LEN of the commands whose first word tells it (R338, R344, R346). -/
def lenPolicy : Nat → List W64 → Bool := fun l ws => l == 2 * fld (wordAt ws 0) 16 6 + 1 && decide (1 ≤ l) && decide (l ≤ 63)
def lenLoad : Nat → List W64 → Bool := fun l ws => 8 * l == 8 + fld (wordAt ws 0) 16 8 && decide (3 ≤ l) && decide (l ≤ 7)
def lenSetCak : Nat → List W64 → Bool := fun l ws => 8 * l == 48 + fld (wordAt ws 0) 40 8 && decide (6 ≤ l) && decide (l ≤ 12)

/-- The opcode table. -/
def opInfo (op : Nat) : Option OpInfo :=
  match op with
  | 0x01 => some ⟨lenIs 0, true, false, false⟩
  | 0x02 => some ⟨lenIs 0, true, false, false⟩
  | 0x03 => some ⟨lenIs 1, true, false, true⟩
  | 0x04 => some ⟨lenIs 1, true, false, false⟩
  | 0x05 => some ⟨lenPolicy, true, false, true⟩
  | 0x10 => some ⟨lenIs 4, false, true, true⟩
  | 0x11 => some ⟨lenIs 4, false, true, true⟩
  | 0x12 => some ⟨lenIs 1, false, true, false⟩
  | 0x13 => some ⟨lenIs 1, false, true, false⟩
  | 0x14 => some ⟨lenIs 1, false, true, true⟩
  | 0x15 => some ⟨lenIs 1, true, true, false⟩
  | 0x20 => some ⟨lenIs 2, false, false, true⟩
  | 0x21 => some ⟨lenIs 1, false, false, true⟩
  | 0x22 => some ⟨lenIs 1, true, false, false⟩
  | 0x30 => some ⟨lenIs 6, false, true, true⟩
  | 0x31 => some ⟨lenIs 1, false, true, true⟩
  | 0x32 => some ⟨lenIs 1, false, true, true⟩
  | 0x33 => some ⟨lenIs 1, false, true, true⟩
  | 0x34 => some ⟨lenIs 1, true, true, false⟩
  | 0x35 => some ⟨lenIs 1, true, true, false⟩
  | 0x40 => some ⟨lenLoad, true, false, true⟩
  | 0x41 => some ⟨lenIs 9, true, false, true⟩
  | 0x42 => some ⟨lenIs 1, true, false, true⟩
  | 0x43 => some ⟨lenIs 1, true, false, true⟩
  | 0x44 => some ⟨lenIs 1, true, false, false⟩
  | 0x45 => some ⟨lenIs 1, true, false, true⟩
  | 0x50 => some ⟨lenIs 50, false, false, true⟩
  | 0x51 => some ⟨lenIs 1, false, false, true⟩
  | 0x52 => some ⟨lenIs 1, true, false, false⟩
  | 0x58 => some ⟨lenIs 2, false, false, true⟩
  | 0x59 => some ⟨lenIs 1, false, true, true⟩
  | 0x5A => some ⟨lenSetCak, false, false, true⟩
  | 0x5B => some ⟨lenIs 1, true, false, false⟩
  | 0x5C => some ⟨lenIs 18, false, false, true⟩
  | 0x60 => some ⟨lenIs 1, true, false, false⟩
  | 0x61 => some ⟨lenIs 1, true, false, true⟩
  | 0x68 => some ⟨lenIs 1, true, false, false⟩
  | 0x69 => some ⟨lenIs 2, true, false, true⟩
  | 0x6A => some ⟨lenIs 17, false, false, true⟩
  | 0x6B => some ⟨lenIs 0, true, false, true⟩
  | 0x6C => some ⟨lenIs 1, true, false, true⟩
  | 0x70 => some ⟨lenIs 0, false, false, true⟩
  | 0x71 => some ⟨lenIs 0, true, false, false⟩
  | 0x72 => some ⟨lenIs 0, true, false, true⟩
  | 0x78 => some ⟨lenIs 0, false, true, true⟩
  | 0x79 => some ⟨lenIs 1, false, true, true⟩
  | 0x80 => some ⟨lenIs 6, true, false, true⟩
  | 0x81 => some ⟨lenIs 1, true, false, false⟩
  | 0x88 => some ⟨lenIs 1, true, false, true⟩
  | 0xF0 => some ⟨lenIs 1, true, true, true⟩
  | 0xF1 => some ⟨lenIs 0, true, false, true⟩
  | _ => none

/-- SYS_NOP, SYS_GET_INFO, SYS_READ_STATE belong to no object (R330). -/
def opFree (op : Nat) : Bool := op == 0x01 || op == 0x02 || op == 0x04

/-- The query opcodes (R332). -/
def opQuery (op : Nat) : Bool :=
  [0x15, 0x22, 0x34, 0x35, 0x44, 0x52, 0x5B, 0x60, 0x68, 0x71, 0x81].contains op

/-- FLAGS. -/
def pktFence (p : Pkt) : Bool := p.flags.getLsbD 0
def pktRemote (p : Pkt) : Bool := p.flags.getLsbD 1

/-- Reserved bits of the header and DST (R7, R322). -/
def headerBad (p : Pkt) : Bool := p.flags &&& 0xFC != 0 || p.rsv != 0 || (!pktRemote p && p.dst != 0)

/-- Parameter word. -/
def QCmd.w (q : QCmd) (i : Nat) : W64 := wordAt q.pkt.words i

/-- Requester codes and cache keys (R324, R329). -/
def reqCode : Req → Nat
  | .hq n => n | .svc => 8 | .fab a => 0x40 + a
def isSvc (r : Req) : Bool := match r with | .svc => true | _ => false

/-- A command's and a reply's header (R322, R323). -/
def cmdHeader (op : Nat) (flags len tag : Nat) : W64 := put op 56 8 ||| put flags 48 8 ||| put len 40 8 ||| put tag 24 16
def repHeader (q : QCmd) (status rlen orig trunc : Nat) : W64 :=
  put q.opcode.toNat 56 8 ||| put status 48 8 ||| put rlen 40 8 ||| put q.pkt.tag 24 16 ||| put (reqCode q.pkt.req) 16 8
    ||| put orig 8 8 ||| put trunc 0 8

/-! Replies. -/

/-- Slot s of HQn. -/
def hostSlot (s : State) (n k : Nat) : HostSlot := smGet .reset s.mci.slots (8 * n + k)
def setHostSlot (n k : Nat) (v : HostSlot) (s : State) : State :=
  { s with mci := { s.mci with slots := smSet .reset s.mci.slots (8 * n + k) v } }

/-- Deliver a reply: to the host slot with its event, to the peer, or to the service (R325, R319, R335). -/
def deliver (q : QCmd) (status : Nat) (words : List W64) (orig trunc : Nat) (s : State) : State :=
  let h := repHeader q status words.length orig trunc
  let s1 := bump 0x5C none s
  match q.pkt.req with
  | .hq n => raise .mci n (quePass 7 1 (setHostSlot n q.pkt.slot { hostSlot s1 n q.pkt.slot with st := .done, rep := h :: words } s1))
  | .fab a => sendTo a (.reply h words) s1
  | .svc => s1

/-- CRC-32C over the parameter words (R329). -/
def pktCrc (p : Pkt) : BitVec 32 := crc32c (wordsBytes p.words)

/-- The caches with an entry added: 64 for each host queue, 64 for FAB in all (R329). -/
def dupAdd (d : Dup) (ds : List Dup) : List Dup :=
  let same := fun (x : Dup) => if d.key < 8 then x.key == d.key else decide (8 ≤ x.key)
  let old := ds.filter (fun x => !(x.key == d.key && x.tag == d.tag))
  let n := (old.filter same).length
  let dropOld := match old.find? same with
    | some o => if 64 ≤ n then old.filter (fun x => x != o) else old
    | none => old
  dropOld ++ [d]

/-- Complete a command, with RFLAGS: it is cached, counted and answered; it runs no longer. -/
def completeWith (q : QCmd) (status : Nat) (words : List W64) (trunc : Nat) (s : State) : State :=
  let d : Dup := { key := reqCode q.pkt.req, tag := q.pkt.tag, opcode := q.opcode, crc := pktCrc q.pkt,
                   status := BitVec.ofNat 8 status, rlen := words.length, words := words.take 8 }
  let m := { s.mci with
    running := s.mci.running.filter (fun r => r.cmd.id != q.id),
    cmdq := s.mci.cmdq.filter (fun c => c.id != q.id),
    dups := if isSvc q.pkt.req then s.mci.dups else dupAdd d s.mci.dups }
  let s1 := if s.mci.cmdq.any (fun c => c.id == q.id) then modQue 6 (fun v => v.take 1) s else s
  deliver q status words 0 trunc { s1 with mci := m }

/-- Complete a command. -/
def complete (q : QCmd) (status : Nat) (words : List W64) (s : State) : State := completeWith q status words 0 s

/-- Complete with a status that carries no words. -/
def fail (q : QCmd) (status : Nat) (s : State) : State := complete q status [] s

/-- Complete with OK. -/
def ok (q : QCmd) (s : State) : State := complete q stOk [] s

/-- The command goes on until `w` (R330). -/
def waitFor (q : QCmd) (w : Wait) (s : State) : State :=
  { s with mci := { s.mci with running := s.mci.running ++ [{ cmd := q, wait := w }] } }

/-- Complete every running command that waits so, with a status. -/
def completeWhere (p : Wait → Bool) (status : Nat) (words : List W64) (s : State) : State :=
  (s.mci.running.filter (fun r => p r.wait)).foldl (fun t r => complete r.cmd status words t) s

/-- Complete a running command by its number. -/
def completeId (id status : Nat) (words : List W64) (s : State) : State :=
  (s.mci.running.filter (fun r => r.cmd.id == id)).foldl (fun t r => complete r.cmd status words t) s

/-- Every command in progress ends with a status (R332). -/
def abortAll (status : Nat) (p : QCmd → Bool) (s : State) : State :=
  ((s.mci.running.map (·.cmd) ++ s.mci.cmdq).filter p).foldl (fun t q => fail q status t) s

/-! The checks of R327 that do not depend on the opcode's words. -/

/-- The status of steps 1 and 2. -/
def checkForm (q : QCmd) : Option Nat :=
  match opInfo q.opcode.toNat with
  | none => some stBadOpcode
  | some o => if q.pkt.len ≤ 64 ∧ o.len q.pkt.len q.pkt.words = true then none else some stBadLength

/-- A cached command of the same requester and tag (R329). -/
def dupEntry (s : State) (q : QCmd) : Option Dup :=
  if isSvc q.pkt.req then none else s.mci.dups.find? (fun d => d.key == reqCode q.pkt.req && d.tag == q.pkt.tag)

/-- A command of the same requester and tag is still executing. -/
def tagBusy (s : State) (q : QCmd) : Bool :=
  !isSvc q.pkt.req &&
    (s.mci.running.map (·.cmd) ++ s.mci.cmdq).any (fun c => c.id != q.id && c.pkt.req == q.pkt.req && c.pkt.tag == q.pkt.tag)

/-- Step 3: the reply of a duplicate, of tag misuse, or of a tag in use; none when the command is new. -/
def checkDup (q : QCmd) (s : State) : Option State :=
  match dupEntry s q with
  | some d =>
    if d.opcode = q.opcode ∧ d.crc = pktCrc q.pkt then
      some (deliver q stDuplicate d.words d.status.toNat (bn (decide (8 < d.rlen))) (bump 0x5D none s))
    else some (deliver q stBadParam [] 0 0 (raise .mci 5 s))
  | none => if tagBusy s q then some (deliver q stBusy [] 0 0 s) else none

/-- Privilege of the requester (R324). -/
def hasPriv (q : QCmd) : Bool := match q.pkt.req with | .svc => true | .fab _ => false | .hq _ => q.pkt.priv

/-- Status of a command in LOCKOUT (R79). -/
def lockoutStatus (s : State) : Nat := if s.glb.tampered then stTampered else stWrongMode

/-- The status of steps 4 to 6, and of the reserved bits of the header (step 7). -/
def checkRun (q : QCmd) (s : State) : Option Nat :=
  let op := q.opcode.toNat
  match opInfo op with
  | none => some stBadOpcode
  | some o =>
    if o.priv && !hasPriv q then some stPrivDenied
    else if s.glb.mode == .lockout && op != 0x02 && op != 0x04 then some (lockoutStatus s)
    else if s.glb.mode == .cold && !o.cold then some stWrongMode
    else if (s.glb.change.isSome || s.glb.resume == 1) && !opFree op && !opQuery op then some stBusy
    else if s.svc.stopped && op != 0x02 && op != 0x04 then some stBusy
    else if headerBad q.pkt then some stBadParam
    else none

/-- The root secret is absent: KEY_*, JNL_*, FAB_PAIR, FAB_UNPAIR and resume reply WRONG_STATE (R69). -/
def rootGone (s : State) : Bool := s.aon.rootAbsent || !s.vlt.rootOk

/-! Forwarding (R333). -/

/-- Forward a host command to another engine. -/
def forward (q : QCmd) (s : State) : State :=
  let o := match opInfo q.opcode.toNat with | some o => o.priv | none => false
  if o then fail q stPrivDenied s
  else if !isMember s q.pkt.dst then fail q stNotFound s
  else if !bitAt s.mci.cfg 8 then fail q stPrivDenied s
  else
    let tag := smGet 0 s.mci.fwdTag q.pkt.dst
    let s1 := { s with mci := { s.mci with fwdTag := smSet 0 s.mci.fwdTag q.pkt.dst ((tag + 1) % 65536) } }
    let h := cmdHeader q.opcode.toNat (bn (pktFence q.pkt)) q.pkt.words.length tag
    waitFor q (.remote q.pkt.dst tag) (sendTo q.pkt.dst (.cmd h q.pkt.words) (bump 0x5E none s1))

/-- Accept a command: steps 1 to 3, forwarding; `run` takes it from there. -/
def acceptCmd (run : QCmd → State → State) (q : QCmd) (s : State) : State :=
  match checkForm q with
  | some st => deliver q st [] 0 0 s
  | none =>
    match checkDup q s with
    | some t => t
    | none =>
      match q.pkt.req with
      | .fab _ => if pktRemote q.pkt then fail q stBadParam s else run q s
      | .hq _ => if pktRemote q.pkt then forward q s else run q s
      | .svc => run q s

/-- Domains that a wake switches on, in the order of R21: the cistern pairs not retired, the buffers, the lanes in service and
the spares that were on their way there. -/
def wakeDomains (s : State) : List Nat :=
  ((List.range 4).filter (fun p => !s.cis.retired.getLsbD p)).map (4 + ·) ++ [48, 49]
    ++ ((List.range 36).filter (fun i => let l := smGet Lane.reset s.lne.lanes i
          l.st == .inService || l.ramping == some true)).map (8 + ·)

/-- A wake begins (R94): the change and the latched cause. -/
def beginWake (s : State) : State :=
  if s.glb.mode == .doze && s.glb.change.isNone then
    { s with aon := { s.aon with wakeLatched := true },
             glb := { s.glb with change := some { kind := .waking, cmd := none }, ramping := s.glb.ramping.filter (fun n => decide (52 ≤ n)) ++ wakeDomains s } }
  else if s.glb.mode == .doze || s.glb.change.any (fun c => c.kind == .toDoze) then
    { s with aon := { s.aon with wakeLatched := true } }
  else s

/-- Lines of the protected region that a command touches (R278). -/
def cmdLines (s : State) (q : QCmd) : List Nat :=
  let op := q.opcode.toNat
  let w := q.w 0
  let l := fld w 0 10
  let sa := if bitAt w 63 then rxLine (fld w 0 16) else txLine (fld w 0 12)
  if op = 0x14 then
    secyLine l :: ((txOfLink s l).map txLine ++ ((smKeys s.rx).filter (fun r => rxLink s r == l)).map rxLine)
  else if 0x10 ≤ op ∧ op ≤ 0x15 then [secyLine l]
  else if op = 0x30 then
    (if bitAt w 63 then [rxLine (4 * fld w 0 14 + fld w 56 2)] else [secyLine (fld w 0 14), txLine (4 * fld w 0 10 + fld w 56 2)])
  else if op = 0x31 then [rxLine (fld w 0 16)]
  else if op = 0x32 then [secyLine l, txLine (4 * l + fld w 16 2)]
  else if 0x33 ≤ op ∧ op ≤ 0x35 then [sa]
  else if op = 0x50 then (linkSet (q.pkt.words.drop 2)).map secyLine
  else if op = 0x51 ∨ op = 0x52 then [secyLine l]
  else if op = 0x60 then [txLine (fld w 0 12)]
  else []

/-- A line of a quarantined group that is being re-primed holds a command back (R278). -/
def cmdQuar (s : State) (q : QCmd) : Bool :=
  !s.cxm.quar.isEmpty && (cmdLines s q).any (fun n => isQuar s n && !s.cxm.failed.contains (groupOfLine n))

/-- A line that a command needs lies in a group whose re-priming failed (R280, R328). -/
def cmdLost (s : State) (q : QCmd) : Bool :=
  (cmdLines s q).any (fun n => s.cxm.failed.contains (groupOfLine n) && !isResident s n)

/-- Start a command: steps 4 to 6, the wake it may need, then its own effect. -/
def startCmd (eff : QCmd → State → State) (q : QCmd) (s : State) : State :=
  match checkRun q s with
  | some st => fail q st s
  | none =>
    match opInfo q.opcode.toNat with
    | some o => if o.wake && s.glb.mode == .doze then waitFor q .wake (beginWake s)
      else if cmdLost s q then fail q stIntegrityFail s else eff q s
    | none => eff q s

/-! Objects and order (R330, R331). -/

/-- The objects of a command: link l is l, port p 2,000 + p, check engine k 3,000 + k, the vault 4,000; `none` is global. -/
def cmdObjects (s : State) (q : QCmd) : Option (List Nat) :=
  let op := q.opcode.toNat
  let w := q.w 0
  let scLink := fun (i : Nat) => match scOf s i with | some c => [c.link] | none => []
  let saLinks := if bitAt w 63 then scLink (fld w 0 16 / 4) else [fld w 0 16 / 4]
  if opFree op then some []
  else if (0x10 ≤ op ∧ op ≤ 0x15) ∨ op = 0x20 ∨ op = 0x51 ∨ op = 0x52 ∨ (0x58 ≤ op ∧ op ≤ 0x5B) ∨ op = 0x32 then some [fld w 0 10]
  else if op = 0x21 ∨ op = 0x22 then some (scLink (fld w 0 14))
  else if op = 0x30 then some (if bitAt w 63 then scLink (fld w 0 14) else [fld w 0 14])
  else if op = 0x31 then some (scLink (fld w 0 16 / 4))
  else if 0x33 ≤ op ∧ op ≤ 0x35 then some saLinks
  else if op = 0x50 ∨ op = 0x5C then some (linkSet (q.pkt.words.drop 2))
  else if 0x40 ≤ op ∧ op ≤ 0x45 then some [4000]
  else if op = 0x60 then some [fld w 0 12 / 4]
  else if op = 0x6C then some [2000 + fld w 0 3]
  else if op = 0x80 ∨ op = 0x81 then some [3000 + fld w 0 2]
  else none

/-- `a` runs and waits for its cut: SA_SET_TX, CUT_SCHEDULE and CUT_CANCEL do not wait for it but take the cut state that they find (R230;
log 163, DEDUCED against R330). -/
def cutPasses (s : State) (a b : QCmd) : Bool :=
  (a.opcode == 0x32 || a.opcode == 0x50) && (b.opcode == 0x32 || b.opcode == 0x50 || b.opcode == 0x51)
    && s.mci.running.any (fun r => r.cmd.id == a.id)

/-- `b`, accepted after `a`, waits for `a`. A running SYS_SET_MODE holds nothing: R332 answers BUSY (log 14). -/
def cmdAfter (s : State) (a b : QCmd) : Bool :=
  let fence := a.pkt.req == b.pkt.req && (pktFence a.pkt || pktFence b.pkt)
  let objs :=
    match cmdObjects s a, cmdObjects s b with
    | some xs, some ys => xs.any (fun x => ys.contains x)
    | none, some ys => a.opcode != 0x03 && !(ys.isEmpty && opFree b.opcode.toNat)
    | some _, none => true
    | none, none => a.opcode != 0x03
  fence || (objs && !cutPasses s a b)

/-- The first waiting command that may start. -/
def startable (s : State) : Option QCmd :=
  let earlier := fun (q : QCmd) =>
    (s.mci.running.map (·.cmd)) ++ s.mci.cmdq.takeWhile (fun c => c.id != q.id)
  s.mci.cmdq.find? (fun q => !(earlier q).any (fun a => decide (a.id < q.id) && cmdAfter s a q) && !cmdQuar s q)

/-- A command waits for commands accepted before it that have not completed, or for a quarantined line. -/
def heldBack (s : State) (q : QCmd) : Bool :=
  (s.mci.running.map (·.cmd) ++ s.mci.cmdq).any (fun a => decide (a.id < q.id) && cmdAfter s a q) || cmdQuar s q

/-- Put an accepted command into the command queue (R330, R359). -/
def enqueue (q : QCmd) (s : State) : State :=
  modQue 6 (fun v => v.add 1) { s with mci := { s.mci with cmdq := s.mci.cmdq ++ [q] } }

/-- A command row: its packet is accepted, and the command starts at once unless its turn has not come (R330); then
COMMAND_START starts it. -/
def runRow (op : Nat) (eff : QCmd → State → State) (p : Pkt) (s : State) : State :=
  let q : QCmd := { id := s.mci.nextId, opcode := BitVec.ofNat 8 op, pkt := p }
  acceptCmd (fun q t => if heldBack t q then enqueue q t else startCmd eff q (quePass 6 1 t)) q
    (telBump 0x1D6 1 none { s with mci := { s.mci with nextId := s.mci.nextId + 1 } })

/-! Registers that replies show. -/

/-- GLB_ID (R5), GLB_MODE (R80), GLB_DEG_CAUSE (R84). -/
def regGlbId (s : State) : W64 := put 2 56 8 ||| put 4 48 8 ||| put fabClass 32 8 ||| put 5 24 8 ||| put s.glb.fw.toNat 0 24
def regGlbMode (s : State) : W64 :=
  put s.glb.bootStage.toNat 32 8 ||| put s.glb.resume.toNat 28 4 ||| put s.glb.cause.toNat 16 8 ||| put s.glb.prev.code 8 3
    ||| put s.glb.mode.code 0 3
def regDeg (s : State) : W64 := put s.glb.deg.toNat 0 8

end Sys2Proof.Machine
end

