-- ==== Sys2Proof/Machine/Image.lean ====
section
/-!
DEFINITION. The configuration image (R350): its entries, built from the running configuration and read back.
-/
namespace Sys2Proof.Machine

/-- An entry of the image: KIND, bit 16 of its first word, INDEX, the following words. -/
structure ImgEntry where
  kind : Nat
  flag : Bool
  index : Nat
  words : List W64
deriving DecidableEq, Repr

/-- The words of an entry. -/
def entryWords (e : ImgEntry) : List W64 :=
  (put e.kind 56 8 ||| put e.words.length 48 8 ||| putB e.flag 16 ||| put e.index 0 16) :: e.words

/-- The entries of image words, `fuel` at most; none where an entry runs past the end or its KIND is undefined. -/
def parseEntries : Nat → List W64 → Option (List ImgEntry)
  | _, [] => some []
  | 0, _ :: _ => none
  | n + 1, w :: ws =>
    let k := fld w 48 8
    if 1 ≤ fld w 56 8 ∧ fld w 56 8 ≤ 0x0B ∧ k ≤ ws.length then
      (parseEntries n (ws.drop k)).map (fun es =>
        { kind := fld w 56 8, flag := bitAt w 16, index := fld w 0 16, words := ws.take k } :: es)
    else none

/-- The SecY of a link is keyed by MKA: its MKA is 1 and MKA_DISABLE has not ended its CA (R257). -/
def linkMka (s : State) (l : Nat) : Bool :=
  match secyOf s l with | some y => txpMka y.txp && !s.svc.manual.contains l | none => false

/-- SAs that the image carries: those of statically keyed SecYs (R238, R279; log 15). -/
def imgTx (s : State) : List (Nat × Sa) :=
  s.tx.filterMap (fun e => match e.2 with | some a => if linkMka s (saLink e.1) then none else some (e.1, a) | none => none)
def imgRx (s : State) : List (Nat × Sa) :=
  s.rx.filterMap (fun e => match e.2 with | some a => if linkMka s (rxLink s e.1) then none else some (e.1, a) | none => none)

/-- The distinct device blobs of the image, in order: key numbers are their places. -/
def imgKeys (s : State) : List (List Byte) :=
  (imgTx s ++ imgRx s).foldl (fun ks e => if ks.contains e.2.blob then ks else ks ++ [e.2.blob]) []
def keyNumber (ks : List (List Byte)) (b : List Byte) : Nat := ks.findIdx (fun k => k == b)

/-- The five words of a device blob. -/
def blobWords (b : List Byte) : List W64 := bytesWords 5 b

/-- Words of an SA entry up to its salt and SSCI. -/
def saWords (dir : Bool) (an link num : Nat) (a : Sa) : List W64 :=
  [saConfig dir an link a, BitVec.ofNat 64 num, BitVec.ofNat 64 (beNat (slice a.salt 0 8)),
   put (beNat (slice a.salt 8 4)) 32 32 ||| put a.ssci.toNat 0 32]

/-- FAB_SET_ROLE's OP 0 word for the settings in force, its key field 0. -/
def roleWord (s : State) : W64 := putB s.fab.auto 54 ||| put s.fab.pref 48 6 ||| put s.fab.prio 40 8

/-- JNL_LEASE_CFG (R179). -/
def regLeaseCfg (s : State) : W64 :=
  put s.jnl.resend 48 16 ||| put (effGrain s s.jnl.grainXpn) 40 6 ||| put (effGrain s s.jnl.grainPn) 32 6
    ||| put s.jnl.grainXpn 8 6 ||| put s.jnl.grainPn 0 6

/-- The two MKA_ENABLE words of a CA. -/
def mkaWords (l : Nat) (c : MkCa) : List W64 :=
  [put c.prio 16 8 ||| put c.suites 24 4 ||| put c.offs 28 3 ||| put l 0 10, put c.rekeyS 16 16 ||| put c.overlapMs 0 16]

/-- The participant whose CAK a CA keeps: the newest. -/
def caPart (c : MkCa) : Option MkPart := match c.second with | some p => some p | none => c.first

/-- The entries of the running configuration, in KIND and INDEX order. -/
def buildEntries (s : State) : List ImgEntry :=
  let ks := imgKeys s
  let settings : ImgEntry := ⟨1, false, 0, [roleWord s, s.svc.mkaCfg, regLeaseCfg s, s.mci.cfg]⟩
  let fabric := match s.svc.fabKey with | some (b, k) => [(⟨2, k, 0, blobWords b⟩ : ImgEntry)] | none => []
  let caks := s.svc.cas.filterMap (fun e => (caPart e.2).map (fun p => (⟨2, p.k256, 1 + e.1, blobWords p.cak⟩ : ImgEntry)))
  let rules := fun (d : Nat) (rs : List (W64 × W64)) =>
    let on := rs.filter (fun r => bitAt r.2 63)
    if on.isEmpty then [] else [(⟨3, false, d, on.flatMap (fun r => [r.1, r.2])⟩ : ImgEntry)]
  let secys := s.secys.filterMap (fun e => e.2.map (fun y =>
    (⟨4, false, e.1, [y.sci, y.txp, y.rxp, put y.st.code 62 2 ||| put y.curAn 60 2]⟩ : ImgEntry)))
  let scs := s.sct.scs.filterMap (fun e => e.2.map (fun c => (⟨5, false, e.1, [BitVec.ofNat 64 c.link, c.sci]⟩ : ImgEntry)))
  let keys := (List.range ks.length).map (fun i => (⟨6, false, i, blobWords (ks.getD i [])⟩ : ImgEntry))
  let txs := (imgTx s).map (fun e => (⟨7, false, e.1, saWords false (e.1 % 4) (saLink e.1) (keyNumber ks e.2.blob) e.2⟩ : ImgEntry))
  let rxs := (imgRx s).map (fun e =>
    (⟨8, false, e.1, saWords true (e.1 % 4) (rxLink s e.1) (keyNumber ks e.2.blob) e.2
        ++ [BitVec.ofNat 64 e.2.pn0, BitVec.ofNat 64 e.2.floor0]⟩ : ImgEntry))
  let mkas := s.svc.cas.filterMap (fun e =>
    if e.2.enabled then
      some (⟨9, false, e.1, mkaWords e.1 e.2 ++ bytesWords 4 (match caPart e.2 with | some p => p.ckn | none => [])⟩ : ImgEntry)
    else none)
  let pair := match s.fab.pair.partner with | some a => [(⟨0x0A, false, a, linkSetWords s.fab.pair.set⟩ : ImgEntry)] | none => []
  let grains := s.jnl.grainOver.map (fun e => (⟨0x0B, false, e.1, [put 2 62 2 ||| put e.2 40 6 ||| put e.1 0 12]⟩ : ImgEntry))
  settings :: fabric ++ caks ++ rules 0 s.egr.rules ++ rules 1 s.ing.rules ++ secys ++ scs ++ keys ++ txs ++ rxs ++ mkas ++ pair
    ++ grains

/-- The words of the running configuration's image. -/
def buildImage (s : State) : List W64 := (buildEntries s).flatMap entryWords

/-- The entries of an image. -/
def entriesOf (im : Option Image) : List ImgEntry :=
  match im with
  | some m => (parseEntries m.words.length m.words).getD []
  | none => []

/-- The entry of a kind and index among entries. -/
def entryAt (es : List ImgEntry) (kind index : Nat) : Option ImgEntry := es.find? (fun e => e.kind == kind && e.index == index)

/-- The committed image's entries. -/
def imgEntries (s : State) : List ImgEntry := entriesOf s.jnl.image

/-- The entry of a kind and index in the committed image. -/
def imgEntry (s : State) (kind index : Nat) : Option ImgEntry := entryAt (imgEntries s) kind index

/-- The device blob that entries hold for an SA. -/
def blobIn (es : List ImgEntry) (kind index : Nat) : Option (List Byte) :=
  match entryAt es kind index with
  | some e => (entryAt es 6 (wordAt e.words 1).toNat).map (fun k => (wordsBytes k.words).take 40)
  | none => none

/-- The device blob that the committed image holds for an SA. -/
def imgBlob (s : State) (kind index : Nat) : Option (List Byte) := blobIn (imgEntries s) kind index

/-! Writing an image (R190, R192, R234). -/

/-- Begin to write the running configuration, or ask for the next image while one is being written; answers the generation
to wait for, none where capacity refuses it. -/
def imageStart (s : State) : Option Nat × State :=
  match s.jnl.imgWr with
  | some im => (some (im.gen + 1), { s with jnl := { s.jnl with imgNext := true } })
  | none =>
    let ws := buildImage s
    let gen := (match s.jnl.image with | some im => im.gen | none => 0) + 1
    if jnlCap s < cellsLive s + ws.length then
      (none, raise .jnl 2 { s with jnl := { s.jnl with overCap := true } })
    else
      let kind := 6 + gen % 2
      let s1 := (List.range ws.length).foldl (fun t i => jAdd 5 (.cell kind i (wordAt ws i)) .nothing t)
        { s with jnl := { s.jnl with imgWr := some { gen := gen, words := ws, built := s.jnl.seq } } }
      (some gen, jIssue (jAdd 5 (.whole 6 0 (imagePayload gen ws)) (.image none) s1))

end Sys2Proof.Machine
end

