-- ==== Sys2Proof/Machine/SecOps.lean ====
section
/-!
DEFINITION. SecYs, SAs and cuts: the states of R97, installation and retirement (R218, R227, R246, R247), the cut's state
machine (R230–R235, R240, R243), and what the confirmation of a journal record sets off.
-/
namespace Sys2Proof.Machine

/-- Frames of a link in flight in a direction (R97). -/
def inFlightOf (s : State) (d : Dir) (l : Nat) : Nat := ((pathOf s d).frames.filter (fun f => f.link == l)).length

/-- A frame still uses an SA: in the lanes, or past step 16 and in the ingress sump for the SA's line (R126, R247). -/
def saBusy (s : State) (d : Dir) (i : Nat) : Bool :=
  (pathOf s d).frames.any (fun f => f.saIdx == i && (f.fate == .crypt || (d == .ing && f.fate == .wait (some (8192 + i)))))

/-- SecY `l` is ON. -/
def secyOn (s : State) (l : Nat) : Bool := match secyOf s l with | some y => y.st == .on | none => false

/-- SecY statistic `i` raised; its flag is set when it saturates at 2^63 − 1 (R123). -/
def statY (l i n : Nat) (s : State) : State :=
  modSecy l (fun y =>
    let v := smGet 0 y.stats i + n
    { y with stats := smSet 0 y.stats i (Nat.min v (2 ^ 64 - 1)),
             sat := if 2 ^ 64 - 1 < v then y.sat ||| BitVec.ofNat 11 (2 ^ i) else y.sat }) s

/-- SA statistic `i` raised, as R123 and R150 state. -/
def statOf (i n : Nat) (a : Sa) : Sa :=
  let v := smGet 0 a.stats i + n
  { a with stats := smSet 0 a.stats i (Nat.min v (2 ^ 64 - 1)),
           sat := if 2 ^ 64 - 1 < v then a.sat ||| BitVec.ofNat 4 (2 ^ i) else a.sat }

/-! Keys. -/

/-- Retire a key that no SA refers to any more: its slot is RETIRING until INFLIGHT clears (R226, R248). -/
def retireKey (kid : Nat) (s : State) : State :=
  match kidSlot s kid with
  | some n =>
    let v := vslot s n
    if v.refs = 0 then setVslot n { v with st := .retiring } s else s
  | none => s

/-- A SAK of the MKA service: a traffic key made or received by it (ORIGIN 2 or 7, R216). -/
def sakKey (s : State) (kid : Nat) : Bool :=
  match kidSlot s kid with | some n => isTraffic n && ((vslot s n).origin == 2 || (vslot s n).origin == 7) | none => false

/-! The MKA pool (R216, R217). -/

/-- The slot of a CA's key in the pool. -/
def poolFind (s : State) (l : Nat) (ckn : List Byte) (role : Role) : Option Nat :=
  ((s.svc.pool.find? (fun k => k.link == l && k.ckn == ckn && k.role == role)).bind (fun k => kidSlot s k.kid)).filter
    (fun n => (vslot s n).st == .loaded)

/-- Slots of the pool that an eviction may take: LOADED, and neither the fabric's ICK nor in use by the operation. -/
def poolIdle (s : State) (busy : List Nat) : List Nat :=
  ((List.range 184).map (8264 + ·)).filter (fun n => (vslot s n).st == .loaded && !busy.contains n && s.fab.ickKid != some (kidOf s n))

/-- A free slot of the pool; when it is full the least recently used key that no operation uses is evicted. -/
def poolRoom (busy : List Nat) (s : State) : Option Nat × State :=
  match freeSlot 8264 184 s with
  | (some n, s1) => (some n, s1)
  | (none, s1) =>
    match poolIdle s1 busy with
    | [] => (none, s1)
    | n :: ns =>
      let v := ns.foldl (fun b x => if (vslot s1 x).used < (vslot s1 b).used then x else b) n
      (some v, zeroSlot v s1)

/-- Put a CA's key into the pool. -/
def poolPut (l : Nat) (ckn : List Byte) (role : Role) (k256 : Bool) (origin : Nat) (busy : List Nat) (k : List Byte) (s : State) : State :=
  match poolRoom busy s with
  | (some n, s1) =>
    let s2 := writeKey n (if role == .kek then .wrapOnly else .deriveOnly) k256 false role origin k s1
    let old := s2.svc.pool.filter (fun x => !(x.link == l && x.ckn == ckn && x.role == role) && (kidSlot s2 x.kid).isSome)
    { s2 with svc := { s2.svc with pool := old ++ [⟨kidOf s2 n, l, ckn, role⟩] } }
  | (none, s1) => s1

/-- The CAK of a participant for an operation: from the pool, else out of custody into the pool (R217; ORIGIN 6: log 164). -/
def poolCak (l : Nat) (p : MkPart) (s : State) : Option (List Byte) × State :=
  match poolFind s l p.ckn .cak with
  | some n => (some (keyAt s n), setVslot n { vslot s n with used := now s } s)
  | none =>
    if unwInSvc s = 0 then (none, s)
    else
      match openDevice s p.k256 p.cak with
      | some k => (some k, poolPut l p.ckn .cak p.k256 6 [] k (telBump 0x1D1 1 none s))
      | none => (none, s)

/-- The KEK or the ICK of a participant for an operation: from the pool, else derived again from the CAK (R216, R217). -/
def poolDerived (l : Nat) (p : MkPart) (kek : Bool) (s : State) : Option (List Byte) × State :=
  let role : Role := if kek then .kek else .ick
  match poolFind s l p.ckn role with
  | some n => (some (keyAt s n), setVslot n { vslot s n with used := now s } s)
  | none =>
    if unwInSvc s = 0 then (none, s)
    else
      match poolCak l p s with
      | (some c, s1) =>
        let k := if kek then Config.mkaKek c p.ckn else Config.mkaIck c p.ckn
        (some k, poolPut l p.ckn role p.k256 3 (poolFind s1 l p.ckn .cak).toList k s1)
      | (none, s1) => (none, s1)

/-- The keys of a link's participants that are gone leave the pool. -/
def poolForget (l : Nat) (keep : List (List Byte)) (s : State) : State :=
  let gone := s.svc.pool.filter (fun k => k.link == l && !keep.contains k.ckn)
  gone.foldl (fun t k => match kidSlot t k.kid with | some n => zeroSlot n t | none => t)
    { s with svc := { s.svc with pool := s.svc.pool.filter (fun k => !(k.link == l && !keep.contains k.ckn)) } }

/-! Installing and removing SAs. -/

/-- An SA as SA_INSTALL gives it (R342). -/
def newSa (kid suite off pn floor : Nat) (salt : List Byte) (ssci : BitVec 32) (blob : List Byte) (t : Nat) : Sa :=
  { kid := kid, suite := suite, enabled := false, shared := false, home := 0, homeSa := 0, fresh := false, offCode := off,
    ssci := ssci, salt := salt, pn := pn, pn0 := pn, floor0 := floor, floor := floor, thr := false, exhausted := false,
    retiring := false, lease := .none, cur := ⟨0, 0⟩, nxt := ⟨0, 0⟩, stats := [], sat := 0, reprimed := false,
    tInst := t, tStart := 0, tStop := 0, blob := blob, intentSeq := 0, intentAt := 0 }

/-- Install a transmit SA whose INTENT is durable: bind the key, make the line resident, ask for the first lease where the
SecY is ON (R197, R227, R228). -/
def installTx (i : Nat) (a : Sa) (s : State) : State :=
  let start := if a.fresh then a.pn else Nat.max a.pn (hwOf s i)
  let s1 := setTx i (some { a with pn := start, tInst := now s }) (addRef a.kid true s)
  let s2 := if a.shared then s1
            else { (setHw i start s1) with jnl := { (setHw i start s1).jnl with dropped := s1.jnl.dropped.filter (· != i) } }
  let s3 := pinLine (txLine i) s2
  if secyOn s3 (saLink i) then leaseStart i s3 else s3

/-- Install a receive SA, disabled; its line is written to the region (R342); a statically keyed one gets a FLOOR cell
(R191; when floors are written is open: log 16). -/
def installRx (r : Nat) (a : Sa) (s : State) : State :=
  let s1 := setRx r (some { a with tInst := now s }) (addRef a.kid true s)
  let s2 := if s1.cxm.trusted then writeLine (rxLine r) s1 else s1
  if linkMka s (rxLink s r) || a.floor ≤ 1 || readOnly s || cellsLive s ≥ jnlCap s then s2
  else
    jIssue (jAdd 4 (.cell 5 r (markVal a.floor)) .nothing
      { s2 with jnl := { s2.jnl with floors := smSet 0 s2.jnl.floors r a.floor } })

/-- Remove a transmit SA: its line is freed, its key's REFS fall, its mark is kept (R246). -/
def removeTx (i : Nat) (s : State) : State :=
  match txOf s i with
  | some a => freeLine (txLine i) (setTx i none (addRef a.kid false (leaseAbandon i s)))
  | none => s

/-- Remove a receive SA (R247). -/
def removeRx (r : Nat) (s : State) : State :=
  match rxOf s r with
  | some a =>
    let s1 := freeLine (rxLine r) (setRx r none (addRef a.kid false s))
    if smGet 0 s1.jnl.floors r = 0 then s1
    else jIssue (jAdd 4 (.cell 8 r 5) .nothing { s1 with jnl := { s1.jnl with floors := smErase s1.jnl.floors r } })
  | none => s

/-- The receive SAs of a link, by index. -/
def rxOfLink (s : State) (l : Nat) : List Nat := (smKeys s.rx).filter (fun r => rxLink s r == l)

/-- The receive SCs of a link. -/
def scsOfLink (s : State) (l : Nat) : List Nat :=
  s.sct.scs.filterMap (fun e => match e.2 with | some c => if c.link = l then some e.1 else none | none => none)

/-! The receive SC table (R133, R134). -/

/-- The two candidate buckets of a key. -/
def bucketsOf (s : State) (l : Nat) (sci : W64) : List Nat :=
  [Config.scHash s.sct.key0 l sci % 2048, Config.scHash s.sct.key1 l sci % 2048]

/-- The SC index of (link, SCI). -/
def findSc (s : State) (l : Nat) (sci : W64) : Option Nat :=
  (s.sct.scs.find? (fun e => match e.2 with | some c => c.link == l && c.sci == sci | none => false)).map (·.1)

def bucket (s : State) (b : Nat) : List Nat := smGet [] s.sct.buckets b
def setBucket (b : Nat) (v : List Nat) (s : State) : State :=
  { s with sct := { s.sct with buckets := smSet [] s.sct.buckets b v } }

/-- The other candidate bucket of a resident entry. -/
def otherBucket (s : State) (b idx : Nat) : Nat :=
  match scOf s idx with
  | some c => ((bucketsOf s c.link c.sci).find? (fun x => x != b)).getD b
  | none => b

/-- Shortest chains of moves that free an entry of a bucket, breadth first: each is the list of (bucket, entry) moved, the
last one first. `seen` bounds the search to 256 moves (R134). -/
def movePath (s : State) : Nat → List (Nat × List (Nat × Nat)) → List Nat → Option (Nat × List (Nat × Nat))
  | 0, _, _ => none
  | _, [], _ => none
  | n + 1, (b, path) :: rest, seen =>
    if (bucket s b).length < 8 then some (b, path)
    else if 256 ≤ path.length then movePath s n rest seen
    else
      let steps := (bucket s b).map (fun e => (otherBucket s b e, (b, e) :: path))
      let fresh := steps.filter (fun x => !seen.contains x.1)
      movePath s n (rest ++ fresh) (seen ++ fresh.map (·.1))

/-- Carry out the moves of a path towards bucket `b`. -/
def doMoves : List (Nat × Nat) → Nat → State → State
  | [], _, s => s
  | (from_, e) :: rest, dest, s =>
    let s1 := setBucket dest (bucket s dest ++ [e]) s
    doMoves rest from_ (setBucket from_ ((bucket s1 from_).filter (· != e)) s1)

/-- Place a new entry: a free candidate place, then moves, then the stash; none when it cannot be placed. -/
def placeSc (idx l : Nat) (sci : W64) (s : State) : Option State :=
  let bs := bucketsOf s l sci
  match bs.find? (fun b => (bucket s b).length < 8) with
  | some b => some (setBucket b (bucket s b ++ [idx]) s)
  | none =>
    match movePath s 4096 (bs.map (fun b => (b, []))) bs with
    | some (b, path) =>
      let s1 := doMoves path b s
      let s2 := { s1 with sct := { s1.sct with relocHw := Nat.max s1.sct.relocHw (Nat.min 0xFFFF path.length) } }
      (bs.find? (fun x => (bucket s2 x).length < 8)).map (fun x => setBucket x (bucket s2 x ++ [idx]) s2)
    | none => if s.sct.stash.length < 64 then some { s with sct := { s.sct with stash := s.sct.stash ++ [idx] } } else none

/-- A free SC index; which one is not specified (R133). -/
def freeSc (s : State) : Option Nat × State :=
  let (c, s1) := pickFree s
  ((firstFrom (fun i => (scOf s1 ((c + i) % 16384)).isNone) 0 16384).map (fun i => (c + i) % 16384), s1)

/-- A stash entry moves to a candidate bucket that has room, if one can (R134). -/
def pullStash (s : State) : State :=
  let room := fun (e : Nat) => match scOf s e with
    | some c => (bucketsOf s c.link c.sci).find? (fun b => (bucket s b).length < 8)
    | none => none
  match s.sct.stash.find? (fun e => (room e).isSome) with
  | some e =>
    (match room e with
     | some b => setBucket b (bucket s b ++ [e]) { s with sct := { s.sct with stash := s.sct.stash.filter (· != e) } }
     | none => s)
  | none => s

/-- Add a receive SC: its index, none where it cannot be placed (the table is then unchanged); a stash entry may move back
into a bucket first. -/
def addSc (l : Nat) (sci : W64) (s : State) : Option Nat × State :=
  match freeSc s with
  | (some idx, s1) =>
    (match placeSc idx l sci (pullStash s1) with
     | some s2 => (some idx, { s2 with sct := { s2.sct with scs := smSet none s2.sct.scs idx (some ⟨l, sci⟩) } })
     | none => (none, s))
  | (none, _) => (none, s)

/-- Remove a receive SC (R134). -/
def removeSc (idx : Nat) (s : State) : State :=
  let t := s.sct
  { s with sct := { t with
    scs := smSet none t.scs idx none, stash := t.stash.filter (· != idx),
    buckets := (t.buckets.map (fun e => (e.1, e.2.filter (· != idx)))).filter (fun e => !e.2.isEmpty) } }

/-! Cuts (R230–R235). -/

/-- No cut pending. -/
def Secy.noCut (y : Secy) : Secy := { y with cut := .none, cutTime := 0, cutSeq := 0, cutShared := false, cutBySvc := false }

/-- The COMMIT of a link waits or is being written. -/
def commitPending (s : State) (l : Nat) : Bool :=
  workPending s (fun d => match d with | .commit k => k == l | _ => false)

/-- Write a CUT_DONE (R236). -/
def cutDoneWrite (l i t : Nat) (cancelled : Bool) (s : State) : State :=
  jIssue (jAdd 3 (.whole 5 (BitVec.ofNat 16 i) (cutDonePayload (if cancelled then 0 else t) (bn cancelled))) (.cutDone l cancelled) s)

/-- Cancel an ARMED or TIMED cut (R230); an ARMING one whose COMMIT is not written just ends. -/
def cutCancel (l : Nat) (s : State) : State :=
  match secyOf s l with
  | some y =>
    if y.cut == .none then s
    else if y.cut == .arming && !commitPending s l then modSecy l Secy.noCut s
    else cutDoneWrite l (4 * l + y.cutAn) 0 true (modSecy l Secy.noCut s)
  | none => s

/-- CUT_ABORT for every offer of a command's shared cut, which then ends (R244, R319). -/
def offersAbort (cmd : Option Nat) (s : State) : State :=
  let mine := s.fab.offers.filter (fun o => o.cmd == cmd)
  let s1 := { s with fab := { s.fab with offers := s.fab.offers.filter (fun o => o.cmd != cmd) } }
  mine.foldl (fun t o => (o.waiting).foldl (fun u a =>
    sendTo a (.cutAbort { home := u.fab.addr.getD 0, sa := o.sa, an := o.an, t := o.t, key := [], status := 0 }) u) t) s1

/-- A CUT_SCHEDULE fails as a whole: every cut of its links ends, its offers are withdrawn, it replies (R240, R244). -/
def scheduleFail (r : Running) (links : List Nat) (status : Nat) (s : State) : State :=
  complete r.cmd status [] (offersAbort (some r.cmd.id) (links.foldl (fun t l => cutCancel l t) s))

/-- End a pending cut of a link: the commands that wait for it reply. -/
def cutEnd (l status : Nat) (s : State) : State :=
  let s1 := completeWhere (fun w => w == .cut l) status [] (modSecy l Secy.noCut s)
  if status = stOk then s1
  else
    match s1.mci.running.find? (fun r => match r.wait with | .timed ls => ls.contains l | _ => false) with
    | some r => (match r.wait with | .timed ls => scheduleFail r ls status s1 | _ => s1)
    | none => s1

/-- The stand-in of a statically keyed SecY was installed after the committed image was built, so the cut needs another one (R234). -/
def cutNeedsImage (s : State) (l an : Nat) : Bool :=
  match txOf s (4 * l + an) with
  | some a => !linkMka s l && (match s.jnl.image with | some im => decide (im.built ≤ a.intentAt) && a.intentAt != 0 | none => true)
  | none => false

/-- The stand-in holds a lease. -/
def leaseHeld (s : State) (i : Nat) : Bool :=
  match txOf s i with | some a => a.lease == .one || a.lease == .fetch || a.lease == .two | none => false

/-- Carry an ARMING cut on: lease, image, COMMIT (R230, R234, R235). -/
def cutPump (l : Nat) (s : State) : State :=
  match secyOf s l with
  | some y =>
    let i := 4 * l + y.cutAn
    if y.cut != .arming || commitPending s l then s
    else if y.st == .on && !leaseHeld s i then s
    else if readOnly s then cutEnd l stJnlWorn s
    else if cutNeedsImage s l y.cutAn then
      if s.jnl.imgWr.any (fun im => (txOf s i).any (fun a => decide (a.intentAt < im.built))) then s
      else (match imageStart s with
       | (some _, t) => t
       | (none, t) => cutEnd l stNoResource t)
    else
      let cur := 4 * l + y.curAn
      let curIdx := if (txOf s cur).isSome then cur else 0xFFFF
      let kid := match txOf s i with | some a => a.kid | none => 0xFFFF
      jIssue (jAdd 3 (.whole 4 (BitVec.ofNat 16 i) (commitPayload y.cutTime curIdx kid)) (.commit l) s)
  | none => s

/-- Arm a cut: NONE becomes ARMING (R230). -/
def cutArm (l an t : Nat) (svc shared : Bool) (s : State) : State :=
  cutPump l (modSecy l (fun y => { y with cut := .arming, cutAn := an, cutTime := t, cutBySvc := svc, cutShared := shared }) s)

/-- The failing check of R231, if any. -/
def cutCheck (s : State) (l an : Nat) (svc : Bool) : Option Nat :=
  match secyOf s l with
  | none => some stNotFound
  | some y =>
    match txOf s (4 * l + an) with
    | none => some stNotFound
    | some a =>
      if (linkMka s l && !svc) || y.curAn == an || a.exhausted then some stWrongState
      else if y.cut == .arming then some stBusy
      else if y.cut != .none then some stWrongState
      else none

/-- The cut: the current AN changes, the command replies OK; a statically keyed SecY gets an image and then its CUT_DONE, an
MKA SecY its CUT_DONE (R232, R233, R235). -/
def cutTake (l : Nat) (s : State) : State :=
  match secyOf s l with
  | some y =>
    let old := 4 * l + y.curAn
    let new := 4 * l + y.cutAn
    let t := now s
    let s1 := modTx new (fun a => { a with tStart := t, tStop := 0 }) (modTx old (fun a => { a with tStop := t }) s)
    let s2 := dirtyLine (secyLine l) (modSecy l (fun y => { y with curAn := y.cutAn }) s1)
    let s3 := telBump 0x1CD 1 (some l) (cutEnd l stOk s2)
    if linkMka s l then cutDoneWrite l new t false s3
    else { s3 with jnl := { s3.jnl with cutImg := s3.jnl.cutImg ++ [(l, new, t)] } }
  | none => s

/-- A cut that is to be taken now: ARMED, or TIMED with its instant come (R232); in DOZE none is (R96). -/
def cutDue (s : State) (y : Secy) : Bool :=
  (y.cut == .armed || (y.cut == .timed && decide (y.cutTime ≤ now s))) && s.glb.mode != .doze

/-- The image of R235's step 5, shared by the cuts of one instant: asked for once no other statically keyed SecY's cut is due. Refused for
capacity, it comes with a later image. -/
def cutImages (s : State) : State :=
  if s.jnl.cutImg.isEmpty || (secyLinks s).any (fun l => !linkMka s l && (secyOf s l).any (cutDue s)) then s
  else
    let (g, u) := match imageStart s with | (some g, u) => (g, u) | (none, u) => (0, u)
    { u with jnl := { u.jnl with afterImg := u.jnl.afterImg ++ u.jnl.cutImg.map (fun c => (g, c.1, c.2.1, c.2.2)), cutImg := [] } }

/-- Timed cuts that a CUT_SCHEDULE waits for: all armed, it replies OK (R240). -/
def timedReply (s : State) : State :=
  (s.mci.running.filter (fun r => match r.wait with
    | .timed ls => ls.all (fun l => match secyOf s l with | some y => y.cut == .timed | none => false) && s.fab.offers.all
        (fun o => o.cmd != some r.cmd.id || o.waiting.all (fun a => o.acked.contains a))
    | _ => false)).foldl (fun t r =>
      ok r.cmd { t with fab := { t.fab with offers := t.fab.offers.filter (fun o => o.cmd != some r.cmd.id) } }) s

/-- A COMMIT is confirmed: ARMED, or TIMED (R230, R235). -/
def commitConfirmed (l seq : Nat) (s : State) : State :=
  timedReply (modSecy l (fun y =>
    if y.cut == .arming then { y with cut := if y.cutTime = 0 then .armed else .timed, cutSeq := seq } else y) s)

/-! SecY states (R97, R98). -/

/-- A SecY is enabled: ON; its transmit SAs ask for leases from their headwater marks. -/
def secyStart (l : Nat) (s : State) : State :=
  let s1 := dirtyLine (secyLine l) (modSecy l (fun y => { y with st := .on, pendEn := false }) s)
  (txOfLink s1 l).foldl (fun t i => leaseStart i t) s1

/-- A transmit SA whose SecY drains asks for nothing more: what it holds serves the frames in flight (R176). -/
def leaseHold (i : Nat) (s : State) : State :=
  modTx i (fun a => match a.lease with
    | .wait => { a with lease := .none }
    | .fetch => { a with lease := .one }
    | .none | .one | .two => a) s

/-- An ON SecY drains; a pending enable is cancelled; an ARMING cut no longer waits for its lease (R97, R231). The leases held stay until
it is OFF, as R97 and R177 have it, for the frames in flight; R176's DRAINING SecY holds none (log 154, DESIGN CHOICE). -/
def secyStop (l : Nat) (s : State) : State :=
  match secyOf s l with
  | some y =>
    (match y.st with
     | .on =>
       let s1 := dirtyLine (secyLine l) (setSecy l (some { y with st := .draining, pendEn := false }) s)
       cutPump l ((txOfLink s1 l).foldl (fun t i => leaseHold i t) s1)
     | .draining => setSecy l (some { y with pendEn := false }) s
     | .off => s)
  | none => s

/-- A DRAINING SecY without frames is OFF: leases abandoned; a pending enable executes (R97). -/
def secyOffNow (l : Nat) (s : State) : State :=
  match secyOf s l with
  | some y =>
    let s1 := (txOfLink s l).foldl (fun t i => leaseAbandon i t) s
    let s2 := dirtyLine (secyLine l) (modSecy l (fun y => { y with st := .off }) s1)
    if y.pendEn then secyStart l s2 else s2
  | none => s

/-! The service retires SAs (R255, R257). -/

/-- Begin to retire an SA. -/
def retireTx (i : Nat) (s : State) : State := modTx i (fun a => { a with retiring := true }) (leaseAbandon i s)
def retireRx (r : Nat) (s : State) : State := dirtyLine (rxLine r) (modRx r (fun a => { a with retiring := true, enabled := false }) s)

/-- A retired SA without frames left is removed; keys of an MKA SecY retire with it (R246–R248). -/
def retireTxDone (i : Nat) (s : State) : State :=
  match txOf s i with
  | some a =>
    let mka := linkMka s (saLink i) || sakKey s a.kid
    let s1 := removeTx i s
    completeWhere (fun w => w == .saRetire .egr i) stOk [] (if mka then retireKey a.kid s1 else s1)
  | none => s

/-- A receive SC has an SA. -/
def scInUse (s : State) (c : Nat) : Bool := (List.range 4).any (fun a => (rxOf s (4 * c + a)).isSome)

/-- A receive SC that is to go and holds no SA any more goes (R254, R257). -/
def scLeave (c : Nat) (s : State) : State :=
  if s.svc.scOut.contains c && !scInUse s c then
    removeSc c { s with svc := { s.svc with scOut := s.svc.scOut.filter (· != c) } }
  else s

/-- A receive SC is to go: at once, or when its last SA has gone. -/
def scGo (c : Nat) (s : State) : State := scLeave c { s with svc := { s.svc with scOut := setAdd c s.svc.scOut } }

/-- The same of a receive SA; its SC may go with it. -/
def retireRxDone (r : Nat) (s : State) : State :=
  match rxOf s r with
  | some a =>
    let mka := linkMka s (rxLink s r) || sakKey s a.kid
    let s1 := removeRx r s
    scLeave (r / 4) (completeWhere (fun w => w == .saRetire .ing r) stOk [] (if mka then retireKey a.kid s1 else s1))
  | none => s

/-- The keys of a participant's SAK that no SA is bound to retire (R248). -/
def retirePart (p : MkPart) (s : State) : State := (p.txKid.toList ++ p.rxKid.toList).foldl (fun t k => retireKey k t) s

/-- End the CA of a link: participants gone, custody cleared, unbound SAKs retired (R217, R248, R257). -/
def mkaEnd (l : Nat) (s : State) : State :=
  let c := smGet .reset s.svc.cas l
  let s1 := (c.first.toList ++ c.second.toList).foldl (fun t p => retirePart p t) (poolForget l [] s)
  { s1 with svc := { s1.svc with cas := smSet .reset s1.svc.cas l .reset } }

/-- The SAs and receive SCs of a link retire: those without frames at once (R257, R340). -/
def retireLink (l : Nat) (s : State) : State :=
  let s1 := (txOfLink s l).foldl (fun t i => if saBusy t .egr i then retireTx i t else retireTxDone i (retireTx i t)) s
  let s2 := (rxOfLink s1 l).foldl (fun t r => if saBusy t .ing r then retireRx r t else retireRxDone r (retireRx r t)) s1
  (scsOfLink s2 l).foldl (fun t c => scGo c t) s2

/-- A SecY being deleted has neither SAs nor a CUT_DONE to wait for: it goes, and the command replies (R243, R340). -/
def deletePump (l : Nat) (s : State) : State :=
  match secyOf s l with
  | some y =>
    let waiting := workPending s (fun d => match d with | .cutDone k c => k == l && c | _ => false)
    if y.deleting && !waiting && (txOfLink s l).isEmpty && (rxOfLink s l).isEmpty then
      let s0 := { s with svc := { s.svc with manual := s.svc.manual.filter (· != l) } }
      let s1 := (scsOfLink s0 l).foldl (fun t c => removeSc c t) s0
      completeWhere (fun w => w == .secyDelete l) stOk [] (freeLine (secyLine l) (setSecy l none s1))
    else s
  | none => s

/-- SECY_DELETE of an OFF SecY (R243, R340). -/
def secyDeleteNow (l : Nat) (s : State) : State :=
  let s1 := modSecy l (fun y => { y with deleting := true }) s
  let s2 := cutEnd l stAborted (cutCancel l s1)
  deletePump l (retireLink l (mkaEnd l s2))

end Sys2Proof.Machine
end

