-- ==== Sys2Proof/Machine/RegView.lean ====
section
/-!
DEFINITION. What every register of the CSR window reads (R404–R411), the event sets of R369 among them.
-/
namespace Sys2Proof.Machine

/-- A register of domain `pd`: with the domain off only its configuration fields `cfg` read through (R51). -/
def gatedReg (s : State) (pd : Nat) (cfg w : W64) : W64 := if pdIsOn s pd then w else w &&& cfg

/-- Some domain of `n` from `lo` is on; a status that those domains share then shows itself. -/
def anyOn (s : State) (lo n : Nat) : Bool := (List.range n).any (fun i => pdIsOn s (lo + i))
def gatedAny (s : State) (lo n : Nat) (w : W64) : W64 := if anyOn s lo n then w else 0

/-- `n` counters of R122 from telemetry type `base`, at 8-byte steps from offset `lo`; the storage behind them lies in the `k` domains
from `pd` on, and they read 0 while those are off (R51; log 33). -/
def cntRegsIn (s : State) (pd k base lo n off : Nat) : Option W64 :=
  if lo ≤ off ∧ off < lo + 8 * n ∧ off % 8 = 0 then some (gatedAny s pd k (cntReg s (base + (off - lo) / 8))) else none

/-- Counters of one domain. -/
def cntRegs (s : State) (pd base lo n off : Nat) : Option W64 := cntRegsIn s pd 1 base lo n off

/-- Instance number of a register at `lo + step * i`. -/
def instAt (lo step n off : Nat) : Option Nat :=
  if lo ≤ off ∧ off < lo + step * n ∧ (off - lo) % step = 0 then some ((off - lo) / step) else none

/-! AON. -/

def regTmpStat (s : State) : W64 := put s.aon.tmpLatched.toNat 8 5 ||| put s.aon.tmpLive.toNat 0 4
def regBoot (s : State) : W64 :=
  put s.aon.lastMode.toNat 40 3 ||| put s.aon.rstCause.toNat 24 2 ||| put (Nat.min s.aon.bootCnt 0xFFFF) 0 16

/-! VLT. -/

def regVltStat (s : State) : W64 :=
  put (unwInSvc s) 52 4 ||| gatedReg s 3 0
    (putB (s.vlt.rootOk && !s.vlt.rootPar) 63 ||| putB s.vlt.zeroOk 62 ||| putB (drbgOn s) 61
      ||| put (usedSlots s (fun n => isHost n || isPool n)) 32 9 ||| put (usedSlots s isTraffic) 0 14)

/-! CIS and CXM. -/

def regCisStat (s : State) : W64 :=
  let on := s.cis.lines.filterMap (fun e => e.2.map (fun c => (e.1, c)))
  let pinned := fun (e : Nat × CLine) => decide (e.1 < 5120) && e.2.slot == e.1
  put s.cis.pairs.toNat 60 4 ||| put (on.filter (·.2.dirty)).length 32 14
    ||| put (on.filter (fun e => !pinned e)).length 16 14 ||| put (on.filter pinned).length 0 13

def regCxmStat (s : State) : W64 :=
  putB s.cxm.oos 63 ||| putB s.cxm.sweepOn 62 ||| putB s.cxm.rebuild 61 ||| put s.cxm.quar.length 32 11 ||| put s.cxm.gen 0 32

def regCxmPort (s : State) : W64 :=
  put (s.cxm.reads.filter (·.held)).length 48 8 ||| put s.cxm.reads.length 40 8
    ||| put (s.cxm.writes.filter (fun w => decide (w.tag < 32))).length 32 8 ||| put s.cxm.tmoCnt 16 16 ||| put s.cxm.errCnt 0 16

/-! JNL. -/

def regJnlStat (s : State) : W64 :=
  putB s.jnl.portOos 63 ||| putB (readOnly s) 62 ||| putB (wornLow s) 61 ||| putB s.jnl.overCap 60
    ||| put (liveCells s).length 32 14 ||| put s.jnl.ptr 16 12 ||| put (if s.jnl.resolved then liveSlots s else 0) 0 13

def regJnlWear (s : State) : W64 :=
  let live := s.jnl.slots.filter (fun e => !e.2.retired)
  put (live.foldl (fun m e => Nat.max m (e.2.wcnt.getD 0)) 0) 32 32 ||| put (s.jnl.slots.length - live.length) 0 32

def regJnlPort (s : State) : W64 := put s.jnl.wrLat 32 16 ||| put s.jnl.tmoCnt 16 16 ||| put s.jnl.errCnt 0 16

/-! EGR, ING, SVC. -/

def regPathStat (p : Path) : W64 := put p.lanes 32 8 ||| put p.shed 16 3 ||| put (Nat.min p.blkq.length 0xFFFF) 0 16

/-- Pending cuts, and the earliest instant of the timed ones (R240). -/
def pendingCuts (s : State) : Nat :=
  (s.secys.filter (fun e => match e.2 with | some y => y.cut == .armed || y.cut == .timed | none => false)).length
def nextCut (s : State) : Nat :=
  s.secys.foldl (fun m e => match e.2 with | some y => if y.cut == .timed then Nat.min m y.cutTime else m | none => m) (2 ^ 64 - 1)
def regCutStat (s : State) : W64 := put s.ecfg.abandoned 48 16 ||| put s.ecfg.rearmed 32 16 ||| put (pendingCuts s) 0 11

def regScStat (s : State) : W64 :=
  put s.sct.stash.length 48 8 ||| put s.sct.relocHw 32 16 ||| put s.sct.scs.length 0 15

/-- The CA of a link transmits with an agreed SAK. -/
def caSecured (s : State) (l : Nat) : Bool :=
  (smGet MkCa.reset s.svc.cas l).enabled &&
    (match secyOf s l with | some y => (txOf s (4 * l + y.curAn)).isSome | none => false)

def caParts (c : MkCa) : List MkPart := c.first.toList ++ c.second.toList

def regMkaStat (s : State) : W64 :=
  let on := s.svc.cas.filter (fun e => e.2.enabled)
  put s.svc.sakGen 48 16
    ||| put (on.foldl (fun n e => n + ((caParts e.2).flatMap (fun p => p.peers.filter (·.live))).length) 0) 32 13
    ||| put (on.filter (fun e => caSecured s e.1)).length 16 11 ||| put on.length 0 11

/-! LNE. -/

def LaneSt.code : LaneSt → Nat
  | .off => 0 | .inService => 1 | .warm => 2 | .retired => 3
def laneOf (s : State) (i : Nat) : Lane := smGet .reset s.lne.lanes i

/-- States of 18 lanes from lane `lo`. -/
def laneStates (s : State) (lo : Nat) : W64 :=
  (List.range 18).foldl (fun w k => w ||| put (laneOf s (lo + k)).st.code (2 * k) 2) 0

def regLaneFault (s : State) (i : Nat) : W64 :=
  let l := laneOf s i
  put l.lastStage 51 5 ||| put l.lastCheck 48 3 ||| put (Nat.min 15 (inWindow s.lne.retryCfg l.stamps (now s))) 44 4
    ||| put (Nat.min l.total 0xFFFFFFFF) 0 32

/-! FAB. -/

def regFabCfg (s : State) : W64 :=
  put (s.fab.addr.getD 0) 58 6 ||| put s.fab.pref 52 6 ||| put s.fab.prio 44 8 ||| putB s.fab.addr.isSome 43 ||| putB s.fab.auto 42
    ||| s.fab.cfg

/-- The offset estimate as 16 signed bits, saturating at ±32,767. -/
def offset16 (o : Int) : Nat :=
  let c := if 32767 < o then 32767 else if o < -32767 then -32767 else o
  (c % 65536).toNat

def regTimeStat (s : State) : W64 :=
  putB s.fab.master 63 ||| putB s.fab.unsync 62 ||| put (s.fab.masterAddr.getD 0) 56 6 ||| putB s.fab.masterAddr.isSome 55
    ||| put (offset16 s.fab.offset) 32 16 ||| put s.fab.syncs 0 32

def regPairStat (s : State) : W64 :=
  let p := s.fab.pair
  put (p.partner.getD 0) 58 6 ||| putB p.formed 57 ||| putB p.live 56 ||| putB p.split 55 ||| putB p.home 54 ||| putB p.takenOver 53
    ||| putB p.capped 52 ||| putB p.partner.isSome 51 ||| put p.epoch 32 16 ||| put p.peerEpoch 16 16
    ||| put (Nat.min 0xFFFF (p.mirAge / 1000)) 0 16

def regPortCfg (p : Port) : W64 := putB p.en 7 ||| put p.width 5 2 ||| putB p.rate 4 ||| putB p.test 3

def PortSt.code : PortSt → Nat
  | .detect => 0 | .train => 1 | .lock => 2 | .caps => 3 | .active => 4 | .idle => 5 | .absent => 6 | .off => 7

def regPortStat (p : Port) : W64 :=
  put p.st.code 61 3 ||| putB p.held 60 ||| put p.fails 56 4 ||| put p.widthUse 54 2 ||| put (p.peerAddr.getD 0) 48 6
    ||| put p.laneMap.toNat 40 8 ||| put p.polarity.toNat 36 4 ||| putB p.peerAddr.isSome 35 ||| put p.retrains 16 8
    ||| put p.symErr 0 16

def regPrbsStat (p : Port) : W64 :=
  (List.range 4).foldl (fun w l =>
    let e := smGet Prbs.reset p.prbs l
    w ||| putB e.lock (16 * l + 15) ||| put e.errs (16 * l) 15) 0

def regPeer (s : State) (a : Nat) : W64 :=
  let p := peerOf s a
  putB p.reach 63 ||| putB (isMember s a) 62 ||| putB (p.quar != 0) 61 ||| putB p.unsync 60
    ||| putB (s.fab.pair.partner == some a && s.fab.pair.split) 59 ||| put p.quar 56 3 ||| put p.cls 48 8 ||| put p.hops 42 6
    ||| put p.nextPort 39 3 ||| put p.id.toNat 0 32

/-- Domain of a fabric port (R20). -/
def portDomain (p : Nat) : Nat := if p < 4 then 52 else 53

/-! CHK. -/

def ChkSt.code : ChkSt → Nat
  | .idle => 0 | .running => 1 | .stopping => 2 | .waiting => 3
def chkOf (s : State) (k : Nat) : Chk := smGet .reset s.chk k

def regChkStat (c : Chk) : W64 :=
  let prog := match c.prog with
    | some p => put p.region 53 3 ||| putB p.alg64 52 ||| putB p.dailies 51 ||| putB p.useRef 50
    | none => 0
  put c.st.code 60 4 ||| put c.outcome 56 4 ||| prog ||| put c.skipped 16 16 ||| put c.alive 0 16

/-! QUE. -/

/-- A pointer modulo 2Q. -/
def quePtr (q n : Nat) : Nat := n % (2 * queSize q)

/-- QUE_PTR: an entry pool shows the pointers of its queue of free indices (R354). -/
def regQuePtr (s : State) (q : Nat) : W64 :=
  let v := queOf s q
  if q = 2 ∨ q = 3 then
    let w := quePtr q (v.rd + queSize q)
    put w 32 16 ||| put w 16 16 ||| put (quePtr q v.wr) 0 16
  else put (quePtr q v.wr) 32 16 ||| put (quePtr q (if isPacketQue q then v.cmt else v.wr)) 16 16 ||| put (quePtr q v.rd) 0 16

def regQueCnt (s : State) (q : Nat) : W64 := put (queOf s q).hw 32 16 ||| put (queCount (queOf s q)) 0 16
def regQueLoss (s : State) (q : Nat) : W64 :=
  let v := queOf s q
  put v.mismatch 48 16 ||| put v.splices 32 16 ||| put v.dropped 0 32

/-! The event sets (R369, R410). -/

/-- Word `w` of 72 source bits. -/
def srcWord (m : BitVec 72) (w : Nat) : W64 := BitVec.ofNat 64 (m.toNat >>> (64 * w))

/-- Word `w` of the severities, of the defined sources. -/
def sevMask (u : Sub) : BitVec 144 :=
  (bitsOf u.defined).foldl (fun m i => m ||| BitVec.ofNat 144 (3 * 4 ^ i)) 0
def sevWord (u : Sub) (e : EvSet) (w : Nat) : W64 := BitVec.ofNat 64 ((e.sev &&& sevMask u).toNat >>> (64 * w))

def EscState.code : EscState → Nat
  | .idle => 0 | .running => 1 | .fired => 2

def regEscTime (e : EvSet) : W64 :=
  put e.escState.code 62 2 ||| put e.aff.length 48 11
    ||| put (if e.escState == .running then (e.escRemain + 999) / 1000 else 0) 32 14 ||| put e.escTime 0 14

/-- A register of an event set, by its offset in the set. -/
def regEvt (s : State) (u : Sub) (off : Nat) : Option W64 :=
  let e := s.evt.get u
  match off with
  | 0x00 => some (srcWord e.stat 0) | 0x08 => some (srcWord e.stat 1)
  | 0x10 => some (srcWord e.raw 0) | 0x18 => some (srcWord e.raw 1)
  | 0x20 => some (srcWord e.mask 0) | 0x28 => some (srcWord e.mask 1)
  | 0x30 => some 0 | 0x38 => some 0
  | 0x40 => some (sevWord u e 0) | 0x48 => some (sevWord u e 1) | 0x50 => some (sevWord u e 2)
  | 0x58 => some e.first | 0x60 => some (regEscTime e) | 0x68 => some e.escAct | 0x70 => some (intReg s u)
  | _ => none

/-! Each subsystem's registers by offset. -/

def readGlb (s : State) (off : Nat) : Option W64 :=
  match off with
  | 0x000 => some (regGlbId s) | 0x020 => some (regGlbMode s) | 0x028 => some (regDeg s) | 0x030 => some s.glb.pinSev
  | 0x038 => some (put (faultSum s) 0 14) | 0x040 => some (put s.glb.denied 32 16 ||| putB s.glb.locked 0)
  | 0x100 => some (put s.glb.pdOn.toNat 0 56) | 0x108 => some (put s.glb.pdReq.toNat 0 4) | 0x110 => some (put s.glb.rampMax 0 4)
  | 0x200 => some s.glb.prt
  | _ => if off ∈ [0xF000, 0xF008, 0xF010, 0xF018, 0xF020, 0xF028, 0xF030, 0xF038, 0xF040, 0xF048, 0xF050, 0xF058, 0xF060, 0xF068, 0xF070]
         then some 0 else none

def readAon (s : State) (off : Nat) : Option W64 :=
  match off with
  | 0x10 => some (regTmpStat s) | 0x18 => some 0 | 0x20 => some (regBoot s) | 0x30 => some s.aon.wakeCfg | 0x38 => some s.aon.wakeTime
  | _ => none

/-- Queue, slot and word of an offset in the slot windows, and whether it is the reply window (R325). -/
def slotAddr (off : Nat) : Option (Bool × Nat × Nat × Nat) :=
  if 0x10000 ≤ off ∧ off < 0x20000 ∧ off % 8 = 0 then
    let o := off % 0x8000
    let k := o % 0x400 / 8
    if k ≤ 64 then some (decide (0x18000 ≤ off), o / 0x2000, o % 0x2000 / 0x400, k) else none
  else none

/-- States of a queue's slots as a mask. -/
def slotMask (s : State) (n : Nat) (st : SlotSt) : Nat :=
  (List.range 8).foldl (fun m k => m + bn ((hostSlot s n k).st == st) * 2 ^ k) 0

def readMci (s : State) (off : Nat) : Option W64 :=
  match off with
  | 0x10 => some s.mci.cfg
  | 0x18 => some (putB s.mci.ready 63 ||| put (s.mci.cmdq.length + s.mci.running.length) 0 16)
  | 0x200 => some (cntReg s 0x5C) | 0x208 => some (cntReg s 0x5D) | 0x210 => some (cntReg s 0x5E)
  | _ =>
    match instAt 0x100 0x20 4 off, instAt 0x108 0x20 4 off, instAt 0x110 0x20 4 off, slotAddr off with
    | some _, _, _, _ => some 0
    | none, some n, _, _ =>
      some (put (slotMask s n .done) 16 8 ||| put (slotMask s n .posted) 8 8 ||| put (slotMask s n .free) 0 8)
    | none, none, some _, _ => some 0
    | none, none, none, some (rep, n, k, w) =>
      let h := hostSlot s n k
      some (if rep then (if h.st == .done then wordAt h.rep w else 0) else smGet 0 h.cmd w)
    | none, none, none, none => none

def readSvc (s : State) (off : Nat) : Option W64 :=
  match off with
  | 0x10 => some s.svc.mkaCfg | 0x18 => some (gatedReg s 2 0 (regMkaStat s))
  | _ => none

def readVlt (s : State) (off : Nat) : Option W64 :=
  match off with
  | 0x10 => some s.vlt.cfg | 0x18 => some s.vlt.remaskPeriod | 0x20 => some (regVltStat s) | 0x28 => some s.vlt.entCfg
  | 0x30 => some (gatedReg s 51 0 (put s.vlt.failCnt 48 16 ||| put (Nat.min s.vlt.reqSince 0xFFFFFFFF) 0 32))
  | 0x38 => some (gatedReg s 3 0 (put s.vlt.sweeps 32 32 ||| put s.vlt.row 0 14))
  | 0x40 => some s.vlt.retryCfg
  | _ => cntRegs s 3 0x58 0x100 2 off

def readCis (s : State) (off : Nat) : Option W64 :=
  match off with
  | 0x10 => some (gatedAny s 4 4 (regCisStat s)) | 0x18 => some s.cis.retryCfg
  | _ => cntRegsIn s 4 4 0x48 0x100 5 off

def readEgr (s : State) (off : Nat) : Option W64 :=
  match off with
  | 0x18 => some s.ecfg.tpid | 0x20 => some s.egr.shedCfg | 0x28 => some (gatedReg s 44 0 (regPathStat s.egr)) | 0x30 => some s.ecfg.cutCfg
  | 0x38 => some (gatedReg s 44 0 (regCutStat s)) | 0x40 => some (gatedReg s 44 0 (put (nextCut s) 0 64))
  | _ =>
    match instAt 0x400 0x20 32 off, instAt 0x408 0x20 32 off with
    | some n, _ => some (s.egr.rules.getD n (0, 0)).1
    | none, some n => some (s.egr.rules.getD n (0, 0)).2
    | none, none => cntRegs s 44 0x000 0x100 18 off

def readIng (s : State) (off : Nat) : Option W64 :=
  match off with
  | 0x20 => some s.ing.shedCfg | 0x28 => some (gatedReg s 45 0 (regPathStat s.ing)) | 0x30 => some (gatedReg s 45 0 (regScStat s))
  | _ =>
    match instAt 0x400 0x20 32 off, instAt 0x408 0x20 32 off with
    | some n, _ => some (s.ing.rules.getD n (0, 0)).1
    | none, some n => some (s.ing.rules.getD n (0, 0)).2
    | none, none => cntRegs s 45 0x020 0x100 31 off

def readLne (s : State) (off : Nat) : Option W64 :=
  match off with
  | 0x10 => some s.lne.retryCfg | 0x20 => some (laneStates s 0) | 0x28 => some (laneStates s 18)
  | _ =>
    match instAt 0x100 0x8 36 off with
    | some i => some (regLaneFault s i)
    | none => cntRegsIn s (if off % 16 = 0 then 8 else 26) 18 0x40 0x40 4 off

def readCxm (s : State) (off : Nat) : Option W64 :=
  match off with
  | 0x10 => some s.cxm.portCfg | 0x18 => some (gatedReg s 50 0 (regCxmPort s)) | 0x20 => some s.cxm.region
  | 0x28 => some (gatedReg s 50 0 (regCxmStat s))
  | 0x30 => some (gatedReg s 50 0xFFFF (put s.cxm.sweepPtr 32 17 ||| put s.cxm.interval 0 16))
  | 0x38 => some s.cxm.retryCfg | 0x40 => some (gatedReg s 50 0 (put s.cxm.topCtr 0 56)) | 0x48 => some (gatedReg s 50 0 s.cxm.lastErr)
  | _ => cntRegs s 50 0x50 0x100 7 off

def readJnl (s : State) (off : Nat) : Option W64 :=
  match off with
  | 0x10 => some s.jnl.portCfg | 0x18 => some (gatedReg s 50 0 (regJnlPort s)) | 0x20 => some s.jnl.endurance
  | 0x28 => some (gatedReg s 50 0 (regJnlStat s)) | 0x30 => some (regLeaseCfg s) | 0x38 => some s.jnl.rekey | 0x40 => some s.jnl.retryCfg
  | 0x48 => some (gatedReg s 50 0 (regJnlWear s)) | 0x50 => some (gatedReg s 50 0 (put s.jnl.seq 0 64))
  | _ => none

def readFab (s : State) (off : Nat) : Option W64 :=
  match off with
  | 0x10 => some (regFabCfg s) | 0x18 => some s.fab.trainCfg | 0x20 => some s.fab.retryCfg | 0x28 => some s.fab.engineId
  | 0x30 => some s.time | 0x38 => some (regTimeStat s) | 0x40 => some (regPairStat s) | 0x48 => some s.fab.peerLog
  | 0x50 => some (gatedAny s 52 2 (cntReg s 0x60)) | 0x58 => some (gatedAny s 52 2 (cntReg s 0x61))
  | _ =>
    match instAt 0x100 0x20 8 off, instAt 0x108 0x20 8 off, instAt 0x110 0x20 8 off, instAt 0x118 0x20 8 off, instAt 0x200 8 64 off with
    | some p, _, _, _, _ => some (regPortCfg (portOf s p))
    | _, some p, _, _, _ => some (gatedReg s (portDomain p) 0 (regPortStat (portOf s p)))
    | _, _, some p, _, _ => some (portOf s p).prbsCtl
    | _, _, _, some p, _ => some (gatedReg s (portDomain p) 0 (regPrbsStat (portOf s p)))
    | _, _, _, _, some a => some (regPeer s a)
    | _, _, _, _, none => none

def readChk (s : State) (off : Nat) : Option W64 :=
  match off with
  | 0x10 => some s.chkCfg
  | _ =>
    match instAt 0x100 0x20 4 off, instAt 0x108 0x20 4 off, instAt 0x110 0x20 4 off with
    | some k, _, _ => some (gatedReg s 54 0 (regChkStat (chkOf s k)))
    | _, some k, _ => some (gatedReg s 54 0 (chkOf s k).crc)
    | _, _, some k => some (gatedReg s 54 0 (put (chkOf s k).scanned 0 25))
    | _, _, none => none

/-- The five counters of a ledger. -/
def ledgerReg (l : Ledger) (i : Nat) : W64 :=
  BitVec.ofNat 64 (match i with | 0 => l.cyc | 1 => l.pumped | 2 => l.spilled | 3 => l.dry | _ => l.choked)

def readTel (s : State) (off : Nat) : Option W64 :=
  let g := gatedReg s 55 0
  match off with
  | 0x10 => some (putB s.tel.userEn 0 ||| putB s.tel.frozen 1) | 0x18 => some (g s.tel.slateTime)
  | 0x20 => some (g s.tel.wrapLog) | 0x28 => some (g s.tel.wrapTime)
  | _ =>
    match instAt 0x100 8 5 off, instAt 0x140 8 5 off, instAt 0x300 8 5 off, instAt 0x340 8 5 off with
    | some i, _, _, _ => some (g (ledgerReg s.tel.egr i))
    | _, some i, _, _ => some (g (ledgerReg s.tel.ing i))
    | _, _, some i, _ => some (g (ledgerReg s.tel.egrShd i))
    | _, _, _, some i => some (g (ledgerReg s.tel.ingShd i))
    | _, _, _, none =>
      match instAt 0x1000 8 256 off, instAt 0x2000 8 256 off, instAt 0x3000 8 256 off with
      | some i, _, _ => some (smGet 0 s.tel.cfg i)
      | _, some i, _ => some (g (smGet 0 s.tel.cnt i))
      | _, _, some i => some (g (smGet 0 s.tel.shd i))
      | _, _, none => none

def readQue (s : State) (off : Nat) : Option W64 :=
  match instAt 0x1000 0x40 24 off, instAt 0x1008 0x40 24 off, instAt 0x1010 0x40 24 off, instAt 0x1018 0x40 24 off with
  | some q, _, _, _ => some (gatedReg s (queDomain q) 0 (regQuePtr s q))
  | _, some q, _, _ => some (gatedReg s (queDomain q) 0 (regQueCnt s q))
  | _, _, some _, _ => some 0
  | _, _, _, some q => some (regQueLoss s q)
  | _, _, _, none => none

/-- Where an address lies: GLB (0), or a subsystem by its csr_irq bit plus 1, with the offset from its base (R404). -/
def spanOf (addr : Nat) : Nat × Nat :=
  if addr < 0x010000 then (0, addr)
  else if addr < 0x020000 then (1, addr - 0x010000)
  else if addr < 0x040000 then (2, addr - 0x020000)
  else if addr < 0x300000 then (addr / 0x40000 + 2, addr % 0x40000)
  else (14, addr - 0x300000)

/-- The register at a span and offset. -/
def regAt (s : State) (span off : Nat) : Option W64 :=
  let own :=
    match span with
    | 0 => readGlb s off | 1 => readAon s off | 2 => readMci s off | 3 => readSvc s off | 4 => readVlt s off | 5 => readCis s off
    | 6 => readEgr s off | 7 => readIng s off | 8 => readLne s off | 9 => readCxm s off | 10 => readJnl s off | 11 => readFab s off
    | 12 => readChk s off | 13 => readTel s off | _ => readQue s off
  match own with
  | some v => some v
  | none =>
    if 0xF000 ≤ off ∧ off ≤ 0xF070 then
      (match subAt (span - 1) with
       | some u => if span = 0 then none else regEvt s u (off - 0xF000)
       | none => none)
    else none

/-- A refused window (R405), and before command-ready the slots, doorbells and release registers of the host queues (R86). -/
def blockedAt (s : State) (span off : Nat) : Bool :=
  let mid := decide (0x1000 ≤ off) && decide (off ≤ 0xEFFF)
  ((span == 3 || span == 4 || span == 5 || span == 9) && mid) || (span == 14 && decide (0x8000 ≤ off) && decide (off ≤ 0xEFFF))
    || (span == 2 && !s.mci.ready &&
      (decide (0x10000 ≤ off) || (instAt 0x100 0x20 4 off).isSome || (instAt 0x110 0x20 4 off).isSome))

/-- PRIV_ONLY of HQn. -/
def privOnly (s : State) (n : Nat) : Bool := bitAt s.mci.cfg n

/-- The host queue whose slots, doorbell or release register an offset of MCI is. -/
def hqAt (off : Nat) : Option Nat :=
  match instAt 0x100 0x20 4 off, instAt 0x110 0x20 4 off, slotAddr off with
  | some n, _, _ => some n
  | _, some n, _ => some n
  | _, _, some (_, n, _, _) => some n
  | _, _, none => none

/-- An unprivileged read is refused (R402, R408). -/
def readDenied (s : State) (span off : Nat) : Bool :=
  (span == 13 && decide (off < 0xF000) && !s.tel.userEn) ||
    (span == 2 && (match hqAt off with | some n => privOnly s n | none => false))

/-- The answer to a CSR read: response code and data (R50, R405, R408). -/
def csrRead (s : State) (addr : Nat) (priv : Bool) : BitVec 2 × W64 :=
  let so := spanOf (addr % 0x400000 / 8 * 8)
  if blockedAt s so.1 so.2 then (3, 0)
  else
    match regAt s so.1 so.2 with
    | none => (2, 0)
    | some v => if !priv && readDenied s so.1 so.2 then (1, 0) else (0, v)

end Sys2Proof.Machine
end

