-- ==== Sys2Proof/Machine/Region.lean ====
section
/-!
DEFINITION. The counter tree above the leaves (R268–R270, R272), the build of the whole region (R281) and what DOZE entry
writes (R93, R269).
-/
namespace Sys2Proof.Machine

/-- Nodes at an interior level: 2 for L4 up to 5 for L1 (R272). -/
def nodesAt (level : Nat) : Nat := if level = 2 then 1152 else if level = 3 then 144 else if level = 4 then 18 else 3

/-- Counter of node `k` of a level, held in its parent; a build sets every counter to 1. -/
def nodeCtrOf (s : State) (level k : Nat) : Nat := smGet 1 s.cxm.nodeCtr (8192 * (level - 1) + k)
def setNodeCtr (level k v : Nat) (s : State) : State :=
  { s with cxm := { s.cxm with nodeCtr := smSet 1 s.cxm.nodeCtr (8192 * (level - 1) + k) v } }

/-- Counter of child `c` of a node. -/
def childCtr (s : State) (level k c : Nat) : Nat :=
  if level = 2 then leafCtrOf s (8 * k + c)
  else if 8 * k + c < nodesAt (level - 1) then nodeCtrOf s (level - 1) (8 * k + c) else 0

/-- Bytes 0–55 and the tag of an interior node (R268, R272). -/
def nodeBody (s : State) (level k : Nat) : List Byte := (List.range 8).flatMap (fun c => beBytes 7 (childCtr s level k c))
def nodeBytes (s : State) (level k : Nat) : List Byte :=
  nodeBody s level k ++ beBytes 8 (ctxTag s 3 level (nodeOffset level k) (nodeCtrOf s level k) 0 (nodeBody s level k))

/-- A build's stored form of line `n` under counter 1, and its leaf. -/
def builtLine (s : State) (n : Nat) : List Byte := mixLine (mixKey s n) s.cxm.nonce (lineOffset n) 1 (lineBytes s n)
def builtLeaf (s : State) (j : Nat) : Leaf :=
  { ents := (List.range 8).foldl (fun m e => smSet (0, 0) m e (1, lineTag s (8 * j + e) 1 (builtLine s (8 * j + e)))) [],
    dirty := false, used := 0 }

/-- The writes of a build: lines, leaves, nodes bottom-up, as (offset, bytes). -/
def buildWrites (s : State) : List (Nat × List Byte) :=
  (List.range 73728).map (fun n => (lineOffset n, builtLine s n))
    ++ (List.range 9216).map (fun j => (leafOffset j, leafBytes s j 1 (builtLeaf s j)))
    ++ [2, 3, 4, 5].flatMap (fun lv => (List.range (nodesAt lv)).map (fun k => (nodeOffset lv k, nodeBytes s lv k)))

/-- Hash keys of the cistern and of the receive SC table, drawn once after a reset (R134, R259). Each of the SC table's two functions takes
128 bits of its own (log 146, DESIGN CHOICE: R134's 128 bits may be one key for both). -/
def drawHashKeys (s : State) : State :=
  if s.cis.setKey != 0 || s.sct.key0 != 0 then s
  else
    let (a, s1) := draw s
    let (b, s2) := draw s1
    { s2 with cis := { s2.cis with setKey := b.extractLsb' 0 64 },
              sct := { s2.sct with key0 := a.extractLsb' 0 128, key1 := a.extractLsb' 128 128 } }

/-- Build the whole region from the tables under a new nonce: every counter 1, nothing cached (R270, R281). Requests that are outstanding
keep their tags: a read's data is thrown away, a write completes before the build writes its address (R55, R57). -/
def buildRegion (s : State) : State :=
  let (r, s1) := draw s
  let s2 := { s1 with cxm := { s1.cxm with
    nonce := r.extractLsb' 0 64, topCtr := 1, leafCtr := [], nodeCtr := [], leaves := [], kept := [], fills := [],
    reads := s1.cxm.reads.map (fun x => { x with held := true }),
    writes := (s1.cxm.writes.filter (fun w => decide (w.tag < 32))).map (fun w => { w with line := none }),
    quar := [], queue := [], failed := [], job := none, rebuild := true, trusted := true, wbq := [], changed := [] } }
  cxmPutAll (buildWrites s2) s2

/-- Writes are waiting or outstanding. -/
def cxmWriting (s : State) : Bool := s.cxm.writes.any (fun w => !w.held)

/-- Write every dirty leaf (R269). -/
def flushLeaves (s : State) : State :=
  (s.cxm.leaves.filter (fun e => match e.2 with | some l => l.dirty | none => false)).foldl (fun t e =>
    match e.2 with
    | some l => setLeaf e.1 (some { l with dirty := false }) (writeLeaf e.1 l t)
    | none => t) s

/-- Write every interior node, bottom-up, each under a new counter (R269, R270). -/
def writeNodes (s : State) : State :=
  let up := [2, 3, 4, 5].foldl (fun t lv =>
    (List.range (nodesAt lv)).foldl (fun u k => let c := nodeCtrOf u lv k + 1
                                                topAtLeast c (setNodeCtr lv k c u)) t) s
  cxmPutAll ([2, 3, 4, 5].flatMap (fun lv => (List.range (nodesAt lv)).map (fun k => (nodeOffset lv k, nodeBytes up lv k))))
    { up with cxm := { up.cxm with nodesOut := true } }

end Sys2Proof.Machine
end

