-- ==== Sys2Proof/Machine/CmdSys.lean ====
section
/-!
DEFINITION. System commands: SYS_NOP, SYS_GET_INFO, SYS_SET_MODE, SYS_READ_STATE, SYS_SET_POLICY (R337, R338).
-/
namespace Sys2Proof.Machine

/-- SYS_NOP does nothing and replies OK. -/
def sysNopEff (q : QCmd) (s : State) : State := ok q s

/-- Result words of SYS_GET_INFO (R337). -/
def infoWords (s : State) : List W64 :=
  [regGlbId s, regGlbMode s, regDeg s,
   put (8192 - usedSlots s isTraffic) 32 14 ||| put (16384 - s.sct.scs.length) 16 15 ||| put s.tx.length 0 13]

def sysGetInfoEff (q : QCmd) (s : State) : State := complete q stOk (infoWords s) s

/-- Result words of SYS_READ_STATE (R337). -/
def summaryWords (s : State) : List W64 :=
  [regGlbMode s, regDeg s, regTmpStat s, regBoot s, regVltStat s, regJnlStat s, regCxmStat s, s.time]
def firstWords (s : State) : List W64 := subs.map (fun u => (s.evt.get u).first)

def sysReadStateEff (q : QCmd) (s : State) : State :=
  if !onlyBits 1 (q.w 0) then fail q stBadParam s
  else if bitAt (q.w 0) 0 then complete q stOk (firstWords s) s else complete q stOk (summaryWords s) s

/-! SYS_SET_MODE (R82, R83, R90, R93, R94). -/

/-- Start a change of mode that the command waits for. -/
def beginChange (kind : ChangeKind) (q : QCmd) (s : State) : State :=
  waitFor q .mode { s with glb := { s.glb with change := some { kind := kind, cmd := some q.id } } }

/-- Start a resume (R88). -/
def beginResume (cmd : Option Nat) (s : State) : State :=
  setResume 1 (setStage 5 { s with glb := { s.glb with change := some { kind := .resume, cmd := cmd } } })

/-- Every SecY drains: ON ones stop (R83). -/
def drainAll (s : State) : State := (secyLinks s).foldl (fun t l => secyStop l t) s

/-- COLD to PROVISION: the hash keys are drawn where none are (R134, R259), and the protected region is built empty where the engine does not hold its root (log 17). -/
def enterProvision (s : State) : State :=
  setMode .provision 1 (if s.cxm.trusted then drawHashKeys s else buildRegion (drawHashKeys s))

def sysSetModeEff (q : QCmd) (s : State) : State :=
  let w := q.w 0
  let target := fld w 0 3
  let resume := bitAt w 8
  if !onlyBits 0x107 w then fail q stBadParam s
  else if resume = true ∧ ¬ (target = 2 ∧ s.glb.mode = .cold) then fail q stBadParam s
  else
    match s.glb.mode, target with
    | .cold, 1 => ok q (enterProvision s)
    | .cold, 2 =>
      if !resume then fail q stWrongMode s
      else if rootGone s then fail q stWrongState s
      else if s.glb.resume = 6 then fail q stNoResource s
      else if !s.jnl.resolved then fail q stBusy s
      else if s.jnl.image.isNone then fail q stNotFound s
      else beginResume (some q.id) (waitFor q .mode s)
    | .provision, 2 => ok q (enterWorking 1 s)
    | .provision, 0 | .protect, 0 | .degraded, 0 =>
      let s1 := abortAll stAborted (fun c => c.id != q.id) s
      drainAll (beginChange .toCold q s1)
    | .protect, 4 | .degraded, 4 => beginChange .toDoze q s
    | .doze, 2 => let s1 := beginWake s
                  waitFor q .mode s1
    | _, _ => fail q stWrongMode s

/-! SYS_SET_POLICY (R104, R338). -/

/-- A rule's words are in range: reserved bits 0, prefix length at most 48. -/
def ruleOk (r : W64 × W64) : Bool :=
  onlyBits 0x00FFFFFFFFFFFFFF r.1 && decide (fld r.1 48 8 ≤ 48) && onlyBits 0xE3FF0000FFFFFFFF r.2

/-- The rules that a part carries. -/
def partRules (ws : List W64) (n : Nat) : List (W64 × W64) :=
  (List.range n).map (fun i => (wordAt ws (2 * i + 1), wordAt ws (2 * i + 2)))

/-- Rules written from index `first` on. -/
def putRules (base : List (W64 × W64)) (first : Nat) (rs : List (W64 × W64)) : List (W64 × W64) :=
  base.take first ++ rs ++ base.drop (first + rs.length)

def stageOf (s : State) (d : Dir) : Option Staging := match d with | .egr => s.mci.stageEgr | .ing => s.mci.stageIng
def setStageOf (d : Dir) (v : Option Staging) (s : State) : State :=
  match d with
  | .egr => { s with mci := { s.mci with stageEgr := v } }
  | .ing => { s with mci := { s.mci with stageIng := v } }

def sysSetPolicyEff (q : QCmd) (s : State) : State :=
  let w := q.w 0
  let d : Dir := if bitAt w 0 then .ing else .egr
  let first := fld w 8 5
  let count := fld w 16 6
  let rs := partRules q.pkt.words count
  if !onlyBits 0x3F1F07 w ∨ 31 < count ∨ 32 < first + count ∨ ¬ rs.all ruleOk then fail q stBadParam s
  else
    let mine := match stageOf s d with | some st => st.owner == q.pkt.req | none => true
    if !mine then fail q stBusy s
    else
      let force := (pathOf s d).rules
      let base := if bitAt w 2 then force else match stageOf s d with | some st => st.rules | none => force
      let rules := putRules base first rs
      if bitAt w 1 then
        ok q (setStageOf d none (setPath d { pathOf s d with rules := rules } s))
      else ok q (setStageOf d (some { owner := q.pkt.req, rules := rules }) s)

/-! The rows. -/

def execSysNop (p : Pkt) (s : State) : Host.Outcome State Fault Refusal := run s (runRow 0x01 sysNopEff p s)
def execSysGetInfo (p : Pkt) (s : State) : Host.Outcome State Fault Refusal := run s (runRow 0x02 sysGetInfoEff p s)
def execSysSetMode (p : Pkt) (s : State) : Host.Outcome State Fault Refusal := run s (runRow 0x03 sysSetModeEff p s)
def execSysReadState (p : Pkt) (s : State) : Host.Outcome State Fault Refusal := run s (runRow 0x04 sysReadStateEff p s)
def execSysSetPolicy (p : Pkt) (s : State) : Host.Outcome State Fault Refusal := run s (runRow 0x05 sysSetPolicyEff p s)

/-- STAGING_SET_TIMEOUT (R338): the set is discarded. -/
def execStagingSetTimeout (dir : Dir) (s : State) : Host.Outcome State Fault Refusal := run s (setStageOf dir none s)

end Sys2Proof.Machine
end

