-- ==== Sys2Proof/Machine/CmdSecy.lean ====
section
/-!
DEFINITION. SecY and receive SC commands (R97, R339–R341), and the end of a SecY's drain.
-/
namespace Sys2Proof.Machine

/-- The SecY parameters are in range (R105, R111, R132, R339). -/
def txpOk (w : W64) : Bool := onlyBits 0xFFFFF80000000000 w && txpOff w != 3 && txpSciMode w != 3 && txpClear w != 3
def rxpOk (w : W64) : Bool := onlyBits 0xF80000007FFFFFFF w && rxpVal w != 3 && decide (rxpWindow w ≤ 2 ^ 30)
def sciOk (sci txp : W64) : Bool := txpSciMode txp != 1 || fld sci 0 16 == 1

/-- A new SecY: OFF, current transmit AN 0 (R340). -/
def newSecy (sci txp rxp : W64) : Secy :=
  { sci := sci, txp := txp, rxp := rxp, st := .off, pendEn := false, curAn := 0, cut := .none, cutAn := 0, cutTime := 0, cutSeq := 0,
    cutShared := false, cutBySvc := false, stats := [], sat := 0, reprimed := false, deleting := false }

def secyCreateEff (q : QCmd) (s : State) : State :=
  let l := fld (q.w 0) 0 10
  if !onlyBits 0x3FF (q.w 0) || !txpOk (q.w 2) || !rxpOk (q.w 3) || !sciOk (q.w 1) (q.w 2) then fail q stBadParam s
  else if (secyOf s l).isSome then fail q stWrongState s
  else ok q (pinLine (secyLine l) (setSecy l (some (newSecy (q.w 1) (q.w 2) (q.w 3))) s))

/-- The confidentiality offset of a statically keyed SecY, written into its SA lines (R266). -/
def spreadOffset (l code : Nat) (s : State) : State :=
  let s1 := (txOfLink s l).foldl (fun t i => dirtyLine (txLine i) (modTx i (fun a => { a with offCode := code }) t)) s
  (rxOfLink s1 l).foldl (fun t r => dirtyLine (rxLine r) (modRx r (fun a => { a with offCode := code }) t)) s1

/-- SECY_MODIFY (R339, R340): every word is in range, applied or not (log 30). -/
def secyModifyEff (q : QCmd) (s : State) : State :=
  let w := q.w 0
  let l := fld w 0 10
  if !onlyBits 0x703FF w || !txpOk (q.w 2) || !rxpOk (q.w 3) || (bitAt w 16 && bitAt w 17 && !sciOk (q.w 1) (q.w 2)) then fail q stBadParam s
  else
  match secyOf s l with
  | none => fail q stNotFound s
  | some y =>
    let sci := if bitAt w 16 then q.w 1 else y.sci
    let txp := if bitAt w 17 then q.w 2 else y.txp
    let rxp := if bitAt w 18 then q.w 3 else y.rxp
    let fixed := sci != y.sci || txpSuite txp != txpSuite y.txp || txpMka txp != txpMka y.txp
    if !sciOk sci txp then fail q stBadParam s
    else if fixed && (y.st != .off || !(txOfLink s l).isEmpty || !(rxOfLink s l).isEmpty || !(scsOfLink s l).isEmpty) then
      fail q stWrongState s
    else
      let s1 := dirtyLine (secyLine l) (setSecy l (some { y with sci := sci, txp := txp, rxp := rxp }) s)
      let s2 := if txpMka y.txp && !txpMka txp then mkaEnd l s1 else s1
      ok q (if !txpMka txp && txpOff txp != txpOff y.txp then spreadOffset l (txpOff txp) s2 else s2)

def secyEnableEff (q : QCmd) (s : State) : State :=
  let l := fld (q.w 0) 0 10
  if !onlyBits 0x3FF (q.w 0) then fail q stBadParam s
  else
    match secyOf s l with
    | none => fail q stNotFound s
    | some y =>
      match y.st with
      | .off => ok q (secyStart l s)
      | .on => ok q s
      | .draining => complete q stDeferred [] (setSecy l (some { y with pendEn := true }) s)

def secyDisableEff (q : QCmd) (s : State) : State :=
  let l := fld (q.w 0) 0 10
  if !onlyBits 0x3FF (q.w 0) then fail q stBadParam s
  else if (secyOf s l).isNone then fail q stNotFound s
  else ok q (secyStop l s)

def secyDeleteEff (q : QCmd) (s : State) : State :=
  let l := fld (q.w 0) 0 10
  if !onlyBits 0x3FF (q.w 0) then fail q stBadParam s
  else
    match secyOf s l with
    | none => fail q stNotFound s
    | some y => if y.st != .off then fail q stWrongState s else secyDeleteNow l (waitFor q (.secyDelete l) s)

/-- Code of a cut state (R340). -/
def CutSt.code : CutSt → Nat
  | .none => 0 | .arming => 1 | .armed => 2 | .timed => 3

/-- Result words of SECY_QUERY (R340). -/
def secyQueryWords (y : Secy) : List W64 :=
  [y.sci, y.txp, y.rxp, secyWord y ||| putB y.pendEn 47 ||| put y.cut.code 45 2 ||| put y.cutAn 43 2]
    ++ (List.range 11).map (fun i => put (smGet 0 y.stats i) 0 64)

def secyQueryEff (q : QCmd) (s : State) : State :=
  if !onlyBits 0x3FF (q.w 0) then fail q stBadParam s
  else
    match secyOf s (fld (q.w 0) 0 10) with
    | none => fail q stNotFound s
    | some y => complete q stOk (secyQueryWords y) s

/-! Receive SCs (R341). -/

def scAddRxEff (q : QCmd) (s : State) : State :=
  let l := fld (q.w 0) 0 10
  if !onlyBits 0x3FF (q.w 0) then fail q stBadParam s
  else
    match secyOf s l with
    | none => fail q stNotFound s
    | some _ =>
      if (findSc s l (q.w 1)).isSome then fail q stWrongState s
      else if linkMka s l && !isSvc q.pkt.req then fail q stWrongState s
      else
        match addSc l (q.w 1) s with
        | (some idx, t) => complete q stOk [put idx 0 14] t
        | (none, t) => fail q stNoResource t

def scRemoveRxEff (q : QCmd) (s : State) : State :=
  let i := fld (q.w 0) 0 14
  if !onlyBits 0x3FFF (q.w 0) then fail q stBadParam s
  else
    match scOf s i with
    | none => fail q stNotFound s
    | some c =>
      if (List.range 4).any (fun a => (rxOf s (4 * i + a)).isSome) then fail q stWrongState s
      else if linkMka s c.link && !isSvc q.pkt.req then fail q stWrongState s
      else ok q (removeSc i s)

/-- Result words of SC_QUERY. -/
def scQueryWords (s : State) (i : Nat) (c : Sc) : List W64 :=
  let bits := fun (p : Sa → Bool) => (List.range 4).foldl (fun m a => m + bn ((rxOf s (4 * i + a)).any p) * 2 ^ a) 0
  [put (bits (fun a => a.enabled)) 20 4 ||| put (bits (fun _ => true)) 16 4 ||| put c.link 0 10, c.sci]

def scQueryEff (q : QCmd) (s : State) : State :=
  if !onlyBits 0x3FFF (q.w 0) then fail q stBadParam s
  else
    match scOf s (fld (q.w 0) 0 14) with
    | none => fail q stNotFound s
    | some c => complete q stOk (scQueryWords s (fld (q.w 0) 0 14) c) s

/-! The rows. -/

def execSecyCreate (p : Pkt) (s : State) : Host.Outcome State Fault Refusal := run s (runRow 0x10 secyCreateEff p s)
def execSecyModify (p : Pkt) (s : State) : Host.Outcome State Fault Refusal := run s (runRow 0x11 secyModifyEff p s)
def execSecyEnable (p : Pkt) (s : State) : Host.Outcome State Fault Refusal := run s (runRow 0x12 secyEnableEff p s)
def execSecyDisable (p : Pkt) (s : State) : Host.Outcome State Fault Refusal := run s (runRow 0x13 secyDisableEff p s)
def execSecyDelete (p : Pkt) (s : State) : Host.Outcome State Fault Refusal := run s (runRow 0x14 secyDeleteEff p s)
def execSecyQuery (p : Pkt) (s : State) : Host.Outcome State Fault Refusal := run s (runRow 0x15 secyQueryEff p s)
def execScAddRx (p : Pkt) (s : State) : Host.Outcome State Fault Refusal := run s (runRow 0x20 scAddRxEff p s)
def execScRemoveRx (p : Pkt) (s : State) : Host.Outcome State Fault Refusal := run s (runRow 0x21 scRemoveRxEff p s)
def execScQuery (p : Pkt) (s : State) : Host.Outcome State Fault Refusal := run s (runRow 0x22 scQueryEff p s)

/-- SECY_DRAIN_COMPLETE (R97): the SecY is DRAINING and no frame of its link is in flight in either direction. -/
def execSecyDrainComplete (link : Nat) (s : State) : Host.Outcome State Fault Refusal :=
  match secyOf s link with
  | some y =>
    if y.st == .draining && inFlightOf s .egr link == 0 && inFlightOf s .ing link == 0 then run s (secyOffNow link s) else run s s
  | none => run s s

end Sys2Proof.Machine
end

