-- ==== Sys2Proof/Machine/CmdSa.lean ====
section
/-!
DEFINITION. SA commands (R227–R231, R246, R247, R342, R343).
-/
namespace Sys2Proof.Machine

/-- Links of the SAs that a key serves. -/
def linksOfKid (s : State) (kid : Nat) : List Nat :=
  setUnion ((s.tx.filter (fun e => e.2.any (fun a => a.kid == kid))).map (fun e => saLink e.1)
    ++ (s.rx.filter (fun e => e.2.any (fun a => a.kid == kid))).map (fun e => rxLink s e.1)) []

/-- A use that a key may not perform: counted, and the attribute event raised (R206). -/
def denyUse (kid : Nat) (s : State) : State := raiseL .vlt 0 (linksOfKid s kid) (bump 0x58 none s)

/-- A command that asks for such a use (R206). -/
def denyCmd (q : QCmd) (kid : Nat) (s : State) : State := fail q stAttrDenied (denyUse kid s)

/-- SA_INSTALL's first word and the words that its direction or suite keeps at 0 (R342). -/
def installForm (q : QCmd) : Bool :=
  let w := q.w 0
  onlyBits 0xE33F0FFF00003FFF w && onlyBits 0xFFFF (q.w 1)
    && (if bitAt w 63 then !bitAt w 62 && !bitAt w 61 && fld w 48 6 == 0 && fld w 32 12 == 0
        else decide (fld w 0 14 < 1024) && q.w 3 == 0 && (bitAt w 61 || (fld w 48 6 == 0 && fld w 32 12 == 0)))

/-- PN and FLOOR within the suite, salt and SSCI only with XPN (R342). -/
def installRange (q : QCmd) (suite : Nat) : Bool :=
  decide ((q.w 2).toNat < pnEnd suite) && decide ((q.w 3).toNat < pnEnd suite)
    && (isXpn suite || (q.w 4 == 0 && q.w 5 == 0))

/-- The SecY of an SA_INSTALL's OWNER. -/
def installOwner (s : State) (q : QCmd) : Option (Nat × Secy) :=
  let o := fld (q.w 0) 0 14
  if bitAt (q.w 0) 63 then
    match scOf s o with
    | some c => (secyOf s c.link).map (fun y => (c.link, y))
    | none => none
  else (secyOf s o).map (fun y => (o, y))

/-- The device blob of a traffic key (R218): a LOADED one is wrapped; a PARKED one has it in the lines of the SAs that it is bound to. None
where a PARKED key is bound to no SA any more. -/
def trafficBlob (s : State) (n : Nat) : Option (List Byte) :=
  let v := vslot s n
  if v.st = .parked then
    (((s.tx ++ s.rx).filterMap (·.2)).find? (fun a => a.kid == kidOf s n)).map (·.blob)
  else some (deviceBlob s (slotKey v))

/-- The SA that SA_INSTALL describes. -/
def installSa (s : State) (q : QCmd) (y : Secy) (blob : List Byte) : Sa :=
  let w := q.w 0
  let suite := txpSuite y.txp
  let a := newSa (fld (q.w 1) 0 16) suite (txpOff y.txp) (Nat.max 1 (q.w 2).toNat) (q.w 3).toNat
    (beBytes 8 (q.w 4).toNat ++ beBytes 4 (fld (q.w 5) 32 32)) (BitVec.ofNat 32 (fld (q.w 5) 0 32)) blob (now s)
  { a with fresh := bitAt w 62, shared := bitAt w 61, home := fld w 48 6, homeSa := fld w 32 12 }

/-- Write a transmit SA's INTENT; what its confirmation brings is in `done` (R227). -/
def intentWrite (i : Nat) (a : Sa) (cmd : Option Nat) (offer : Option (Nat × Nat)) (s : State) : State :=
  jIssue (jAdd 3 (.whole 3 (BitVec.ofNat 16 i) a.blob) (.intent i a cmd offer) s)

def saInstallEff (q : QCmd) (s : State) : State :=
  let w := q.w 0
  let rx := bitAt w 63
  let an := fld w 56 2
  let idx := 4 * fld w 0 14 + an
  let kid := fld (q.w 1) 0 16
  if !installForm q then fail q stBadParam s
  else
    match installOwner s q with
    | none => fail q stNotFound s
    | some (l, y) =>
      if !installRange q (txpSuite y.txp) then fail q stBadParam s
      else
        match cmdSlot s kid with
        | none => fail q stNotFound s
        | some n =>
          let v := vslot s n
          let there := if rx then (rxOf s idx).isSome else (txOf s idx).isSome
          if there || (linkMka s l && !isSvc q.pkt.req) || (!rx && y.curAn == an) || v.st == .retiring then fail q stWrongState s
          else if v.attr != (if rx then .decOnly else .encOnly) then denyCmd q kid s
          else if unwInSvc s = 0 then fail q stNoResource s
          else
            match trafficBlob s n with
            | none => fail q stWrongState s
            | some blob =>
            let a := installSa s q y blob
            if rx then ok q (installRx idx a s)
            else if readOnly s then fail q stJnlWorn s
            else if !s.jnl.resolved then fail q stBusy s
            else intentWrite idx a (some q.id) none (waitFor q (.jnl s.jnl.nextWork) s)

def saEnableRxEff (q : QCmd) (s : State) : State :=
  let w := q.w 0
  let r := fld w 0 16
  if !onlyBits 0x800000000000FFFF w then fail q stBadParam s
  else
    match rxOf s r with
    | none => fail q stNotFound s
    | some a =>
      if a.retiring then fail q stWrongState s
      else
        let a1 := if bitAt w 63 then { a with enabled := true, tStart := now s, tStop := 0 }
                  else { a with enabled := false, tStop := if a.enabled then now s else a.tStop }
        ok q (dirtyLine (rxLine r) (setRx r (some a1) s))

def saSetTxEff (q : QCmd) (s : State) : State :=
  let w := q.w 0
  let l := fld w 0 10
  if !onlyBits 0x303FF w then fail q stBadParam s
  else
    match cutCheck s l (fld w 16 2) (isSvc q.pkt.req) with
    | some st => fail q st s
    | none => cutArm l (fld w 16 2) 0 (isSvc q.pkt.req) false (waitFor q (.cut l) s)

/-- Word 0 of SA_RETIRE, SA_QUERY and SA_STATS_READ is in range. -/
def saWordOk (w : W64) : Bool := onlyBits 0x800000000000FFFF w && (bitAt w 63 || decide (fld w 0 16 < 4096))

def saRetireEff (q : QCmd) (s : State) : State :=
  let w := q.w 0
  let i := fld w 0 16
  if !saWordOk w then fail q stBadParam s
  else if bitAt w 63 then
    if (rxOf s i).isNone then fail q stNotFound s else retireRx i (waitFor q (.saRetire .ing i) s)
  else
    match txOf s i, secyOf s (saLink i) with
    | some _, some y =>
      if y.curAn = i % 4 ∨ (y.cut ≠ .none ∧ y.cutAn = i % 4) then fail q stWrongState s
      else retireTx i (waitFor q (.saRetire .egr i) s)
    | some _, none => retireTx i (waitFor q (.saRetire .egr i) s)
    | none, _ => fail q stNotFound s

/-- Result words of SA_QUERY (R343). -/
def saQueryWords (s : State) (rx : Bool) (i : Nat) (a : Sa) : List W64 :=
  [saConfig rx (i % 4) (if rx then rxLink s i else saLink i) a, put a.pn 0 64, put (if rx then a.floor else a.cur.stop) 0 64,
   put (if rx then 0 else a.nxt.start) 0 64, put (if rx then 0 else a.nxt.stop) 0 64, put a.tInst 0 64, put a.tStart 0 64,
   put a.tStop 0 64]

def saQueryEff (q : QCmd) (s : State) : State :=
  let w := q.w 0
  let i := fld w 0 16
  if !saWordOk w then fail q stBadParam s
  else
    match if bitAt w 63 then rxOf s i else txOf s i with
    | none => fail q stNotFound s
    | some a => complete q stOk (saQueryWords s (bitAt w 63) i a) s

/-- Result words of SA_STATS_READ (R343). -/
def saStatsWords (a : Sa) : List W64 :=
  (List.range 4).map (fun k => put (smGet 0 a.stats k) 0 64) ++ [putB a.reprimed 4 ||| put a.sat.toNat 0 4]

def saStatsReadEff (q : QCmd) (s : State) : State :=
  let w := q.w 0
  let i := fld w 0 16
  if !saWordOk w then fail q stBadParam s
  else
    match if bitAt w 63 then rxOf s i else txOf s i with
    | none => fail q stNotFound s
    | some a => complete q stOk (saStatsWords a) s

/-! The rows. -/

def execSaInstall (p : Pkt) (s : State) : Host.Outcome State Fault Refusal := run s (runRow 0x30 saInstallEff p s)
def execSaEnableRx (p : Pkt) (s : State) : Host.Outcome State Fault Refusal := run s (runRow 0x31 saEnableRxEff p s)
def execSaSetTx (p : Pkt) (s : State) : Host.Outcome State Fault Refusal := run s (runRow 0x32 saSetTxEff p s)
def execSaRetire (p : Pkt) (s : State) : Host.Outcome State Fault Refusal := run s (runRow 0x33 saRetireEff p s)
def execSaQuery (p : Pkt) (s : State) : Host.Outcome State Fault Refusal := run s (runRow 0x34 saQueryEff p s)
def execSaStatsRead (p : Pkt) (s : State) : Host.Outcome State Fault Refusal := run s (runRow 0x35 saStatsReadEff p s)

/-- SA_RETIRE_COMPLETE (R246, R247): the SA retires and no frame uses it any more. -/
def execSaRetireComplete (dir : Dir) (sa : Nat) (s : State) : Host.Outcome State Fault Refusal :=
  match dir with
  | .egr =>
    (match txOf s sa with
     | some a => if a.retiring && !saBusy s .egr sa then run s (deletePump (saLink sa) (retireTxDone sa s)) else run s s
     | none => run s s)
  | .ing =>
    (match rxOf s sa with
     | some a => if a.retiring && !saBusy s .ing sa then run s (deletePump (rxLink s sa) (retireRxDone sa s)) else run s s
     | none => run s s)

end Sys2Proof.Machine
end

