-- ==== Sys2Proof/Machine/CmdKey.lean ====
section
/-!
DEFINITION. Key commands (R198, R204–R206, R213, R216, R219, R226, R344).
-/
namespace Sys2Proof.Machine

/-- The status of a command that would write a key now, by the random source (R223): none when one serves. -/
def keySource (s : State) : Option Nat :=
  if drbgOn s then none
  else if s.glb.resume = 6 then some stNoResource
  else if s.vlt.bootStage = 2 then none
  else if s.jnl.resolved && readOnly s then some stNoResource
  else some stBusy

/-- A host may name these output roles, with an attribute that fits (R216). -/
def roleAttrOk (role attr : Nat) : Bool :=
  !(role == 3 || role == 4 || role == 5) && (if role = 0 then decide (attr < 2) else decide (2 ≤ attr))

/-- Put a key into a free slot of its group: a traffic slot for ROLE TRAFFIC, a host slot otherwise (R198). The KID, none
with no free slot. -/
def placeKey (attr : Attr) (k256 exp : Bool) (role : Role) (origin : Nat) (k : List Byte) (s : State) : Option Nat × State :=
  match (if role = .traffic then freeSlot 0 8192 s else freeSlot 8200 64 s) with
  | (some n, s1) => (some (kidOf s n), writeKey n attr k256 exp role origin k s1)
  | (none, s1) => (none, s1)

/-- A command that creates a key ends with its KID, or with NO_RESOURCE. -/
def keyReply (q : QCmd) (r : Option Nat × State) : State :=
  match r.1 with
  | some kid => complete q stOk [put kid 0 16] r.2
  | none => fail q stNoResource r.2

/-- The header and the key of a host blob's plaintext (R213): KLEN, ATTR, ROLE, EXPORT, key; none where a byte is not as
stated. -/
def parseHost (p : List Byte) : Option (Bool × Nat × Nat × Bool × List Byte) :=
  let b := fun i => (p.getD i 0).toNat
  let len := p.length - 8
  if b 0 = 1 ∧ b 1 = len ∧ (len = 16 ∨ len = 32) ∧ b 2 ≤ 3 ∧ b 3 ≤ 7 ∧ b 4 ≤ 1 ∧ b 5 = 0 ∧ b 6 = 0 ∧ b 7 = 0 then
    some (len == 32, b 2, b 3, b 4 == 1, p.drop 8)
  else none

/-- A key that a host blob may be unwrapped under: HOST_KEK, transport or PAIR (R205, R216). -/
def unwrapsHost (n : Nat) (v : VSlot) : Bool := v.attr == .wrapOnly && (v.role == .hostKek || v.role == .pair || n == transportSlot)

def keyLoadClear (q : QCmd) (s : State) : State :=
  let w := q.w 0
  let count := fld w 16 8
  if s.glb.mode != .cold && s.glb.mode != .provision then fail q stWrongMode s
  else if !onlyBits 0xFC00FFFFFF w || (count != 16 && count != 32) then fail q stBadParam s
  else if rootGone s then fail q stWrongState s
  else if !bitAt s.vlt.cfg 0 || fld w 34 2 != 2 || fld w 36 3 != 1 then denyCmd q 0xFFFF s
  else
    match keySource s with
    | some st => fail q st s
    | none =>
      keyReply q (placeKey .wrapOnly (count == 32) (bitAt w 39) .hostKek 5 ((wordsBytes (q.pkt.words.drop 1)).take count) s)

def keyLoadWrappedEff (q : QCmd) (s : State) : State :=
  let w := q.w 0
  let count := fld w 16 8
  if fld w 0 16 = 0xFFFF then keyLoadClear q s
  else if !onlyBits 0xFFFFFF w || (count != 32 && count != 48) then fail q stBadParam s
  else
    match cmdSlot s (fld w 0 16) with
    | none => fail q (if rootGone s then stWrongState else stNotFound) s
    | some n =>
      let v := vslot s n
      if rootGone s || v.st == .retiring then fail q stWrongState s
      else if !unwrapsHost n v then denyCmd q (fld w 0 16) s
      else if unwInSvc s = 0 then fail q stNoResource s
      else
        match keySource s with
        | some st => fail q st s
        | none =>
          let s1 := telBump 0x1D1 1 none s
          match (Config.unwrap (slotKey v) ((wordsBytes (q.pkt.words.drop 1)).take count)).bind parseHost with
          | none => fail q stAuthFail s1
          | some (k256, attr, role, exp, key) =>
            if !roleAttrOk role attr then fail q stBadParam s1
            else keyReply q (placeKey (attrAt attr) k256 exp (roleAt role) 1 key s1)

def keyDeriveEff (q : QCmd) (s : State) : State :=
  let w := q.w 0
  let ll := fld w 40 6
  let cl := fld w 48 6
  let label := wordsBytes ((q.pkt.words.drop 1).take 4)
  let ctx := wordsBytes ((q.pkt.words.drop 5).take 4)
  let role := fld w 36 3
  let attr := fld w 34 2
  if !onlyBits 0x003F3FFD0000FFFF w ∨ ll = 0 ∨ 32 < ll ∨ 32 < cl ∨ ¬ (label.drop ll).all (· == 0) ∨ ¬ (ctx.drop cl).all (· == 0)
      ∨ ¬ roleAttrOk role attr then fail q stBadParam s
  else
    match cmdSlot s (fld w 0 16) with
    | none => fail q (if rootGone s then stWrongState else stNotFound) s
    | some n =>
      let v := vslot s n
      if rootGone s || v.st == .retiring then fail q stWrongState s
      else if !(v.attr == .deriveOnly && (v.role == .hostKdk || v.role == .cak)) then denyCmd q (fld w 0 16) s
      else if unwInSvc s = 0 then fail q stNoResource s
      else
        match keySource s with
        | some st => fail q st s
        | none =>
          let key := kdf (slotKey v) (label.take ll) (ctx.take cl) (if bitAt w 32 then 32 else 16)
          keyReply q (placeKey (attrAt attr) (bitAt w 32) (bitAt w 39) (roleAt role) 3 key s)

/-- A command that waits for a reseed goes back to the front of the queue (R220). -/
def requeue (q : QCmd) (s : State) : State := { s with mci := { s.mci with cmdq := q :: s.mci.cmdq } }

/-- KEY_GENERATE (R216, R219, R220). -/
def keyGenerateEff (q : QCmd) (s : State) : State :=
  let w := q.w 0
  let role := fld w 36 3
  let attr := fld w 34 2
  if !onlyBits 0xFD00000000 w || role == 0 || !roleAttrOk role attr then fail q stBadParam s
  else if rootGone s then fail q stWrongState s
  else if s.glb.deg.getLsbD 7 then fail q stNoResource s
  else
    match keySource s with
    | some st => fail q st s
    | none =>
      if !drbgOn s then fail q stNoResource s
      else if drbgFull s then requeue q s
      else
        let (r, s1) := draw s
        keyReply q (placeKey (attrAt attr) (bitAt w 32) (bitAt w 39) (roleAt role) 2
          ((bytes256 r).take (if bitAt w 32 then 32 else 16)) s1)

/-- A host blob of a slot's key (R213, R219). -/
def hostBlob (kek : List Byte) (v : VSlot) : List Byte :=
  let k := slotKey v
  Config.wrap kek ([0x01, BitVec.ofNat 8 k.length, BitVec.ofNat 8 v.attr.code, BitVec.ofNat 8 v.role.code, BitVec.ofNat 8 (bn v.exp),
    0, 0, 0] ++ k)

def keyWrapExportEff (q : QCmd) (s : State) : State :=
  let w := q.w 0
  let kid := fld w 0 16
  let pool := match kidSlot s kid with | some n => isPool n | none => false
  if !onlyBits 0xFFFFFFFF w then fail q stBadParam s
  else if pool && (cmdSlot s (fld w 16 16)).isSome && !rootGone s then denyCmd q kid s
  else
    match cmdSlot s kid, cmdSlot s (fld w 16 16) with
    | some n, some k =>
      let v := vslot s n
      let kek := vslot s k
      if rootGone s || v.st == .retiring || kek.st == .retiring then fail q stWrongState s
      else if !(isHost n && v.exp && (v.attr == .wrapOnly || v.attr == .deriveOnly)) then denyCmd q kid s
      else if !(kek.attr == .wrapOnly && kek.role == .hostKek) then denyCmd q (fld w 16 16) s
      else if unwInSvc s = 0 then fail q stNoResource s
      else complete q stOk (bytesWords (if v.k256 then 6 else 4) (hostBlob (slotKey kek) v)) s
    | _, _ => fail q (if rootGone s then stWrongState else stNotFound) s

def keyRetireEff (q : QCmd) (s : State) : State :=
  let kid := fld (q.w 0) 0 16
  if !onlyBits 0xFFFF (q.w 0) then fail q stBadParam s
  else
    match cmdSlot s kid with
    | none => fail q (if rootGone s then stWrongState else stNotFound) s
    | some n =>
      let v := vslot s n
      if rootGone s || v.refs != 0 || v.st == .retiring then fail q stWrongState s
      else if n = transportSlot then denyCmd q kid s
      else setVslot n { v with st := .retiring } (waitFor q (.slotZero kid) s)

def keyQueryEff (q : QCmd) (s : State) : State :=
  if !onlyBits 0xFFFF (q.w 0) then fail q stBadParam s
  else if rootGone s then fail q stWrongState s
  else
    match cmdSlot s (fld (q.w 0) 0 16) with
    | none => fail q stNotFound s
    | some n => complete q stOk [descriptor s n] s

/-! The rows. -/

def execKeyLoadWrapped (p : Pkt) (s : State) : Host.Outcome State Fault Refusal := run s (runRow 0x40 keyLoadWrappedEff p s)
def execKeyDerive (p : Pkt) (s : State) : Host.Outcome State Fault Refusal := run s (runRow 0x41 keyDeriveEff p s)
def execKeyWrapExport (p : Pkt) (s : State) : Host.Outcome State Fault Refusal := run s (runRow 0x42 keyWrapExportEff p s)
def execKeyRetire (p : Pkt) (s : State) : Host.Outcome State Fault Refusal := run s (runRow 0x43 keyRetireEff p s)
def execKeyQuery (p : Pkt) (s : State) : Host.Outcome State Fault Refusal := run s (runRow 0x44 keyQueryEff p s)
def execKeyGenerate (p : Pkt) (s : State) : Host.Outcome State Fault Refusal := run s (runRow 0x45 keyGenerateEff p s)

/-- KEY_SLOT_ZEROIZED (R226): the slot is RETIRING and nothing holds its key. -/
def execKeySlotZeroized (slot : Nat) (s : State) : Host.Outcome State Fault Refusal :=
  let kid := kidOf s slot
  if (vslot s slot).st == .retiring && !inFlight s kid then
    run s (completeWhere (fun w => w == .slotZero kid) stOk [] (zeroSlot slot s))
  else run s s

end Sys2Proof.Machine
end

