-- ==== Sys2Proof/Machine/CutOps.lean ====
section
/-!
DEFINITION. Shared cuts at the home (R244, R258, R319): who sends on an SA, the offers, and the PAIR key for an engine.
-/
namespace Sys2Proof.Machine

/-- LEAD in ns (R240). -/
def cutLead (s : State) : Nat := fld s.ecfg.cutCfg 16 16 * 1000000

/-- Engines that hold a lease for transmit SA `i`: those with a grant on record (R184, R244). -/
def sharers (s : State) (i : Nat) : List Nat :=
  setUnion (s.jnl.last.filterMap (fun g => if g.sa = i then g.req else none)) []

/-- Slot of the PAIR key for an engine: bound by FAB_SET_ROLE, or FAB_PAIR's for the partner (R319); it may wrap and unwrap (R204). -/
def pairKeySlot (s : State) (a : Nat) : Option Nat :=
  let kid := smGet 0xFFFF s.fab.bound a
  let k := if kid = 0xFFFF ∧ s.fab.pair.partner = some a then s.fab.pair.kid else kid
  match kidSlot s k with
  | some n => if (vslot s n).role = .pair ∧ (vslot s n).attr = .wrapOnly then some n else none
  | none => none

/-- CUT_OFFER of a shared cut to one engine; without a PAIR key for it nothing goes out and the offer stays unanswered. -/
def sendOffer (o : Offer) (a : Nat) (s : State) : State :=
  match pairKeySlot s a, (txOf s (4 * o.link + o.an)).bind (fun x => kidSlot s x.kid) with
  | some k, some n =>
    sendTo a (.cutOffer { home := s.fab.addr.getD 0, sa := o.sa, an := o.an, t := o.t,
                          key := hostBlob (keyAt s k) (vslot s n), status := 0 }) s
  | _, _ => s

/-- Offer the cut of a link's SA to every engine that sends on it (R244); the SA is named by its present index at the home. -/
def offerCut (l an t : Nat) (links : List Nat) (cmd : Option Nat) (s : State) : State :=
  match secyOf s l with
  | some y =>
    let i := 4 * l + y.curAn
    let es := sharers s i
    if es.isEmpty then s
    else
      let o : Offer := { links := links, link := l, an := an, sa := i, t := t, waiting := es, acked := [], cmd := cmd }
      es.foldl (fun u a => sendOffer o a u) { s with fab := { s.fab with offers := s.fab.offers ++ [o] } }
  | none => s

/-- The home withdraws one offer and the cut that it belongs to. -/
def offerFail (o : Offer) (s : State) : State :=
  match s.mci.running.find? (fun r => o.cmd == some r.cmd.id) with
  | some r => scheduleFail r o.links stAborted s
  | none =>
    let s1 := { s with fab := { s.fab with offers := s.fab.offers.filter (fun x => x != o) } }
    let s2 := o.waiting.foldl (fun u a =>
      sendTo a (.cutAbort { home := u.fab.addr.getD 0, sa := o.sa, an := o.an, t := o.t, key := [], status := 0 }) u) s1
    cutCancel o.link s2

end Sys2Proof.Machine
end

