-- ==== Sys2Proof/Machine/MkaOps.lean ====
section
/-!
DEFINITION. The key agreement service (R248–R258): election, a new SAK and its way to the cut, peers and their receive SCs.
-/
namespace Sys2Proof.Machine

def caOf (s : State) (l : Nat) : MkCa := smGet .reset s.svc.cas l
def setCa (l : Nat) (c : MkCa) (s : State) : State := { s with svc := { s.svc with cas := smSet .reset s.svc.cas l c } }
def modCa (l : Nat) (f : MkCa → MkCa) (s : State) : State := setCa l (f (caOf s l)) s

/-- The service runs (R249, R383). -/
def svcRuns (s : State) : Bool :=
  !s.svc.stopped && !s.svc.restarting && s.glb.mode != .cold && s.glb.mode != .lockout

/-- A participant of a CA: the first, or the second during a CAK change. -/
def partOf (s : State) (l : Nat) (second : Bool) : Option MkPart := if second then (caOf s l).second else (caOf s l).first
def setPart (l : Nat) (second : Bool) (p : Option MkPart) (s : State) : State :=
  modCa l (fun c => if second then { c with second := p } else { c with first := p }) s

/-- Own SCI on a link. -/
def ownSci (s : State) (l : Nat) : W64 := match secyOf s l with | some y => y.sci | none => 0

/-- Live peers, and the potential ones. -/
def MkPart.live (p : MkPart) : List MkPeer := p.peers.filter (·.live)
def MkPart.potential (p : MkPart) : List MkPeer := p.peers.filter (fun x => !x.live)

/-- (priority, SCI) of `a` comes before that of `b`. -/
def ksBefore (a b : Nat × W64) : Bool := decide (a.1 < b.1) || (decide (a.1 = b.1) && decide (a.2.toNat < b.2.toNat))

/-- The key server by R251. -/
def electKs (s : State) (l : Nat) (p : MkPart) : Option W64 :=
  let all := ((caOf s l).prio, ownSci s l) :: (p.live.map (fun x => (x.prio, x.sci)))
  match (if p.live.isEmpty then [] else all.filter (fun x => x.1 != 0xFF)) with
  | [] => none
  | x :: xs => some (xs.foldl (fun b y => if ksBefore y b then y else b) x).2

/-- This engine is the key server of a participant. -/
def isKs (s : State) (l : Nat) (p : MkPart) : Bool := p.ks == some (ownSci s l)

/-- The suite that the key server chooses (R253). -/
def chooseSuite (own allowed : Nat) (live : List MkPeer) : Nat :=
  let ann := fun (k : Nat) => live.all (fun p => p.suites.testBit k)
  if ann own then own else ([3, 2, 1, 0].find? (fun k => allowed.testBit k && ann k)).getD 0

/-- The offset that it chooses: the SecY's, reduced to the largest allowed that every live peer permits (R253). -/
def chooseOff (own allowed : Nat) (live : List MkPeer) : Nat :=
  ([2, 1, 0].find? (fun k => decide (k ≤ own) && allowed.testBit k && live.all (fun p => decide (k ≤ p.offCap)))).getD 0

/-- A member identifier of 96 bits, drawn (R220, R223). -/
def drawMi (s : State) : Nat × State := let (r, s1) := draw s; ((r.extractLsb' 0 96).toNat, s1)

/-- Member identifier and message number of a peer. -/
def memberBytes (x : MkPeer) : List Byte := beBytes 12 x.mi ++ beBytes 4 x.mn

/-- The SAK that an MKPDU distributes: while some live peer of the key server does not report that it receives on it, wrapped under the CA's
KEK (R249, R252 step 4). -/
def distSak (l : Nat) (p : MkPart) (s : State) : List Byte × State :=
  match p.txKid.bind (kidSlot s) with
  | some n =>
    if isKs s l p && p.phase == .distributing && !p.live.all (fun x => x.rxKn == p.kn) then
      (match poolDerived l p true s with
       | (some kek, s1) => (beBytes 4 p.kn ++ beBytes 1 p.an ++ beBytes 1 p.off ++ beBytes 1 p.suite ++ Config.wrap kek (keyAt s1 n), s1)
       | (none, s1) => ([], s1))
    else ([], s)
  | none => ([], s)

/-- What an MKPDU of a participant says, item by item (R249, R252): version 3, CKN, SCI, member identifier and number, priority, key server,
MACsec Capability 3, live and potential peers, the key in use (its number and AN, whether it receives and transmits on it), the allowed
suites, the SAK that it distributes. -/
def mkpduItems (s : State) (l : Nat) (p : MkPart) (dist : List Byte) : List (List Byte) :=
  let c := caOf s l
  [[3], p.ckn, beBytes 8 (ownSci s l).toNat, beBytes 12 p.mi ++ beBytes 4 p.mn, beBytes 1 c.prio, beBytes 1 (bn (isKs s l p)), [3],
   p.live.flatMap memberBytes, p.potential.flatMap memberBytes,
   beBytes 4 p.kn ++ beBytes 1 p.an ++ beBytes 1 (bn p.rxKid.isSome) ++ beBytes 1 (bn (p.phase == .done)), beBytes 1 c.suites, dist]

/-- The MKPDU of a participant under its ICK, at most 1,536 bytes (R249); none without its ICK (R215). -/
def mkaPdu (l : Nat) (p : MkPart) (s : State) : Option (List Byte) × State :=
  let (dist, s1) := distSak l p s
  match poolDerived l p false s1 with
  | (some ick, s2) => (some ((Config.mkpdu ick (mkpduItems s2 l p dist)).take 1536), s2)
  | (none, s2) => (none, s2)

/-- Send a participant's MKPDU through INJQ, if its port is up and the item fits (R117, R257, R357). -/
def partSend (l : Nat) (second : Bool) (s : State) : State :=
  match secyOf s l, partOf s l second with
  | some y, some p =>
    if bitAt s.glb.prt (txpPport y.txp) && svcRuns s && s.glb.mode != .doze then
      let q := { p with mn := (p.mn + 1) % 2 ^ 32 }
      (match mkaPdu l q s with
       | (some body, s1) =>
         let units := itemUnits body
         if queFits 5 (queOf s1 5) units then
           modQue 5 (fun v => (queOffer 5 (txpPport y.txp) l (now s1) body units v).1) (setPart l second (some q) s1)
         else s1
       | (none, s1) => s1)
    else s
  | _, _ => s

/-- Send an MKPDU of each participant of a link (R252, R256). -/
def mkaSend (l : Nat) (s : State) : State := partSend l true (partSend l false s)

/-- SSCIs of the CA: own and peers' SCIs, as numbers. -/
def caScis (s : State) (l : Nat) (p : MkPart) : List Nat := (ownSci s l).toNat :: p.live.map (·.sci.toNat)

/-- An SA of a SAK, its salt and SSCI derived for XPN (R249), declared fresh (R197, R238). -/
def mkaSa (s : State) (l : Nat) (p : MkPart) (kid : Nat) (sci : W64) (serverMi : Nat) (key : List Byte) : Sa :=
  let x := isXpn p.suite
  let a := newSa kid p.suite p.off 1 0 (if x then slice (Config.mkaSalt serverMi p.kn) 0 12 else [])
    (if x then Config.mkaSsci sci.toNat (caScis s l p) else 0) (deviceBlob s key) (now s)
  { a with fresh := true }

/-- Member identifier of the key server. -/
def serverMi (s : State) (l : Nat) (p : MkPart) : Nat :=
  if isKs s l p then p.mi else match p.peers.find? (fun x => some x.sci == p.ks) with | some x => x.mi | none => 0

/-- Install and enable a receive SA of the participant's SAK on the SC of each live peer (R252). -/
def mkaInstallRx (l : Nat) (p : MkPart) (kid : Nat) (key : List Byte) (s : State) : State :=
  p.live.foldl (fun t x =>
    match x.sc with
    | some c =>
      let r := 4 * c + p.an
      if (rxOf t r).isSome then t
      else dirtyLine (rxLine r) <| modRx r (fun a => { a with enabled := true, tStart := now t }) (installRx r (mkaSa t l p kid x.sci (serverMi t l p) key) t)
    | none => t) s

/-- Put the SAK into the vault as two keys (R199). -/
def placeSak (suite origin : Nat) (key : List Byte) (s : State) : Option (Nat × Nat) × State :=
  match placeKey .encOnly (suite256 suite) false .traffic origin key s with
  | (some e, s1) =>
    (match placeKey .decOnly (suite256 suite) false .traffic origin key s1 with
     | (some d, s2) => (some (e, d), s2)
     | (none, s2) => (none, s2))
  | (none, s1) => (none, s1)

/-- Receive SAs of an MKA SecY at ANs that no live peer uses any longer retire at once: ANs that are neither the SecY's current one, nor a
participant's latest, nor the one whose overlap runs (R255; log 165, DEDUCED). -/
def retireUnused (l : Nat) (s : State) : State :=
  let c := caOf s l
  let cur := match secyOf s l with | some y => [y.curAn] | none => []
  let keep := cur ++ ((c.first.toList ++ c.second.toList).filter (fun p => p.phase != .none)).map (·.an) ++ c.oldAn.toList
  ((rxOfLink s l).filter (fun r => !keep.contains (r % 4))).foldl (fun t r =>
    let u := retireRx r t
    if saBusy u .ing r then u else retireRxDone r u) s

/-- Install a SAK: the receive SAs, then the transmit stand-in with its INTENT (R252). A SAK that it replaces and that no SA is bound to
retires (R248). -/
def mkaInstall (l : Nat) (second : Bool) (p : MkPart) (e d : Nat) (key : List Byte) (s : State) : State :=
  let before := partOf s l second
  let s0 := setPart l second (some p) s
  let s1 := retireUnused l (match before with | some b => retirePart b s0 | none => s0)
  let s2 := mkaInstallRx l p d key s1
  intentWrite (4 * l + p.an) (mkaSa s2 l p e (ownSci s2 l) (serverMi s2 l p) key) none none s2

/-- The AN that a new SAK takes is still in use. -/
def anBusy (s : State) (l an : Nat) : Bool :=
  (txOf s (4 * l + an)).isSome || (scsOfLink s l).any (fun c => (rxOf s (4 * c + an)).isSome)
    || workPending s (fun x => match x with | .intent i _ _ _ => i == 4 * l + an | _ => false)

/-- The key server makes, loads, distributes and installs a new SAK (R252 steps 1 to 6); without random numbers, an unwrap engine (R215), a
free AN or a writable journal it is wanted later, without two free slots it is refused (R254). -/
def makeSak (l : Nat) (second : Bool) (t : Nat) (s : State) : State :=
  match partOf s l second, secyOf s l with
  | some p, some y =>
    let c := caOf s l
    let an := (p.an + 1) % 4
    if !drbgOn s || drbgFull s || unwInSvc s = 0 || s.glb.deg.getLsbD 7 || anBusy s l an || readOnly s then
      setPart l second (some { p with want := true, cutT := t }) s
    else if 8190 < usedSlots s isTraffic then raiseL .svc 1 [l] s
    else
      let suite := chooseSuite (txpSuite y.txp) c.suites p.live
      let off := chooseOff (txpOff y.txp) c.offs p.live
      let (r, s1) := draw s
      let key := (bytes256 r).take (if suite256 suite then 32 else 16)
      match placeSak suite 2 key s1 with
      | (some (e, d), s2) =>
        let p1 := { p with kn := p.kn + 1, an := an, suite := suite, off := off, txKid := some e, rxKid := some d,
                           phase := .distributing, cutT := t, want := false }
        let s3 := { s2 with svc := { s2.svc with sakGen := (s2.svc.sakGen + 1) % 65536 } }
        mkaSend l (modCa l (fun c => { c with bounded := true }) (mkaInstall l second p1 e d key s3))
      | (none, s2) => raiseL .svc 1 [l] s2
  | _, _ => s

/-- The cut of a new SAK may be armed: every live peer reports receive, or the key server transmits with it; the stand-in
holds its lease (R252). -/
def sakReady (s : State) (l : Nat) (p : MkPart) : Bool :=
  let i := 4 * l + p.an
  let agreed :=
    if isKs s l p then p.live.all (fun x => x.rxKn == p.kn)
    else p.peers.any (fun x => some x.sci == p.ks && x.txKn == p.kn)
  (p.phase == .distributing || p.phase == .installing) && agreed && !p.live.isEmpty
    && (match txOf s i with | some a => some a.kid == p.txKid | none => false) && (leaseHeld s i || !secyOn s l)

/-- Arm the cut of a SAK that is ready (R252 step 7, R258). -/
def mkaArm (l : Nat) (second : Bool) (s : State) : State :=
  match partOf s l second, secyOf s l with
  | some p, some y =>
    if sakReady s l p && y.cut == .none && y.curAn != p.an then
      let shared := !(sharers s (4 * l + y.curAn)).isEmpty
      let t := if now s < p.cutT then p.cutT else if shared then now s + cutLead s else 0
      let s1 := setPart l second (some { p with phase := .arming }) s
      cutArm l p.an t true shared (if shared then offerCut l p.an t [l] none s1 else s1)
    else s
  | _, _ => s

/-- Carry a CA on: a wanted SAK, then the cut. -/
def mkaPump (l : Nat) (s : State) : State :=
  if !svcRuns s || !(caOf s l).enabled then s
  else
    let retry := fun (b : Bool) (t : State) =>
      match partOf t l b with
      | some p => if p.want && isKs t l p && !p.live.isEmpty then makeSak l b p.cutT t else t
      | none => t
    mkaArm l true (mkaArm l false (retry true (retry false s)))

/-- The cut of an MKA SecY has been taken: the SAK is in use, the old transmit SA retires, a CAK change nears its end
(R252 step 8, R255, R256). -/
def mkaCutTaken (l old : Nat) (s : State) : State :=
  let settle := fun (b : Bool) (t : State) =>
    match partOf t l b with
    | some p => if p.phase == .arming then setPart l b (some { p with phase := .done, cutT := 0 }) t else t
    | none => t
  let wasSecond := match (caOf s l).second with | some p => p.phase == .arming | none => false
  let s1 := settle true (settle false s)
  let s2 := modCa l (fun c => { c with bounded := false, ending := c.ending || wasSecond, oldAn := some (old % 4) }) s1
  let s3 := retireTx old s2
  retireUnused l (if saBusy s3 .egr old then s3 else retireTxDone old s3)

/-- The receive SC of a live peer that transmits, created when there is room (R254); one that was to go stays. -/
def peerSc (l : Nat) (x : MkPeer) (s : State) : MkPeer × State :=
  if !x.live || !x.sends then (x, s)
  else
    match findSc s l x.sci with
    | some c => ({ x with sc := some c }, { s with svc := { s.svc with scOut := s.svc.scOut.filter (· != c) } })
    | none =>
      match addSc l x.sci s with
      | (some c, t) => ({ x with sc := some c }, t)
      | (none, t) => ({ x with sc := none }, t)

/-- Live peers over all CAs. -/
def peersInUse (s : State) : Nat := s.svc.cas.foldl (fun n e => n + ((caParts e.2).flatMap (·.peers)).length) 0

/-- Elect again; a change raises its event, a new key server that is this engine makes a SAK (R251). -/
def reElect (l : Nat) (second : Bool) (setChanged : Bool) (s : State) : State :=
  match partOf s l second with
  | some p =>
    let ks := electKs s l p
    let p1 := { p with ks := ks }
    let s1 := setPart l second (some p1) s
    let s2 := if ks != p.ks && p.ks.isSome then raiseL .svc 6 [l] s1 else s1
    if isKs s2 l p1 && (setChanged || ks != p.ks) && !p1.live.isEmpty then makeSak l second p1.cutT s2 else s2
  | none => s

/-- A new participant (R250). -/
def newPart (ckn cak : List Byte) (k256 : Bool) (mi an : Nat) : MkPart :=
  { ckn := ckn, k256 := k256, cak := cak, mi := mi, mn := 0, peers := [], ks := none, kn := 0, an := an, suite := 0, off := 0,
    txKid := none, rxKid := none, phase := .none, cutT := 0, want := false }

/-- Take a distributed SAK (R252, participant's steps 1 to 4). -/
def takeSak (l : Nat) (second : Bool) (d : DistSak) (s : State) : State :=
  match partOf s l second with
  | some p =>
    let c := caOf s l
    if !(c.suites.testBit d.suite) || !(c.offs.testBit d.off) then raiseL .svc 1 [l] s
    else if 8190 < usedSlots s isTraffic then raiseL .svc 1 [l] s
    else if (keySource s).isSome || anBusy s l d.an || readOnly s then s
    else
      match poolDerived l p true s with
      | (none, s0) => s0
      | (some kek, s0) =>
      match Config.unwrap kek d.wrapped with
      | none => raiseL .svc 3 [l] s0
      | some raw =>
        let key := raw.take (if suite256 d.suite then 32 else 16)
        (match placeSak d.suite 7 key (telBump 0x1D1 1 none s0) with
         | (some (e, k), s1) =>
           mkaSend l (mkaInstall l second
             { p with kn := d.kn, an := d.an, suite := d.suite, off := d.off, txKid := some e, rxKid := some k, phase := .installing } e k key s1)
         | (none, s1) => raiseL .svc 1 [l] s1)
  | none => s

/-- The participant whose SAK is in use: the second once the cut of a CAK change has been taken (R256). -/
def inUse (c : MkCa) : Bool := c.ending

/-- The transmit PN of an SA has reached the threshold: the key server rekeys (R252). -/
def mkaPnThr (l : Nat) (s : State) : State :=
  let c := caOf s l
  if !c.enabled || !svcRuns s then s
  else
    match partOf s l (inUse c) with
    | some p => if isKs s l p && (p.phase == .none || p.phase == .done) then makeSak l (inUse c) 0 s else s
    | none => s

/-- The next PN of a transmit SA has reached the threshold, however it came there: the event, once, and a new SAK with MKA (R174). -/
def thrCheck (i : Nat) (s : State) : State :=
  match txOf s i with
  | some a =>
    if thrDue s a then mkaPnThr (saLink i) (raiseL .jnl 1 [saLink i] (setTx i (some { a with thr := true }) s)) else s
  | none => s

/-- Every transmit SA's threshold. -/
def thrAll (s : State) : State := (smKeys s.tx).foldl (fun t i => thrCheck i t) s

end Sys2Proof.Machine
end

