-- ==== Sys2Proof/Machine/CmdCut.lean ====
section
/-!
DEFINITION. Cut commands (R230, R231, R240, R244, R345).
-/
namespace Sys2Proof.Machine

/-- The stand-in AN that a CUT_SCHEDULE gives a link. -/
def schedAn (q : QCmd) (l : Nat) : Nat := fld (q.w (18 + l / 32)) (2 * (l % 32)) 2

/-- Its words are in range: word 0 is 0, so is the AN of every link outside the set (R345). -/
def schedForm (q : QCmd) (links : List Nat) : Bool :=
  q.w 0 == 0 && (List.range 1024).all (fun l => links.contains l || schedAn q l == 0)

/-- The failing check of R231 over the links: existence first, then states (R327). -/
def schedCheck (s : State) (q : QCmd) (links : List Nat) : Option Nat :=
  let sts := links.filterMap (fun l => cutCheck s l (schedAn q l) (isSvc q.pkt.req))
  if sts.contains stNotFound then some stNotFound
  else if s.fab.unsync then some stTimeUnsync
  else sts.head?

def cutScheduleEff (q : QCmd) (s : State) : State :=
  let links := linkSet (q.pkt.words.drop 2)
  let t := (q.w 1).toNat
  if !schedForm q links || decide (t < now s + cutLead s) then fail q stBadParam s
  else
    match schedCheck s q links with
    | some st => fail q st s
    | none =>
      if readOnly s then fail q stJnlWorn s
      else
        let svc := isSvc q.pkt.req
        let s1 := waitFor q (.timed links) s
        let s2 := links.foldl (fun u l => offerCut l (schedAn q l) t links (some q.id) u) s1
        timedReply (links.foldl (fun u l =>
          if u.mci.running.any (fun r => r.cmd.id == q.id) then
            cutArm l (schedAn q l) t svc (u.fab.offers.any (fun o => o.link == l && o.cmd == some q.id)) u
          else u) s2)

def cutCancelEff (q : QCmd) (s : State) : State :=
  let l := fld (q.w 0) 0 10
  if !onlyBits 0x3FF (q.w 0) then fail q stBadParam s
  else
    match secyOf s l with
    | none => fail q stNotFound s
    | some y =>
      if linkMka s l && !isSvc q.pkt.req then fail q stWrongState s
      else
        match y.cut with
        | .none => fail q stWrongState s
        | .arming => fail q stBusy s
        | .armed | .timed =>
          if readOnly s then fail q stJnlWorn s
          else cutCancel l (waitFor q (.cutCancel l) s)

def cutQueryEff (q : QCmd) (s : State) : State :=
  if !onlyBits 0x3FF (q.w 0) then fail q stBadParam s
  else
    match secyOf s (fld (q.w 0) 0 10) with
    | none => fail q stNotFound s
    | some y =>
      complete q stOk [put y.cut.code 0 2 ||| put y.cutAn 4 2, put y.cutTime 0 64, put y.cutSeq 0 64] s

/-! The rows. -/

def execCutSchedule (p : Pkt) (s : State) : Host.Outcome State Fault Refusal := run s (runRow 0x50 cutScheduleEff p s)
def execCutCancel (p : Pkt) (s : State) : Host.Outcome State Fault Refusal := run s (runRow 0x51 cutCancelEff p s)
def execCutQuery (p : Pkt) (s : State) : Host.Outcome State Fault Refusal := run s (runRow 0x52 cutQueryEff p s)

/-- An ARMED cut, or a TIMED one whose instant has come, is taken (R232); in DOZE it waits for the wake (R96). -/
def cutIfDue (link : Nat) (s : State) : State :=
  match secyOf s link with
  | some y =>
    if cutDue s y then
      let s1 := cutTake link s
      cutImages (if linkMka s link then mkaCutTaken link (4 * link + y.curAn) s1 else s1)
    else s
  | none => s

/-- CUT_TAKEN (R232). -/
def execCutTaken (link : Nat) (s : State) : Host.Outcome State Fault Refusal := run s (cutIfDue link s)

/-- ARM_TIMEOUT (R230): an ON SecY's stand-in got no lease within ARM_TMO; nothing has been written. -/
def execArmTimeout (link : Nat) (s : State) : Host.Outcome State Fault Refusal :=
  match secyOf s link with
  | some y =>
    if y.cut == .arming && y.st == .on && !leaseHeld s (4 * link + y.cutAn) && !commitPending s link then run s (cutEnd link stTimeout s)
    else run s s
  | none => run s s

/-- CUT_SCHEDULE_DEADLINE (R240, R244): T − 1 ms has come and the schedule is not complete. Own COMMITs missing: TIMEOUT;
only acknowledges missing: ABORTED. -/
def execCutScheduleDeadline (links : List Nat) (s : State) : Host.Outcome State Fault Refusal :=
  match s.mci.running.find? (fun r => r.wait == .timed links) with
  | some r =>
    if (r.cmd.w 1).toNat ≤ now s + 1000000 then
      let mine := links.all (fun l => match secyOf s l with | some y => y.cut == .timed | none => false)
      let s1 := { s with ecfg := { s.ecfg with abandoned := satAdd 16 s.ecfg.abandoned 1 } }
      run s (scheduleFail r links (if mine then stAborted else stTimeout) (raiseL .egr 5 links s1))
    else run s s
  | none =>
    match s.fab.offers.find? (fun o => o.cmd.isNone && o.links == links && decide (o.t ≤ now s + 1000000)) with
    | some o => run s (offerFail o (raiseL .egr 5 links { s with ecfg := { s.ecfg with abandoned := satAdd 16 s.ecfg.abandoned 1 } }))
    | none => run s s

/-! The rows of shared cuts (R244, R319). -/

/-- Answer a CUT_OFFER. -/
def cutAnswer (home : Nat) (m : CutMsg) (status : Nat) (s : State) : State :=
  sendTo home (.cutAck { m with key := [], status := BitVec.ofNat 8 status }) s

/-- The link whose SecY sends on the home's SA. -/
def offerLink (s : State) (m : CutMsg) : Option Nat :=
  (s.tx.find? (fun e => match e.2 with
    | some a => (a.shared && a.home == m.home && a.homeSa == m.sa)
        || (!a.shared && s.fab.pair.partner == some m.home && s.fab.pair.set.contains (saLink e.1) && e.1 == m.sa)
    | none => false)).map (fun e => saLink e.1)

/-- CUT_OFFER at an engine that sends on the SA: the stand-in is installed as SA_INSTALL does, then its cut is committed.
The offer carries neither salt nor SSCI: with XPN both are free values. -/
def takeOffer (hdr : MsgHdr) (m : CutMsg) (s : State) : State :=
  match offerLink s m with
  | none => cutAnswer m.home m stNotFound s
  | some l =>
    match secyOf s l, pairKeySlot s m.home with
    | some y, some k =>
      let idx := 4 * l + m.an
      if some m.home != hdr.src then cutAnswer m.home m stPrivDenied s
      else if (txOf s idx).isSome || y.curAn == m.an || y.cut != .none then cutAnswer m.home m stWrongState s
      else if s.fab.unsync then cutAnswer m.home m stTimeUnsync s
      else if readOnly s then cutAnswer m.home m stJnlWorn s
      else if unwInSvc s = 0 then cutAnswer m.home m stNoResource s
      else
        match (Config.unwrap (keyAt s k) m.key).bind parseHost with
        | some (k256, attr, role, exp, key) =>
          if attr ≠ 0 ∨ role ≠ 0 then cutAnswer m.home m stAttrDenied s
          else
            (match placeKey .encOnly k256 exp .traffic 1 key (telBump 0x1D1 1 none s) with
             | (some kid, s1) =>
               let suite := txpSuite y.txp
               let x := isXpn suite
               let v := Config.rand s1.rng
               let a := newSa kid suite (txpOff y.txp) 1 0 (if x then (bytes256 v).take 12 else []) (if x then v.extractLsb' 0 32 else 0)
                 (deviceBlob s1 key) (now s1)
               let sh := (txOf s (4 * l + y.curAn)).any (·.shared)
               intentWrite idx { a with shared := sh, home := if sh then m.home else 0, homeSa := if sh then m.sa / 4 * 4 + m.an else 0 }
                 none (some (m.home, m.t)) { s1 with rng := s1.rng + 1 }
             | (none, s1) => cutAnswer m.home m stNoResource s1)
        | none => cutAnswer m.home m stAuthFail s
    | _, _ => cutAnswer m.home m stAttrDenied s

end Sys2Proof.Machine
end

