-- ==== Sys2Proof/Machine/CmdMka.lean ====
section
/-!
DEFINITION. Key agreement: its commands (R250, R256, R257, R346) and the events of its timers and MKPDUs (R249–R257).
-/
namespace Sys2Proof.Machine

/-- A CA's policy from SVC_MKA_CFG: the register names no offsets, so all are allowed. -/
def defaultCa (s : State) : MkCa :=
  let c := s.svc.mkaCfg
  { MkCa.reset with enabled := true, prio := fld c 40 8, suites := fld c 0 4, offs := 7, rekeyS := fld c 16 16, overlapMs := fld c 48 16 }

/-- Policy from MKA_ENABLE's words. -/
def givenCa (w v : W64) : MkCa :=
  { MkCa.reset with enabled := true, prio := fld w 16 8, suites := fld w 24 4, offs := fld w 28 3, rekeyS := fld v 16 16, overlapMs := fld v 0 16 }

def mkaEnableEff (q : QCmd) (s : State) : State :=
  let w := q.w 0
  let l := fld w 0 10
  if !onlyBits 0x800000007FFF03FF w || !onlyBits 0xFFFFFFFF (q.w 1) then fail q stBadParam s
  else
    match secyOf s l with
    | none => fail q stNotFound s
    | some y =>
      if !txpMka y.txp || (caOf s l).enabled then fail q stWrongState s
      else
        let c := if bitAt w 63 then defaultCa s else givenCa w (q.w 1)
        ok q (mkaSend l (setCa l { c with first := (caOf s l).first }
          { s with svc := { s.svc with manual := s.svc.manual.filter (· != l) } }))

/-- MKA_DISABLE (R257): the CA ends, its SAs retire; the SecY may then be keyed statically. -/
def mkaDisableEff (q : QCmd) (s : State) : State :=
  let l := fld (q.w 0) 0 10
  if !onlyBits 0x3FF (q.w 0) then fail q stBadParam s
  else
    match secyOf s l with
    | none => fail q stNotFound s
    | some y =>
      if !txpMka y.txp then fail q stWrongState s
      else
        let s1 := if (caOf s l).enabled then retireLink l (mkaEnd l (cutEnd l stAborted (cutCancel l s))) else s
        ok q { s1 with svc := { s1.svc with manual := setAdd l s1.svc.manual } }

/-- Put a CAK into custody on a link: the first participant, or a second beside a live first one (R256). -/
def giveCak (l : Nat) (ckn key : List Byte) (s : State) : State :=
  let c := caOf s l
  let an := match secyOf s l with | some y => y.curAn | none => 0
  let (mi, s1) := drawMi s
  let p := newPart ckn (deviceBlob s key) (key.length == 32) mi (match c.first with | some f => f.an | none => an)
  let live := match c.first with | some f => c.enabled && !f.live.isEmpty | none => false
  let s2 := if live then setCa l { c with second := some p } s1
    else setCa l { c with first := some p } (poolForget l [] (match c.first with | some f => retirePart f s1 | none => s1))
  if c.enabled then mkaSend l s2 else s2

/-- The CAK that MKA_SET_CAK brings: from a host slot, or from a host blob; or the status it fails with. -/
def setCakKey (q : QCmd) (s : State) : Except Nat (List Byte) :=
  let w := q.w 0
  let kid := fld w 16 16
  if kid ≠ 0xFFFF then
    match cmdSlot s kid with
    | none => .error stNotFound
    | some n =>
      let v := vslot s n
      if v.st = .retiring then .error stWrongState
      else if !(isHost n && v.role == .cak && v.attr == .deriveOnly) then .error stAttrDenied
      else if unwInSvc s = 0 then .error stNoResource
      else .ok (slotKey v)
  else
    match cmdSlot s (fld (q.w 1) 0 16) with
    | none => .error stNotFound
    | some n =>
      let v := vslot s n
      if v.st = .retiring then .error stWrongState
      else if !unwrapsHost n v then .error stAttrDenied
      else if unwInSvc s = 0 then .error stNoResource
      else
        match (Config.unwrap (slotKey v) ((wordsBytes (q.pkt.words.drop 6)).take (fld w 40 8))).bind parseHost with
        | none => .error stAuthFail
        | some (_, attr, role, _, key) => if attr = 3 ∧ role = 2 then .ok key else .error stBadParam

def mkaSetCakEff (q : QCmd) (s : State) : State :=
  let w := q.w 0
  let l := fld w 0 10
  let cl := fld w 32 6
  let bl := fld w 40 8
  let ckn := wordsBytes ((q.pkt.words.drop 2).take 4)
  let blob := fld w 16 16 == 0xFFFF
  if !onlyBits 0xFF3FFFFF03FF w || cl == 0 || decide (32 < cl) || !(ckn.drop cl).all (· == 0) || !onlyBits 0xFFFF (q.w 1)
      || (if blob then bl != 32 && bl != 48 else bl != 0 || q.w 1 != 0) then fail q stBadParam s
  else
    match secyOf s l with
    | none => fail q stNotFound s
    | some y =>
      let key := setCakKey q s
      let missing := match key with | .error e => e == stNotFound | .ok _ => false
      if missing then fail q stNotFound s
      else if !txpMka y.txp then fail q stWrongState s
      else if (caOf s l).second.isSome then fail q stBusy s
      else
        match key with
        | .error e => if e = stAttrDenied then denyCmd q (if blob then fld (q.w 1) 0 16 else fld w 16 16) s else fail q e s
        | .ok k =>
          match keySource s with
          | some st => fail q st s
          | none => if drbgFull s then requeue q s else ok q (giveCak l (ckn.take cl) k (if blob then telBump 0x1D1 1 none s else s))

/-- State of a CA for MKA_QUERY. -/
def caState (s : State) (l : Nat) (c : MkCa) : Nat :=
  if !c.enabled then 0
  else match c.first with
    | none => 1
    | some p => if c.second.isSome then 5 else if p.live.isEmpty then 2 else if caSecured s l then 4 else 3

/-- Result words of MKA_QUERY (R346). -/
def mkaQueryWords (s : State) (l : Nat) : List W64 :=
  let c := caOf s l
  match c.first with
  | some p =>
    if !c.enabled then [0, 0]
    else
      (put (caState s l c) 60 4 ||| putB (isKs s l p) 59 ||| put p.suite 56 2 ||| put p.off 54 2 ||| put p.an 52 2
        ||| put p.live.length 40 5 ||| put p.potential.length 32 5 ||| put p.kn 0 32) :: p.ks.getD 0
        :: (p.live.map (·.sci) ++ p.potential.map (·.sci))
  | none => [put (caState s l c) 60 4, 0]

def mkaQueryEff (q : QCmd) (s : State) : State :=
  let l := fld (q.w 0) 0 10
  if !onlyBits 0x3FF (q.w 0) then fail q stBadParam s
  else if (secyOf s l).isNone then fail q stNotFound s
  else complete q stOk (mkaQueryWords s l) s

/-- The key server of a link's CA is this engine. -/
def linkKs (s : State) (l : Nat) : Bool :=
  (caOf s l).enabled && (match partOf s l (inUse (caOf s l)) with | some p => isKs s l p | none => false)

def mkaForceRekeyEff (q : QCmd) (s : State) : State :=
  let links := linkSet (q.pkt.words.drop 2)
  if q.w 0 != 0 then fail q stBadParam s
  else if links.any (fun l => (secyOf s l).isNone) then fail q stNotFound s
  else if links.any (fun l => !linkMka s l || !linkKs s l) then fail q stWrongState s
  else if !drbgOn s || unwInSvc s = 0 || s.glb.deg.getLsbD 7 || decide (8192 < usedSlots s isTraffic + 2 * links.length) then fail q stNoResource s
  else ok q (links.foldl (fun t l => makeSak l (inUse (caOf t l)) (q.w 1).toNat t) s)

/-! The rows. -/

def execMkaEnable (p : Pkt) (s : State) : Host.Outcome State Fault Refusal := run s (runRow 0x58 mkaEnableEff p s)
def execMkaDisable (p : Pkt) (s : State) : Host.Outcome State Fault Refusal := run s (runRow 0x59 mkaDisableEff p s)
def execMkaSetCak (p : Pkt) (s : State) : Host.Outcome State Fault Refusal := run s (runRow 0x5A mkaSetCakEff p s)
def execMkaQuery (p : Pkt) (s : State) : Host.Outcome State Fault Refusal := run s (runRow 0x5B mkaQueryEff p s)
def execMkaForceRekey (p : Pkt) (s : State) : Host.Outcome State Fault Refusal := run s (runRow 0x5C mkaForceRekeyEff p s)

/-! MKPDUs and timers. -/

/-- A peer as an MKPDU shows it; live once it lists this engine. -/
def peerFrom (m : Mkpdu) (sc : Option Nat) : MkPeer :=
  { sci := m.sci, mi := m.mi, mn := m.mn, prio := m.prio, live := m.listsUs, suites := m.suites, offCap := m.offCap,
    rxKn := m.rxKn, txKn := m.txKn, sends := m.sends, sc := sc }

/-- Peers of a participant, the message's sender among them; a newcomer needs room (R249). -/
def peersWith (s : State) (p : MkPart) (m : Mkpdu) : List MkPeer :=
  match p.peers.find? (fun x => x.sci == m.sci) with
  | some old => mapWhere (fun x => x.sci == m.sci) (fun _ => peerFrom m old.sc) p.peers
  | none => if p.peers.length < 16 ∧ peersInUse s < 4096 then p.peers ++ [peerFrom m none] else p.peers

/-- SCs for the live peers of a participant that have none, and receive SAs of its SAK on them (R254). -/
def placePeers (l : Nat) (second : Bool) (s : State) : State :=
  match partOf s l second with
  | some p =>
    let (ps, s1) := p.peers.foldl (fun (acc : List MkPeer × State) x => let (y, t) := peerSc l x acc.2; (acc.1 ++ [y], t)) ([], s)
    let p1 := { p with peers := ps }
    let s2 := setPart l second (some p1) s1
    (match p.rxKid.bind (kidSlot s2) with
     | some n => mkaInstallRx l p1 (p.rxKid.getD 0) (keyAt s2 n) s2
     | none => s2)
  | none => s

/-- An MKPDU taken by the participant that its CKN names. -/
def mkpduFor (l : Nat) (second : Bool) (m : Mkpdu) (s : State) : State :=
  match partOf s l second with
  | some p =>
    let before := p.live.map (·.sci)
    let p1 := { p with peers := peersWith s p m }
    let changed := before != p1.live.map (·.sci)
    let s1 := placePeers l second (setPart l second (some p1) s)
    let s2 := reElect l second changed s1
    let s3 :=
      match partOf s2 l second with
      | some p2 =>
        let s3 := if isKs s2 l p2 && m.pnThr && (p2.phase == .none || p2.phase == .done) then makeSak l second 0 s2 else s2
        (match m.dist with
         | some d => if !isKs s2 l p2 && p2.ks == some m.sci && d.kn != p2.kn && m.listsUs then takeSak l second d s3 else s3
         | none => s3)
      | none => s2
    mkaPump l s3
  | none => s

/-- MKPDU_RECEIVED (R147, R249, R252): the service reads the next item of CTQ; one of a version above 3 is not taken. -/
def execMkpduReceived (m : Mkpdu) (s : State) : Host.Outcome State Fault Refusal :=
  if !svcRuns s then run s s
  else
    match queTake (queOf s 4) with
    | (some it, v) =>
      let l := it.link
      let s1 := setQue 4 v s
      let c := caOf s1 l
      if m.bad then run s (raiseL .svc 3 [l] s1)
      else if !c.enabled || m.version < 1 || 3 < m.version then run s s1
      else if c.first.any (fun p => p.ckn == m.ckn) then run s (mkpduFor l false m s1)
      else if c.second.any (fun p => p.ckn == m.ckn) then run s (mkpduFor l true m s1)
      else run s s1
    | (none, v) => run s (setQue 4 v s)

/-- MKA_HELLO_TIMER (R249): an MKPDU goes out; a SAK that waits is tried again. -/
def execMkaHelloTimer (link : Nat) (s : State) : Host.Outcome State Fault Refusal :=
  let c := caOf s link
  if c.enabled && c.first.isSome && svcRuns s then run s (mkaPump link (mkaSend link s)) else run s s

/-- A peer is gone: its receive SAs retire, its SC goes (R254). -/
def dropPeer (l : Nat) (second : Bool) (sci : W64) (s : State) : State :=
  match partOf s l second with
  | some p =>
    if !p.peers.any (fun x => x.sci == sci) then s
    else
      let s1 := setPart l second (some { p with peers := p.peers.filter (fun x => x.sci != sci) }) s
      let s2 := match findSc s1 l sci with
        | some c =>
          scGo c ((List.range 4).foldl (fun t a =>
            if (rxOf t (4 * c + a)).isSome then
              let u := retireRx (4 * c + a) t
              if saBusy u .ing (4 * c + a) then u else retireRxDone (4 * c + a) u
            else t) s1)
        | none => s1
      reElect l second (p.live.any (fun x => x.sci == sci)) s2
  | none => s

/-- A CA has no live peer. -/
def caLonely (c : MkCa) : Bool := (caParts c).all (fun p => p.live.isEmpty)

/-- The CA of a link is lost: its SAs and SCs retire, a pending cut ends (R257). -/
def caLost (l : Nat) (s : State) : State :=
  let s1 := cutCancel l (raiseL .svc 2 [l] s)
  let fresh := fun (p : MkPart) => { p with peers := [], ks := none, phase := SakPhase.none, txKid := none, rxKid := none, want := false }
  let c := caOf s1 l
  let s2 := modCa l (fun c => { c with first := c.first.map fresh, second := c.second.map fresh, bounded := false, oldAn := none }) s1
  (c.first.toList ++ c.second.toList).foldl (fun t p => retirePart p t) (retireLink l s2)

/-- MKA_LIFE_TIME (R254, R257): a peer, or with `none` the CA without a live peer, has been silent for the Life Time. -/
def execMkaLifeTime (link : Nat) (peer : Option W64) (s : State) : Host.Outcome State Fault Refusal :=
  let c := caOf s link
  if !c.enabled || !svcRuns s then run s s
  else
    match peer with
    | some sci =>
      let had := !caLonely c
      let s1 := dropPeer link true sci (dropPeer link false sci s)
      run s (if had && caLonely (caOf s1 link) then caLost link s1 else mkaPump link s1)
    | none => if caLonely c then run s (caLost link s) else run s s

/-- REKEY_INTERVAL (R252): the key server makes a new SAK. -/
def execRekeyInterval (link : Nat) (s : State) : Host.Outcome State Fault Refusal :=
  let c := caOf s link
  if linkKs s link && svcRuns s && c.rekeyS != 0 then run s (makeSak link (inUse c) 0 s) else run s s

/-- OVERLAP_END (R255): the old receive SA is disabled and retired. -/
def execOverlapEnd (link sc an : Nat) (s : State) : Host.Outcome State Fault Refusal :=
  let r := 4 * sc + an
  let mine := match scOf s sc with | some c => c.link == link | none => false
  let old := (caParts (caOf s link)).all (fun p => p.an != an || p.phase == .none)
  if mine && old && linkMka s link && svcRuns s && (rxOf s r).isSome then
    let s1 := retireRx r s
    let s2 := if saBusy s1 .ing r then s1 else retireRxDone r s1
    run s (if (rxOfLink s2 link).any (fun x => x % 4 == an && !(rxOf s2 x).any (·.retiring)) then s2
      else modCa link (fun c => { c with oldAn := c.oldAn.filter (· != an) }) s2)
  else run s s

/-- FIRST_PARTICIPANT_END (R256): one Life Time after the cut of a CAK change; what the first one kept goes (R217, R248). -/
def execFirstParticipantEnd (link : Nat) (s : State) : Host.Outcome State Fault Refusal :=
  let c := caOf s link
  run s (if c.ending then
      poolForget link (c.second.toList.map (·.ckn)) (c.first.toList.foldl (fun t p => retirePart p t)
        (setCa link { c with first := c.second, second := none, ending := false } s))
    else s)

end Sys2Proof.Machine
end

