-- ==== Sys2Proof/Machine/FabOps.lean ====
section
/-!
DEFINITION. The fabric's shared operations: port bring-up and its failures (R290–R299), routes and membership (R304, R305),
the time master (R307), own LSA and addresses (R303, R304), the pair's digest (R311), acceptance of a message (R286, R287).
-/
namespace Sys2Proof.Machine

/-! Membership and routes. -/

/-- Why an engine with this class and key check would be QUARANTINED; 0 for no reason (R305). -/
def quarCause (s : State) (cls : Nat) (check : W64) : Nat :=
  if cls ≠ fabClass then 1 else if s.fab.ickKid.isNone ∨ check ≠ keyCheck s then 2 else 0

/-- A port's neighbour shows the same class and key. -/
def nbrOk (s : State) (p : Nat) : Bool := let t := portOf s p; t.peerClass == fabClass && t.peerKeyOk && s.fab.ickKid.isSome

/-- This engine never gives up its address: it is paired, or homes a shared SA (R303). -/
def keepsAddr (s : State) : Bool := s.fab.pair.partner.isSome || s.jnl.last.any (fun g => g.req.isSome)

/-- The LSA of an address. -/
def lsaAt (s : State) (a : Nat) : Option Lsa := s.fab.lsdb.find? (fun l => l.addr == some a)

/-- Another engine claims this engine's address and neither can give way (R303). -/
def addrConflict (s : State) (a : Nat) : Bool :=
  s.fab.addr == some a && keepsAddr s && s.fab.lsdb.any (fun l => l.addr == some a && l.partner.isSome)

/-- QUAR_CAUSE of an address, by its LSA or the neighbour's CAPS. -/
def quarOf (s : State) (a : Nat) : Nat :=
  if addrConflict s a then 3
  else match lsaAt s a with
    | some l => quarCause s l.cls l.keyCheck
    | none =>
      match (List.range 8).find? (fun p => (portOf s p).peerAddr == some a) with
      | some p => if (portOf s p).peerClass ≠ fabClass then 1 else if nbrOk s p then 0 else 2
      | none => 2

/-- A route: destination, hops, first engine on the way, port. -/
structure Route where
  dest : Nat
  hops : Nat
  via : Nat
  port : Nat
deriving DecidableEq, Repr

/-- Fewer hops; then the lower next-hop address; then the lower port (R304). -/
def Route.before (a b : Route) : Bool :=
  decide (a.hops < b.hops) || (a.hops == b.hops && (decide (a.via < b.via) || (a.via == b.via && decide (a.port < b.port))))

/-- The table with a route where it is better than what is there. -/
def addRoute (r : Route) (rs : List Route) : List Route :=
  match rs.find? (fun x => x.dest == r.dest) with
  | some x => if r.before x then rs.map (fun y => if y.dest == r.dest then r else y) else rs
  | none => rs ++ [r]

/-- One hop further from the routes of `k` hops; no route passes through a QUARANTINED engine (R305). -/
def routeStep (s : State) (k : Nat) (rs : List Route) : List Route :=
  rs.foldl (fun acc r =>
    if r.hops = k ∧ quarOf s r.dest = 0 then
      (match lsaAt s r.dest with
       | some l => l.adjs.foldl (fun acc a =>
           if s.fab.addr = some a.addr then acc else addRoute ⟨a.addr, k + 1, r.via, r.port⟩ acc) acc
       | none => acc)
    else acc) rs

/-- Every route, by the neighbours on ACTIVE ports and the LSAs. -/
def allRoutes (s : State) : List Route :=
  let first := (activePorts s).foldl (fun acc p => match (portOf s p).peerAddr with
    | some a => addRoute ⟨a, 1, a, p⟩ acc
    | none => acc) []
  (List.range 63).foldl (fun rs k => routeStep s (k + 1) rs) first

/-- What is recorded of an address with its route (R305). -/
def peerRecord (s : State) (rs : List Route) (a : Nat) : Peer :=
  match rs.find? (fun r => r.dest == a) with
  | none => { (peerOf s a) with reach := false, hops := 0, nextPort := 0 }
  | some r =>
    let base : Peer := { reach := true, quar := quarOf s a, unsync := false, cls := 0, hops := r.hops, nextPort := r.port, id := 0, prio := 0x80 }
    match lsaAt s a with
    | some l => { base with unsync := l.unsync, cls := l.cls, id := l.id, prio := l.prio }
    | none => let p := portOf s r.port
              { base with unsync := p.peerUnsync, cls := p.peerClass, id := p.peerId, prio := p.peerPrio }

/-- The master by R307: the MEMBER of lowest (time priority, address), this engine among them. -/
def electMaster (s : State) : Option Nat :=
  let members := (List.range 64).filterMap (fun a => if isMember s a then some ((peerOf s a).prio, a) else none)
  let all := (match s.fab.addr with | some a => [(s.fab.prio, a)] | none => []) ++ members
  match all with
  | [] => none
  | x :: xs => some (xs.foldl (fun b y => if y.1 < b.1 ∨ (y.1 = b.1 ∧ y.2 < b.2) then y else b) x).2

/-- The master follows the membership; a master is in step with itself (R307, R309). -/
def setMaster (s : State) : State :=
  let m := electMaster s
  let self := m.isNone || m == s.fab.addr
  let s1 := { s with fab := { s.fab with master := self, masterAddr := if self then s.fab.addr else m } }
  if self then { s1 with servo := 0, fab := { s1.fab with unsync := false, offset := 0, good := 0 } } else s1

/-- PEER events for the engines that have become QUARANTINED (R320). -/
def quarEvents (old s : State) : State :=
  (List.range 64).foldl (fun t a =>
    let q := (peerOf t a).quar
    if (peerOf t a).reach && q != 0 && q != (peerOf old a).quar then peerEvent (peerOf t a).nextPort q (some a) t else t) s

/-- Routes, relations and master anew (R304, R305, R307). -/
def reroute (s : State) : State :=
  let rs := allRoutes s
  let s1 := (List.range 64).foldl (fun t a =>
    if s.fab.addr = some a ∧ !addrConflict s a then setPeer a .reset t else setPeer a (peerRecord s rs a) t) s
  setMaster (quarEvents s s1)

/-! The own LSA (R304). -/

/-- The engine that grants for this engine's pair. -/
def pairHomeAddr (s : State) : Option Nat :=
  if s.fab.pair.partner.isNone then none
  else if s.fab.pair.takenOver || (s.fab.pair.formed && s.fab.pair.home) then s.fab.addr
  else if s.fab.pair.formed then s.fab.pair.partner else s.fab.addr

def ownLsa (s : State) : Lsa :=
  { addr := s.fab.addr, id := s.fab.engineId, seq := s.fab.lsaSeq, partner := s.fab.pair.partner, home := pairHomeAddr s,
    adjs := (List.range 8).filterMap (fun p =>
      let t := portOf s p
      if t.adj then t.peerAddr.map (fun a => ({ addr := a, port := p, width := t.widthUse, rate := t.rate } : Adj)) else none),
    cls := fabClass, keyCheck := keyCheck s, prio := s.fab.prio, unsync := s.fab.unsync }

/-- Originate the own LSA on every ACTIVE port; an engine without its ENGINE_ID is in no fabric (R302). -/
def lsaOriginate (s : State) : State :=
  if s.fab.engineId == 0 then s
  else
  let s1 := { s with fab := { s.fab with lsaSeq := (s.fab.lsaSeq + 1) % 2 ^ 32 } }
  (activePorts s1).foldl (fun t p => sendHop p (.lsa (ownLsa s1)) t) s1

/-! Ports. -/

/-- Fields of FAB_TRAIN_CFG and FAB_RETRY_CFG. -/
def failLimit (s : State) : Nat := fld s.fab.trainCfg 36 4
def errThr (s : State) : Nat := fld s.fab.trainCfg 24 8
def errWin (s : State) : Nat := fld s.fab.trainCfg 16 8 * 1000000

/-- A configured lane shows ready, signal and CDR lock. -/
def laneSeen (t : Port) : Bool := t.rdy &&& t.sig &&& t.cdr &&& laneMask t.width != 0

/-- A port starts to train: every lane is learned anew. -/
def Port.toTrain (t : Port) : Port :=
  { t with st := .train, widthUse := t.width, locked := 0, lockRun := 0, capsSent := false, capsGot := false, capsAck := false, exiting := false,
           txq := [], hdrs := [], rseq := [] }

/-- A port in DETECT that may leave it, does (R290). -/
def portTry (p : Nat) (s : State) : State :=
  let t := portOf s p
  if t.en && t.st == .detect && !t.down && !t.test && !t.backoff && !t.held && laneSeen t then setPort p t.toTrain s else s

/-- A port back in DETECT, with its bring-up state gone. -/
def Port.toDetect (t : Port) : Port :=
  { t with st := .detect, locked := 0, lockRun := 0, capsSent := false, capsGot := false, capsAck := false, exiting := false, t1 := none,
           txq := [], hdrs := [], rseq := [] }

/-- An IDLE port starts to leave (R298). -/
def idleLeave (p : Nat) (s : State) : State :=
  let t := portOf s p
  if t.st == .idle && !t.exiting then emit (.leader p 5) (setPort p { t with exiting := true, lockRun := 0 } s) else s

/-- IDLE ports whose neighbour could be reached before and is so by no path now leave IDLE (R298). -/
def idleCheck (old s : State) : State :=
  (List.range 8).foldl (fun t p =>
    match (portOf t p).peerAddr with
    | some a => if (peerOf old a).reach && !(peerOf t a).reach then idleLeave p t else t
    | none => t) s

/-- What follows once a port has left ACTIVE: the LINK event, and routes without it. A FAB_PORT_CTL that waits for IDLE finds
a port that cannot enter it. -/
def leftActive (p : Nat) (s : State) : State :=
  completeWhere (fun w => w == .port p) stWrongState [] (idleCheck s (reroute (raise .fab (4 * p) s)))

/-- A fault of a port (R296): the LIMIT-th within WINDOW holds it down, with its LINK event. -/
def portFault (p : Nat) (s : State) : State :=
  let t := portOf s p
  let st := stampAdd t.stamps (now s)
  if isPermanent s.fab.retryCfg st then
    raise .fab (4 * p) (setPort p { t.toDetect with stamps := st, held := true } s)
  else setPort p { t with stamps := st } s

/-- Loss of lock (R290, R295): the port goes to DETECT and messages stop. -/
def loseLock (p : Nat) (s : State) : State :=
  let t := portOf s p
  let wasActive := t.st == .active
  let s1 := setPort p t.toDetect s
  let s2 := if t.probing then setPort p { t.toDetect with st := .absent, probing := false } s1 else s1
  let s3 := portFault p s2
  portTry p (if wasActive then leftActive p s3 else s3)

/-- A retrain from ACTIVE (R295). -/
def retrain (p : Nat) (s : State) : State :=
  let t := portOf s p
  let w := t.widthUse
  let s1 := setPort p { t.toTrain with widthUse := w, retrains := satAdd 8 t.retrains 1, errAt := [], symErr := t.symErr } s
  let s2 := portFault p (emit (.leader p 6) (modPort p (pushRun 6) s1))
  leftActive p (raise .fab (4 * p + 2) s2)

/-- A symbol error (R295): counted; ERR_THR of them within ERR_WIN retrain an ACTIVE port. -/
def symbolError (p : Nat) (s : State) : State :=
  let t := portOf s p
  let at_ := (t.errAt ++ [now s]).filter (fun x => decide (now s - x ≤ errWin s))
  let s1 := setPort p { t with symErr := satAdd 16 t.symErr 1, errAt := at_ } s
  if t.st == .active && decide (errThr s ≤ at_.length) then retrain p s1 else s1

/-- A bring-up attempt failed (R290, R294): backoff in DETECT, ABSENT at the limit or from a probe. -/
def portFail (p : Nat) (s : State) : State :=
  let t := portOf s p
  if t.probing then setPort p { t.toDetect with st := .absent, probing := false } s
  else if failLimit s ≤ t.fails + 1 then
    raise .fab (4 * p + 1) (setPort p { t.toDetect with st := .absent, fails := Nat.min 15 (t.fails + 1), backoff := false } s)
  else emit (.leader p 0) (setPort p { t.toDetect with fails := t.fails + 1, backoff := true } s)

/-- A port reaches ACTIVE: its adjacency counts, the address claim may begin (R290, R303, R304). -/
def portActive (p : Nat) (s : State) : State :=
  let t := portOf s p
  let listed := t.adj
  let s1 := setPort p { t with st := .active, fails := 0, probing := false, exiting := false, adj := true } s
  let s2 := if s1.fab.addr.isNone && s1.fab.engineId != 0 then { s1 with fab := { s1.fab with claiming := true } } else s1
  let s3 := completeWhere (fun w => w == .port p) stOk [] (reroute s2)
  if listed then s3 else lsaOriginate s3

/-- A port enabled: lanes powered, leader sent (R284, R290). -/
def portEnable (p width : Nat) (rate : Bool) (s : State) : State :=
  let t := portOf s p
  let n : Port := { Port.reset with en := true, width := width, widthUse := width, rate := rate, st := .detect, rdy := t.rdy, sig := t.sig,
                                    cdr := t.cdr, prbsCtl := t.prbsCtl, symErr := t.symErr, retrains := t.retrains, polarity := t.polarity }
  portTry p (emit (.leader p 0) (setPort p n s))

/-- A port begins to go down: it leaves the fabric at once and reads OFF when its shutdown completes (R290, R299). -/
def portDown (p : Nat) (s : State) : State :=
  let t := portOf s p
  if t.st == .off then s
  else
    let s1 := setPort p { t.toDetect with en := false, down := true, test := false, backoff := false, held := false } s
    if t.st == .active then leftActive p s1
    else if t.st == .idle then completeWhere (fun w => w == .port p) stWrongState [] s1 else s1

/-- A port reads OFF and holds no state; the adjacency goes from the LSA. -/
def portOff (p : Nat) (s : State) : State :=
  let t := portOf s p
  let s1 := setPort p { Port.reset with rdy := t.rdy, sig := t.sig, cdr := t.cdr, prbsCtl := t.prbsCtl, symErr := t.symErr, retrains := t.retrains } s
  let s2 := if t.st == .active then leftActive p s1 else s1
  if t.adj then lsaOriginate (reroute s2) else s2

/-- IDLE on a port (R298). -/
def enterIdle (p : Nat) (s : State) : State :=
  completeWhere (fun w => w == .port p) stOk [] (reroute (setPort p { (portOf s p) with st := .idle, exiting := false, lockRun := 0 } s))

/-! Addresses (R303). -/

/-- An own address: the PEER event with cause ADDRESS, relations anew, the claim announced. -/
def takeAddr (a : Option Nat) (s : State) : State :=
  if s.fab.addr = a then s
  else lsaOriginate (reroute (peerEvent 0 3 a { s with fab := { s.fab with addr := a, claiming := false } }))

/-- Claim the preferred address, or the lowest free one; with every address in use the engine holds none. -/
def claimAddr (s : State) : State :=
  let used := fun (a : Nat) => s.fab.lsdb.any (fun l => l.addr == some a) || (List.range 8).any (fun p =>
    (portOf s p).st == .active && (portOf s p).peerAddr == some a)
  let pick := if !s.fab.auto && !used s.fab.pref then some s.fab.pref else firstFrom (fun a => !used a) 0 64
  match pick with
  | some a => takeAddr (some a) { s with fab := { s.fab with claiming := false } }
  | none =>
    let s1 := { s with fab := { s.fab with claiming := false } }
    if s.fab.addr.isNone then peerEvent 0 3 none s1 else takeAddr none s1

/-! The pair's digest (R311). -/

/-- Items of the configuration digest. -/
def digestItems (s : State) : List Nat :=
  let set := s.fab.pair.set
  let shared := s.tx.filterMap (fun e => match e.2 with
    | some a => if a.shared || set.contains (saLink e.1) then
        some [if a.shared then a.homeSa else e.1, e.1 % 4, a.suite, if a.shared then a.home else s.fab.addr.getD 0] else none
    | none => none)
  let kcv := match kidSlot s s.fab.pair.kid with | some n => (vslot s n).kcv | none => 0
  set ++ set.flatMap (fun l => match secyOf s l with
    | some y => [l, y.sci.toNat, (y.txp &&& 0xFFC01FFFFFFFFFFF).toNat, y.rxp.toNat]
    | none => [l]) ++ shared.flatten ++ [kcv]

/-- The 32-byte digest, and its first 8 bytes. -/
def pairDigest (s : State) : List Byte := Config.sha256 (Config.canon (digestItems s))
def digestPrefix (s : State) : W64 := BitVec.ofNat 64 (beNat (slice (pairDigest s) 0 8))

/-- PAIR_HELLO to the partner. -/
def sendPairHello (s : State) : State :=
  match s.fab.pair.partner with
  | some a => sendTo a (.pairHello { epoch := s.fab.pair.epoch, digest := pairDigest s }) s
  | none => s

/-! Acceptance of a message (R286, R287, R303–R305). -/

/-- The neighbour of the port, or the engine that SRC names, is held QUARANTINED. -/
def fromQuarantine (s : State) (h : MsgHdr) : Bool :=
  !nbrOk s h.port || (match h.src with | some a => (peerOf s a).quar != 0 && !isMember s a | none => false)

/-- A message on an ACTIVE port (a CAPS also in CAPS): counted; a bad MAC drops it; from a QUARANTINED engine only HELLO,
CAPS and LSA are taken; a routed one must name this engine. -/
def recvMsg (h : MsgHdr) (m : FabMsg) (eff : State → State) (s : State) : State :=
  let p := portOf s h.port
  let t := msgTyp m
  if !(p.st == .active || (p.st == .caps && t == 0x0C)) then s
  else
    let s1 := telBump 0x1D8 1 none (quePass (8 + h.port) 1 s)
    if msgHasMac m && h.mac != msgMac s h m then bump 0x61 none s1
    else if t != 0x01 && t != 0x02 && t != 0x0C && fromQuarantine s h then s1
    else if !msgIsHop m && (h.hop || s.fab.addr != some h.dst) then s1
    else eff s1

/-- A routed message from an engine that is a MEMBER. -/
def recvFrom (h : MsgHdr) (m : FabMsg) (eff : Nat → State → State) (s : State) : State :=
  recvMsg h m (fun t => match h.src with
    | some a => if isMember t a then eff a t else t
    | none => t) s

/-- A message of the pair's other engine. -/
def recvPartner (h : MsgHdr) (m : FabMsg) (eff : Nat → State → State) (s : State) : State :=
  recvFrom h m (fun a t => if t.fab.pair.partner == some a then eff a t else t) s

end Sys2Proof.Machine
end

