-- ==== Sys2Proof/Machine/LaneOps.lean ====
section
/-!
DEFINITION. Lanes and spares (R152, R162, R166–R171). Lane EL00 + k is lane k, IL00 + k is lane 18 + k; their domains follow
one another from PD08.
-/
namespace Sys2Proof.Machine

/-- First lane of a direction; number of a lane; its domain; its direction. -/
def laneBase (d : Dir) : Nat := match d with | .egr => 0 | .ing => 18
def laneNo (d : Dir) (k : Nat) : Nat := laneBase d + k
def laneDomain (i : Nat) : Nat := 8 + i
def laneDir (i : Nat) : Dir := if i < 18 then .egr else .ing
def setLane (i : Nat) (v : Lane) (s : State) : State := { s with lne := { s.lne with lanes := smSet .reset s.lne.lanes i v } }

/-- Lanes of a direction, and those in service. -/
def lanesOf (d : Dir) : List Nat := (List.range 18).map (laneNo d)
def serving (s : State) (d : Dir) : Nat := ((lanesOf d).filter (fun i => (laneOf s i).st == .inService)).length

/-- LANES of the direction follows the slot map (R121). -/
def countLanes (d : Dir) (s : State) : State := setPath d { pathOf s d with lanes := serving s d } s

/-- PREWARM. -/
def prewarm (s : State) : Bool := bitAt s.lne.retryCfg 32

/-- A WARM spare; the lowest spare that is switched off and not ramping, and one that ramps towards WARM. -/
def warmOf (s : State) (d : Dir) : Option Nat := (lanesOf d).find? (fun i => (laneOf s i).st == .warm)
def coldSpare (s : State) (d : Dir) : Option Nat := (lanesOf d).find? (fun i => (laneOf s i).st == .off && (laneOf s i).ramping.isNone)
def warmingOf (s : State) (d : Dir) : Option Nat := (lanesOf d).find? (fun i => (laneOf s i).ramping == some false)

/-- Spares that are WARM or ramp towards it; lanes in service whose faults within WINDOW have reached LIMIT − 1 (R167). -/
def warmCount (s : State) (d : Dir) : Nat :=
  ((lanesOf d).filter (fun i => (laneOf s i).st == .warm || (laneOf s i).ramping == some false)).length
def warmNeed (s : State) (d : Dir) : Nat :=
  ((lanesOf d).filter (fun i => (laneOf s i).st == .inService &&
    decide (retryLimit s.lne.retryCfg ≤ inWindow s.lne.retryCfg (laneOf s i).stamps (now s) + 1))).length

/-- A spare of either kind starts to ramp: it takes its place among the domains that ramp (R23, R167). -/
def spareRamp (i : Nat) (intoService : Bool) (s : State) : State :=
  let s1 := setLane i { laneOf s i with ramping := some intoService } s
  if s1.glb.ramping.contains (laneDomain i) then s1 else { s1 with glb := { s1.glb with ramping := s1.glb.ramping ++ [laneDomain i] } }

/-- Its ramp is over or given up. -/
def rampEnds (i : Nat) (s : State) : State :=
  { s with glb := { s.glb with ramping := s.glb.ramping.filter (· != laneDomain i) } }

/-- A lane enters the slot map, switched on. -/
def laneEnter (i : Nat) (s : State) : State :=
  countLanes (laneDir i) (pdSet (laneDomain i) (setLane i { laneOf s i with st := .inService, ramping := none, held := false } s))

/-- A lane is RETIRED, switched off (R168). -/
def laneRetire (i : Nat) (s : State) : State :=
  countLanes (laneDir i) (rampEnds i (pdClear (laneDomain i) (setLane i { laneOf s i with st := .retired, ramping := none, held := false } s)))

/-- A spare ramps straight into service; with none left the direction stays at 15 lanes and its cause is set (R168, R169). -/
def spareForService (d : Dir) (s : State) : State :=
  match warmingOf s d with
  | some k => spareRamp k true s
  | none =>
    match coldSpare s d with
    | some k => spareRamp k true s
    | none => setDeg (match d with | .egr => 0 | .ing => 1) s

/-- A spare is switched on to be held WARM, one for each lane that needs one: a second lane at LIMIT − 1 warms the next spare (R167,
R171, log 144, DESIGN CHOICE). -/
def spareToWarm (d : Dir) (s : State) : State :=
  if warmNeed s d ≤ warmCount s d then s
  else
    match coldSpare s d with
    | some k => spareRamp k false s
    | none => s

/-- A permanent fault of a lane in service (R168–R171): a WARM spare enters with it leaving; else it leaves where 16 lanes
serve; with 15 it stays. -/
def laneLeave (i : Nat) (s : State) : State :=
  let d := laneDir i
  match warmOf s d with
  | some w => laneEnter w (laneRetire i s)
  | none =>
    if serving s d ≤ 15 then setLane i { laneOf s i with held := true } s
    else spareForService d (laneRetire i s)

/-- A fault of a lane (R166, R167): counted with its stage and check; a permanent one takes the lane out. -/
def laneFault (i stage check : Nat) (s : State) : State :=
  let l := laneOf s i
  let st := stampAdd l.stamps (now s)
  let s1 := raise .lne i (setLane i { l with stamps := st, total := satAdd 32 l.total 1, lastStage := stage, lastCheck := check } s)
  if isPermanent s.lne.retryCfg st then
    (match l.st with
     | .inService => if l.held then s1 else laneLeave i s1
     | .off | .warm => laneRetire i s1
     | .retired => s1)
  else if prewarm s && l.st == .inService && decide (retryLimit s.lne.retryCfg ≤ inWindow s.lne.retryCfg st (now s) + 1) then
    spareToWarm (laneDir i) s1
  else s1

/-- A failed known-answer test counts as a fault at stage 17, check 0b101 (R162). -/
def katFault (i : Nat) (s : State) : State := laneFault i 17 5 s

/-- The first lane that stays in the map although permanent leaves once 16 lanes serve again (R171). -/
def releaseHeld (d : Dir) (s : State) : State :=
  match (lanesOf d).find? (fun i => (laneOf s i).held) with
  | some i => if serving s d = 16 then laneLeave i s else s
  | none => s

/-- A spare's ramp and test are over (R167, R168). -/
def spareDone (i : Nat) (pass : Bool) (s : State) : State :=
  let d := laneDir i
  match (laneOf s i).ramping with
  | none => s
  | some intoService =>
    let s := rampEnds i s
    if pass then
      (if intoService then releaseHeld d (laneEnter i s)
       else pdSet (laneDomain i) (setLane i { laneOf s i with st := .warm, ramping := none } s))
    else
      let s1 := laneRetire i (katFault i s)
      if intoService then spareForService d s1 else spareToWarm d s1

end Sys2Proof.Machine
end

