-- ==== Sys2Proof/Machine/CmdFab.lean ====
section
/-!
DEFINITION. Lease, fabric and journal commands (R310, R347–R349, R190) with the operations they share with resume.
-/
namespace Sys2Proof.Machine

/-! Leases (R347). -/

/-- LEASE_QUERY's words for an SA index: state, home, leases, mark. -/
def leaseWords (s : State) (i : Nat) : List W64 :=
  match txOf s i with
  | some a =>
    let dest := leaseTo s i a
    let addr := match dest with | .here _ => s.fab.addr.getD 0 | .there e _ _ => e
    let here := match dest with | .here _ => true | .there _ _ _ => false
    let code := match a.lease with | .none => 0 | .wait => 1 | .one => 2 | .fetch => 3 | .two => 4
    [put addr 16 6 ||| putB here 8 ||| put code 0 3, markVal a.cur.start, markVal a.cur.stop, markVal a.nxt.start, markVal a.nxt.stop,
     markVal (hwOf s i)]
  | none => [put (s.fab.addr.getD 0) 16 6 ||| putB true 8, 0, 0, 0, 0, markVal (hwOf s i)]

def leaseQueryEff (q : QCmd) (s : State) : State :=
  if !onlyBits 0xFFF (q.w 0) then fail q stBadParam s else complete q stOk (leaseWords s (fld (q.w 0) 0 12)) s

def leaseSetGrainEff (q : QCmd) (s : State) : State :=
  let w := q.w 0
  let g := fld w 40 6
  let i := fld w 0 12
  let j := s.jnl
  if !onlyBits 0xC0003F0000000FFF w || (fld w 62 2 != 3 && (decide (g < 12) || decide (32 < g))) then fail q stBadParam s
  else
    match fld w 62 2 with
    | 0 => ok q { s with jnl := { j with grainXpn := g } }
    | 1 => ok q { s with jnl := { j with grainPn := g } }
    | 2 => ok q { s with jnl := { j with grainOver := smSet 0 j.grainOver i g } }
    | _ => ok q { s with jnl := { j with grainOver := smSet 0 j.grainOver i 0 } }

/-! Fabric (R348). -/

def fabWords (s : State) (what : Nat) : List W64 :=
  if what = 0 then [regFabCfg s, s.time, regTimeStat s, regPairStat s, s.fab.peerLog, s.fab.engineId]
  else if what = 1 then (List.range 8).map (fun p => gatedReg s (portDomain p) 0 (regPortStat (portOf s p)))
  else (List.range 64).map (regPeer s)

def fabQueryEff (q : QCmd) (s : State) : State :=
  if !onlyBits 3 (q.w 0) || fld (q.w 0) 0 2 == 3 then fail q stBadParam s
  else complete q stOk (fabWords s (fld (q.w 0) 0 2)) s

/-- The fabric ICK is put into the MKA pool, or leaves it (R217, R289). -/
def fabIckPlace (key : Option (List Byte)) (s : State) : State :=
  let s1 := match s.fab.ickKid with
    | some kid => (match kidSlot s kid with | some n => zeroSlot n s | none => s)
    | none => s
  match key with
  | none => { s1 with fab := { s1.fab with ickKid := none } }
  | some k =>
    match poolRoom [] s1 with
    | (some n, s2) =>
      let s3 := writeKey n .deriveOnly true false .ick 3 (kdf k lblFabric [] 32) s2
      { s3 with fab := { s3.fab with ickKid := some (kidOf s3 n) } }
    | (none, s2) => { s2 with fab := { s2.fab with ickKid := none } }

/-- The key that membership is judged by has changed: neighbours are judged anew, the own LSA tells it (R305). -/
def rekeyFabric (s : State) : State :=
  let s1 := (List.range 8).foldl (fun t p =>
    match (portOf t p).peerAddr.bind (lsaAt t) with
    | some l => modPort p (fun x => { x with peerKeyOk := l.keyCheck == keyCheck t }) t
    | none => t) s
  lsaOriginate (reroute s1)

/-- FAB_SET_ROLE OP 0: address choice, time priority, fabric key in custody (R289, R303, R307). -/
def setIdentity (w : W64) (key : Option (List Byte)) (s : State) : State :=
  let f := { s.fab with auto := bitAt w 54, pref := fld w 48 6, prio := fld w 40 8 }
  let s1 := { s with fab := f, svc := { s.svc with fabKey := key.map (fun k => (deviceBlob s k, k.length == 32)) } }
  let s2 := if s1.fab.addr.isNone && s1.fab.engineId != 0 && !(activePorts s1).isEmpty then { s1 with fab := { s1.fab with claiming := true } } else s1
  rekeyFabric (fabIckPlace key s2)

/-- Word 0 of FAB_SET_ROLE keeps the fields of its OP. -/
def roleForm (w v : W64) : Bool :=
  match fld w 60 4 with
  | 0 => onlyBits 0xF07FFF000000FFFF w && v == 0
  | 1 => onlyBits 0xF000000000000000 w
  | 2 => onlyBits 0xF000000000000000 w && v == 0
  | 3 => onlyBits 0xF03F00000000FFFF w && v == 0
  | _ => false

/-- A key that a fabric command names with the role and attribute it needs: a CAK to derive from, a PAIR key to wrap with (R204, R205); else the status, `none` in it for a refused use. -/
def namedKey (s : State) (kid : Nat) (role : Role) : Except (Option Nat) Nat :=
  match cmdSlot s kid with
  | none => .error (some stNotFound)
  | some n =>
    let v := vslot s n
    if v.st = .retiring then .error (some stWrongState)
    else if isHost n && v.role == role && v.attr == (if role == .cak then .deriveOnly else .wrapOnly) then .ok n else .error none

/-- The reply to a key that may not be used so. -/
def keyRefused (q : QCmd) (kid : Nat) (e : Option Nat) (s : State) : State :=
  match e with
  | some st => fail q st s
  | none => denyCmd q kid s

def fabSetRoleEff (q : QCmd) (s : State) : State :=
  let w := q.w 0
  let kid := fld w 0 16
  if !roleForm w (q.w 1) then fail q stBadParam s
  else
    match fld w 60 4 with
    | 0 =>
      if kid = 0xFFFF then ok q (setIdentity w none s)
      else
        (match namedKey s kid .cak with
         | .ok n => if unwInSvc s = 0 then fail q stNoResource s else ok q (setIdentity w (some (keyAt s n)) s)
         | .error e => keyRefused q kid e s)
    | 1 =>
      if (q.w 1).toNat < now s then fail q stBadParam s
      else if !s.fab.master then fail q stWrongState s
      else ok q { s with time := q.w 1 }
    | 2 =>
      if s.fab.pair.partner.isNone then fail q stWrongState s
      else if s.fab.pair.split then fail q stFabricSplit s
      else ok q (steerYield true s)
    | _ =>
      if s.fab.pair.split then fail q stFabricSplit s
      else
        (match namedKey s kid .pair with
         | .ok _ => ok q { s with fab := { s.fab with bound := smSet 0xFFFF s.fab.bound (fld w 48 6) kid } }
         | .error e => keyRefused q kid e s)

/-! The pair (R191, R310). -/

/-- The status of a journal command that cannot run now (R69, R194, R196); `wr` for one that writes. -/
def jnlGate (s : State) (wr : Bool) : Option Nat :=
  if rootGone s then some stWrongState
  else if !s.jnl.resolved then some stBusy
  else if wr && readOnly s then some stJnlWorn
  else none

/-- The partner that the newest PAIR record names. -/
def pairOnRecord (s : State) : Option Nat :=
  let ps := (validRecs s).filter (fun e => e.2.typ == 7)
  match ps.find? (fun e => ps.all (fun x => decide (x.2.seq ≤ e.2.seq))) with
  | some e => let a := beNat (slice e.2.payload 0 1)
              if a < 64 then some a else none
  | none => none

/-- One PMARK of the former partner: a taken-over SA's becomes the mark of the local SA, every other is dropped (R191). -/
def pmarkLeave (k : Nat) (s : State) : State :=
  let xpn := s.jnl.pmark64.contains k
  let m := smGet 0 s.jnl.pmark k
  let s1 :=
    match (if s.fab.pair.takenOver then localOf s (4096 + k) else none) with
    | some i =>
      jAdd 2 (.cell (if xpn then 2 else 1) i (markVal m)) .nothing (lineChanged i (modTx i (fun a => { a with shared := false }) (setHw i m s)))
    | none => s
  jAdd 2 (.cell 8 k (if xpn then 4 else 3)) .nothing s1

/-- Every PMARK and cap cell of the former partner leaves the journal. -/
def pmarksLeave (s : State) : State :=
  let s1 := (smKeys s.jnl.pmark).foldl (fun t k => pmarkLeave k t) s
  let s2 := (smKeys s1.jnl.caps).foldl (fun t k =>
    jAdd 2 (.cell 8 (k + 0x8000) (if t.jnl.pmark64.contains k then 4 else 3)) .nothing t) s1
  capFix { s2 with jnl := { s2.jnl with pmark := [], pmark64 := [], caps := [] } }

/-- The PAIR record, which the command waits for. -/
def pairRecord (q : QCmd) (addr : Nat) (s : State) : State :=
  let s1 := jAdd 3 (.whole 7 0 (pairPayload addr s.fab.pair.epoch)) (.pair (some q.id)) (waitFor q (.jnl s.jnl.nextWork) s)
  jIssue s1

/-- A pair's settings, kept while the partner stays the same. -/
def pairNamed (a kid : Nat) (set : List Nat) (p : Pair) : Pair :=
  if p.partner = some a then { p with kid := kid, set := set }
  else { Pair.reset with partner := some a, kid := kid, set := set, epoch := p.epoch }

def fabPairEff (q : QCmd) (s : State) : State :=
  let w := q.w 0
  let a := fld w 48 6
  let kid := fld w 0 16
  let set := linkSet (q.pkt.words.drop 1)
  if !onlyBits 0x003F00000000FFFF w || s.fab.addr == some a then fail q stBadParam s
  else
    match namedKey s kid .pair with
    | .error (some e) => fail q e s
    | r =>
      if !set.all (fun l => (secyOf s l).isSome) then fail q stNotFound s
      else
        match jnlGate s true with
        | some e => fail q e s
        | none =>
          if s.fab.pair.split then fail q stFabricSplit s
          else
            match r with
            | .error e => keyRefused q kid e s
            | .ok _ =>
              let s1 := if pairOnRecord s = some a then s else pmarksLeave s
              sendPairHello (pairRecord q a (modPair (pairNamed a kid set) s1))

/-- No pair any more: no steering need, grants that only a sync held are given (R185, R310). -/
def pairEnd (s : State) : State :=
  let f := { s.fab with pair := { Pair.reset with epoch := s.fab.pair.epoch }, steer := { s.fab.steer with needTake := false, needYield := false, handover := false } }
  leaseResendAll (lsaOriginate (grantsUnheld { s with fab := f, svc := { s.svc with mirTx := [], mirRx := [] } }))

def fabUnpairEff (q : QCmd) (s : State) : State :=
  match jnlGate s true with
  | some e => fail q e s
  | none =>
    if (pairOnRecord s).isNone then ok q (if s.fab.pair.partner.isSome then pairEnd s else s)
    else pairRecord q 0xFF (pairEnd (pmarksLeave s))

/-! Ports (R298–R300, R348). -/

/-- The port's domain is gating or off. -/
def portGated (s : State) (p : Nat) : Bool := !pdIsOn s (portDomain p) || s.glb.gating.getLsbD (if p < 4 then 0 else 1)

def fabPortCtlEff (q : QCmd) (s : State) : State :=
  let w := q.w 0
  let p := fld w 0 3
  let t := portOf s p
  let width := fld w 8 2
  let rate := bitAt w 10
  let op := fld w 4 4
  if !onlyBits 0x7F7 w || decide (5 < op) || (if op = 1 then width == 3 else decide (fld w 8 3 ≠ 0)) then fail q stBadParam s
  else
    match op with
    | 0 => ok q (portDown p (modPort p (fun x => { x with deferred := none }) s))
    | 1 =>
      if portGated s p then fail q stWrongState s
      else if t.down then fail q stDeferred (setPort p { t with deferred := some (width, rate) } s)
      else if t.st == .off then ok q (portEnable p width rate s)
      else if t.width = width ∧ t.rate = rate then ok q s
      else fail q stWrongState s
    | 2 =>
      if t.st == .idle then ok q s
      else if t.st == .active then waitFor q (.port p) (emit (.idleReq p) (modPort p (pushBlks [idleReqBlk]) s))
      else fail q stWrongState s
    | 3 =>
      if t.st == .active then ok q s
      else if t.st == .idle then idleLeave p (waitFor q (.port p) s)
      else fail q stWrongState s
    | 4 =>
      if t.st == .off || t.down then fail q stWrongState s
      else
        let s1 := setPort p { t.toDetect with test := true, gen := [], backoff := false, held := false, probing := false } s
        ok q (if t.st == .active then leftActive p s1 else s1)
    | _ =>
      if !t.test then fail q stWrongState s
      else ok q (portTry p (emit (.leader p 0) (setPort p { t with test := false, prbs := [] } s)))

/-! Journal commands (R190, R349). -/

def jnlCommitImageEff (q : QCmd) (s : State) : State :=
  match jnlGate s true with
  | some e => fail q e s
  | none =>
    match imageStart s with
    | (some g, t) => waitFor q (.image g) t
    | (none, t) => fail q stNoResource t

def jnlQueryWords (s : State) : List W64 :=
  [regJnlStat s, regJnlWear s, BitVec.ofNat 64 s.jnl.seq,
   match s.jnl.image with
   | some im => putB true 63 ||| put im.words.length 32 16 ||| put im.gen 0 32
   | none => 0]

def jnlQueryEff (q : QCmd) (s : State) : State :=
  match jnlGate s false with
  | some e => fail q e s
  | none => complete q stOk (jnlQueryWords s) s

def jnlEraseEff (q : QCmd) (s : State) : State :=
  match jnlGate s true with
  | some e => fail q e s
  | none =>
    let gen := (match s.jnl.imgWr with | some im => im.gen | none => (match s.jnl.image with | some im => im.gen | none => 0)) + 1
    jIssue (jAdd 5 (.whole 6 0 (imagePayload gen [])) (.erase (some q.id)) (waitFor q (.jnl s.jnl.nextWork) s))

/-! The rows. -/

def execLeaseQuery (p : Pkt) (s : State) : Host.Outcome State Fault Refusal := run s (runRow 0x60 leaseQueryEff p s)
def execLeaseSetGrain (p : Pkt) (s : State) : Host.Outcome State Fault Refusal := run s (runRow 0x61 leaseSetGrainEff p s)
def execFabQuery (p : Pkt) (s : State) : Host.Outcome State Fault Refusal := run s (runRow 0x68 fabQueryEff p s)
def execFabSetRole (p : Pkt) (s : State) : Host.Outcome State Fault Refusal := run s (runRow 0x69 fabSetRoleEff p s)
def execFabPair (p : Pkt) (s : State) : Host.Outcome State Fault Refusal := run s (runRow 0x6A fabPairEff p s)
def execFabUnpair (p : Pkt) (s : State) : Host.Outcome State Fault Refusal := run s (runRow 0x6B fabUnpairEff p s)
def execFabPortCtl (p : Pkt) (s : State) : Host.Outcome State Fault Refusal := run s (runRow 0x6C fabPortCtlEff p s)
def execJnlCommitImage (p : Pkt) (s : State) : Host.Outcome State Fault Refusal := run s (runRow 0x70 jnlCommitImageEff p s)
def execJnlQuery (p : Pkt) (s : State) : Host.Outcome State Fault Refusal := run s (runRow 0x71 jnlQueryEff p s)
def execJnlErase (p : Pkt) (s : State) : Host.Outcome State Fault Refusal := run s (runRow 0x72 jnlEraseEff p s)

end Sys2Proof.Machine
end

