-- ==== Sys2Proof/Machine/CmdMisc.lean ====
section
/-!
DEFINITION. Context store, check, telemetry and diagnostic commands (R281, R282, R351, R384–R392, R401).
-/
namespace Sys2Proof.Machine

/-! Context store. -/

/-- CXM_REKEY_SCRAMBLE (R282). Its end derives a key: without an unwrap engine, or with no next key to move to since the root's row failed,
it replies NO_RESOURCE (R215; the second: log 160, DESIGN CHOICE). -/
def cxmRekeyScrambleEff (q : QCmd) (s : State) : State :=
  if s.cxm.sweepOn then fail q stBusy s
  else if unwInSvc s = 0 || (vslot s mixNextSlot).st != .loaded then fail q stNoResource s
  else waitFor q .sweep { s with cxm := { s.cxm with sweepOn := true, sweepPtr := 0, sweepRead := false } }

/-- CXM_REBUILD of one group: it is quarantined and queued, a failed one too (R280). -/
def rebuildGroup (g : Nat) (s : State) : State :=
  quarGroup g { s with cxm := { s.cxm with failed := s.cxm.failed.filter (· != g) } }

def cxmRebuildEff (q : QCmd) (s : State) : State :=
  let w := q.w 0
  let g := fld w 0 11
  if !onlyBits 0x80000000000007FF w || (!bitAt w 63 && decide (1152 ≤ g)) then fail q stBadParam s
  else if bitAt w 63 then waitFor q (.rebuild none) (if s.cxm.rebuild then s else rebuildAll s)
  else waitFor q (.rebuild (some g)) (rebuildGroup g s)

/-! Check engines. -/

def setChk (k : Nat) (c : Chk) (s : State) : State := { s with chk := smSet .reset s.chk k c }

/-- Bytes of a region that a job may cover (R384). -/
def regionLimit (r : Nat) : Nat :=
  match r with
  | 0 => 0xA34940 | 1 => 0x100000 | 2 => 0x40000 | 3 => 0x90000 | 4 => 0x40000 | _ => 0

/-- The program that CHK_RUN's words give. -/
def chkProg (q : QCmd) : ChkProg :=
  let w := q.w 0
  { region := fld w 4 3, alg64 := bitAt w 8, dailies := bitAt w 9, useRef := bitAt w 10, start := (q.w 1).toNat, len := (q.w 2).toNat,
    period := fld (q.w 3) 0 32, reference := q.w 4, crc8 := BitVec.ofNat 8 (fld (q.w 5) 0 8) }

/-- The checks of R384, R388 and R392. -/
def chkProgOk (p : ChkProg) : Bool :=
  decide (p.region < 5) && p.start % 64 == 0 && p.len % 64 == 0 && decide (64 ≤ p.len) && decide (p.start + p.len ≤ regionLimit p.region)
    && (!p.useRef || (crc8 (beBytes 8 p.reference.toNat) == p.crc8 && (p.alg64 || fld p.reference 32 32 == 0)))
    && (!p.dailies || decide (p.period ≠ 0))

/-- A run of a program starts at its first unit. -/
def chkGo (p : ChkProg) (c : Chk) : Chk := { c with st := .running, pos := p.start, unit := [], buf := [], err := false }

/-- A job starts. -/
def chkStart (p : ChkProg) (c : Chk) : Chk := { chkGo p c with prog := some p, skipped := 0, deferred := none }

/-- An engine is IDLE again: a held CHK_RUN executes (R98, R390). -/
def chkIdle (c : Chk) : Chk :=
  match c.deferred with
  | some p => chkStart p { c with st := .idle, prog := none }
  | none => { c with st := .idle }

def chkRunEff (q : QCmd) (s : State) : State :=
  let w := q.w 0
  let k := fld w 0 2
  let c := chkOf s k
  let stop := bitAt w 15
  let p := chkProg q
  if !onlyBits 0x8773 w || !onlyBits 0xFFFFFFFF (q.w 3) || !onlyBits 0xFF (q.w 5) then fail q stBadParam s
  else if stop && (fld w 4 7 != 0 || (q.pkt.words.drop 1).any (· != 0)) then fail q stBadParam s
  else if !stop && !chkProgOk p then fail q stBadParam s
  else if !pdIsOn s 54 || s.glb.gating.getLsbD 2 then fail q stWrongState s
  else if stop then
    ok q (setChk k (match c.st with
      | .running => { c with st := .stopping }
      | .waiting => { c with st := .idle }
      | .idle | .stopping => c) s)
  else
    match c.st with
    | .idle => ok q (setChk k (chkStart p c) s)
    | .running | .waiting => fail q stWrongState s
    | .stopping => fail q stDeferred (setChk k { c with deferred := some p } s)

/-- CHK_QUERY's words (R351). -/
def chkWords (c : Chk) : List W64 :=
  [put c.st.code 60 4 ||| put c.outcome 56 4 ||| put c.alive 0 16, c.crc, BitVec.ofNat 64 c.scanned]

def chkQueryEff (q : QCmd) (s : State) : State :=
  if !onlyBits 3 (q.w 0) then fail q stBadParam s
  else complete q stOk (if pdIsOn s 54 then chkWords (chkOf s (fld (q.w 0) 0 2)) else [0, 0, 0]) s

/-! Telemetry (R401). -/

def telSlateEff (q : QCmd) (s : State) : State :=
  let t := s.tel
  if !onlyBits 1 (q.w 0) then fail q stBadParam s
  else if bitAt (q.w 0) 0 then complete q stOk [t.slateTime] { s with tel := { t with frozen := false } }
  else if t.frozen || !telOn s || s.glb.gating.getLsbD 3 then fail q stWrongState s
  else
    complete q stOk [s.time] { s with tel := { t with frozen := true, slateTime := s.time, shd := t.cnt, egrShd := t.egr, ingShd := t.ing } }

/-! Diagnostics (R162, R351). -/

/-- Two slots of a lane taken for a test: their blocks are thrown away (R399). -/
def katSlots (d : Dir) (s : State) : State :=
  match d with
  | .egr => { s with tel := { s.tel with backEgr := (s.tel.backEgr.1, s.tel.backEgr.2.1 + 2, s.tel.backEgr.2.2) } }
  | .ing => { s with tel := { s.tel with backIng := (s.tel.backIng.1, s.tel.backIng.2.1 + 2, s.tel.backIng.2.2) } }

def diagLaneKatEff (q : QCmd) (s : State) : State :=
  let w := q.w 0
  let d : Dir := if bitAt w 5 then .ing else .egr
  let i := laneNo d (fld w 0 5)
  if !onlyBits 0x3F w || decide (18 ≤ fld w 0 5) then fail q stBadParam s
  else if (laneOf s i).st == .retired then fail q stWrongState s
  else
    let pass := katClean (Config.laneDefect s.rng)
    let s1 := (if (laneOf s i).st == .inService then katSlots d else id) { s with rng := s.rng + 1 }
    complete q stOk [put (bn pass) 0 1] (if pass then s1 else katFault i s1)

/-- DIAG_VAULT_KAT: one outcome for each unwrap engine in service, KDF and CMAC, and the DRBG. -/
def vaultKat (s : State) : W64 :=
  (List.range 8).foldl (fun w i => w ||| putB (s.vlt.unwOn && !s.vlt.unwOos.contains i && Config.kat (s.rng + i)) i) 0
    ||| putB (Config.kat (s.rng + 8)) 8 ||| putB (drbgOn s && Config.kat (s.rng + 9)) 9

def diagVaultKatEff (q : QCmd) (s : State) : State := complete q stOk [vaultKat s] { s with rng := s.rng + 10 }

/-! The rows. -/

def execCxmRekeyScramble (p : Pkt) (s : State) : Host.Outcome State Fault Refusal := run s (runRow 0x78 cxmRekeyScrambleEff p s)
def execCxmRebuild (p : Pkt) (s : State) : Host.Outcome State Fault Refusal := run s (runRow 0x79 cxmRebuildEff p s)
def execChkRun (p : Pkt) (s : State) : Host.Outcome State Fault Refusal := run s (runRow 0x80 chkRunEff p s)
def execChkQuery (p : Pkt) (s : State) : Host.Outcome State Fault Refusal := run s (runRow 0x81 chkQueryEff p s)
def execTelSlate (p : Pkt) (s : State) : Host.Outcome State Fault Refusal := run s (runRow 0x88 telSlateEff p s)
def execDiagLaneKat (p : Pkt) (s : State) : Host.Outcome State Fault Refusal := run s (runRow 0xF0 diagLaneKatEff p s)
def execDiagVaultKat (p : Pkt) (s : State) : Host.Outcome State Fault Refusal := run s (runRow 0xF1 diagVaultKatEff p s)

end Sys2Proof.Machine
end

