-- ==== Sys2Proof/Machine/CmdBus.lean ====
section
/-!
DEFINITION. How commands reach the dispatcher and leave it (R322–R335, R359): host slots, doorbells, the order of starts,
forwarding, and commands of peers.
-/
namespace Sys2Proof.Machine

/-- What a command does, by its opcode (R336). -/
def effOf (op : Nat) : QCmd → State → State :=
  match op with
  | 0x01 => sysNopEff | 0x02 => sysGetInfoEff | 0x03 => sysSetModeEff | 0x04 => sysReadStateEff | 0x05 => sysSetPolicyEff
  | 0x10 => secyCreateEff | 0x11 => secyModifyEff | 0x12 => secyEnableEff | 0x13 => secyDisableEff | 0x14 => secyDeleteEff
  | 0x15 => secyQueryEff | 0x20 => scAddRxEff | 0x21 => scRemoveRxEff | 0x22 => scQueryEff
  | 0x30 => saInstallEff | 0x31 => saEnableRxEff | 0x32 => saSetTxEff | 0x33 => saRetireEff | 0x34 => saQueryEff
  | 0x35 => saStatsReadEff | 0x40 => keyLoadWrappedEff | 0x41 => keyDeriveEff | 0x42 => keyWrapExportEff
  | 0x43 => keyRetireEff | 0x44 => keyQueryEff | 0x45 => keyGenerateEff
  | 0x50 => cutScheduleEff | 0x51 => cutCancelEff | 0x52 => cutQueryEff
  | 0x58 => mkaEnableEff | 0x59 => mkaDisableEff | 0x5A => mkaSetCakEff | 0x5B => mkaQueryEff | 0x5C => mkaForceRekeyEff
  | 0x60 => leaseQueryEff | 0x61 => leaseSetGrainEff | 0x68 => fabQueryEff | 0x69 => fabSetRoleEff | 0x6A => fabPairEff
  | 0x6B => fabUnpairEff | 0x6C => fabPortCtlEff | 0x70 => jnlCommitImageEff | 0x71 => jnlQueryEff | 0x72 => jnlEraseEff
  | 0x78 => cxmRekeyScrambleEff | 0x79 => cxmRebuildEff | 0x80 => chkRunEff | 0x81 => chkQueryEff | 0x88 => telSlateEff
  | 0xF0 => diagLaneKatEff | 0xF1 => diagVaultKatEff
  | _ => fun _ s => s

/-- Start a command by its opcode. -/
def startOp (q : QCmd) (s : State) : State := startCmd (effOf q.opcode.toNat) q s

/-- A packet reaches the dispatcher. -/
def submit (op : BitVec 8) (p : Pkt) (s : State) : State :=
  let q : QCmd := { id := s.mci.nextId, opcode := op, pkt := p }
  acceptCmd (fun q t => if heldBack t q then enqueue q t else startOp q (quePass 6 1 t)) q
    (telBump 0x1D6 1 none { s with mci := { s.mci with nextId := s.mci.nextId + 1 } })

/-! Host slots (R325, R326, R86). Each access answers with its CSR response. -/

def csrOkay (s : State) : State := emit (.csr 0 0) s
def csrPriv (s : State) : State := emit (.csr 1 0) s
def csrNomap (s : State) : State := emit (.csr 2 0) s
def csrBlocked (s : State) : State := emit (.csr 3 0) s

/-- A CSR access: none is taken before PD01 is on or in a reset; in test mode each is BLOCKED (R34, R49, R421). -/
def csrGate (f : State → State) (s : State) : State :=
  if s.glb.testMode then csrBlocked s else if s.aon.porLow || s.aon.sysLow || !pdIsOn s 1 then s else f s

/-- A write to word `k` of a command slot. -/
def slotWrite (n slot k : Nat) (data : W64) (priv : Bool) (s : State) : State :=
  if !s.mci.ready then csrBlocked s
  else if !priv && privOnly s n then csrPriv s
  else
    let v := hostSlot s n slot
    if v.st != .free then csrBlocked s
    else if 64 < k then csrNomap s
    else csrOkay (setHostSlot n slot { v with cmd := smSet 0 v.cmd k data } s)

/-- The packet in a command slot: header and LEN words, 64 at most. -/
def slotPacket (n slot : Nat) (priv : Bool) (v : HostSlot) : BitVec 8 × Pkt :=
  let h := smGet 0 v.cmd 0
  let len := fld h 40 8
  (BitVec.ofNat 8 (fld h 56 8),
   { req := .hq n, slot := slot, priv := priv, flags := BitVec.ofNat 8 (fld h 48 8), len := len, tag := fld h 24 16,
     rsv := BitVec.ofNat 10 (fld h 6 10), dst := fld h 0 6,
     words := (List.range (Nat.min len 64)).map (fun i => smGet 0 v.cmd (i + 1)) })

/-- A doorbell. -/
def ringBell (n slot : Nat) (priv : Bool) (s : State) : State :=
  if !s.mci.ready then csrBlocked s
  else if !priv && privOnly s n then csrPriv s
  else
    let v := hostSlot s n slot
    if v.st != .free then csrOkay (raise .mci 4 s)
    else
      let op := slotPacket n slot priv v
      submit op.1 op.2 (setHostSlot n slot { v with st := .posted } (csrOkay s))

/-- A release of one slot: its reply is cleared; a slot that is not DONE raises the doorbell error. -/
def releaseSlot (n slot : Nat) (s : State) : State :=
  let v := hostSlot s n slot
  if v.st == .done then setHostSlot n slot { v with st := .free, rep := [] } s else raise .mci 4 s

/-- A write to MCI_HQn_REL. -/
def releaseSlots (n : Nat) (mask : Byte) (priv : Bool) (s : State) : State :=
  if !s.mci.ready then csrBlocked s
  else if !priv && privOnly s n then csrPriv s
  else ((List.range 8).filter (fun k => mask.getLsbD k)).foldl (fun t k => releaseSlot n k t) (csrOkay s)

/-- COMMAND_SLOT_WRITE (R325). -/
def execCommandSlotWrite (q slot k : Nat) (data : W64) (priv : Bool) (s : State) : Host.Outcome State Fault Refusal :=
  run s (csrGate (fun t => if q < 4 ∧ slot < 8 then slotWrite q slot k data priv t else csrNomap t) s)

/-- DOORBELL (R325). -/
def execDoorbell (q slot : Nat) (priv : Bool) (s : State) : Host.Outcome State Fault Refusal :=
  run s (csrGate (fun t => if q < 4 ∧ slot < 8 then ringBell q slot priv t else csrNomap t) s)

/-- REPLY_RELEASE (R325). -/
def execReplyRelease (q : Nat) (mask : Byte) (priv : Bool) (s : State) : Host.Outcome State Fault Refusal :=
  run s (csrGate (fun t => if q < 4 then releaseSlots q mask priv t else csrNomap t) s)

/-- Start the first waiting command whose turn has come. -/
def startNext (s : State) : State :=
  match startable s with
  | some q =>
    startOp q (modQue 6 (fun v => v.take 1) { s with mci := { s.mci with cmdq := s.mci.cmdq.filter (fun c => c.id != q.id) } })
  | none => s

/-- COMMAND_START (R330). -/
def execCommandStart (s : State) : Host.Outcome State Fault Refusal := run s (startNext s)

/-! Forwarding (R333). -/

/-- The running command that waits for a remote reply. -/
def forwarded (s : State) (dst tag : Nat) : Option QCmd :=
  (s.mci.running.find? (fun r => r.wait == .remote dst tag)).map (·.cmd)

/-- FWD_RESEND (R333). -/
def execFwdResend (dst tag : Nat) (s : State) : Host.Outcome State Fault Refusal :=
  run s (match forwarded s dst tag with
    | some q => sendTo dst (.cmd (cmdHeader q.opcode.toNat (bn (pktFence q.pkt)) q.pkt.words.length tag) q.pkt.words) s
    | none => s)

/-- FWD_TIMEOUT (R333). -/
def execFwdTimeout (dst tag : Nat) (s : State) : Host.Outcome State Fault Refusal :=
  run s (match forwarded s dst tag with
    | some q => fail q stTimeout (raise .mci 7 s)
    | none => s)

/-- A REPLY to a forwarded command; a DUPLICATE of one of its own resends shows the original status. -/
def takeReply (src : Nat) (header : W64) (words : List W64) (s : State) : State :=
  match forwarded s src (fld header 24 16) with
  | some q =>
    let st := if fld header 48 8 = stDuplicate then fld header 8 8 else fld header 48 8
    completeWith q st words (fld header 0 8) s
  | none => s

/-- REPLY (R333). -/
def execReply (hdr : MsgHdr) (header : W64) (words : List W64) (s : State) : Host.Outcome State Fault Refusal :=
  run s (recvFrom hdr (.reply header words) (fun a t => takeReply a header words t) s)

/-! Commands of peers (R319, R334, R359). -/

/-- The packet of a CMD message. -/
def peerPacket (src : Nat) (h : W64) (words : List W64) : Pkt :=
  { req := .fab src, slot := 0, priv := false, flags := BitVec.ofNat 8 (fld h 48 8), len := fld h 40 8, tag := fld h 24 16,
    rsv := BitVec.ofNat 10 (fld h 6 10), dst := fld h 0 6, words := words }

/-- Commands of peers that wait. -/
def fabWaiting (s : State) : Nat := (s.mci.cmdq.filter (fun q => match q.pkt.req with | .fab _ => true | _ => false)).length

/-- A peer's command: refused, dropped while FAB's share is full, or accepted; it may wake the engine (R94). -/
def peerCommand (src : Nat) (h : W64) (words : List W64) (s : State) : State :=
  let op := BitVec.ofNat 8 (fld h 56 8)
  let p := peerPacket src h words
  let q : QCmd := { id := s.mci.nextId, opcode := op, pkt := p }
  if !isMember s src || !cfgCmdEn s then deliver q stPrivDenied [] 0 0 s
  else if 16 ≤ fabWaiting s then raise .mci 6 s
  else
    let s1 := submit op p s
    if bitAt s1.aon.wakeCfg 1 then beginWake s1 else s1

/-- CMD (R334). -/
def execCmd (hdr : MsgHdr) (header : W64) (words : List W64) (s : State) : Host.Outcome State Fault Refusal :=
  run s (recvMsg hdr (.cmd header words) (fun t => match hdr.src with
    | some a => peerCommand a header words t
    | none => t) s)

end Sys2Proof.Machine
end

