-- ==== Sys2Proof/Machine/BootOps.lean ====
section
/-!
DEFINITION. LOCKOUT (R89, R224, R361), the journal's start-up read and resolution (R196), the boot generator's second stage
(R223), resume (R88, R196, R197, R237, R238, R350).
-/
namespace Sys2Proof.Machine

/-! ### LOCKOUT -/

/-- Start-up runs: from reset release to command-ready. -/
def startingUp (s : State) : Bool := s.glb.booting

/-- A frame that has started completes with err = 1 and its own fd; the others are gone (R42, R89, R361). -/
def killFrame (d : Dir) (f : Frame) (s : State) : State := if f.started then cutFrame d f f.bytes.length s else s

/-- Every frame of a direction is discarded and counted; its buffer and its sump are flushed and count them; the blocks that wait and
those in the lanes are gone. A frame that was still arriving is closed: what arrives of it later stands outside any frame and counts as
protocol errors (R38, R44, R89; log 145, DESIGN CHOICE: the spec does not say how the port goes on). -/
def flushPath (d : Dir) (s : State) : State :=
  let p := pathOf s d
  let held := match d with | .egr => 0x05 | .ing => 0x25
  let waiting := (p.frames.filter inSump).length
  let s1 := p.frames.foldl (fun t f => if isDead f then t else bump held (some f.link) (killFrame d f t))
    (setPath d { p with isOpen := false, blkq := [], pipe := [] }
      { s with lne := { s.lne with redo := s.lne.redo.filter (fun r => r.dir != d) } })
  let s2 := setPath d { pathOf s1 d with frames := [] } s1
  let flush := fun (q n : Nat) (t : State) => modQue q (fun v => { v with rd := v.wr, cmt := v.wr, dropped := satAdd 32 v.dropped n }) t
  match d with
  | .egr => flush 2 waiting (flush 1 (p.frames.length - waiting) s2)
  | .ing => flush 3 waiting (flush 0 (p.frames.length - waiting) s2)

/-- What every zeroization clears beside the slots: the DRBG, the two generators' keys, the capture register (R223, R224). -/
def zeroGens (s : State) : State :=
  { s with aon := { s.aon with rootWords := [], rootReq := false },
           vlt := { s.vlt with drbg := false, remaskKey := 0, remaskIdx := 0, remaskRead := none, sweeping := false, bootKey := none,
                               bootStage := 0, bootV := 0, bootIdx := 0, ent := .idle } }

/-- A full zeroization: every slot, the held root, the generators; the rows read back zero (R224). -/
def zeroizeAll (s : State) : State :=
  let s1 := zeroGens (zeroSlots (fun _ => true) s)
  { s1 with vlt := { s1.vlt with rootOk := false, zeroOk := true } }

/-- No fabric: every port OFF, nothing known of other engines (R89). -/
def leaveFabric (s : State) : State :=
  let s1 := (List.range 8).foldl (fun t p =>
    let x := portOf t p
    setPort p { Port.reset with rdy := x.rdy, sig := x.sig, cdr := x.cdr, prbsCtl := x.prbsCtl, symErr := x.symErr, retrains := x.retrains } t) s
  modSteer (fun t => { t with needTake := false, needYield := false, handover := false })
    { s1 with fab := { s1.fab with addr := none, claiming := false, peers := [], lsdb := [], master := true, masterAddr := none,
                                   offers := [], ickKid := none, pair := { s1.fab.pair with formed := false, live := false } } }

/-- What LOCKOUT makes of the context store, the leases and the check engines (R99, R393). -/
def lockoutStores (s : State) : State :=
  let s1 := (smKeys s.tx).foldl (fun t i => leaseAbandon i t) s
  { s1 with
    cis := { s1.cis with lines := [] }
    cxm := { s1.cxm with trusted := false, fills := [], leaves := [], kept := [], quar := [], queue := [], failed := [],
                         job := none, rebuild := false, sweepOn := false, sweepRead := false, wbq := [], changed := [],
                         nodesOut := false, reads := s1.cxm.reads.map (fun x => { x with held := true }),
                         writes := (s1.cxm.writes.filter (fun w => decide (w.tag < 32))).map (fun w =>
                           { w with data := [], line := none, held := true }) }
    chk := s1.chk.map (fun e => (e.1, { e.2 with st := .idle, prog := none, deferred := none, paused := false }))
    jnl := { s1.jnl with work := [], asks := [], pend := [], afterImg := [], cutImg := [], imgNext := false,
                         wr := s1.jnl.wr.map (fun w => { w with works := [] }) }
    secys := s1.secys.map (fun e => (e.1, e.2.map Secy.noCut))
    svc := { s1.svc with cas := [], mirTx := [], mirRx := [], pool := [], scOut := [] } }

/-- Enter LOCKOUT (R79, R83, R89): commands in progress end, keys go, traffic and fabric stop. The sampling of the root secret is over
with it, so AON is up (R75). Outside start-up RESUME and BOOT_STAGE keep what they show, also where the LOCKOUT ends a resume that
SYS_SET_MODE or start-up had begun after command-ready: RESUME 1 and BOOT_STAGE 0x05 (log 148, DESIGN CHOICE: R80 and R89 give 0x0F
only for start-up). -/
def lockout (cause : Nat) (tamper : Bool) (s : State) : State :=
  if s.glb.mode == .lockout then s
  else
    let s1 := abortAll (if tamper then stTampered else stAborted) (fun _ => true) s
    let s2 := lockoutStores (leaveFabric (flushPath .ing (flushPath .egr (zeroizeAll s1))))
    let boot := startingUp s
    setMode .lockout cause { s2 with aon := { s2.aon with up := true }, glb := { s2.glb with
      tampered := tamper, change := none,
      bootStage := if boot then 0x0F else s2.glb.bootStage,
      ramping := if boot then [1, 44, 45].filter (fun n => !s2.glb.pdOn.getLsbD n)
                 else s2.glb.ramping.filter (fun n => decide (52 ≤ n)) } }

/-- Reset has been released and the engine is not held in one. -/
def released (s : State) : Bool := (s.glb.booting || s.glb.bootStage != 0) && !s.aon.porLow && !s.aon.sysLow

/-- A latched tamper sends the engine to LOCKOUT at once (R89). -/
def tamperCheck (s : State) : State := if s.aon.tmpLatched != 0 && released s then lockout 6 true s else s

/-! ### Reading the journal (R60, R62, R196) -/

/-- Issue start-up reads while tags last, `fuel` at most. -/
def jReadPump : Nat → State → State
  | 0, s => s
  | n + 1, s =>
    let used := s.jnl.reads.map (·.tag)
    if s.jnl.resolved || decide (4096 ≤ s.jnl.nextRead) || decide (fld s.jnl.portCfg 0 4 ≤ used.length) then s
    else
      match firstFrom (fun t => !used.contains t) 0 8 with
      | some t =>
        jReadPump n (emit (.jnlRead s.jnl.nextRead t) { s with jnl := { s.jnl with
          reads := s.jnl.reads ++ [{ tag := t, slot := s.jnl.nextRead, bytes := [], err := false, chk := none }], nextRead := s.jnl.nextRead + 1 } })
      | none => s

/-- Every byte is the same: 0x00 or 0xFF. -/
def isBlank (bs : List Byte) : Bool := bs.all (· == 0) || bs.all (· == 0xFF)

/-- A read ends: what its slot holds is known; an invalid slot that is not blank raises its event. -/
def jReadEnd (r : JRead) (good : Bool) (s : State) : State :=
  let v := if good then readRec (keyAt s jnlKeySlot) r.slot r.bytes else none
  let blank := good && isBlank r.bytes
  let s1 := setJslot r.slot { JSlot.reset with wcnt := v.map (·.wcnt), record := v, blank := blank }
    { s with jnl := { s.jnl with reads := s.jnl.reads.filter (fun x => x.tag != r.tag), readDone := s.jnl.readDone + 1 } }
  jReadPump 8 (if v.isNone && !blank then raise .jnl 7 s1 else s1)

/-! ### Resolution (R196) -/

/-- Highest WCNT among valid records. -/
def topWcnt (s : State) : Nat := s.jnl.slots.foldl (fun m e => match e.2.record with | some r => Nat.max m r.wcnt | none => m) 0

/-- Counts of every slot; those at ENDURANCE are retired. -/
def resolveSlots (s : State) : State :=
  let top := topWcnt s
  let f := fun (n : Nat) => let v := jslot s n
                            let w := v.wcnt.getD (top + 1)
                            { v with wcnt := some w, retired := decide (endurance s ≤ w) }
  { s with jnl := { s.jnl with slots := (List.range 4096).map (fun n => (n, f n)) } }

/-- BULK records, each once. -/
def bulks (s : State) : List JRec :=
  ((validRecs s).filter (fun e => e.2.typ == 2 && newestCopy s e.2 == e.2.seq)).map (·.2)

/-- The partner that the newest PAIR record older than `q` names. -/
def pairBefore (s : State) (q : Nat) : Option Nat :=
  let ps := (validRecs s).filter (fun e => e.2.typ == 7 && decide (e.2.seq < q))
  (ps.find? (fun e => ps.all (fun x => decide (x.2.seq ≤ e.2.seq)))).map (fun e => beNat (slice e.2.payload 0 1))

/-- A BULK acts on a mark cell. -/
def bulkActs (s : State) (b : JRec) (c : JCopy) : Bool :=
  decide (c.seq < b.seq) &&
  (if beNat (slice b.payload 0 1) = 1 then
    (c.kind == 3 || c.kind == 4) && decide (c.index < 0x8000) && pairBefore s b.seq == some (beNat (slice b.payload 1 1))
   else c.kind == 1 || c.kind == 2)

/-- End of a mark's PN space, by its kind; its raise by a BULK. -/
def kindEnd (k : Nat) : Nat := if k = 2 ∨ k = 4 then 2 ^ 64 else 2 ^ 32
def bulkD (b : JRec) (k : Nat) : Nat := if k = 2 ∨ k = 4 then beNat (slice b.payload 16 8) else beNat (slice b.payload 8 8)

/-- The mark that a cell resolves to. -/
def resolveMark (s : State) (c : JCopy) : Nat :=
  (bulks s).foldl (fun m b => if bulkActs s b c then Nat.min (m + bulkD b c.kind) (kindEnd c.kind) else m) (valMark c.kind c.value)

/-- The cap of a taken-over SA without a cap cell: from the PMARK that a takeover BULK acted on (R316). -/
def resolveCap (s : State) (c : JCopy) : Nat :=
  if (bulks s).any (fun b => bulkActs s b c) then
    let p0 := valMark c.kind c.value
    p0 + (kindEnd c.kind - p0) / 2
  else 0

/-- Epoch of the newest PAIR or partner BULK; that record is a takeover's. -/
def epochRec (s : State) : Option JRec :=
  ((validRecs s).find? (fun e => (e.2.typ == 7 || (e.2.typ == 2 && beNat (slice e.2.payload 0 1) == 1)) && e.2.seq == newestPair s)).map (·.2)

/-- The newest of some records. -/
def newestOf (rs : List (Nat × JRec)) : Option JRec := (rs.find? (fun e => rs.all (fun x => decide (x.2.seq ≤ e.2.seq)))).map (·.2)

def newestHdr (s : State) : Option JRec := newestOf ((validRecs s).filter (fun e => e.2.typ == 6))

/-- The committed image: the words of its pieces, as they stand. -/
def resolveImage (s : State) (cs : List JCopy) : Option Image :=
  match newestHdr s with
  | some h =>
    let gen := beNat (slice h.payload 0 4)
    let n := beNat (slice h.payload 4 2)
    if n = 0 then none
    else some { gen := gen, built := h.seq, words := (List.range n).map (fun i =>
      ((cs.find? (fun c => c.kind == 6 + gen % 2 && c.index == i)).map (·.value)).getD 0) }
  | none => none

/-- Every object takes its latest value. -/
def resolveTables (s : State) : State :=
  let cs := (latestCopies s).filter (fun c => c.kind != 8)
  let pick := fun (p : JCopy → Bool) (f : JCopy → Nat) (i : JCopy → Nat) =>
    (cs.filter p).foldl (fun m c => smSet 0 m (i c) (f c)) ([] : SMap Nat)
  let isP := fun (c : JCopy) => (c.kind == 3 || c.kind == 4) && decide (c.index < 0x8000)
  let isCap := fun (c : JCopy) => (c.kind == 3 || c.kind == 4) && decide (0x8000 ≤ c.index)
  let capCells := pick isCap (fun c => valMark c.kind c.value) (fun c => c.index - 0x8000)
  let caps := (cs.filter isP).foldl (fun m c => if smGet 0 m c.index = 0 then smSet 0 m c.index (resolveCap s c) else m) capCells
  { s with jnl := { s.jnl with
      hw := pick (fun c => c.kind == 1 || c.kind == 2) (resolveMark s) (·.index)
      pmark := pick isP (resolveMark s) (·.index)
      pmark64 := setUnion ((cs.filter (fun c => c.kind == 4)).map (fun c => c.index % 0x8000)) []
      caps := caps
      floors := pick (fun c => c.kind == 5) (fun c => valMark 2 c.value) (·.index)
      image := resolveImage s cs } }

/-- Every valid record, those of retired slots among them. -/
def allRecs (s : State) : List (Nat × JRec) := s.jnl.slots.filterMap (fun e => e.2.record.map (fun r => (e.1, r)))

/-- SEQ and pointer after the highest SEQ; a RETIRE counts, since no SEQ is ever used again (R188). -/
def resolvePtr (s : State) : State :=
  match (allRecs s).find? (fun e => (allRecs s).all (fun x => decide (x.2.seq ≤ e.2.seq))) with
  | some e => { s with jnl := { s.jnl with seq := e.2.seq + 1, ptr := nextLive s ((e.1 + 1) % 4096) } }
  | none => { s with jnl := { s.jnl with seq := 1, ptr := nextLive s 0 } }

/-- Begin the resume that start-up runs, or say why none runs (R80, R88, R90). Outside COLD there is none: the engine has left COLD by
SYS_SET_MODE before the journal was resolved; RESUME then keeps its value and start-up is complete (log 147). -/
def startupResume (s : State) : State :=
  if s.glb.mode != .cold then setStage 6 s
  else if s.jnl.image.isNone then setStage 6 (setResume 0 s)
  else if s.aon.lastMode == 5 then setStage 6 (setResume 4 s)
  else beginResume none s

/-- ENTRY with carried cells only: the boot generator's stage 2 rests on its SEQ (R223). -/
def bootEntryWork (s : State) : State :=
  let cs := ((carryOrder s (writeSlot s)).take 4).map (JCopy.carried s)
  jIssue (jAdd 1 (.whole 1 (entryObj cs) (entryPayload cs)) .bootEntry s)

/-- A random source for what follows the resolution: the DRBG, stage 2, or none yet (R223). -/
def afterResolution (s : State) : State :=
  if drbgOn s then startupResume (drawHashKeys s)
  else if readOnly s then (if s.glb.mode == .cold then setResume 6 s else setStage 6 s)
  else bootEntryWork s

/-- The journal is resolved (R196). -/
def resolveJournal (s : State) : State :=
  let s1 := resolvePtr (resolveTables (resolveSlots s))
  let e := match epochRec s1 with | some r => beNat (slice r.payload 2 2) | none => 0
  capFix (jnlWear (modPair (fun p => { p with epoch := e }) { s1 with jnl := { s1.jnl with resolved := true, reads := [] } }))

/-! ### Resume (R88) -/

/-- The image's pieces give the digest that its IMAGE_HDR holds. -/
def imageSound (s : State) : Bool :=
  match newestHdr s, s.jnl.image with
  | some h, some im => h.payload == slice (imagePayload im.gen im.words) 0 40
  | _, _ => false

/-- Bytes without the zeros at their end. -/
def trimZeros (bs : List Byte) : List Byte := (bs.reverse.dropWhile (· == 0)).reverse

/-- Slots already given to a key number of the image, by direction. -/
abbrev KeyMap := List ((Nat × Bool) × Nat)

/-- The KID for a key number and a direction: a transmit key is unwrapped and LOADED, a receive key is PARKED (R201, R214). -/
def imageKey (es : List ImgEntry) (num : Nat) (rx k256 : Bool) (km : KeyMap) (s : State) : Option (Nat × List Byte × KeyMap × State) :=
  match entryAt es 6 num with
  | none => none
  | some e =>
    let blob := (wordsBytes e.words).take 40
    match km.find? (fun x => x.1 == (num, rx)) with
    | some x => some (x.2, blob, km, s)
    | none =>
      match openDevice s k256 blob, freeSlot 0 8192 s with
      | some key, (some n, s1) =>
        let attr : Attr := if rx then .decOnly else .encOnly
        let s2 :=
          if rx then setVslot n { vslot s1 n with st := .parked, attr := attr, k256 := k256, role := .traffic, origin := 6 } s1
          else writeKey n attr k256 false .traffic 6 key s1
        some (kidOf s2 n, blob, ((num, rx), kidOf s2 n) :: km, s2)
      | _, _ => none

/-- An SA from its image entry. -/
def imageSa (e : ImgEntry) (kid : Nat) (blob : List Byte) (t : Nat) : Sa :=
  let c := wordAt e.words 0
  let a := newSa kid (fld c 42 2) (fld c 40 2) (wordAt e.words 4).toNat (wordAt e.words 5).toNat
    (beBytes 8 (wordAt e.words 2).toNat ++ beBytes 4 (fld (wordAt e.words 3) 32 32)) (BitVec.ofNat 32 (fld (wordAt e.words 3) 0 32)) blob t
  { a with enabled := bitAt c 39, shared := bitAt c 38, home := fld c 32 6, homeSa := fld c 20 12 }

/-- The INTENT rule of R237, by the newest INTENT: the image's key for this index may be used. -/
def intentAllows (s : State) (i : Nat) (blob : List Byte) : Bool :=
  match newestOf ((liveWholes s).filter (fun e => e.2.typ == 3 && e.2.obj.toNat == i)) with
  | some r => r.payload == slice blob 0 40
  | none => true

/-- A TXSA entry (R88, R196, R197): its next PN is its mark; without a mark it is exhausted. -/
def applyTx (es : List ImgEntry) (e : ImgEntry) (km : KeyMap) (s : State) : Option (KeyMap × State) :=
  let i := e.index
  if 4096 ≤ i ∨ (secyOf s (i / 4)).isNone then none
  else if linkMka s (i / 4) && (entryAt es 9 (i / 4)).isSome then some (km, s)
  else
    match imageKey es (wordAt e.words 1).toNat false (suite256 (fld (wordAt e.words 0) 42 2)) km s with
    | none => none
    | some (kid, blob, km1, s1) =>
      if !intentAllows s i blob then some (km, s)
      else
        let a := imageSa e kid blob (now s)
        let m := hwOf s i
        some (km1, setTx i (some { a with pn := m, exhausted := !a.shared && m == 0, intentSeq := newestSeq s 3 (BitVec.ofNat 16 i) }) (addRef kid true s1))

/-- An RXSA entry (R196): FLOOR and NEXT_PN from its FLOOR cell, else from the image. -/
def applyRx (es : List ImgEntry) (e : ImgEntry) (km : KeyMap) (s : State) : Option (KeyMap × State) :=
  let r := e.index
  if (scOf s (r / 4)).isNone then none
  else
    match imageKey es (wordAt e.words 1).toNat true (suite256 (fld (wordAt e.words 0) 42 2)) km s with
    | none => none
    | some (kid, blob, km1, s1) =>
      let a := imageSa e kid blob (now s)
      let f := smGet 0 s.jnl.floors r
      let a1 := if f = 0 then a else { a with pn := f, floor := f }
      some (km1, setRx r (some a1) (addRef kid true s1))

/-- The participant of an MKA entry, from its CUSTODY entry, under a member identifier. -/
def imagePart (es : List ImgEntry) (l : Nat) (ckn : List Byte) (mi : Nat) (s : State) : Option MkPart :=
  match entryAt es 2 (1 + l) with
  | some c => some (newPart (trimZeros ckn) ((wordsBytes c.words).take 40) c.flag mi
      (match secyOf s l with | some y => y.curAn | none => 0))
  | none => none

/-- One entry of the image. -/
def applyEntry (es : List ImgEntry) (e : ImgEntry) (x : KeyMap × State) : Option (KeyMap × State) :=
  let (km, s) := x
  let w := fun i => wordAt e.words i
  match e.kind with
  | 1 =>
    some (km, { s with
      fab := { s.fab with auto := bitAt (w 0) 54, pref := fld (w 0) 48 6, prio := fld (w 0) 40 8 }
      svc := { s.svc with mkaCfg := w 1 }
      jnl := { s.jnl with resend := fld (w 2) 48 16, grainXpn := fld (w 2) 8 6, grainPn := fld (w 2) 0 6 }
      mci := { s.mci with cfg := w 3 } })
  | 2 =>
    let blob := (wordsBytes e.words).take 40
    (match openDevice s e.flag blob with
     | none => none
     | some key =>
       if e.index = 0 then some (km, fabIckPlace (some key) { s with svc := { s.svc with fabKey := some (blob, e.flag) } })
       else some (km, s))
  | 3 =>
    let d : Dir := if e.index = 0 then .egr else .ing
    let rs := (List.range (e.words.length / 2)).map (fun i => (w (2 * i), w (2 * i + 1)))
    if 32 < rs.length then none
    else some (km, setPath d { pathOf s d with rules := rs ++ List.replicate (32 - rs.length) (0, 0) } s)
  | 4 =>
    if 1024 ≤ e.index then none
    else some (km, setSecy e.index (some
      { sci := w 0, txp := w 1, rxp := w 2, st := .off, pendEn := false, curAn := fld (w 3) 60 2, cut := .none, cutAn := 0,
        cutTime := 0, cutSeq := 0, cutShared := false, cutBySvc := false, stats := [], sat := 0, reprimed := false,
        deleting := false }) s)
  | 5 =>
    let l := (w 0).toNat
    if 16384 ≤ e.index ∨ (secyOf s l).isNone then none
    else (placeSc e.index l (w 1) s).map (fun t => (km, { t with sct := { t.sct with scs := smSet none t.sct.scs e.index (some ⟨l, w 1⟩) } }))
  | 6 => some (km, s)
  | 7 => applyTx es e km s
  | 8 => applyRx es e km s
  | 9 =>
    if (secyOf s e.index).isNone then none
    else
      let c := givenCa (w 0) (w 1)
      let (mi, s1) := drawMi s
      some (km, setCa e.index { c with first := imagePart es e.index (wordsBytes ((e.words.drop 2).take 4)) mi s1 } s1)
  | 10 =>
    let taken := match epochRec s with | some r => r.typ == 2 | none => false
    some (km, modPair (fun p => { p with partner := some e.index, set := linkSet e.words, unsettled := true, takenOver := taken,
                                         capped := !s.jnl.caps.isEmpty }) s)
  | _ => some (km, { s with jnl := { s.jnl with grainOver := smSet 0 s.jnl.grainOver e.index (fld (w 0) 40 6) } })

/-- Every entry, in order. -/
def applyEntries (es : List ImgEntry) : List ImgEntry → KeyMap × State → Option (KeyMap × State)
  | [], x => some x
  | e :: rest, x =>
    match applyEntry es e x with
    | some y => applyEntries es rest y
    | none => none

/-- The newest COMMIT for an SA of a link that no CUT_DONE names: its SA index, T and SEQ (R237). -/
def openCommit (s : State) (l : Nat) : Option (Nat × Nat × Nat) :=
  (newestOf ((liveWholes s).filter (fun e => e.2.typ == 4 && e.2.obj.toNat / 4 == l))).map
    (fun r => (r.obj.toNat, beNat (slice r.payload 8 8), r.seq))

/-- Re-arm the cut of a link whose COMMIT has no CUT_DONE. -/
def rearm (l : Nat) (s : State) : State :=
  match openCommit s l with
  | some (i, t, q) =>
    if linkMka s l ∨ (txOf s i).isNone then s
    else
      modSecy l (fun y => { y with cut := if t = 0 then .armed else .timed, cutAn := i % 4, cutTime := t, cutSeq := q })
        { s with ecfg := { s.ecfg with rearmed := s.ecfg.rearmed + 1 } }
  | none => s

/-- SecYs that the image holds ON are enabled; their MKA sessions start anew. -/
def resumeSecy (es : List ImgEntry) (l : Nat) (s : State) : State :=
  match entryAt es 4 l with
  | some e =>
    if fld (wordAt e.words 3) 62 2 = 1 then
      (let s1 := modSecy l (fun y => { y with st := .on }) s
       if (caOf s1 l).enabled then mkaSend l s1 else s1)
    else s
  | none => s

/-- First leases after resume (R187, R196): an SA homed here waits for the BULK; the others ask their home. -/
def resumeLease (i : Nat) (s : State) : State :=
  match txOf s i with
  | some a =>
    if !secyOn s (saLink i) || a.exhausted then s
    else if a.shared || inPairSet s (saLink i) then leaseStart i s
    else setTx i (some { a with lease := .wait }) s
  | none => s

/-- Transmit and SecY lines made resident, clean. -/
def residentAll (s : State) : State :=
  let put := fun (n : Nat) (t : State) => match slotFor t n with | some k => placeLine n k false t | none => t
  let s1 := (smKeys s.tx).foldl (fun t i => put (txLine i) t) s
  (secyLinks s1).foldl (fun t l => put (secyLine l) t) s1

/-- EPOCH of a BULK of scope own: one above that of the newest own BULK, modulo 2^16, so that the BULKs of two resumes are never one record
(log 157, DESIGN CHOICE: R190 gives scope own no EPOCH, and equal records would raise the marks once only, R196). -/
def ownEpoch (s : State) : Nat :=
  let bs := (bulks s).filter (fun b => beNat (slice b.payload 0 2) == 0)
  match bs.find? (fun b => bs.all (fun x => decide (x.seq ≤ b.seq))) with
  | some b => (beNat (slice b.payload 2 2) + 1) % 65536
  | none => 0

/-- The BULK of resume, where SAs are homed here (R196). -/
def resumeBulk (s : State) : State :=
  let d32 := 2 ^ effGrain s s.jnl.grainPn
  let d64 := 2 ^ effGrain s s.jnl.grainXpn
  if readOnly s || !s.tx.any (fun e => match e.2 with | some a => !a.shared | none => false) then s
  else
    jIssue (jAdd 2 (.whole 2 0 (bulkPayload 0 (ownEpoch s) d32 d64)) (.resumeBulk d32 d64) s)

/-- The configuration is back: the region goes to DRAM (R88 step 5). -/
def resumeBuild (s : State) : State :=
  let s1 := buildRegion { s with ecfg := { s.ecfg with rearmed := 0 } }
  { s1 with glb := { s1.glb with change := s1.glb.change.map (fun c => { c with kind := .built }) } }

/-- The region is written: residents, SecYs, cuts, leases, mode (R88 steps 5 to 7). -/
def resumeRun (es : List ImgEntry) (s : State) : State :=
  let s1 := residentAll { s with cxm := { s.cxm with rebuild := false } }
  let s2 := (secyLinks s1).foldl (fun t l => rearm l (resumeSecy es l t)) s1
  let s3 := resumeBulk ((smKeys s2.tx).foldl (fun t i => resumeLease i t) s2)
  let s4 := enterWorking 2 (setStage 6 (setResume 2 { s3 with glb := { s3.glb with change := none } }))
  thrAll (completeWhere (fun w => w == .mode) stOk [] (rekeyFabric s4))

/-- Resume has failed: no configuration (R88). -/
def resumeFail (s : State) : State :=
  let s1 := raise .jnl 0 (setStage 6 (setResume 3 { s with glb := { s.glb with change := none } }))
  completeWhere (fun w => w == .mode) stIntegrityFail [] s1

/-- MKA SecYs without a CA that the image holds SAs of: they are keyed statically (R257). -/
def imgManual (es : List ImgEntry) (s : State) : List Nat :=
  (secyLinks s).filter (fun l => (secyOf s l).any (fun y => txpMka y.txp) && (entryAt es 9 l).isNone
    && es.any (fun e => e.kind == 7 && e.index / 4 == l || e.kind == 8 && fld (wordAt e.words 0) 0 10 == l))

/-- The image is put in place, or the resume fails without any of it (R88); with the DRBG's requests used up it waits (R220). -/
def resumeApply (s : State) : State :=
  let es := imgEntries s
  if drbgFull s then s else
  match (if imageSound s && (match s.jnl.image with | some im => (parseEntries im.words.length im.words).isSome | none => false) then
      applyEntries es es ([], s) else none) with
  | some (_, t) => resumeBuild { t with svc := { t.svc with manual := imgManual es t } }
  | none => resumeFail s

/-- What the resume has reached: the image goes in, then the region's writes are waited for, then traffic starts (R88). -/
def resumeEnd (s : State) : State :=
  match s.glb.change with
  | some ⟨.resume, _⟩ => resumeApply s
  | some ⟨.built, _⟩ => if cxmWriting s then s else resumeRun (imgEntries s) s
  | some ⟨.toCold, _⟩ | some ⟨.toDoze, _⟩ | some ⟨.waking, _⟩ | none => s

end Sys2Proof.Machine
end

