-- ==== Sys2Proof/Machine/Boot.lean ====
section
/-!
DEFINITION. Resets, start-up, tamper, clock, line port and steering rows (R69–R91, R99, R196, R302, R376).
-/
namespace Sys2Proof.Machine

/-! ### Resets (R99) -/

/-- POWER_ON_RESET (R99): every state of the engine is cleared; what the ports carried out before stays on record. -/
def execPowerOnReset (s : State) : Host.Outcome State Fault Refusal :=
  done { State.reset with pending := s.pending, out := s.out, rng := s.rng, aon := { Aon.reset with porLow := true },
                          tst := { s.tst with tdo := false, so := 0, tap := .logicReset, ir := 0x1F, sr := 0 } }

/-- What rst_sys_n leaves in AON: the tamper latch, the wake settings and AON_BOOT, which it updates (R90, R99). -/
def aonSysReset (s : State) : Aon :=
  { s.aon with lastMode := BitVec.ofNat 3 s.glb.mode.code, rstCause := 0b10, bootCnt := Nat.min 0xFFFF (s.aon.bootCnt + 1),
               sysLow := true, rootReq := false, rootWords := [], rootAbsent := false, wakeLatched := false }

/-- The machine under rst_sys_n: AON, its event set and fabric time are kept, the vault is zeroized, the rest is as after a
power-on reset (R99, R371). -/
def sysReset (s : State) : State :=
  { State.reset with
    pending := s.pending, out := s.out, rng := s.rng, time := s.time, frac := s.frac, tst := s.tst, aon := aonSysReset s
    evt := { Evts.reset with aon := s.evt.aon }
    vlt := { Vlt.reset with zeroOk := true }
    fab := { Fab.reset with steer := { Steer.reset with ack := s.fab.steer.ack } } }

/-- SYSTEM_RESET (R99); rst_por_n holds the engine where it is low; test mode ends only with it (R421). -/
def execSystemReset (s : State) : Host.Outcome State Fault Refusal :=
  done (if s.aon.porLow || s.glb.testMode then s else sysReset s)

/-- RESET_RELEASE (R85): start-up begins; a latched tamper ends it at once. -/
def execResetRelease (s : State) : Host.Outcome State Fault Refusal :=
  done (if s.glb.booting || s.glb.bootStage != 0 then s
    else if s.glb.testMode then { s with aon := { s.aon with sysLow := false } }
    else tamperCheck { s with aon := { s.aon with porLow := false, sysLow := false, rootReq := true, rootWords := [] },
                              glb := { s.glb with booting := true } })

/-! ### The root secret (R69, R85, R202) -/

/-- The sampling is over: AON is up and PD01–PD03 switch on. -/
def rootDecided (s : State) : State :=
  setStage 1 { s with aon := { s.aon with rootReq := false, rootWords := [], up := true },
                      glb := { s.glb with ramping := [1, 2, 3] } }

/-- The secret is absent. -/
def rootMissing (s : State) : State :=
  rootDecided (setResume 5 { s with aon := { s.aon with rootAbsent := true } })

/-- The 256 bits that eight words give: word k in bits [32k+31:32k]. -/
def rootValue (ws : List (BitVec 32)) : Nat := ws.foldr (fun w acc => w.toNat + 2 ^ 32 * acc) 0

/-- The secret is held in the vault, masked from stage 1 of the boot generator (R202, R223). -/
def rootTaken (v : Nat) (s : State) : State :=
  let s1 := { s with vlt := { s.vlt with bootKey := some (bootKeyOf (beBytes 32 v) 1 0), bootStage := 1, bootV := 0, bootIdx := 0, rootOk := true } }
  let k := beBytes 32 v
  let held : VSlot :=
    { VSlot.reset with st := .loaded, attr := .deriveOnly, k256 := true, role := .system, origin := 4, shareB := key256 k,
                       par := rowParity 0 (key256 k) 0 }
  let s2 := setVslot rootSlot held s1
  rootDecided (writeKey rootSlot .deriveOnly true false .system 4 k s2)

/-- ROOTKEY_WORD (R69). -/
def execRootkeyWord (data : BitVec 32) (err : Bool) (s : State) : Host.Outcome State Fault Refusal :=
  run s (if !s.aon.rootReq then s
    else if err then rootMissing s
    else
      let ws := s.aon.rootWords ++ [data]
      if ws.length < 8 then { s with aon := { s.aon with rootWords := ws } }
      else
        let v := rootValue ws
        if v = 0 ∨ v = 2 ^ 256 - 1 then rootMissing s else rootTaken v s)

/-- ROOTKEY_DEADLINE (R69). -/
def execRootkeyDeadline (s : State) : Host.Outcome State Fault Refusal :=
  run s (if s.aon.rootReq then rootMissing s else s)

/-! ### Firmware and power domains (R5, R21–R25, R85, R87) -/

/-- Domains switched on after the firmware is verified, in the order of R21, without those gated by request. -/
def startDomains (s : State) : List Nat :=
  [50, 51, 4, 5, 6, 7, 44, 45, 46, 47, 48, 49] ++ (List.range 16).map (8 + ·) ++ (List.range 16).map (26 + ·)
    ++ ((List.range 4).filter (fun i => !s.glb.pdReq.getLsbD i)).map (52 + ·)

/-- Version 1.0.0 of the ROM firmware (R4, R5). -/
def romVersion : BitVec 24 := 0x010000

/-- FIRMWARE_VERIFIED (R5, R85, R87). -/
def execFirmwareVerified (romOk : Bool) (patch : Option (Option (BitVec 24))) (s : State) : Host.Outcome State Fault Refusal :=
  run s (if !(s.glb.booting && s.glb.bootStage == 1) || s.glb.mode == .lockout then s
    else if !romOk then lockout 8 false (raise .aon 9 s)
    else
      let version := match patch with | some (some v) => v | _ => romVersion
      let s1 := { s with
        glb := { s.glb with fw := version, fwOk := true, ramping := s.glb.ramping ++ startDomains s }
        svc := { s.svc with patch := match patch with | none => 0 | some (some _) => 1 | some none => 2 } }
      setStage 2 (match patch with | some none => raise .svc 0 s1 | _ => s1))

/-- The system keys, derived from the root on the unwrap engines, and ENGINE_ID (R202, R302); from a root row that has failed nothing is
derived (R210). -/
def deriveSystem (s : State) : State :=
  if !s.vlt.rootOk || s.vlt.rootPar then s
  else
    let root := keyAt s rootSlot
    let key := fun (n : Nat) (attr : Attr) (big : Bool) (label ctx : List Byte) (t : State) =>
      writeKey n attr big false .system 4 (kdf root label ctx (if big then 32 else 16)) t
    let s1 := key jnlKeySlot .deriveOnly true lblJournal [] s
    let s2 := key tagKeySlot .deriveOnly true lblTag [] s1
    let s3 := key mixKeySlot .deriveOnly false lblMix (beBytes 4 s2.cxm.gen) s2
    let s4 := key mixNextSlot .deriveOnly false lblMix (beBytes 4 (s3.cxm.gen + 1)) s3
    let s5 := key kbSlot .wrapOnly true lblBlob [] s4
    let s6 := key transportSlot .wrapOnly true lblTransport [] s5
    { s6 with fab := { s6.fab with engineId := BitVec.ofNat 64 (beNat (kdf root lblEngineId [] 8)) } }

/-- An entropy collection begins. -/
def collect (p : EntPurpose) (s : State) : State :=
  { s with vlt := { s.vlt with ent := { Ent.idle with purpose := some p } } }

/-- A lane's ramp at start-up or wake is over: one that fails its test is retired and a spare follows (R162, R168). -/
def laneRamped (i : Nat) (pass : Bool) (s : State) : State :=
  if (laneOf s i).ramping.isSome then spareDone i pass s
  else if pass then laneEnter i s else spareForService (laneDir i) (laneRetire i (katFault i s))

/-- Units of a domain start anew once it is on. -/
def domainUp (pd : Nat) (err : BitVec 512) (s : State) : State :=
  let s1 := pdSet pd s
  if pd = 51 then
    (let s2 := deriveSystem { s1 with vlt := { s1.vlt with unwOn := true } }
     if s2.vlt.drbg || s2.vlt.ent.purpose.isSome || s2.glb.mode == .lockout then s2 else collect .startup s2)
  else if 4 ≤ pd ∧ pd ≤ 7 then { s1 with cis := { s1.cis with pairs := s1.cis.pairs ||| BitVec.ofNat 4 (2 ^ (pd - 4)) } }
  else if 8 ≤ pd ∧ pd ≤ 43 then laneRamped (pd - 8) (katClean err) s1
  else if pd = 48 then modQue 0 queOff s1
  else if pd = 49 then modQue 1 queOff s1
  else if pd = 54 then { s1 with chk := [] }
  else if pd = 55 then
    { s1 with tel := { Tel.reset with userEn := s1.tel.userEn, frozen := s1.tel.frozen, cfg := s1.tel.cfg } }
  else s1

/-- A wake fills: every configured transmit SA and SecY line that is not there, groups in quarantine aside (R95). -/
def wakeFills (s : State) : State :=
  (((smKeys s.tx).map txLine ++ (secyLinks s).map secyLine).filter (fun n => !isResident s n && !isQuar s n)).foldl
    (fun t n => startFill n t) s

/-- The last cistern domain of a wake is on: the fills begin (R95). -/
def wakeStage (pd : Nat) (s : State) : State :=
  if s.glb.change.any (fun c => c.kind == .waking) && decide (4 ≤ pd) && decide (pd ≤ 7)
    && !s.glb.ramping.any (fun n => decide (4 ≤ n) && decide (n ≤ 7)) && !s.cxm.oos then wakeFills s
  else s

/-- DOMAIN_RAMP_DONE (R22): one of the first RAMP_MAX domains of the order is on; the last one of start-up is stage 3. -/
def execDomainRampDone (pd : Nat) (err : BitVec 512) (s : State) : Host.Outcome State Fault Refusal :=
  run s (if !(s.glb.ramping.take s.glb.rampMax).contains pd then s
    else
      let s1 := wakeStage pd (domainUp pd err { s with glb := { s.glb with ramping := s.glb.ramping.filter (· != pd) } })
      if s1.glb.booting && s1.glb.bootStage == 2 && s1.glb.ramping.isEmpty then setStage 3 s1 else s1)

/-- COMMAND_READY (R85, R86): COLD with its queues open; the journal is read next. A LOCKOUT entered during start-up opens them
too. -/
def execCommandReady (s : State) : Host.Outcome State Fault Refusal :=
  run s (if !s.glb.booting then s
    else
      let s1 := { s with glb := { s.glb with booting := false }, mci := { s.mci with ready := true } }
      if s.glb.mode == .lockout then s1
      else if s.glb.bootStage != 3 then s
      else if s.aon.rootAbsent then setStage 6 (setResume 5 s1)
      else jReadPump 8 (setStage 4 s1))

/-- JOURNAL_RESOLUTION (R196): every slot has been read. -/
def execJournalResolution (s : State) : Host.Outcome State Fault Refusal :=
  run s (if s.jnl.resolved || s.jnl.readDone != 4096 || s.glb.mode == .lockout then s else afterResolution (resolveJournal s))

/-- RESUME_COMPLETE (R88): the resume goes on as far as it can; with every write of the region confirmed it ends. -/
def execResumeComplete (s : State) : Host.Outcome State Fault Refusal := run s (resumeEnd s)

/-! ### Tamper and clock (R70, R89, R376) -/

/-- TAMPER_INPUT (R70, R89): one ac sample of tmp_in; an input at 1 in two samples running is latched. -/
def execTamperInput (level : BitVec 4) (s : State) : Host.Outcome State Fault Refusal :=
  runAon s (
      let q := level &&& s.aon.tmpPrev
      tamperCheck { s with aon := { s.aon with tmpLive := q, tmpPrev := level, tmpLatched := s.aon.tmpLatched ||| q.setWidth 5 } })

/-- VOLTAGE_GLITCH (R70, R89). -/
def execVoltageGlitch (s : State) : Host.Outcome State Fault Refusal :=
  runAon s (tamperCheck { s with aon := { s.aon with tmpLatched := s.aon.tmpLatched ||| 0x10 } })

/-- CLOCK_FAULT (R376). -/
def execClockFault (bad : Bool) (s : State) : Host.Outcome State Fault Refusal :=
  runAon s { s with aon := { s.aon with clkBad := bad } }

/-- A write to AON_TMP_CLR: bits 8–12 clear their latch bits in LOCKOUT, an input's only while it is low. -/
def tmpClear (data : W64) (s : State) : State :=
  if s.glb.mode == .lockout then
    { s with aon := { s.aon with tmpLatched := s.aon.tmpLatched &&& ~~~(data.extractLsb' 8 5 &&& ~~~s.aon.tmpLive.setWidth 5) } }
  else s

/-- TAMPER_LATCH_CLEAR (R91). -/
def execTamperLatchClear (data : W64) (priv : Bool) (s : State) : Host.Outcome State Fault Refusal :=
  run s (csrGate (fun t => if priv then csrOkay (tmpClear data t) else csrPriv t) s)

/-! ### prt_up (R71, R94) -/

/-- PRT_UP_CHANGE (R71): the ports' state is used from now on; in DOZE a change may wake the engine. -/
def execPrtUpChange (v : W64) (s : State) : Host.Outcome State Fault Refusal :=
  let s1 := { s with glb := { s.glb with prt := v } }
  run s (if v != s.glb.prt && bitAt s.aon.wakeCfg 0 then beginWake s1 else s1)

/-! ### Steering (R72–R74) -/

/-- STEER_ACK_RISE (R73, R74): the request falls; without one the rise breaks the protocol. -/
def execSteerAckRise (s : State) : Host.Outcome State Fault Refusal :=
  let t := s.fab.steer
  run s (if t.req then
      { s with fab := { s.fab with steer := { t with ack := true, req := false, draining := true } } }
    else partnerEvent 9 { s with fab := { s.fab with steer := { t with ack := true } } })

/-- STEER_ACK_FALL (R74): the handshake is complete; a held need is raised. -/
def execSteerAckFall (s : State) : Host.Outcome State Fault Refusal :=
  run s (steerPump { s with fab := { s.fab with steer := { s.fab.steer with ack := false, draining := false } } })

/-- STEER_LATE (R73): the request stays up. -/
def execSteerLate (s : State) : Host.Outcome State Fault Refusal :=
  run s (if s.fab.steer.req && !s.fab.steer.ack then partnerEvent 7 s else s)

/-- STEER_ACK_STUCK (R74). -/
def execSteerAckStuck (s : State) : Host.Outcome State Fault Refusal :=
  run s (if s.fab.steer.ack && s.fab.steer.draining then partnerEvent 9 s else s)

end Sys2Proof.Machine
end

