-- ==== Sys2Proof/Machine/VaultOps.lean ====
section
/-!
DEFINITION. The vault's own work: the unwrap that a fill needs (R214, R215), a row whose parity fails (R210), the health tests
and seeds of the DRBG (R221–R223).
-/
namespace Sys2Proof.Machine

/-! Keys of SA lines. -/

/-- Every SA that names a key takes another KID, and the new key's REFS count them. -/
def rebind (old new : Nat) (s : State) : State :=
  if old = new then s
  else
    let swap := fun (o : Option Sa) => o.map (fun a => if a.kid = old then { a with kid := new } else a)
    let s1 := { s with tx := s.tx.map (fun e => (e.1, swap e.2)), rx := s.rx.map (fun e => (e.1, swap e.2)) }
    let n := ((s1.tx ++ s1.rx).filter (fun e => match e.2 with | some a => a.kid == new | none => false)).length
    match kidSlot s1 new with
    | some k => setVslot k { vslot s1 k with refs := n } s1
    | none => s1

/-- The slot that an SA's key is unwrapped into: the one it names while PARKED, else a free one (R198, R201). -/
def keySlotFor (kid : Nat) (s : State) : Option Nat × State :=
  match kidSlot s kid with
  | some n => (some n, s)
  | none => freeSlot 0 8192 s

/-- The key of an SA line made LOADED, by an unwrap of its device blob where it is not (R214, R215). Answers whether the key is
there. -/
def loadKey (rx : Bool) (i : Nat) (s : State) : Bool × State :=
  match (if rx then rxOf s i else txOf s i) with
  | none => (true, s)
  | some a =>
    match kidSlot s a.kid with
    | some n =>
      if (vslot s n).st = .parked then
        (if unwInSvc s = 0 then (false, s)
         else match openDevice s (suite256 a.suite) a.blob with
          | some k =>
            (true, telBump 0x1D1 1 none
              (writeKey n (if rx then .decOnly else .encOnly) (suite256 a.suite) (vslot s n).exp .traffic (vslot s n).origin k s))
          | none => (false, raiseL .vlt 3 [if rx then rxLink s i else saLink i] s))
      else (true, s)
    | none =>
      if unwInSvc s = 0 then (false, s)
      else
        match openDevice s (suite256 a.suite) a.blob, freeSlot 0 8192 s with
        | some k, (some n, s1) =>
          let s2 := writeKey n (if rx then .decOnly else .encOnly) (suite256 a.suite) false .traffic 6 k (telBump 0x1D1 1 none s1)
          (true, rebind a.kid (kidOf s2 n) s2)
        | some _, (none, s1) => (false, s1)
        | none, (_, _) => (false, raiseL .vlt 3 [if rx then rxLink s i else saLink i] s)

/-- The SAs that name a key: (receive, index). -/
def keyUsers (s : State) (kid : Nat) : List (Bool × Nat) :=
  (s.tx.filterMap (fun e => match e.2 with | some a => if a.kid = kid then some (false, e.1) else none | none => none))
    ++ (s.rx.filterMap (fun e => match e.2 with | some a => if a.kid = kid then some (true, e.1) else none | none => none))

/-- A row whose parity fails (R210): the slot is zeroized; a key whose line is resident, the fabric's pool key and a system key come back at
once, another pool key when it is next needed. The root's own event is FATAL. -/
def rowBad (n : Nat) (s : State) : State :=
  let kid := kidOf s n
  let live := (vslot s n).st != .empty
  let users := keyUsers s kid
  let s0 := if n = rootSlot then raise .vlt 2 s else raiseL .vlt 1 (linksOfKid s kid) s
  let s1 := zeroSlot n (bump 0x59 none s0)
  if !live then s1
  else if isTraffic n then
    (match users.find? (fun u => isResident s1 (if u.1 then rxLine u.2 else txLine u.2)) with
     | some u => (loadKey u.1 u.2 s1).2
     | none => s1)
  else if isPool n then
    (match s1.svc.fabKey with
     | some (b, k256) => if s.fab.ickKid = some kid then fabIckPlace (openDevice s1 k256 b) { s1 with fab := { s1.fab with ickKid := none } } else s1
     | none => s1)
  else if n = rootSlot then { s1 with vlt := { s1.vlt with rootPar := true } }
  else if n < 8200 then (if s1.vlt.rootPar then s1 else deriveSystem s1)
  else s1

/-- A fault is charged to an unwrap engine; the LIMIT-th in WINDOW takes it out of service (R215). -/
def unwrapFault (e : Nat) (s : State) : State :=
  let st := stampAdd (smGet [] s.vlt.unwStamps e) (now s)
  let s1 := raiseL .vlt 4 [unitNo e] { s with vlt := { s.vlt with unwStamps := smSet [] s.vlt.unwStamps e st } }
  if isPermanent s.vlt.retryCfg st then setDeg 2 { s1 with vlt := { s1.vlt with unwOos := setAdd e s1.vlt.unwOos } } else s1

/-! Entropy (R221, R222). -/

def entHmin (s : State) : Nat := fld s.vlt.entCfg 0 8

/-- Samples that give `bits` of min-entropy. -/
def samplesFor (s : State) (bits : Nat) : Nat := (16 * bits + entHmin s - 1) / entHmin s

/-- Samples that a collection needs. -/
def entNeed (s : State) : EntPurpose → Nat
  | .startup | .retest => 1024
  | .instantiate => samplesFor s 384
  | .reseed => samplesFor s 256

/-- The collection has what it needs. -/
def entReady (s : State) (p : EntPurpose) : Bool := s.vlt.ent.purpose == some p && decide (entNeed s p ≤ s.vlt.ent.got)

/-- The two continuous tests take a sample: repetition count, and adaptive proportion over windows of 512. -/
def entStep (b : Byte) (e : Ent) : Ent :=
  let run := if e.last = some b then e.run + 1 else 1
  let fresh := e.winVal.isNone || decide (512 ≤ e.winPos)
  { e with
    got := e.got + 1, last := some b, run := run
    winVal := if fresh then some b else e.winVal
    winHit := if fresh then 1 else e.winHit + bn (e.winVal == some b)
    winPos := if fresh then 1 else e.winPos + 1 }

/-- Either test has reached its cutoff. -/
def entBad (s : State) (e : Ent) : Bool := decide (fld s.vlt.entCfg 32 8 ≤ e.run) || decide (fld s.vlt.entCfg 48 16 ≤ e.winHit)

/-- A failed health test: counted, the collection begins again; with the LIMIT-th in WINDOW the DRBG stops (R222), and stage 2 of the boot
generator takes over, on an ENTRY record written now (R223). -/
def entFail (s : State) : State :=
  let st := stampAdd s.vlt.entStamps (now s)
  let s1 := raise .vlt 6 { s with vlt := { s.vlt with
    entStamps := st, failCnt := satAdd 16 s.vlt.failCnt 1, ent := { Ent.idle with purpose := s.vlt.ent.purpose } } }
  if s.vlt.drbgStop then { s1 with vlt := { s1.vlt with ent := .idle } }
  else if isPermanent s.vlt.retryCfg st then
    let s2 := { s1 with vlt := { s1.vlt with drbgStop := true, ent := .idle } }
    let s3 := if s.vlt.drbg && s.jnl.resolved && !readOnly s && s.glb.mode != .lockout then bootEntryWork s2 else s2
    if s.vlt.drbg || working s then setDeg 7 s3 else s3
  else s1

/-- The DRBG is seeded: it generates; the boot generator's key goes when it first does (R222, R223). -/
def drbgSeeded (s : State) : State :=
  let first := !s.vlt.drbg
  let s1 := { s with vlt := { s.vlt with drbg := true, drbgStop := false, lastSeed := now s, reqSince := 0, ent := .idle,
                                         bootKey := none, bootStage := 0, bootV := 0, bootIdx := 0 } }
  let s2 := if s1.glb.deg.getLsbD 7 then clrDeg 7 s1 else s1
  let s3 :=
    if first then
      (let (k, t) := draw s2
       drawHashKeys { t with vlt := { t.vlt with remaskKey := k, remaskIdx := 0 } })
    else s2
  let s4 := if s3.glb.resume == 6 && s3.jnl.resolved && s3.glb.mode == .cold && s3.glb.change.isNone then startupResume s3 else s3
  (smKeys s4.svc.cas).foldl (fun t l => mkaPump l t) s4

end Sys2Proof.Machine
end

