-- ==== Sys2Proof/Machine/PathOps.lean ====
section
/-!
DEFINITION. What egress and ingress share: segments and frame boundaries (R38–R44), frame buffers and sumps (R14, R358),
bypass rules (R103), cistern lookups with their ECC outcome (R260, R262), the key check of the delivery (R206).
-/
namespace Sys2Proof.Machine

/-! ### Bypass rules and counts -/

/-- A bypass rule matches (R103). -/
def ruleHits (s : State) (link : Nat) (bs : List Byte) (r : W64 × W64) : Bool :=
  let n := fld r.1 48 8
  bitAt r.2 63 && (bitAt r.2 61 || fld r.2 48 10 == link)
    && (beNat (slice bs 0 6)) / 2 ^ (48 - n) == fld r.1 0 48 / 2 ^ (48 - n)
    && etypeAt s bs 2 &&& fld r.2 16 16 == fld r.2 0 16 &&& fld r.2 16 16

/-- ACTION of the first rule that matches: true for DISCARD. -/
def ruleOf (s : State) (d : Dir) (link : Nat) (bs : List Byte) : Option Bool :=
  ((pathOf s d).rules.find? (ruleHits s link bs)).map (fun r => bitAt r.2 62)

/-- Counters of a direction: telemetry type of its counter `k` (R122, R149). -/
def dirCnt (d : Dir) (k : Nat) : Nat := match d with | .egr => k | .ing => 0x20 + k

/-- A SecY statistic of a link, which dirties its line. -/
def secyStat (l i : Nat) (s : State) : State :=
  if (secyOf s l).isSome then dirtyLine (secyLine l) (statY l i 1 s) else s

/-- A frame's fate is discard, counted once (R100, R125). -/
def discardFrame (d : Dir) (f : Frame) (code : Nat) (s : State) : State :=
  setFate d f .discard (bump (dirCnt d code) (some f.link) s)

/-! ### Frame buffers and sumps (R14, R358) -/

/-- Queue of a direction's frame buffer and of its sump. -/
def bufQue (d : Dir) : Nat := match d with | .egr => 1 | .ing => 0
def sumpQue (d : Dir) : Nat := match d with | .egr => 2 | .ing => 3

/-- Frames whose words the buffer still holds. -/
def holders (s : State) (d : Dir) : List Frame := (pathOf s d).frames.filter (fun f => !isDead f)

/-- The buffer's pointers follow the frames: a discarded newest frame gives its words back, RD passes freed words. -/
def syncBuffer (d : Dir) (s : State) : State :=
  let v := queOf s (bufQue d)
  let fs := holders s d
  let wr :=
    match (pathOf s d).frames.getLast? with
    | some f => if isDead f then
        Nat.min v.wr (Nat.max f.firstWord (fs.foldl (fun m x => Nat.max m (x.lastWord + 1)) 0)) else v.wr
    | none => v.wr
  let rd := Nat.max (Nat.min v.rd wr) (fs.foldl (fun m x => Nat.min m x.firstWord) wr)
  setQue (bufQue d) (Que.mark { v with wr := wr, cmt := wr, rd := rd }) s

/-- The sump's count follows the frames that wait in it. -/
def syncSump (d : Dir) (s : State) : State :=
  let n := ((pathOf s d).frames.filter (fun f => inSump f && decide (64 ≤ f.bytes.length || f.ended))).length
  modQue (sumpQue d) (fun v => if queCount v < n then Que.add v (n - queCount v) else Que.take v (queCount v - n)) s

def syncPath (d : Dir) (s : State) : State := syncSump d (syncBuffer d s)

/-! ### Cistern lookups (R260–R262) -/

/-- The link of a line that may be pinned. -/
def pinLinks (n : Nat) : List Nat := if n < 4096 then [saLink n] else if n < 5120 then [n - 4096] else []

/-- A bank pair is retired (R262); the SecYs pinned in it are affected (R378). -/
def retirePair (p : Nat) (s : State) : State :=
  let inPair := s.cis.lines.filterMap (fun e => match e.2 with | some c => if c.slot / 2048 = p then some e.1 else none | none => none)
  let s1 := inPair.foldl (fun t n => dropLine n t) s
  setDeg 3 (raiseL .cis 2 (setUnion (inPair.flatMap pinLinks) []) <| pdClear (4 + p) { s1 with cis := { s1.cis with
    pairs := s1.cis.pairs &&& ~~~BitVec.ofNat 4 (2 ^ p), retired := s1.cis.retired ||| BitVec.ofNat 4 (2 ^ p) } })

/-- The link of the SecY that owns a line (R378). -/
def lineLinks (s : State) (n : Nat) : List Nat := if n < 8192 then pinLinks n else [rxLink s (n - 8192)]

/-- An uncorrectable SRAM error in a line: the line is dropped, a dirty one is lost; a fault of its bank pair (R262). -/
def cisUncorrected (n : Nat) (s : State) : State :=
  match cline s n with
  | some c =>
    let p := c.slot / 2048
    let s1 := bump 0x4C none (setCline n none s)
    let s2 := if c.dirty then quarGroup (groupOfLine n) (raiseL .cis 1 (unitNo p :: lineLinks s n) s1) else raiseL .cis 3 [unitNo p] s1
    let st := stampAdd (smGet [] s2.cis.stamps p) (now s2)
    let s3 := { s2 with cis := { s2.cis with stamps := smSet [] s2.cis.stamps p st } }
    if isPermanent s3.cis.retryCfg st then retirePair p s3 else s3
  | none => s

/-- What a lookup finds. -/
inductive Look | hit | waits | failed
deriving DecidableEq, Repr

/-- A counter of R260's lookups raised, where the lookup counts. -/
def bumpOpt (code : Option Nat) (s : State) : State := match code with | some c => bump c none s | none => s

/-- A lookup of a line (R260, R262, R278): a miss starts a fill, which fails at once for a quarantined group and with the port
out of service. `hit` and `miss` are the counters that it raises: CIS_HIT_CNT and CIS_MISS_CNT for a receive SA, CIS_EGR_MISS_CNT on
egress, none where the sump releases a frame that was counted before. -/
def lookLine (hit miss : Option Nat) (n ecc : Nat) (s : State) : Look × State :=
  let s0 := if isResident s n && ecc == 2 then cisUncorrected n s else s
  if isResident s0 n then
    let s1 := if ecc = 1 then raiseL .cis 0 ((cline s0 n).toList.map (fun c => unitNo (c.slot / 2048))) (bump 0x4C none s0) else s0
    (.hit, touchLine n (bumpOpt hit s1))
  else
    let s1 := bumpOpt miss s0
    if isQuar s1 n || (s1.cxm.oos && !inWb s1 n) then (.failed, s1) else (.waits, startFill n s1)

/-- The key of a frame as the delivery reads it, under the checks of R206; a row with bad parity is dealt with as R210 says. -/
def deliverKey (kid : Nat) (attr : Attr) (parBad : Bool) (link : Nat) (s : State) : Option (List Byte) × State :=
  let deny := fun (t : State) => (none, raiseL .vlt 0 [link] (bump 0x58 none t))
  match kidSlot s kid with
  | some n =>
    if parBad then deny (rowBad n s)
    else if (vslot s n).st = .loaded ∧ (vslot s n).attr = attr then
      (some (keyAt s n), setVslot n { vslot s n with used := now s } s)
    else deny s
  | none => deny s

/-! ### Segments (R38–R44) -/

/-- What a segment does to the port's open frame. -/
inductive SegAct
  /-- Nothing. -/
  | idle
  /-- A protocol error; a new frame opens at byte 0 where the flag says so. -/
  | broken (opens : Bool)
  /-- Bytes of the open frame; whether it ends with them; the bytes of a frame that starts behind them. -/
  | more (bytes : List Byte) (ends : Bool) (next : Option (List Byte))
  /-- A frame starts at byte 0; whether it ends in the segment. -/
  | start (bytes : List Byte) (ends : Bool)
deriving DecidableEq, Repr

/-- A segment read by the table of R38, its errors by R44. -/
def segAct (opened : Bool) (g : Seg) : SegAct :=
  let n := 64 - Nat.min 63 g.empty
  if !g.permitted then (if g.valid then .broken false else .idle)
  else if !g.valid then (if opened then .broken false else .idle)
  else match g.sop, g.eop with
    | false, false => if opened then .more (slice g.data 0 64) false none else .broken false
    | false, true => if opened then .more (slice g.data 0 n) true none else .broken false
    | true, false => if opened then .broken true else .start (slice g.data 0 64) false
    | true, true =>
      if !opened then .start (slice g.data 0 n) true
      else if g.empty = 0 then .broken false
      else .more (slice g.data 0 n) true (some (slice g.data n (64 - n)))

/-- The open frame of a path. -/
def openFrame (s : State) (d : Dir) : Option Frame :=
  if (pathOf s d).isOpen then (pathOf s d).frames.getLast? else none

/-- The input ports may be ready: from command-ready on, except in DOZE (R47) and from the start of DOZE entry (R93). -/
def portsReady (s : State) : Bool :=
  s.mci.ready && !resetLow s && s.glb.mode != .doze && !s.glb.change.any (fun c => c.kind == .toDoze)

/-- Words of the reserve, 16 KiB, that only an open frame which has started to leave may use (R118, R144). -/
def bufReserve (s : State) (d : Dir) : Nat := if (openFrame s d).any (·.started) then 0 else 256

/-- No room for the two beats that may follow once ready has fallen: the frame buffer apart from its reserve, or the sump with an
entry for each start that those beats may carry (R10, R28, R46, log 141). -/
def inputFull (s : State) (d : Dir) : Bool :=
  decide (queSize (bufQue d) - bufReserve s d < queCount (queOf s (bufQue d)) + 8)
    || decide (queSize (sumpQue d) < queCount (queOf s (sumpQue d)) + 9)

/-- Ready of an input port: cli_rx_ready, lin_rx_ready (R10, R47). -/
def inReady (s : State) (d : Dir) : Bool := portsReady s && !inputFull s d

/-- Backpressure permits a segment: in a cycle that the sender knows permitted, while ready stands or in one of the two beats after it
fell; never where the ports take no frames at all (R46, R47). -/
def permits (s : State) (d : Dir) (g : Seg) : Bool :=
  g.permitted && s.mci.ready && !resetLow s && s.glb.mode != .doze && (inReady s d || decide ((pathOf s d).late < 8))

/-- A segment taken with ready at 0 uses up the skid. -/
def useSkid (d : Dir) (s : State) : State :=
  setPath d { pathOf s d with late := if inReady s d then 0 else (pathOf s d).late + 1 } s

/-- A frame starts: it takes its link's next ORDER_TAG (R11). -/
def beginFrame (d : Dir) (g : Seg) (s : State) : State :=
  let p := pathOf s d
  let l := g.link % 1024
  let tag := smGet 0 p.order l
  let w := (queOf s (bufQue d)).wr - 1
  let s1 := setPath d { p with frames := p.frames ++ [newFrame l tag w g.fd], isOpen := true, order := smSet 0 p.order l ((tag + 1) % 4096) } s
  telBump (match d with | .egr => 0x1C1 | .ing => 0x1C3) 1 (some l) s1

/-- Longest input frame (R43). -/
def maxLen (d : Dir) : Nat := match d with | .egr => 16352 | .ing => 16384

/-- Bytes of the open frame arrive; those past the longest frame are not kept. -/
def feedFrame (d : Dir) (bs : List Byte) (s : State) : State :=
  match openFrame s d with
  | some f =>
    let w := (queOf s (bufQue d)).wr - 1
    modFrame d f.link f.orderTag (fun x =>
      let all := if x.fate == .discard && decide (64 ≤ x.bytes.length) then x.bytes else x.bytes ++ bs
      { x with bytes := all.take (maxLen d + 1), lastWord := w })
      (telBump (match d with | .egr => 0x1C5 | .ing => 0x1C6) bs.length (some f.link) s)
  | none => s

/-- The open frame's input ends. -/
def endFrame (d : Dir) (err : Bool) (s : State) : State :=
  match openFrame s d with
  | some f => modFrame d f.link f.orderTag (fun x => { x with ended := true, inErr := err }) (setPath d { pathOf s d with isOpen := false } s)
  | none => s

/-- A valid segment that is taken uses a word of the frame buffer (R358). -/
def takeWord (d : Dir) (s : State) : State := modQue (bufQue d) (fun v => Que.add v 1) s

/-- A segment as the port sees it: whether backpressure permits it, and the state once its beat is taken. -/
def portSeg (d : Dir) (g : Seg) (s : State) : Seg × State :=
  if permits s d g then (g, if g.valid then takeWord d (useSkid d s) else s) else ({ g with permitted := false }, s)

/-- Counters of R44: EGR_DISC_PROTO, ING_DISC_PROTO. -/
def protoError (d : Dir) (l : Option Nat) (s : State) : State :=
  bump (dirCnt d 0) l (raiseL (match d with | .egr => .egr | .ing => .ing) 0 l.toList s)

end Sys2Proof.Machine
end

