-- ==== Sys2Proof/Machine/Egress.lean ====
section
/-!
DEFINITION. Egress: classification (R100–R105), lookup and PN assignment (R106–R108, R174), the line frame (R109–R113),
release (R119, R123), injected frames (R117), and the discards of DOZE entry and SECY_DISABLE (R93, R97).
-/
namespace Sys2Proof.Machine

/-! ### Classification: steps 2 to 13 of R100 -/

/-- What classification decides: discard under a counter, of which SecY statistics count the frame or not; a fate without a key;
or the lookup. -/
inductive Verdict
  | disc (code : Nat) (stat : Option Nat)
  | fate (v : Fate) (stat : Option Nat)
  | look
deriving DecidableEq, Repr

/-- Steps 2 to 13 for a frame. -/
def egrClass (s : State) (f : Frame) : Verdict :=
  if f.ended && f.bytes.length < 64 then .disc 1 none
  else if s.glb.mode == .lockout then .disc 4 none
  else
    match ruleOf s .egr f.link f.bytes with
    | some true => .disc 0xA none
    | some false => .fate .bypass none
    | none =>
      if s.glb.mode == .cold then .disc 4 none
      else
        match secyOf s f.link with
        | none => .disc 6 none
        | some y =>
          if y.st != .on then .disc 7 (some 3)
          else if s.glb.mode == .provision && !txpEarly y.txp then .disc 4 (some 3)
          else if !bitAt s.glb.prt (txpPport y.txp) then .disc 8 (some 3)
          else if txpMka y.txp && etypeAt s f.bytes 2 == 0x888E then .disc 9 (some 3)
          else if f.fdIn.getLsbD 0 then .fate .uncontrolled none
          else if !txpProtect y.txp then .fate .unmodified none
          else if txpPrio y.txp < s.egr.shed then .disc 0xC (some 3)
          else .look

/-- Statistics of a discard. -/
def countStat (l : Nat) (stat : Option Nat) (s : State) : State :=
  match stat with
  | some i => secyStat l i s
  | none => s

/-- A frame of a SecY is discarded at steps 7 to 18. -/
def egrDiscard (f : Frame) (code : Nat) (s : State) : State := discardFrame .egr f code (secyStat f.link 3 s)

/-! ### Steps 14 to 18 -/

/-- A PN lies in the current lease (R107). -/
def leaseValid (a : Sa) : Bool :=
  (a.lease == .one || a.lease == .fetch || a.lease == .two) && decide (a.cur.start ≤ a.pn) && decide (a.pn < a.cur.stop)

/-- The SA's next PN is taken: the end of its space, its lease, its threshold (R107, R174, R178). -/
def takePn (i : Nat) (a : Sa) (s : State) : State :=
  let s1 := setTx i (some { a with pn := a.pn + 1, exhausted := decide (pnEnd a.suite ≤ a.pn + 1) }) s
  thrCheck i (dirtyLine (txLine i) (leaseAdvance i s1))

/-- Suite and confidentiality offset of an SA's frames: the SecY's parameters, or with MKA what the key server negotiated for the SA;
the SecY's are then its offer (R105, R132, R253). -/
def saSuite (y : Secy) (a : Sa) : Nat := if txpMka y.txp then a.suite else txpSuite y.txp
def saOffset (y : Secy) (a : Sa) : Nat := if txpMka y.txp then a.offCode else txpOff y.txp

/-- Steps 17 and 18, and the key's delivery (R106, R107, R206). -/
def assignPn (f : Frame) (i : Nat) (a : Sa) (y : Secy) (parBad : Bool) (s : State) : State :=
  if a.exhausted then egrDiscard f 0xF (raiseL .egr 4 [f.link] s)
  else if !leaseValid a then egrDiscard f 0x10 (raiseL .egr 3 [f.link] s)
  else
    match deliverKey a.kid .encOnly parBad f.link (takePn i a s) with
    | (some k, s1) =>
      modFrame .egr f.link f.orderTag (fun x => { x with
        fate := .crypt, saIdx := i, pn := a.pn, kid := a.kid, key := k, txp := y.txp, sci := y.sci, ssci := a.ssci, salt := a.salt,
        suite := saSuite y a, offCode := saOffset y a }) s1
    | (none, s1) => egrDiscard f 0xE s1

/-- The frame waits in the egress sump for a line. -/
def egrSump (f : Frame) (n : Nat) (s : State) : State :=
  let s1 := modFrame .egr f.link f.orderTag (fun x => { x with fate := .wait (some n) }) s
  if f.fate == .wait (some n) then s1 else telBump 0x1C7 1 (some f.link) s1

/-- Steps 14 to 18 of a frame; a cut that is due is taken first (R96, R232). -/
def egrLookup (f : Frame) (flt : FrameFaults) (count : Bool) (s : State) : State :=
  let s0 := cutIfDue f.link s
  let miss := if count then some 0x4A else none
  match lookLine none miss (secyLine f.link) flt.secyEcc s0 with
  | (.failed, s1) => egrDiscard f 0xE s1
  | (.waits, s1) => egrSump f (secyLine f.link) s1
  | (.hit, s1) =>
    match secyOf s1 f.link with
    | none => discardFrame .egr f 0xD s1
    | some y =>
      let i := 4 * f.link + y.curAn
      match txOf s1 i with
      | none => egrDiscard f 0xD s1
      | some a =>
        if a.retiring then egrDiscard f 0xD s1
        else
          match lookLine none miss (txLine i) flt.cisEcc s1 with
          | (.failed, s2) => egrDiscard f 0xE s2
          | (.waits, s2) => egrSump f (txLine i) s2
          | (.hit, s2) => assignPn f i a y flt.vltPar s2

/-- Classification and what follows it. -/
def egrParse (l o : Nat) (flt : FrameFaults) (s : State) : State :=
  match frameOf s .egr l o with
  | none => s
  | some f =>
    match egrClass s f with
    | .disc code stat => discardFrame .egr f code (countStat l stat s)
    | .fate v _ =>
      let pport := match secyOf s l with | some y => txpPport y.txp | none => 0
      let s1 := modFrame .egr l o (fun x => { x with pport := pport }) (if v == .bypass then bump 0x0B (some l) s else s)
      setFate .egr f v s1
    | .look =>
      let pport := match secyOf s l with | some y => txpPport y.txp | none => 0
      let s1 := modFrame .egr l o (fun x => { x with pport := pport }) s
      let f1 := { f with pport := pport }
      if atLimit s .egr f then telBump 0x1C7 1 (some l) s1 else egrLookup f1 flt true s1

/-! ### Output (R109, R119, R123) -/

/-- A transmit SA's statistic. -/
def txStat (i k n : Nat) (s : State) : State :=
  if n = 0 ∨ (txOf s i).isNone then s else dirtyLine (txLine i) (modTx i (statOf k n) s)

/-- Statistics of a frame released without an error (R123). -/
def egrStats (s : State) (f : Frame) : State :=
  match f.fate with
  | .crypt =>
    let (_, _, clear, p) := protParts s f (f.bytes.take (f.bytes.length - 4))
    txStat f.saIdx 3 p.length (txStat f.saIdx 2 clear.length (txStat f.saIdx (if txpConf f.txp then 1 else 0) 1 s))
  | .unmodified => secyStat f.link 0 s
  | .uncontrolled => secyStat f.link 2 s
  | _ => s

/-- A frame leaves whole on lin_tx_, with err where its input or its lanes were bad; its position is free. -/
def egrSend (f : Frame) (s : State) : State :=
  let err := f.inErr || f.abandoned
  let bytes := if f.fate == .crypt then protectFrame s f else zeroFcs f.bytes
  let s1 := sendFrame .egr f.link (lineFd f) bytes err (dropFrame .egr f.link f.orderTag (queueBlocks .egr f s))
  if f.inErr then bump 3 (some f.link) s1 else if f.abandoned then s1 else egrStats s1 f

/-! ### Ends of frames (R44, R102) -/

/-- A protocol error is counted, also with no frame open (log 70); it closes the open frame: gone if it has not started, cut where it
has. -/
def egrProto (s : State) : State :=
  match openFrame s .egr with
  | none => protoError .egr none s
  | some f =>
    let s1 := protoError .egr (some f.link) (endFrame .egr false s)
    if isDead f then s1
    else if f.started then dropFrame .egr f.link f.orderTag (cutFrame .egr f f.bytes.length s1)
    else setFate .egr f .discard s1

/-- A frame that has become too long. One that passes under a bypass rule is no frame of a SecY for OUT_TOO_LONG, also on a link that
has one (log 142, DESIGN CHOICE). -/
def egrTooLong (f : Frame) (s : State) : State :=
  let y := if f.fate == .bypass || f.parked == some .bypass then s else secyStat f.link 1 s
  let s1 := if f.started then cutFrame .egr f 16352 y else y
  modFrame .egr f.link f.orderTag (fun x => { x with started := false, tooLong := true }) (discardFrame .egr f 1 s1)

/-- The open frame after bytes have arrived: classified once its first 64 bytes are there, or its end; cut when too long. -/
def egrAdvance (parsed : Bool) (flt : FrameFaults) (s : State) : State :=
  match (pathOf s .egr).frames.getLast? with
  | none => s
  | some f =>
    let s1 := if !parsed && (f.ended || decide (64 ≤ f.bytes.length)) then egrParse f.link f.orderTag flt s else s
    match frameOf s1 .egr f.link f.orderTag with
    | none => s1
    | some g =>
      if isDead g then s1
      else if 16352 < g.bytes.length then egrTooLong g s1
      else if !g.ended then s1
      else if g.started then (if s1.egr.txReady then egrSend g s1 else s1)
      else if g.inErr then discardFrame .egr g 2 s1
      else s1

/-- The newest frame has been classified. -/
def isParsed (s : State) (d : Dir) (n : Nat) : Bool :=
  match openFrame s d with
  | some f => decide (n ≤ f.bytes.length)
  | none => false

/-- A frame starts with its first bytes. -/
def egrStart (g : Seg) (bs : List Byte) (ends : Bool) (flt : FrameFaults) (s : State) : State :=
  let s1 := feedFrame .egr bs (beginFrame .egr g s)
  egrAdvance false flt (if ends then endFrame .egr g.err s1 else s1)

/-- One segment of cli_rx_. -/
def egrSeg (flt : FrameFaults) (s : State) (g : Seg) : State :=
  let (g, s0) := portSeg .egr g s
  match segAct s.egr.isOpen g with
  | .idle => s
  | .broken opens =>
    let s1 := egrProto s0
    if opens then egrStart g (slice g.data 0 64) false flt s1 else s1
  | .start bs ends => egrStart g bs ends flt s0
  | .more bs ends next =>
    let parsed := isParsed s0 .egr 64
    let s1 := feedFrame .egr bs s0
    let s2 := egrAdvance parsed flt (if ends then endFrame .egr g.err s1 else s1)
    match next with
    | some more => egrStart g more false flt s2
    | none => s2

/-- A direction's buffers and block queue follow its frames: blocks enter the queue in frame order (R153). -/
def settlePath (d : Dir) (s : State) : State := syncPath d ((pathOf s d).frames.foldl (fun t f => queueBlocks d f t) s)

/-- CLI_RX_FRAME (R100): segments of cli_rx_ in order. -/
def execCliRxFrame (segs : List Seg) (flt : FrameFaults) (s : State) : Host.Outcome State Fault Refusal :=
  run s (settlePath .egr (segs.foldl (egrSeg flt) s))

/-! ### Release (R119, R13) -/

/-- No fault on a lookup that a release or a fill starts. -/
def noFaults : FrameFaults := { secyEcc := 0, cisEcc := 0, vltPar := false }

/-- A frame that waited for a position of its link takes the fate that parse gave it, or goes on to the lookup (R13). -/
def egrPosition (l : Nat) (s : State) : State :=
  match s.egr.frames.find? (fun f => f.link == l && f.fate == .wait none && (f.ended || decide (64 ≤ f.bytes.length))) with
  | some f =>
    if atLimit s .egr f then s
    else
      match f.parked with
      | some v => modFrame .egr l f.orderTag (fun x => { x with fate := v, parked := none }) s
      | none => egrLookup f noFaults true s
  | none => s

/-- The oldest frame of each link, in order of arrival. -/
def oldest (fs : List Frame) : List Frame :=
  (fs.foldl (fun acc f => if acc.any (fun x => x.link == f.link) then acc else acc ++ [f]) [])

/-- A frame of egress is due (R119). -/
def egrDue (f : Frame) : Bool :=
  match f.fate with
  | .wait _ => false
  | .discard => f.ended
  | _ => true

/-- Release of a due frame. -/
def egrRelease (f : Frame) (fdBad : Bool) (s : State) : State :=
  if f.fate == .discard then dropFrame .egr f.link f.orderTag s
  else if !fdClean .egr f fdBad then
    (let s1 := raiseL .egr 1 [f.link] (discardFrame .egr f 0x11 s)
     if f.ended then dropFrame .egr f.link f.orderTag s1 else s1)
  else
    let s1 := telBump 0x1C2 1 (some f.link) s
    if f.ended then egrSend f s1 else modFrame .egr f.link f.orderTag (fun x => { x with started := true }) s1

/-- The oldest due frame leaves, or its empty entry is passed over. -/
def egrNext (fdBad : Bool) (s : State) : State :=
  match (oldest s.egr.frames).find? egrDue with
  | some f => settlePath .egr (egrPosition f.link (egrRelease f fdBad s))
  | none => s

/-- An injected frame is complete in INJQ and may leave: it goes ahead of every frame that has not started (R117). -/
def injectDue (s : State) : Bool :=
  s.glb.mode != .lockout && s.glb.mode != .doze && (queOf s 5).items.any (fun it => !it.splice)

/-- EGRESS_RELEASE (R119): nothing leaves while lin_tx_ready is 0; a frame that has started and ended goes first, and while one is
being sent nothing else leaves (R40); injected frames go before it (R117). -/
def execEgressRelease (fdBad : Bool) (s : State) : Host.Outcome State Fault Refusal :=
  run s (if !s.egr.txReady then s
    else
      match s.egr.frames.find? (·.started) with
      | some f => if f.ended then settlePath .egr (egrPosition f.link (egrSend f s)) else s
      | none => if injectDue s then s else egrNext fdBad s)

/-- INJECTED_FRAME (R117): its FCS field is written as zeros, and it is brought to 64 bytes (R37, R43). -/
def execInjectedFrame (s : State) : Host.Outcome State Fault Refusal :=
  run s (if s.egr.frames.any (·.started) || s.glb.mode == .lockout || s.glb.mode == .doze || !s.egr.txReady then s
    else
      match queTake (queOf s 5) with
      | (some it, v) =>
        telBump 0x1D5 1 none (sendFrame .egr it.link (BitVec.ofNat 16 (64 + it.pport)) (padFrame it.body) false (setQue 5 v s))
      | (none, v) => setQue 5 v s)

/-! ### Frames that are held too long (R93, R97) -/

/-- A held frame is discarded and counted; one that has started ends with err = 1. -/
def discardHeld (d : Dir) (f : Frame) (s : State) : State :=
  if isDead f then (if f.ended then dropFrame d f.link f.orderTag s else s)
  else
    let s1 := killFrame d f (bump (dirCnt d 5) (some f.link) s)
    if f.ended then dropFrame d f.link f.orderTag s1
    else modFrame d f.link f.orderTag (fun x => { x with fate := .discard, parked := none, started := false }) s1

/-- Every frame of a direction that `p` names. -/
def discardHeldAll (d : Dir) (p : Frame → Bool) (s : State) : State :=
  syncPath d (((pathOf s d).frames.filter p).foldl (fun t f => discardHeld d f t) s)

/-- SECY_DRAIN_TIMEOUT (R97). -/
def execSecyDrainTimeout (link : Nat) (s : State) : Host.Outcome State Fault Refusal :=
  run s (match secyOf s link with
    | some y => if y.st == .draining then
        discardHeldAll .ing (fun f => f.link == link) (discardHeldAll .egr (fun f => f.link == link) s) else s
    | none => s)

/-- DOZE_HELD_TIMEOUT (R93). -/
def execDozeHeldTimeout (s : State) : Host.Outcome State Fault Refusal :=
  run s (if s.glb.change.any (fun c => c.kind == .toDoze) then
      discardHeldAll .ing (fun _ => true) (discardHeldAll .egr (fun _ => true) s) else s)

/-! ### Shedding (R121, R148) -/

/-- The cause that lets a direction shed. -/
def shedding (s : State) (d : Dir) : Bool := s.glb.deg.getLsbD (match d with | .egr => 0 | .ing => 1)

/-- SHED_RISE: 1 µs is over in which at least `blocks` blocks waited all the time; S rises where these and those that wait now exceed
SHED_HI (log 176). -/
def execShedRise (dir : Dir) (blocks : Nat) (s : State) : Host.Outcome State Fault Refusal :=
  let p := pathOf s dir
  let up := shedding s dir && decide (fld p.shedCfg 16 16 < Nat.min blocks p.blkq.length) && decide (p.shed < 7)
  run s (setPath dir { p with shed := if up then p.shed + 1 else p.shed } s)

/-- SHED_FALL: 100 µs are over in which never more than `blocks` blocks waited; S falls where these and those that wait now are below
SHED_LO (log 176). -/
def execShedFall (dir : Dir) (blocks : Nat) (s : State) : Host.Outcome State Fault Refusal :=
  let p := pathOf s dir
  let down := shedding s dir && decide (Nat.max blocks p.blkq.length < fld p.shedCfg 0 16) && decide (0 < p.shed)
  run s (setPath dir { p with shed := if down then p.shed - 1 else p.shed } s)

end Sys2Proof.Machine
end

