-- ==== Sys2Proof/Machine/Ingress.lean ====
section
/-!
DEFINITION. Ingress: classification and tag checks (R125–R131), the receive SC and SA (R133, R135), packet numbers and replay
(R137, R138), verification and delivery (R136, R140, R141, R145), the control-frame tap (R147), release (R143).
-/
namespace Sys2Proof.Machine

/-! ### The SCI (R131) -/

/-- The frame's SCI (R131). -/
def sciOf (s : State) (l : Nat) (bs : List Byte) (t : Tag) : Option W64 :=
  if t.bit 5 then some t.sci
  else if t.bit 6 then some (BitVec.ofNat 64 (beNat (slice bs 6 6) * 65536 + 1))
  else
    match scsOfLink s l with
    | [c] => (scOf s c).map (·.sci)
    | _ => none

/-! ### Classification: steps 2 to 16 of R125 -/

/-- The fate of a frame without a SecTAG (R136). -/
def noTagFate (y : Secy) : Verdict :=
  if rxpVal y.rxp = 2 then
    (if rxpNoTag y.rxp then .fate .uncontrolled (some 5) else .disc 0xD (some 5))
  else .fate .unmodified (some 4)

/-- Steps 2 to 14. -/
def ingClass (s : State) (f : Frame) : Verdict :=
  if f.ended && f.bytes.length < 64 then .disc 1 none
  else if s.glb.mode == .lockout then .disc 4 none
  else
    match ruleOf s .ing f.link f.bytes with
    | some true => .disc 0xB none
    | some false => .fate .bypass none
    | none =>
      if s.glb.mode == .cold then .disc 4 none
      else
        match secyOf s f.link with
        | none => .disc 6 none
        | some y =>
          if y.st != .on then .disc 7 none
          else if !bitAt s.glb.prt (f.fdIn.toNat % 64) then .disc 8 none
          else
            match tagOf s f.bytes (txpClear y.txp) (isXpn (txpSuite y.txp)) with
            | none =>
              if txpMka y.txp && etypeAt s f.bytes (txpClear y.txp) == 0x888E then .fate .tapped none
              else if s.glb.mode == .provision && !txpEarly y.txp then .disc 4 none
              else noTagFate y
            | some t =>
              if s.glb.mode == .provision && !txpEarly y.txp then .disc 4 none
              else if !t.good then .disc 0x10 (some 6)
              else if rxpVal y.rxp = 0 then (if t.bit 2 then .disc 0x17 none else .fate .unchecked none)
              else if txpPrio y.txp < s.ing.shed then .disc 0x11 none
              else .look

/-- A frame with a SecTAG that cannot be verified: delivered unchecked under CHECK with C = 0, else discarded (R136). -/
def uncheckedOr (f : Frame) (y : Secy) (t : Tag) (okStat badCode badStat : Nat) (s : State) : State :=
  if rxpVal y.rxp = 1 && !t.bit 2 then
    setFate .ing f .unchecked (modFrame .ing f.link f.orderTag (fun x => { x with stat := some okStat }) s)
  else discardFrame .ing f badCode (secyStat f.link badStat s)

/-! ### Packet numbers (R137) -/

/-- The lowest acceptable PN. -/
def lowPn (a : Sa) (w : Nat) : Nat := Nat.max (if w < a.pn then a.pn - w else 1) a.floor

/-- The full PN of a PN field. -/
def recoverPn (suite low f : Nat) : Nat :=
  if isXpn suite then (low / 2 ^ 32 + (if f < low % 2 ^ 32 then 1 else 0)) * 2 ^ 32 + f else f

/-- A discard at step 19 (R125): ING_DISC_LATE counts it once its input has ended well (R127), the SA at its turn to commit. -/
def lateFrame (f : Frame) (r : Nat) (s : State) : State :=
  setFate .ing f .discard (modFrame .ing f.link f.orderTag (fun x => { x with lateSa := some r })
    (if f.ended then bump 0x35 (some f.link) (raiseL .ing 4 [f.link] s) else s))

/-- Step 19 and the key's delivery. -/
def ingReplay (f : Frame) (r : Nat) (a : Sa) (y : Secy) (t : Tag) (parBad : Bool) (s : State) : State :=
  let pn := recoverPn a.suite (lowPn a (rxpWindow y.rxp)) t.pn
  if pn < lowPn a (rxpWindow y.rxp) ∧ rxpReplay y.rxp = true then lateFrame f r s
  else
    match deliverKey a.kid .decOnly parBad f.link s with
    | (some k, s1) =>
      modFrame .ing f.link f.orderTag (fun x => { x with
        fate := .crypt, saIdx := r, pn := pn, kid := a.kid, key := k, sci := f.sci, ssci := a.ssci, salt := a.salt, suite := a.suite,
        offCode := a.offCode }) s1
    | (none, s1) => discardFrame .ing f 0x14 s1

/-- The frame waits in the ingress sump for a line; of an SA's line it keeps the SA and the SCI that it selected (R126). -/
def ingSump (f : Frame) (n : Nat) (s : State) : State :=
  let s1 := modFrame .ing f.link f.orderTag (fun x => { x with fate := .wait (some n), saIdx := f.saIdx, sci := f.sci }) s
  if f.fate == .wait (some n) then s1 else telBump 0x1C8 1 (some f.link) s1

/-- Steps 17 to 19 for the SA that the frame selected; its key is unwrapped first where it is not LOADED (R273 step 5). The lookup
counts the first time (R260). -/
def ingFetch (f : Frame) (y : Secy) (t : Tag) (flt : FrameFaults) (count : Bool) (s : State) : State :=
  let r := f.saIdx
  match lookLine (if count then some 0x48 else none) (if count then some 0x49 else none) (rxLine r) flt.cisEcc s with
  | (.failed, s1) => discardFrame .ing f 0x14 s1
  | (.waits, s1) => ingSump f (rxLine r) s1
  | (.hit, s1) =>
    match rxOf s1 r with
    | some a => ingReplay f r a y t flt.vltPar s1
    | none => discardFrame .ing f 0x14 s1

/-- Steps 15 to 19 of a frame. -/
def ingLookup (f : Frame) (flt : FrameFaults) (s : State) : State :=
  match lookLine none none (secyLine f.link) flt.secyEcc s with
  | (.failed, s1) => discardFrame .ing f 0x14 s1
  | (.waits, s1) => ingSump f (secyLine f.link) s1
  | (.hit, s1) =>
    match secyOf s1 f.link with
    | none => discardFrame .ing f 0x14 s1
    | some y =>
      match tagOf s1 f.bytes (txpClear f.txp) (isXpn (txpSuite f.txp)) with
      | none => discardFrame .ing f 0x14 s1
      | some t =>
        match sciOf s1 f.link f.bytes t with
        | none => uncheckedOr f y t 7 0x12 8 s1
        | some sci =>
          match findSc s1 f.link sci with
          | none => uncheckedOr f y t 7 0x12 8 s1
          | some c =>
            let r := 4 * c + t.tci % 4
            match rxOf s1 r with
            | some a => if a.enabled then ingFetch { f with saIdx := r, sci := sci } y t flt true s1 else uncheckedOr f y t 9 0x13 10 s1
            | none => uncheckedOr f y t 9 0x13 10 s1

/-- A frame whose line has come goes on: past step 16 with the SA that it selected (R126). -/
def ingAgain (f : Frame) (n : Nat) (s : State) : State :=
  if n < 8192 then ingLookup f noFaults s
  else
    match secyOf s f.link, tagOf s f.bytes (txpClear f.txp) (isXpn (txpSuite f.txp)) with
    | some y, some t => ingFetch f y t noFaults false s
    | _, _ => discardFrame .ing f 0x14 s

/-- Classification and what follows it. -/
def ingParse (l o : Nat) (flt : FrameFaults) (s : State) : State :=
  match frameOf s .ing l o with
  | none => s
  | some f =>
    let (txp, rxp) := match secyOf s l with | some y => (y.txp, y.rxp) | none => (0, 0)
    let g := { f with txp := txp, rxp := rxp, pport := f.fdIn.toNat % 64 }
    let s1 := modFrame .ing l o (fun _ => g) s
    match ingClass s f with
    | .disc code stat => discardFrame .ing f code (countStat l stat s1)
    | .fate v stat => setFate .ing g v (modFrame .ing l o (fun x => { x with stat := stat }) s1)
    | .look =>
      if f.ended && f.inErr then discardFrame .ing g 2 s1
      else if atLimit s .ing f then telBump 0x1C8 1 (some l) s1
      else ingLookup g flt s1

/-! ### Input ends (R127, R147) -/

/-- An MKPDU into CTQ, or dropped with its splice marker (R147, R357). -/
def tapFrame (f : Frame) (s : State) : State :=
  let v := queOf s 4
  let r := if 1536 < f.bytes.length then (queSplice 1 f.pport f.link (now s) { v with dropped := satAdd 32 v.dropped 1 }, false)
    else queOffer 4 f.pport f.link (now s) f.bytes (itemUnits f.bytes) v
  let s1 := setQue 4 r.1 s
  if r.2 then bump 0x29 (some f.link) (telBump 0x1D4 1 none s1) else bump 0x2A (some f.link) (raise .que 5 s1)

/-- A frame delivered without the lanes is whole and good: it is counted (R149, R150). -/
def wholeCount (f : Frame) (s : State) : State :=
  match f.fate with
  | .tapped => tapFrame f s
  | .bypass => bump 0x2C (some f.link) s
  | .uncontrolled => bump 0x2F (some f.link) (countStat f.link f.stat s)
  | .unmodified => bump 0x2E (some f.link) (countStat f.link f.stat s)
  | .unchecked => bump 0x38 (some f.link) (countStat f.link f.stat s)
  | _ => s

/-- The count of a frame that the lanes do not decide, once, at its end; also where it waited before (R125, R136). -/
def ingWhole (f : Frame) (s : State) : State :=
  if f.ended && !f.inErr && !f.tooLong && !f.counted && f.fate != .crypt && f.fate != .verified && !inSump f && !isDead f then
    modFrame .ing f.link f.orderTag (fun x => { x with counted := true }) (wholeCount f s)
  else s

/-- PKTS_LATE of the frames that step 19 discarded, in commit order: those with no frame of their link before them to be committed
(R138, R150). -/
def lateCount (f : Frame) (s : State) : State :=
  match f.lateSa with
  | some r =>
    let before := s.ing.frames.takeWhile (fun x => !(x.link == f.link && x.orderTag == f.orderTag))
    if !f.ended || before.any (fun x => x.link == f.link && (x.fate == .crypt || inSump x)) then s
    else modFrame .ing f.link f.orderTag (fun x => { x with lateSa := none })
      (if (rxOf s r).isSome then dirtyLine (rxLine r) (modRx r (statOf 3 1) s) else s)
  | none => s

/-- What ingress ends every row with: counts, blocks into the queue, buffer and sump. -/
def settleIng (s : State) : State :=
  let s1 := s.ing.frames.foldl (fun t f => ingWhole f t) s
  settlePath .ing (s1.ing.frames.foldl (fun t f => lateCount f t) s1)

/-! ### Output -/

/-- The frame leaves on cli_tx_, with err where it is poisoned or its input was bad; its position is free. -/
def ingSend (f : Frame) (s : State) : State :=
  let c := clientFrame s f
  sendFrame .ing f.link c.1 c.2 (f.inErr || f.poison) (dropFrame .ing f.link f.orderTag (queueBlocks .ing f s))

/-- A frame that has started is decided: it ends on cli_tx_, or waits there for cli_tx_ready. -/
def ingFinish (f : Frame) (s : State) : State :=
  if s.ing.txReady then ingSend f s
  else modFrame .ing f.link f.orderTag (fun x => { x with fate := .verified, poison := f.poison, pn := f.pn }) (queueBlocks .ing f s)

/-- A frame is poisoned (R145). -/
def poisoned (l : Nat) (s : State) : State := bump 0x3A (some l) (raiseL .ing 5 [l] s)

/-! ### Segments -/

/-- A protocol error is counted and closes the open frame (R44). -/
def ingProto (s : State) : State :=
  match openFrame s .ing with
  | none => protoError .ing none s
  | some f =>
    let s1 := protoError .ing (some f.link) (endFrame .ing false s)
    if isDead f then modFrame .ing f.link f.orderTag (fun x => { x with lateSa := none }) s1
    else if f.started then dropFrame .ing f.link f.orderTag (cutFrame .ing f f.bytes.length s1)
    else setFate .ing f .discard s1

/-- A frame that has become too long (R127). -/
def ingTooLong (f : Frame) (s : State) : State :=
  if f.started then
    modFrame .ing f.link f.orderTag (fun x => { x with fate := .discard, poison := true, started := false, tooLong := true })
      (bump 0x23 (some f.link) (poisoned f.link (cutFrame .ing f 16384 s)))
  else discardFrame .ing f 1 s

/-- A frame that step 19 discarded ends: a bad or too long one is counted as such in place of its verdict (R127). -/
def lateEnd (f : Frame) (s : State) : State :=
  if f.lateSa.isNone || !f.ended then s
  else if f.inErr || decide (16384 < f.bytes.length) then
    bump (if f.inErr then 0x22 else 0x21) (some f.link) (modFrame .ing f.link f.orderTag (fun x => { x with lateSa := none }) s)
  else bump 0x35 (some f.link) (raiseL .ing 4 [f.link] s)

/-- Bytes from which the tag checks of R130 are decided for a frame that goes on: with 128 bytes no short length fits. -/
def ingEnough : Nat := 128

/-- The open frame after bytes have arrived. -/
def ingAdvance (parsed : Bool) (flt : FrameFaults) (s : State) : State :=
  match s.ing.frames.getLast? with
  | none => s
  | some f =>
    let fresh := !parsed && (f.ended || decide (ingEnough ≤ f.bytes.length))
    let s1 := if fresh then ingParse f.link f.orderTag flt s else s
    match frameOf s1 .ing f.link f.orderTag with
    | none => s1
    | some g =>
      if isDead g then (if fresh then s1 else lateEnd g s1)
      else if 16384 < g.bytes.length then ingTooLong g s1
      else if !g.ended then s1
      else if g.inErr then
        (if g.started then bump 0x23 (some g.link) (poisoned g.link (ingFinish { g with poison := true } s1)) else discardFrame .ing g 2 s1)
      else s1

def ingStart (g : Seg) (bs : List Byte) (ends : Bool) (flt : FrameFaults) (s : State) : State :=
  let s1 := feedFrame .ing bs (beginFrame .ing g s)
  ingAdvance false flt (if ends then endFrame .ing g.err s1 else s1)

/-- One segment of lin_rx_. -/
def ingSeg (flt : FrameFaults) (s : State) (g : Seg) : State :=
  let (g, s0) := portSeg .ing g s
  match segAct s.ing.isOpen g with
  | .idle => s
  | .broken opens =>
    let s1 := ingProto s0
    if opens then ingStart g (slice g.data 0 64) false flt s1 else s1
  | .start bs ends => ingStart g bs ends flt s0
  | .more bs ends next =>
    let parsed := isParsed s0 .ing ingEnough
    let s1 := feedFrame .ing bs s0
    let s2 := ingAdvance parsed flt (if ends then endFrame .ing g.err s1 else s1)
    match next with
    | some more => ingStart g more false flt s2
    | none => s2

/-- LIN_RX_FRAME (R125): segments of lin_rx_ in order. -/
def execLinRxFrame (segs : List Seg) (flt : FrameFaults) (s : State) : Host.Outcome State Fault Refusal :=
  run s (settleIng (segs.foldl (ingSeg flt) s))

/-! ### Commit (R136, R138, R145) -/

/-- A receive SA's statistic. -/
def rxStat (r k : Nat) (s : State) : State :=
  if (rxOf s r).isSome then dirtyLine (rxLine r) (modRx r (statOf k 1) s) else s

/-- A verdict of discard: the frame is gone, or poisoned where it has started. -/
def ingReject (f : Frame) (code : Nat) (s : State) : State :=
  if f.started then ingFinish { f with poison := true } (poisoned f.link (bump (dirCnt .ing code) (some f.link) s))
  else discardFrame .ing f code s

/-- A frame delivered verified (R125, R138, R149). -/
def ingAccept (f : Frame) (t : Tag) (raisePn : Bool) (s : State) : State :=
  let k := ingClear f t
  let s1 := if raisePn then modRx f.saIdx (fun a => { a with pn := Nat.max a.pn (f.pn + 1) }) s else s
  let s2 := rxStat f.saIdx 0 (bump 0x3C (some f.link) s1)
  let s3 := bumpN 0x3E (t.sd - k) (some f.link) (bumpN 0x3D k (some f.link) s2)
  if f.started then ingFinish f s3
  else modFrame .ing f.link f.orderTag (fun x => { x with fate := .verified, pn := f.pn }) s3

/-- The verdict of a frame whose lane work and input are over, as if frames were verified one at a time: the packet number is recovered
again, and the lanes' result is judged under it (R137, R138). -/
def ingVerdict (g : Frame) (t : Tag) (s : State) : State :=
  match rxOf s g.saIdx with
  | none => ingReject g 0x14 s
  | some sa =>
    let low := lowPn sa (rxpWindow g.rxp)
    let f := { g with pn := recoverPn sa.suite low t.pn }
    if !icvOk f t then
      (if rxpVal f.rxp = 1 && !t.bit 2 && !f.started then
         modFrame .ing f.link f.orderTag (fun x => { x with fate := .unchecked, counted := true, pn := f.pn })
           (bump 0x38 (some f.link) (rxStat f.saIdx 1 s))
       else ingReject f 0x16 (raiseL .ing 3 [f.link] (rxStat f.saIdx 2 s)))
    else if f.pn < low ∧ rxpReplay f.rxp = true then ingReject f 0x15 (raiseL .ing 4 [f.link] (rxStat f.saIdx 3 s))
    else if f.pn < low then ingAccept f t false (bump 0x39 (some f.link) s)
    else ingAccept f t true s

/-- The first frame of a link that is not committed yet. -/
def commitNext (s : State) (l : Nat) : Option Frame :=
  s.ing.frames.find? (fun f => f.link == l && (f.fate == .crypt || inSump f))

/-- INGRESS_COMMIT (R138): in ORDER_TAG order; the SecY's present validation and replay parameters decide, for the commit is the stage
of their checks (R126, log 143). -/
def execIngressCommit (link : Nat) (fdBad : Bool) (s : State) : Host.Outcome State Fault Refusal :=
  run s (match commitNext s link with
    | some f =>
      if f.fate != .crypt || !f.ended then s
      else if !fdClean .ing f fdBad then settleIng (ingReject f 0x1B (raiseL .ing 1 [link] s))
      else
        let g := { f with rxp := match secyOf s link with | some y => y.rxp | none => f.rxp }
        match tagOf s g.bytes (txpClear g.txp) (isXpn (txpSuite g.txp)) with
        | some t => settleIng (ingVerdict g t (queueBlocks .ing g s))
        | none => settleIng (ingReject g 0x14 s)
    | none => s)

/-! ### Release (R143) -/

/-- A frame that waited for a position of its link takes the fate that parse gave it, or goes on to the lookup (R13). -/
def ingPosition (l : Nat) (s : State) : State :=
  match s.ing.frames.find? (fun f => f.link == l && f.fate == .wait none && (f.ended || decide (ingEnough ≤ f.bytes.length))) with
  | some f =>
    if atLimit s .ing f then s
    else
      match f.parked with
      | some v => modFrame .ing l f.orderTag (fun x => { x with fate := v, parked := none }) s
      | none => ingLookup f noFaults s
  | none => s

/-- A frame of ingress is due. CUT_THROUGH is taken at parse with the frame's other receive parameters: it governs the release of the
frames that parse after a change (R126, log 143, DESIGN CHOICE). -/
def ingDue (f : Frame) : Bool :=
  match f.fate with
  | .wait _ => false
  | .crypt => rxpCut f.rxp
  | _ => f.ended

def ingRelease (f : Frame) (fdBad : Bool) (s : State) : State :=
  match f.fate with
  | .discard | .tapped => dropFrame .ing f.link f.orderTag s
  | v =>
    if !fdClean .ing f fdBad then
      (let s1 := raiseL .ing 1 [f.link] (discardFrame .ing f 0x1B s)
       if f.ended then dropFrame .ing f.link f.orderTag s1 else s1)
    else
      let s1 := telBump 0x1C4 1 (some f.link) s
      if v == .crypt then modFrame .ing f.link f.orderTag (fun x => { x with started := true }) s1 else ingSend f s1

/-- INGRESS_RELEASE (R143): nothing leaves while cli_tx_ready is 0; while a frame is being sent nothing else leaves (R40). -/
def execIngressRelease (fdBad : Bool) (s : State) : Host.Outcome State Fault Refusal :=
  run s (if !s.ing.txReady then s
    else
      match s.ing.frames.find? (·.started) with
      | some f => if f.fate == .verified then settleIng (ingPosition f.link (ingSend f s)) else s
      | none =>
        match (oldest s.ing.frames).find? ingDue with
        | some f => settleIng (ingPosition f.link (ingRelease f fdBad s))
        | none => s)

/-! ### The sumps (R14, R15, R120) -/

/-- A frame waits for a line. -/
def waitsFor (n : Nat) (f : Frame) : Bool := f.fate == .wait (some n)

/-- A fill has ended well: the frames that wait for its line go on in arrival order. -/
def sumpRelease (n : Nat) (s : State) : State :=
  let s1 := (s.egr.frames.filter (waitsFor n)).foldl (fun t f => egrLookup f noFaults false t) s
  let s2 := (s1.ing.frames.filter (waitsFor n)).foldl (fun t f => ingAgain f n t) s1
  settleIng (settlePath .egr s2)

/-- A fill has failed: the frames that wait for its line are discarded (R120). -/
def sumpFail (n : Nat) (s : State) : State :=
  let s1 := (s.egr.frames.filter (waitsFor n)).foldl (fun t f => egrDiscard f 0xE t) s
  let s2 := (s1.ing.frames.filter (waitsFor n)).foldl (fun t f => discardFrame .ing f 0x14 t) s1
  syncPath .ing (syncPath .egr s2)

end Sys2Proof.Machine
end

