-- ==== Sys2Proof/Machine/Vault.lean ====
section
/-!
DEFINITION. Rows of the vault: entropy and DRBG (R220–R222), re-masking (R208, R209), unwrap engines (R215).
-/
namespace Sys2Proof.Machine

/-- ENTROPY_SAMPLE (R221, R222): a sample counts while a collection runs; the start-up batch is followed by instantiation. -/
def execEntropySample (byte : Byte) (err : Bool) (s : State) : Host.Outcome State Fault Refusal :=
  run s (if s.vlt.ent.purpose.isNone then s
    else if err then entFail s
    else
      let e := entStep byte s.vlt.ent
      if entBad s e then entFail s
      else
        let s1 := { s with vlt := { s.vlt with ent := e } }
        if entReady s1 .startup then { s1 with vlt := { s1.vlt with ent := { e with purpose := some .instantiate, got := 0 } } } else s1)

/-- DRBG_INSTANTIATE (R221). -/
def execDrbgInstantiate (s : State) : Host.Outcome State Fault Refusal :=
  run s (if entReady s .instantiate then drbgSeeded s else s)

/-- DRBG_RESEED (R220): its collection starts after 65,536 requests or 1 s, and ends with the seed. -/
def execDrbgReseed (s : State) : Host.Outcome State Fault Refusal :=
  run s (if entReady s .reseed then drbgSeeded s
    else if drbgOn s && s.vlt.ent.purpose.isNone && (decide (65536 ≤ s.vlt.reqSince) || decide (s.vlt.lastSeed + 1000000000 ≤ now s)) then
      collect .reseed s
    else s)

/-- ENTROPY_RETEST (R222): while the DRBG has stopped a fresh batch is collected, and a batch that passes seeds it. -/
def execEntropyRetest (s : State) : Host.Outcome State Fault Refusal :=
  run s (if !s.vlt.drbgStop then s
    else if entReady s .retest then drbgSeeded s
    else if s.vlt.ent.purpose.isNone then collect .retest s
    else s)

/-- REMASK_SWEEP_START (R208): a fresh generator key, from row 0; without a source for it the sweep waits (R220, R223). -/
def execRemaskSweepStart (s : State) : Host.Outcome State Fault Refusal :=
  run s (if s.vlt.sweeping || !s.vlt.rootOk || drbgFull s || (!drbgOn s && s.vlt.bootKey.isNone) then s
    else
      let (k, s1) := draw s
      { s1 with vlt := { s1.vlt with sweeping := true, sweepStart := now s1, row := 0, remaskKey := k, remaskIdx := 0, remaskRead := none } })

/-- A row re-masked with a fresh value: key and hash key stay (R208). -/
def remaskRow (n : Nat) (s : State) : State :=
  let (r, s1) := drawMask s
  let v := vslot s1 n
  setVslot n { v with shareA := v.shareA ^^^ r, shareB := v.shareB ^^^ r, mw := v.mw ^^^ fold256 r, par := v.par ^^^ rowParity r r (fold256 r) } s1

/-- The write of the row read last, unless another write of it came between (R209). -/
def remaskWrite (s : State) : State :=
  match s.vlt.remaskRead with
  | some (n, _) => remaskRow n { s with vlt := { s.vlt with remaskRead := none } }
  | none => s

/-- REMASK_ROW_WRITE (R208, R209): the row read in the cycle before is written and the next one read; after the last row's
write the sweep is over. -/
def execRemaskRowWrite (parBad : Bool) (s : State) : Host.Outcome State Fault Refusal :=
  run s (if !s.vlt.sweeping then s
    else
      let s1 := remaskWrite s
      if 8448 ≤ s1.vlt.row then
        { s1 with vlt := { s1.vlt with sweeping := false, row := 0, sweeps := (s1.vlt.sweeps + 1) % 2 ^ 32 } }
      else
        let n := s1.vlt.row
        let s2 := if parBad then rowBad n s1 else s1
        { s2 with vlt := { s2.vlt with remaskRead := some (n, (vslot s2 n).shareA), row := n + 1 } })

/-- REMASK_STALLED (R209). -/
def execRemaskStalled (sameShare : Bool) (s : State) : Host.Outcome State Fault Refusal :=
  run s (if sameShare || s.vlt.sweeping then raise .aon 6 s else s)

/-- UNWRAP_DONE (R215): a parity fault is charged to its engine; the operation is retried on another. -/
def execUnwrapDone (engine : Nat) (parityFault : Bool) (s : State) : Host.Outcome State Fault Refusal :=
  run s (if parityFault && decide (engine < 8) && s.vlt.unwOn && !s.vlt.unwOos.contains engine then unwrapFault engine s else s)

end Sys2Proof.Machine
end

