-- ==== Sys2Proof/Machine/Lanes.lean ====
section
/-!
DEFINITION. The lanes at work: the dispatcher and the stages (R153–R158), rows of the lanes: faults and recomputation (R163–R166,
R168–R171), spares (R167, R168).
-/
namespace Sys2Proof.Machine

/-! ### The dispatcher (R153, R154, R158) -/

/-- The slot map: lanes in service in ascending index; slot q is the q-th. -/
def slotMap (s : State) (d : Dir) : List Nat := (lanesOf d).filter (fun i => (laneOf s i).st == .inService)

/-- H as the vault holds it in a row (R200). -/
def rowHash (v : VSlot) : BitVec 128 := v.mw ^^^ fold256 v.shareA

/-- The vault's delivery for a block: the key that KID names, H to the power of POS, and their parity; nothing where no key is held
(R158). -/
def laneDelivery (s : State) (lane : Nat) (copy : Bool) (b : Block) : LaneBlk :=
  match kidSlot s b.kid with
  | some n =>
    let k := keyAt s n
    let h := hPow (rowHash (vslot s n)) b.pos
    { lane := lane, blk := b, copy := copy, age := 0, bad := false, key := k, hpow := h, par := parities (k ++ beBytes 16 h.toNat) }
  | none => { lane := lane, blk := b, copy := copy, age := 0, bad := false, key := [], hpow := 0, par := [] }

/-- POS of the blocks of one cycle: counted back from the last block of the same frame among them. -/
def withPos : List Block → List Block
  | [] => []
  | b :: bs => { b with pos := 1 + (bs.takeWhile (fun c => c.link == b.link && c.order == b.order)).length } :: withPos bs

/-- The groups of a cycle: how many of its blocks each frame gave. -/
def cycleGroups (bs : List Block) : List ((Nat × Nat) × Nat) :=
  bs.foldl (fun acc b => match acc.getLast? with
    | some g => if g.1 = (b.link, b.order) then acc.dropLast ++ [(g.1, g.2 + 1)] else acc ++ [((b.link, b.order), 1)]
    | none => [((b.link, b.order), 1)]) []

/-- Lanes that no copy of the present cycle takes. -/
def freeSlots (s : State) (d : Dir) : List Nat :=
  (slotMap s d).filter (fun i => !(pathOf s d).pipe.any (fun x => x.lane == i && x.age == 0))

/-- One cycle of a direction: the head of its block queue goes to the slots, and every block moves one stage on. With the output's ready
at 0 nothing is released to the lanes. -/
def laneCycle (d : Dir) (s : State) : State :=
  let p := pathOf s d
  let free := if p.txReady then freeSlots s d else []
  let taken := withPos (p.blkq.take free.length)
  let put := (free.zip taken).map (fun e => laneDelivery s e.1 false e.2)
  let s1 := setPath d { p with
    blkq := p.blkq.drop free.length
    pipe := (put ++ p.pipe).filterMap (fun x => if x.age < 32 then some { x with age := x.age + 1 } else none) } s
  (cycleGroups taken).foldl (fun t g => modFrame d g.1.1 g.1.2 (fun f => { f with groups := f.groups ++ [g.2] }) t) s1

/-- `n` cycles; an idle direction has nothing to move. -/
def laneCycles (d : Dir) : Nat → State → State
  | 0, s => s
  | n + 1, s => if (pathOf s d).blkq.isEmpty && (pathOf s d).pipe.isEmpty then s else laneCycles d n (laneCycle d s)

/-- The block in a stage of a lane: stage 0 to 14 for L0 to L14, 15 for M (R155). -/
def stageBlock (s : State) (d : Dir) (lane stage : Nat) : Option LaneBlk :=
  (pathOf s d).pipe.find? (fun x => x.lane == lane && x.age == stage + 1)

/-- Key registers of a stage: the key path of its block; zero with no block (R158). -/
def stageKey (s : State) (d : Dir) (lane stage : Nat) : List Byte :=
  match stageBlock s d lane stage with
  | some x => slice (keyPath x.blk.k256 x.key stage) 0 32
  | none => List.replicate 32 0

/-- State register of a stage: the block's state at its end; A passes its data (R155). -/
def stageState (s : State) (d : Dir) (lane stage : Nat) : List Byte :=
  match stageBlock s d lane stage with
  | some x => if x.blk.kind == .a then slice x.blk.data 0 16 else slice (dataPath x.blk.k256 x.key x.blk.ctr (Nat.min stage 14)) 0 16
  | none => List.replicate 16 0

/-! ### Recomputation (R163–R165) -/

/-- Slots of a direction's ledger that the coming ticks book (R399): with a result that was used, thrown away, held up. -/
def bookSlots (d : Dir) (pumped spilled choked : Nat) (s : State) : State :=
  let add := fun (b : Nat × Nat × Nat) => (b.1 + pumped, b.2.1 + spilled, b.2.2 + choked)
  match d with
  | .egr => { s with tel := { s.tel with backEgr := add s.tel.backEgr } }
  | .ing => { s with tel := { s.tel with backIng := add s.tel.backIng } }

/-- The recomputation of a block. -/
def redoOf (s : State) (d : Dir) (link order block : Nat) : Option Redo :=
  s.lne.redo.find? (fun r => r.dir == d && r.link == link && r.order == order && r.block == block)

/-- The block that a fault flag names, as the dispatcher keeps it: in the lanes, in the queue, or anew from its frame. -/
def keptBlock (s : State) (d : Dir) (link order idx : Nat) : Option Block :=
  let same := fun (b : Block) => b.link == link && b.order == order && b.idx == idx
  match (pathOf s d).pipe.find? (fun x => same x.blk) with
  | some x => some x.blk
  | none =>
    match (pathOf s d).blkq.find? same with
    | some b => some b
    | none =>
      match frameOf s d link order with
      | some f => (frameBlocks f (laneParts d s f).1 (laneParts d s f).2).find? same
      | none => none

/-- The lanes of a pair of copies: the first two slots whose lanes are not the one that faulted (R163). -/
def copyLanes (s : State) (d : Dir) (faulty : Nat) : List Nat := ((slotMap s d).filter (· != faulty)).take 2

/-- A block in the lanes is marked as faulty; a copy's by its lane. -/
def markBad (d : Dir) (link order idx : Nat) (copy : Option Nat) (s : State) : State :=
  let hit := fun (x : LaneBlk) =>
    x.blk.link == link && x.blk.order == order && x.blk.idx == idx && x.copy == copy.isSome && (copy.isNone || copy == some x.lane)
  setPath d { pathOf s d with pipe := mapWhere hit (fun x => { x with bad := true }) (pathOf s d).pipe } s

/-- Two copies of a block are issued ahead of any new block (R163); a pair counts once. -/
def reissue (r : Redo) (s : State) : State :=
  let others := s.lne.redo.filter (fun x => !(x.dir == r.dir && x.link == r.link && x.order == r.order && x.block == r.block))
  let s1 := { s with lne := { s.lne with redo := others ++ [r] } }
  let s2 := setPath r.dir { pathOf s1 r.dir with
    pipe := r.lanes.map (fun i => laneDelivery s1 i true r.kept) ++ (pathOf s1 r.dir).pipe } s1
  modFrame r.dir r.link r.order (fun f => { f with redo := true }) (bump (match r.dir with | .egr => 0x40 | .ing => 0x41) none s2)

/-- A block is given up after its second pair (R165): recomputation ends for its frame. -/
def abandonBlock (r : Redo) (s : State) : State :=
  let s1 := { s with lne := { s.lne with redo := s.lne.redo.filter (fun x => !(x.dir == r.dir && x.link == r.link && x.order == r.order)) } }
  let s2 := bump (match r.dir with | .egr => 0x42 | .ing => 0x43) none s1
  let s3 := modFrame r.dir r.link r.order (fun f => { f with abandoned := true }) s2
  match r.dir, frameOf s3 r.dir r.link r.order with
  | .egr, some f => if f.started then s3 else syncPath .egr (setFate .egr f .discard s3)
  | _, _ => s3

/-- What a fault flag makes of its block: the first pair, the second pair, or the end of it. A copy counts with the lane that it was
given to. -/
def redoBlock (d : Dir) (lane link order block : Nat) (copy : Bool) (s : State) : State :=
  match frameOf s d link order with
  | some f =>
    if f.fate != .crypt || f.abandoned then s
    else
      match redoOf s d link order block, copy with
      | none, true | some _, false => s
      | none, false =>
        (match keptBlock s d link order block with
         | some b => reissue { dir := d, link := link, order := order, block := block, kept := b, round := 1, lanes := copyLanes s d lane,
                               faulted := [], age := 0 } (markBad d link order block none s)
         | none => s)
      | some r, true =>
        if !r.lanes.contains lane || r.faulted.contains lane then s
        else
          let s1 := markBad d link order block (some lane) s
          if r.faulted.isEmpty then
            { s1 with lne := { s1.lne with redo := replaceFirst (fun x => x == r) (fun x => { x with faulted := [lane] }) s1.lne.redo } }
          else if r.round = 1 then reissue { r with round := 2, faulted := [], lanes := copyLanes s1 d lane, age := 0 } s1
          else abandonBlock r s1
  | none => s

/-- LANE_FAULT_FLAG (R163–R166): the block is computed again elsewhere; the lane that ran it is charged. -/
def execLaneFaultFlag (dir : Dir) (lane stage check : Nat) (link order block : Nat) (copy : Bool) (s : State) :
    Host.Outcome State Fault Refusal :=
  run s (if lane < 18 then laneFault (laneNo dir lane) stage check (redoBlock dir (laneNo dir lane) link order block copy s) else s)

/-! ### What the lanes give back (R163, R399, R400) -/

/-- The copy whose result its frame uses: the first of a pair that is clean. -/
def copyUsed (xs : List LaneBlk) (x : LaneBlk) : Bool :=
  (xs.find? (fun y => y.copy && y.age == x.age && !y.bad && y.blk.link == x.blk.link && y.blk.order == x.blk.order && y.blk.idx == x.blk.idx)) == some x

/-- The slots whose fate is known now, 16 cycles after their intake: the blocks that have passed that age in the last 8 cycles. -/
def bookAged (d : Dir) (s : State) : State :=
  let xs := (pathOf s d).pipe.filter (fun x => decide (16 < x.age) && decide (x.age ≤ 24))
  let used := xs.filter (fun x => !x.bad && (!x.copy || copyUsed xs x))
  bookSlots d used.length (xs.length - used.length) 0 s

/-- Eight core cycles of a direction: blocks into the lanes, their slots booked; a pair of copies that has come back with a clean one
replaces its block. -/
def tickLanes (d : Dir) (s : State) : State :=
  let p := pathOf s d
  let stall := if p.txReady || p.blkq.isEmpty then 0 else 8 * (slotMap s d).length
  let s1 := bookAged d (laneCycles d 8 s)
  let s2 := { s1 with lne := { s1.lne with redo := s1.lne.redo.filterMap (fun r =>
    if r.dir != d then some r else if 16 < r.age then none else some { r with age := r.age + 8 }) } }
  if stall = 0 then s2 else bookSlots d 0 0 stall s2

/-! ### Spares (R167, R168) -/

/-- SPARE_READY (R167, R168): one of the first RAMP_MAX domains that ramp is up, and its test is over. -/
def execSpareReady (dir : Dir) (lane : Nat) (err : BitVec 512) (s : State) : Host.Outcome State Fault Refusal :=
  let i := laneNo dir lane
  run s (if decide (lane < 18) && (s.glb.ramping.take s.glb.rampMax).contains (laneDomain i) then spareDone i (katClean err) s else s)

/-- SPARE_SWITCH_OFF (R167): a WARM spare, or one that ramps towards WARM, beyond those that lanes need is switched off. -/
def execSpareSwitchOff (dir : Dir) (lane : Nat) (s : State) : Host.Outcome State Fault Refusal :=
  let i := laneNo dir lane
  let l := laneOf s i
  run s (if lane < 18 ∧ (l.st = .warm ∨ l.ramping = some false) ∧ warmNeed s dir < warmCount s dir then
      rampEnds i (pdClear (laneDomain i) (setLane i { l with st := .off, ramping := none } s))
    else s)

end Sys2Proof.Machine
end

