-- ==== Sys2Proof/Machine/CheckOps.lean ====
section
/-!
DEFINITION. Reads of the check engines (R384–R386, R389): one read unit at a time, issued only when nothing of the traffic, of
re-priming or of the journal's records waits.
-/
namespace Sys2Proof.Machine

/-- The read unit of a region at an offset: where it starts and its length (R384). -/
def chkUnit (region off : Nat) : Nat × Nat :=
  if region = 2 ∨ (region = 0 ∧ 0xA20000 ≤ off) then (off / 64 * 64, 64)
  else if region < 2 then (off / 128 * 128, 128)
  else (off / 8 * 8, 8)

/-- The unit that an engine reads next on a region, while its job runs (R385, R390, R393). -/
def chkNext (s : State) (k region : Nat) : Option (Nat × Nat) :=
  let c := chkOf s k
  match c.prog with
  | some p =>
    if (c.st == .running || c.st == .stopping) && !c.paused && !c.err && p.region == region && decide (c.pos < p.start + p.len) then
      some (chkUnit region c.pos)
    else none
  | none => none

/-- A unit has been read: its bytes inside the range enter the job (R384). -/
def chkFeed (k : Nat) (bytes : List Byte) (s : State) : State :=
  let c := chkOf s k
  match c.prog with
  | some p =>
    let (u, n) := chkUnit p.region c.pos
    let lo := Nat.max u p.start
    let hi := Nat.min (u + n) (p.start + p.len)
    setChk k { c with buf := c.buf ++ slice bytes (lo - u) (hi - lo), pos := u + n, unit := [] } s
  | none => s

/-- The unit cannot be read: the job ends with it (R389). -/
def chkBad (k : Nat) (s : State) : State :=
  if (chkOf s k).prog.isSome then setChk k { chkOf s k with err := true, unit := [] } s else s

/-- No fill, write-back or re-priming read waits on the context port (R386). -/
def cxmQuiet (s : State) : Bool :=
  !s.cxm.fills.any (fun f => (readWanted s f).isSome) && !s.cxm.writes.any (fun w => w.tag == 32) && s.cxm.wbq.isEmpty

/-- The first free tag of a port. -/
def freeTag (used : List Nat) (n : Nat) : Option Nat := firstFrom (fun t => !used.contains t) 0 n

/-- An engine's read of context memory: one at a time, at CXM_RATE over all engines (R54, R55, R385, R386, R389; log 166). -/
def chkCxm (k : Nat) (s : State) : State :=
  match chkNext s k 0, freeTag (s.cxm.reads.map (·.tag)) 128 with
  | some (u, n), some t =>
    if s.cxm.reads.any (fun r => r.chk == some k && !r.held) || !cxmQuiet s || decide (rdMax s ≤ s.cxm.reads.length)
      || s.cxm.writes.any (fun w => w.offset == u && !w.held) || decide (now s < s.cxm.chkAt) then s
    else
      telBump 0x1D2 1 none (emit (.cxmRead (cxmAddr s u) (n == 128) t) { s with cxm := { s.cxm with
        chkAt := now s + 1000 / Nat.max 1 (fld s.chkCfg 0 7)
        reads := s.cxm.reads ++ [{ tag := t, line := u / 128, leaf := false, offset := u, held := false, bad := false, chk := some k }] } })
  | _, _ => s

/-- An engine's read of a cistern slot, as held; that of a retired bank pair fails (R384, R389). What an empty slot holds is a free
value. -/
def chkCis (k : Nat) (s : State) : State :=
  match chkNext s k 1 with
  | some (u, _) =>
    let slot := u / 128
    if !pairUp s (slot / 2048) then chkBad k s
    else
      match lineAt s slot with
      | some n => chkFeed k (lineBytes s n) s
      | none => chkFeed k (Config.bytesOf 128 (Config.emptySlot s.rng)) { s with rng := s.rng + 1 }
  | none => s

/-- An engine's read of a journal slot: one at a time, while no record write is outstanding (R386). -/
def chkJnl (k : Nat) (s : State) : State :=
  let used := s.jnl.reads.map (·.tag)
  match chkNext s k 2, freeTag used 8 with
  | some (u, _), some t =>
    if s.jnl.reads.any (fun r => r.chk == some k) || s.jnl.wr.isSome || decide (fld s.jnl.portCfg 0 4 ≤ used.length) then s
    else
      emit (.jnlRead (u / 64) t) { s with jnl := { s.jnl with
        reads := s.jnl.reads ++ [{ tag := t, slot := u / 64, bytes := [], err := false, chk := some k }] } }
  | _, _ => s

/-- The four engines issue what they may (R386). -/
def chkPump (s : State) : State := (List.range 4).foldl (fun t k => chkJnl k (chkCis k (chkCxm k t))) s

/-- A beat of an engine's read of context memory; with the last one the unit is there, or has failed (R389). -/
def chkCxmBeat (k : Nat) (data : List Byte) (last bad : Bool) (s : State) : State :=
  let c := chkOf s k
  let bs := c.unit ++ slice data 0 64
  if !last then setChk k { c with unit := bs } s
  else if bad then chkBad k s
  else chkFeed k bs s

end Sys2Proof.Machine
end

