-- ==== Sys2Proof/Machine/Context.lean ====
section
/-!
DEFINITION. Rows of the protected context store: the port's answers (R53–R57, R276, R277), fills (R261, R273), re-priming (R278–R280,
R314), rebuilds (R281) and the line-mix sweep (R282).
-/
namespace Sys2Proof.Machine

/-! ### Fills -/

/-- The fills of the list changed where `p`. -/
def modFills (p : Fill → Bool) (f : Fill → Fill) (s : State) : State :=
  { s with cxm := { s.cxm with fills := mapWhere p f s.cxm.fills } }
def dropFill (f : Fill) (s : State) : State := { s with cxm := { s.cxm with fills := s.cxm.fills.filter (fun x => x != f) } }

/-- A fill has failed: its frames are discarded; a sweep step that read the line is tried again. -/
def fillFail (f : Fill) (s : State) : State :=
  let s1 := dropFill f s
  let s2 := if s1.cxm.sweepRead && f.line == s1.cxm.sweepPtr then { s1 with cxm := { s1.cxm with sweepRead := false } } else s1
  pumpReads 2 (sumpFail f.line s2)

/-- The port has gone out of service: every fill fails (R277). -/
def portLost (s : State) : State := (s.cxm.fills.filter (fun f => !f.forWrite && !f.fromWb)).foldl (fun t f => fillFail f t) s

/-- A fault of the port. -/
def portFaulted (s : State) : State :=
  let s1 := cxmFault s
  if s1.cxm.oos && !s.cxm.oos then portLost s1 else s1

/-- The leaf of a line, cached, or taken from a read that verifies; `none` with a failed check. -/
def leafFor (n : Nat) (bs : List Byte) (s : State) : Option (Leaf × State) :=
  let j := leafOfLine n
  match leafOf s j with
  | some l => some (l, s)
  | none =>
    if leafOk s j bs then
      let s1 := cacheLeaf j (leafParse bs) s
      (leafOf s1 j).map (fun l => (l, s1))
    else none

/-- The leaf that a write waited for is there, or its read failed (R274, R276). -/
def writeReady (f : Fill) (s : State) : State :=
  let s1 := dropFill f s
  if isQuar s1 f.line then keepLine f.line s1
  else if f.memErr then keepLine f.line (ctxMemErr true f.line s1)
  else
    match leafFor f.line f.leafBytes s1 with
    | some (_, s2) => renewCheck (writeLineNow f.line s2)
    | none => keepLine f.line (ctxAlarm true f.line s1)

/-- The last beat of a read: done, read once more, or a memory error (R276). -/
def readEnded (r : CxmRead) (s : State) : State :=
  let mine := fun (f : Fill) => f.line == r.line && (if r.leaf then !f.leafDone else !f.lineDone && !f.forWrite)
  let s1 := modFills mine (fun f =>
    if r.leaf then
      (if !r.bad then { f with leafDone := true }
       else if f.leafRetry then { f with memErr := true, errLeaf := true } else { f with leafRetry := true, leafBytes := [] })
    else
      (if !r.bad then { f with lineDone := true }
       else if f.lineRetry then { f with memErr := true, errLeaf := false } else { f with lineRetry := true, lineBytes := [] })) s
  (s1.cxm.fills.filter (fun f => f.line == r.line && f.forWrite && (f.leafDone || f.memErr))).foldl (fun t f => writeReady f t) s1

/-- Commands that wait for groups whose re-priming has failed (R280, R328). -/
def primeFailed (s : State) : State :=
  completeWhere (fun w => match w with | .rebuild (some g) => s.cxm.failed.contains g | _ => false) stIntegrityFail [] s

/-- CXM_READ_BEAT (R53, R56, R57, R276): late data of a read that timed out is thrown away; a check engine's read serves its job (R385). -/
def execCxmReadBeat (tag : Nat) (data : List Byte) (last : Bool) (ecc : BitVec 2) (s : State) : Host.Outcome State Fault Refusal :=
  match s.cxm.reads.find? (fun r => r.tag == tag) with
  | none => run s s
  | some r =>
    let bad := decide (2 ≤ ecc.toNat)
    let s1 := if bad then { s with cxm := { s.cxm with errCnt := satAdd 16 s.cxm.errCnt 1 } } else s
    let drop := fun (t : State) => { t with cxm := { t.cxm with reads := t.cxm.reads.filter (fun x => x.tag != tag) } }
    if r.held then run s (if last then pumpCxm (drop s1) else s1)
    else
      let s2 := if ecc = 1 then raiseL .cxm 2 (groupLinks s1 (groupOfLine r.line)) (bump 0x52 none s1) else s1
      let r1 := { r with bad := r.bad || bad }
      let kept := fun (t : State) => { t with cxm := { t.cxm with reads := replaceFirst (fun x => x.tag == tag) (fun _ => r1) t.cxm.reads } }
      match r.chk with
      | some k => run s (if last then pumpCxm (chkCxmBeat k data true r1.bad (drop s2)) else chkCxmBeat k data false r1.bad (kept s2))
      | none =>
      let s3 := modFills (fun f => f.line == r.line) (fun f =>
        if r.leaf then (if f.leafDone then f else { f with leafBytes := f.leafBytes ++ slice data 0 64 })
        else if f.lineDone || f.forWrite then f else { f with lineBytes := f.lineBytes ++ slice data 0 64 }) s2
      if last then run s (primeFailed (pumpCxm (readEnded r1 (drop s3))))
      else run s (kept s3)

/-- A fill whose read timed out tries once more; a second timeout fails it. A write-back that waits for its leaf reads on (R274, R276). -/
def fillTimeout (leaf : Bool) (f : Fill) : Fill :=
  if leaf then (if f.leafRetry && !f.forWrite then { f with timedOut := true } else { f with leafRetry := true, leafBytes := [] })
  else if f.forWrite then f
  else if f.lineRetry then { f with timedOut := true } else { f with lineRetry := true, lineBytes := [] }

/-- CXM_READ_TIMEOUT (R57, R276, R277): the tag is held; the read is tried once more; a second timeout fails the fill. A check engine's job
ends (R389). -/
def execCxmReadTimeout (tag : Nat) (s : State) : Host.Outcome State Fault Refusal :=
  match s.cxm.reads.find? (fun r => r.tag == tag && !r.held) with
  | none => run s s
  | some r =>
    let s1 := { s with cxm := { s.cxm with
      tmoCnt := satAdd 16 s.cxm.tmoCnt 1, reads := replaceFirst (fun x => x.tag == tag) (fun x => { x with held := true }) s.cxm.reads } }
    let s2 := raiseL .cxm 4 (groupLinks s1 (groupOfLine r.line)) s1
    let s3 := portFaulted (match r.chk with
      | some k => chkBad k s2
      | none => modFills (fun f => f.line == r.line) (fillTimeout r.leaf) s2)
    let out := s3.cxm.fills.filter (fun f => f.timedOut)
    run s (pumpReads 2 (out.foldl (fun t f => fillFail f t) s3))

/-- The write outstanding under a tag. -/
def writeUnder (s : State) (tag : Nat) : Option CxmWrite :=
  if tag < 32 then s.cxm.writes.find? (fun w => w.tag == tag && !w.held) else none

/-- A write failed: it waits for a tag again, in its place, with the same bytes, and goes out (R277). -/
def writeFault (w : CxmWrite) (s : State) : State :=
  let links := match w.line with | some n => groupLinks s (groupOfLine n) | none => []
  pumpWrites 32 (portFaulted (raiseL .cxm 5 links { s with cxm := { s.cxm with
    writes := replaceFirst (fun x => x.tag == w.tag && !x.held) (fun x => { x with tag := 32 }) s.cxm.writes } }))

/-- CXM_WRITE_DONE (R57, R277): a failed write goes out again; the late response of a write that timed out frees its tag only. -/
def execCxmWriteDone (tag : Nat) (err : Bool) (s : State) : Host.Outcome State Fault Refusal :=
  let s0 := if err && s.cxm.writes.any (fun w => w.tag == tag) && decide (tag < 32) then
      { s with cxm := { s.cxm with errCnt := satAdd 16 s.cxm.errCnt 1 } } else s
  run s (if 32 ≤ tag then s
    else match writeUnder s tag, err with
    | some w, true => writeFault w s0
    | _, _ => pumpCxm { s0 with cxm := { s0.cxm with writes := s0.cxm.writes.filter (fun x => x.tag != tag) } })

/-- CXM_WRITE_TIMEOUT (R57, R277): the write goes out again under another tag; its own stays out of use until the response, and counts
against WR_MAX and in WR_OUT until then (R54; log 158, DESIGN CHOICE for the counts, as R57 counts a read). -/
def execCxmWriteTimeout (tag : Nat) (s : State) : Host.Outcome State Fault Refusal :=
  run s (match writeUnder s tag with
    | none => s
    | some w => writeFault w { s with cxm := { s.cxm with
        tmoCnt := satAdd 16 s.cxm.tmoCnt 1, writes := s.cxm.writes ++ [{ w with data := [], line := none, held := true }] } })

/-! ### Installing a filled line (R261, R273) -/

/-- Why a fill fails: a memory error or an integrity failure, of the leaf or of the line; nothing to re-prime. -/
inductive FillErr | memLeaf | memLine | tree | data | lost
deriving DecidableEq, Repr

/-- What a failed check sets off (R276). -/
def fillErr (e : FillErr) (n : Nat) (s : State) : State :=
  match e with
  | .memLeaf => ctxMemErr true n s
  | .memLine => ctxMemErr false n s
  | .tree => ctxAlarm true n s
  | .data => ctxAlarm false n s
  | .lost => s

/-- Steps 1 to 4 of R273: the line's bytes in clear. -/
def fillCheck (f : Fill) (s : State) : Except FillErr (List Byte × State) :=
  let n := f.line
  if f.memErr then .error (if f.errLeaf then .memLeaf else .memLine)
  else if f.timedOut then .error .lost
  else
    match leafFor n f.leafBytes s with
    | none => .error .tree
    | some (l, s1) =>
      let e := smGet (0, 0) l.ents (n % 8)
      let stored := slice f.lineBytes 0 128
      if lineTag s1 n e.1 stored ≠ e.2 then .error .data
      else .ok (mixLine (mixKey s1 n) s1.cxm.nonce (lineOffset n) e.1 stored, s1)

/-- The line is there with its key: it is installed, and the frames that wait for it go on. -/
def fillInstall (f : Fill) (slot : Nat) (s : State) : State :=
  let n := f.line
  let (there, s1) := if n < 4096 then loadKey false n s else if n < 8192 then (true, s) else loadKey true (n - 8192) s
  if there then pumpCxm (renewCheck (sumpRelease n (placeLine n slot false (dropFill f s1)))) else fillFail f s1

/-- A table holds the line's SA or SecY. -/
def lineHeld (s : State) (n : Nat) : Bool :=
  if n < 4096 then (txOf s n).isSome else if n < 5120 then (secyOf s (n - 4096)).isSome else if n < 8192 then false
  else (rxOf s (n - 8192)).isSome

/-- Some frame waits for the line. -/
def lineWanted (s : State) (n : Nat) : Bool := (s.egr.frames ++ s.ing.frames).any (waitsFor n)

/-- The sweep's line has been read and checked: it is written under the next key (R282). -/
def sweepWrite (s : State) : State :=
  let n := s.cxm.sweepPtr
  writeLine n { s with cxm := { s.cxm with sweepPtr := n + 1, sweepRead := false } }

/-- A checked line goes where it was wanted: into the cistern, back to DRAM under the next key. -/
def fillUse (f : Fill) (slot : Option Nat) (bs : List Byte) (s : State) : State :=
  let n := f.line
  let sweep := s.cxm.sweepRead && n == s.cxm.sweepPtr
  if sweep && !lineWanted s n then sweepWrite (dropFill f s)
  else
    let s1 := takeLine n bs s
    match lineHeld s1 n && lineCheck s1 n bs, slot with
    | true, some k => let s2 := fillInstall f k s1
                      if sweep then sweepWrite s2 else s2
    | _, _ => fillFail f (ctxAlarm false n s)

/-- FILL_COMPLETE (R261, R273, R276): a line that the write-back buffer holds comes from it; a fill whose victim cannot be taken
waits. -/
def execFillComplete (line : Nat) (s : State) : Host.Outcome State Fault Refusal :=
  match fillOf s line with
  | none => run s s
  | some f =>
    let wb := f.fromWb || inWb s line
    let broken := f.memErr || f.timedOut
    if !(wb || broken || s.cxm.oos || isQuar s line || (f.leafDone && f.lineDone)) then run s s
    else if !wb && !broken && (s.cxm.oos || isQuar s line) then run s (fillFail f s)
    else
      let slot := slotFor s line
      if !broken && (match slot with | some k => victimStuck s k | none => true) then run s s
      else if wb then
        run s (match slot with
          | some k => if lineHeld s line then fillInstall f k s else fillFail f s
          | none => s)
      else
        run s (match fillCheck f s with
          | .error e => primeFailed (fillFail f (fillErr e line s))
          | .ok (bs, s1) => primeFailed (fillUse f slot bs s1))

/-! ### Re-priming (R278–R280) -/

/-- The receive SAs of a leaf group with what identifies them. -/
def groupRx (s : State) (g : Nat) : List MirRx :=
  if g < 128 then []
  else ((List.range 64).map (fun k => 64 * (g - 128) + k)).filterMap (fun r =>
    match rxOf s r, scOf s (r / 4) with
    | some _, some c => some { an := r % 4, link := c.link, sci := c.sci, low := 0 }
    | _, _ => none)

/-- The engine's copy of a line is whole: resident, in the write-back buffer, or kept when it was evicted. -/
def wholeSource (s : State) (n : Nat) : Bool := isResident s n || inWb s n || s.cxm.kept.contains n

/-- An SA that no source holds: rebuilt empty, with its event; an MKA CA makes a new SAK (R279). -/
def saLost (rx : Bool) (i : Nat) (s : State) : State :=
  let l := if rx then rxLink s i else saLink i
  let kid := match (if rx then rxOf s i else txOf s i) with | some a => a.kid | none => 0xFFFF
  let s1 := addRef kid false (raiseL .cxm 9 [l] s)
  let s2 := if rx then setRx i none s1 else setTx i none (leaseAbandon i s1)
  let s3 := completeWhere (fun w => w == .saRetire (if rx then .ing else .egr) i) stOk [] s2
  if linkMka s3 l && svcRuns s3 then reElect l false true s3 else s3

/-- An SA's fields from its image record (R279). -/
def saFromImage (e : ImgEntry) (blob : List Byte) (a : Sa) : Sa :=
  let b := imageSa e a.kid blob 0
  { a with blob := b.blob, salt := b.salt, ssci := b.ssci, suite := b.suite, offCode := b.offCode, stats := [], sat := 0, reprimed := true }

/-- Transmit SA `i` from the image and its mark; its leases are abandoned and asked for anew. -/
def rebuildTx (i : Nat) (s : State) : State :=
  match txOf s i, imgEntry s 7 i, imgBlob s 7 i with
  | some _, some e, some b =>
    let s1 := modTx i (fun a => { saFromImage e b a with pn := if a.shared then a.pn else hwOf s i }) (leaseAbandon i s)
    if secyOn s1 (saLink i) then leaseStart i s1 else s1
  | some _, _, _ => saLost false i s
  | none, _, _ => s

/-- The highest of the sources for a receive SA's PNs (R279). -/
def rebuildRx (r : Nat) (lows : List MirRx) (s : State) : State :=
  match rxOf s r, scOf s (r / 4), imgEntry s 8 r, imgBlob s 8 r with
  | some _, some c, some e, some b =>
    let low := match lows.find? (fun m => m.link == c.link && m.sci == c.sci && m.an == r % 4) with | some m => m.low | none => 0
    let base := Nat.max low (smGet 0 s.jnl.floors r)
    modRx r (fun a => { saFromImage e b a with pn := Nat.max base (wordAt e.words 4).toNat, floor := Nat.max base (wordAt e.words 5).toNat }) s
  | some _, _, _, _ => saLost true r s
  | none, _, _, _ => s

/-- A SecY line from the image; without a record its parameters stay as the engine holds them. -/
def rebuildSecy (l : Nat) (s : State) : State :=
  let e := imgEntry s 4 l
  modSecy l (fun y =>
    let y1 := { y with stats := [], sat := 0, reprimed := true }
    match e with
    | some e => { y1 with sci := wordAt e.words 0, txp := wordAt e.words 1, rxp := wordAt e.words 2 }
    | none => y1) s

/-- One line of a group from its first available source (R279). -/
def rebuildLine (lows : List MirRx) (n : Nat) (s : State) : State :=
  if wholeSource s n then { s with cxm := { s.cxm with kept := s.cxm.kept.filter (· != n) } }
  else if n < 4096 then rebuildTx n s
  else if n < 5120 then rebuildSecy (n - 4096) s
  else if n < 8192 then s
  else rebuildRx (n - 8192) lows s

/-- Lines and leaves of a group. -/
def groupLines (g : Nat) : List Nat := (List.range 64).map (fun k => 64 * g + k)
def groupLeaves (g : Nat) : List Nat := (List.range 8).map (fun k => 8 * g + k)

/-- The stored form of a line and of a leaf under counter `c`. -/
def primedLine (s : State) (c n : Nat) : List Byte := mixLine (mixKey s n) s.cxm.nonce (lineOffset n) c (lineBytes s n)
def primedLeaf (s : State) (c j : Nat) : Leaf :=
  { ents := (List.range 8).foldl (fun m e => smSet (0, 0) m e (c, lineTag s (8 * j + e) c (primedLine s c (8 * j + e)))) [],
    dirty := false, used := 0 }

/-- An offset of a data line or leaf of a group. -/
def inGroup (g off : Nat) : Bool :=
  if off < 0x900000 then groupOfLine (off / 128) == g else decide (off < 0xA20000) && (off - 0x900000) / 128 / 8 == g

/-- A write of the group is waiting or outstanding. -/
def groupWriting (g : Nat) (s : State) : Bool := s.cxm.writes.any (fun w => !w.held && inGroup g w.offset)

/-- The group written under TOP_CTR + 1: 64 lines, then 8 leaves (R279, R280). -/
def primeGroup (g : Nat) (s : State) : State :=
  let c := s.cxm.topCtr + 1
  let s1 := { s with cxm := { s.cxm with
    topCtr := c
    leafCtr := (groupLeaves g).foldl (fun m j => smSet 1 m j c) s.cxm.leafCtr
    nodeCtr := smSet 1 s.cxm.nodeCtr (8192 + g) c
    leaves := s.cxm.leaves.filter (fun e => e.1 / 8 != g)
    fills := s.cxm.fills.filter (fun f => !(f.forWrite && groupOfLine f.line == g))
    wbq := s.cxm.wbq.filter (fun n => groupOfLine n != g)
    changed := s.cxm.changed.filter (fun n => groupOfLine n != g)
    writes := s.cxm.writes.filter (fun w => !(w.tag == 32 && inGroup g w.offset)) } }
  pumpCxm (cxmPutAll ((groupLines g).map (fun n => (lineOffset n, primedLine s1 c n))
    ++ (groupLeaves g).map (fun j => (leafOffset j, leafBytes s1 j c (primedLeaf s1 c j)))) s1)

/-- With its sources at hand, the group under re-priming is rebuilt and written (R279, R280). -/
def primeNow (s : State) : State :=
  match s.cxm.job with
  | some j =>
    if j.asking || j.written then s
    else primeGroup j.group ((groupLines j.group).foldl (fun t n => rebuildLine j.lows n t)
      { s with cxm := { s.cxm with job := some { j with written := true } } })
  | none => s

/-- The quarantine of a group is lifted; a line of it that left the cistern since the group was assembled is written now (R278, R280). -/
def liftQuar (g : Nat) (s : State) : State :=
  let late := s.cxm.kept.filter (fun n => groupOfLine n == g)
  late.foldl (fun t n => writeLine n t) { s with cxm := { s.cxm with
    job := none, quar := s.cxm.quar.filter (· != g), kept := s.cxm.kept.filter (fun n => groupOfLine n != g) } }

/-- REPRIME_START (R278, R280, R314): one group at a time, in the order of detection. -/
def execReprimeStart (s : State) : Host.Outcome State Fault Refusal :=
  match s.cxm.job, s.cxm.queue with
  | none, g :: rest =>
    if s.glb.mode == .doze || s.glb.mode == .lockout then run s s
    else
      let rs := groupRx s g
      let ask := s.fab.pair.formed && s.fab.pair.live && !rs.isEmpty
      let s1 := { s with cxm := { s.cxm with queue := rest, job := some { group := g, asking := ask, lows := [], written := false } } }
      run s (match s.fab.pair.partner with
        | some a => if ask then sendTo a (.mirrorQuery rs) s1 else primeNow s1
        | none => primeNow s1)
  | _, _ => run s s

/-- MIRROR_QUERY_TIMEOUT (R314): the group is rebuilt without the partner's values. -/
def execMirrorQueryTimeout (s : State) : Host.Outcome State Fault Refusal :=
  run s (match s.cxm.job with
    | some j => if j.asking then primeNow { s with cxm := { s.cxm with job := some { j with asking := false } } } else s
    | none => s)

/-- REPRIME_DONE (R280): the group's writes are confirmed, its quarantine is lifted. -/
def execReprimeDone (s : State) : Host.Outcome State Fault Refusal :=
  match s.cxm.job with
  | some j =>
    let g := j.group
    if !j.written || groupWriting g s || s.glb.mode == .doze then run s s
    else
      let s1 := liftQuar g s
      run s (completeWhere (fun w => w == .rebuild (some g)) stOk [] (raiseL .cxm 7 (groupLinks s1 g) (bump 0x53 none s1)))
  | none => run s s

/-- REGION_BUILD_DONE (R277, R281): every group has been re-primed or has failed, or a build out of service has all its writes
confirmed; a port out of service has passed its retest. -/
def execRegionBuildDone (s : State) : Host.Outcome State Fault Refusal :=
  let building := (s.glb.mode == .cold || s.glb.mode == .provision) && cxmWriting s
  run s (if !s.cxm.rebuild || s.cxm.job.isSome || !s.cxm.queue.isEmpty || building then s
    else
      let s1 := { s with cxm := { s.cxm with rebuild := false } }
      let s2 := if s1.mci.running.any (fun r => r.wait == .rebuild none) then
          clrDeg 4 { s1 with cxm := { s1.cxm with oos := false, stamps := [] } } else s1
      completeWhere (fun w => w == .rebuild none) stOk [] s2)

/-! ### The line-mix sweep (R282) -/

/-- The sweep is over: the next key is current, the one after it is derived, unless the root's row has failed (R210). -/
def sweepEnd (s : State) : State :=
  let next := keyAt s mixNextSlot
  let gen := s.cxm.gen + 1
  let s1 := writeKey mixKeySlot .deriveOnly false false .system 4 next (zeroSlot mixKeySlot s)
  let s2 := if s1.vlt.rootPar then zeroSlot mixNextSlot s1
    else writeKey mixNextSlot .deriveOnly false false .system 4 (kdf (keyAt s1 rootSlot) lblMix (beBytes 4 (gen + 1)) 16) s1
  let s3 := raise .cxm 11 { s2 with cxm := { s2.cxm with sweepOn := false, sweepPtr := 0, sweepRead := false, gen := gen % 2 ^ 32 } }
  completeWhere (fun w => w == .sweep) stOk [] s3

/-- SWEEP_STEP (R282): the line at the pointer is read, to be written under the next key; a resident line is written as it stands;
the lines of a quarantined group are skipped. -/
def execSweepStep (s : State) : Host.Outcome State Fault Refusal :=
  let n := s.cxm.sweepPtr
  run s (if !s.cxm.sweepOn || s.cxm.sweepRead || s.glb.mode == .doze then s
    else if 73728 ≤ n then sweepEnd s
    else if isQuar s n then { s with cxm := { s.cxm with sweepPtr := 64 * (groupOfLine n + 1) } }
    else if s.cxm.oos then s
    else if isResident s n then
      (let s1 := match cline s n with
        | some c => setCline n (some { c with dirty := false }) s
        | none => s
       sweepWrite s1)
    else if inWb s n then sweepWrite s
    else startFill n { s with cxm := { s.cxm with sweepRead := true } })

end Sys2Proof.Machine
end

