-- ==== Sys2Proof/Machine/PairOps.lean ====
section
/-!
DEFINITION. The pair (R185–R187, R310–R317): marks synced, takeover and caps, merging after reunion.
-/
namespace Sys2Proof.Machine

/-! ### Marks that the partner knows -/

/-- The key for an SA that a message names by its home's address and index; none where this engine knows no such home. -/
def keyNamed (s : State) (home sa : Nat) : Option Nat :=
  if s.fab.addr = some home then some sa
  else if s.fab.pair.partner = some home then some (4096 + sa) else none

/-- A mark told by the partner as a number: 0 stands for 2^64 (R183). -/
def toldMark (m : Nat) : Nat := if m = 0 then 2 ^ 64 else m

/-- The PN space of an SA whose mark is told: by its local SA, else by what is known or told of it. -/
def toldXpn (s : State) (key mark : Nat) : Bool :=
  match localOf s key with
  | some i => (match txOf s i with | some a => isXpn a.suite | none => false)
  | none => s.jnl.pmark64.contains (key % 4096) || decide (2 ^ 32 < mark)

/-- Raise what the tables hold of a key's mark; a partner's SA keeps its PN space. -/
def raiseMark (key mark : Nat) (xpn : Bool) (s : State) : State :=
  let s1 := setMark key (Nat.max (markOf s key) mark) s
  if 4096 ≤ key ∧ xpn = true then { s1 with jnl := { s1.jnl with pmark64 := setAdd (key - 4096) s1.jnl.pmark64 } } else s1

/-- LEASE_SYNC_ACK to the partner (R185). -/
def sendSyncAck (key mark : Nat) (s : State) : State :=
  match s.fab.pair.partner with
  | some a =>
    let home := if key < 4096 then s.fab.addr.getD 0 else a
    sendTo a (.leaseSyncAck { home := home, sa := key % 4096, epoch := s.fab.pair.epoch, mark := mark % 2 ^ 64 }) s
  | none => s

/-- A synced mark is durable here: the partner hears it (R185). -/
def syncDurable (key mark : Nat) (s : State) : State :=
  sendSyncAck key mark (raiseMark key mark (toldXpn s key mark) s)

/-- A synced mark goes into the journal as a PMARK cell (R185). -/
def syncTaken (key mark : Nat) (s : State) : State :=
  let xpn := toldXpn s key mark
  jIssue (capFix (jAdd 2 (.cell (pmarkKind xpn) (key % 4096) (markVal mark)) (.syncAck key mark) s))

/-! ### The end of arming, whatever a lease brought about -/

/-- Cuts that wait for a lease, and CAs that wait for a cut, go on (R230, R252); a next PN may have jumped past its threshold (R174). -/
def afterLease (s : State) : State :=
  let arming := (secyLinks s).filter (fun l => match secyOf s l with | some y => y.cut == .arming | none => false)
  let s1 := arming.foldl (fun t l => cutPump l t) s
  thrAll ((smKeys s1.svc.cas).foldl (fun t l => mkaPump l t) s1)

/-! ### Takeover (R186, R315, R316) -/

/-- The cap of an SA taken over at mark `p0`. -/
def capFrom (p0 e : Nat) : Nat := p0 + (e - p0) / 2

/-- The local SA of a taken-over key starts from its PMARK: state ONE where its SecY is ON; exhausted where the PMARK lies below
the home's mirrored next PN. -/
def takeSa (key p0 lim : Nat) (s : State) : State :=
  match localOf s key with
  | some i =>
    let low := decide (p0 < smGet 0 s.svc.mirTx (key % 4096))
    let on := secyOn s (saLink i)
    let s1 := modTx i (fun a =>
      if low then { a with exhausted := true, lease := .none, cur := ⟨0, 0⟩, nxt := ⟨0, 0⟩ }
      else if on then { a with lease := .one, cur := ⟨p0, lim⟩, nxt := ⟨0, 0⟩, pn := p0 }
      else { a with lease := .none, cur := ⟨0, 0⟩, nxt := ⟨0, 0⟩, pn := p0 }) (lineChanged i s)
    let s2 := if low then partnerEvent 8 s1 else s1
    mkaPnThr (saLink i) (raiseL .jnl 1 [saLink i] s2)
  | none => s

/-- One PMARK at a takeover: its cap, the first lease, the mark that the BULK has raised by its D32 or D64. -/
def takeMark (d32 d64 k : Nat) (s : State) : State :=
  let key := 4096 + k
  let p0 := smGet 0 s.jnl.pmark k
  let e := keyEnd s key
  let lim := Nat.min (p0 + (if keyXpn s key then d64 else d32)) e
  let cap := capFrom p0 e
  let s1 := { s with jnl := { s.jnl with caps := smSet 0 s.jnl.caps k cap } }
  let s2 := setMark key lim s1
  let s3 := if ownPair s2 k then setHw k (Nat.max lim (hwOf s2 k)) s2 else s2
  takeSa key p0 (Nat.min lim cap) s3

/-- FLOORs of the pair set's receive SAs rise to the mirrored PNs. -/
def takeFloors (s : State) : State :=
  (smKeys s.rx).foldl (fun t r =>
    match scOf t (r / 4) with
    | some c =>
      let low := smGet 0 t.svc.mirRx ((c.sci.toNat * 1024 + c.link) * 4 + r % 4)
      if t.fab.pair.set.contains c.link ∧ (rxOf t r).any (fun a => decide (a.floor < low)) then
        dirtyLine (rxLine r) (modRx r (fun a => { a with floor := low }) t)
      else t
    | none => t) s

/-- The takeover's BULK is confirmed (R186, R315). -/
def takeoverDone (d32 d64 : Nat) (s : State) : State :=
  if s.fab.pair.partner.isNone then s
  else
    let ks := smKeys s.jnl.pmark
    let s1 := modPair (fun p => { p with takenOver := true, home := true, capped := !ks.isEmpty }) s
    let s2 := takeFloors (ks.foldl (fun t k => takeMark d32 d64 k t) s1)
    afterLease (leaseResendAll (lsaOriginate (reroute (steerTake s2))))

/-- The partner of a lost home takes over: the epoch rises and the BULK goes out (R186); a SPLIT pair and a READ_ONLY journal do
not. -/
def takeoverStart (s : State) : State :=
  match s.fab.pair.partner with
  | some a =>
    if s.fab.pair.split || readOnly s then s
    else
      let e := (s.fab.pair.epoch + 1) % 65536
      let s1 := modPair (fun p => { p with epoch := e }) s
      let d32 := 2 ^ effGrain s s.jnl.grainPn
      let d64 := 2 ^ effGrain s s.jnl.grainXpn
      jIssue (jAdd 2 (.whole 2 0 (bulkPayload (0x0100 + a) e d32 d64)) (.takeover d32 d64) s1)
  | none => s

/-- The keys of the shared SAs that a pair home grants for. -/
def pairKeys (s : State) : List Nat :=
  (smKeys s.tx).filter (fun i => ownPair s i) ++ (smKeys s.jnl.pmark).map (4096 + ·)

/-- A home that has lost its partner: each mark jumps half way to the end of its space before the next grant; grants on their way
start again from there (R316). -/
def markJump (key : Nat) (s : State) : State :=
  let held := s.jnl.pend.filter (fun p => p.ask.sa == key)
  let m := held.foldl (fun m p => Nat.max m p.stop) (markOf s key)
  let e := keyEnd s key
  if m = 0 then s
  else
    let jump := m + (e - m) / 2
    let s1 := setMark key jump { s with jnl := { s.jnl with pend := s.jnl.pend.filter (fun p => p.ask.sa != key) } }
    let s2 := jAdd 2 (markCell s1 key jump) .nothing s1
    jIssue (held.foldl (fun t p => leaseAsk p.ask t) s2)

/-- The partner is declared lost (R312). -/
def partnerLost (s : State) : State :=
  let p := s.fab.pair
  if !(p.formed && p.live) then s
  else
    let s1 := partnerEvent 6 (modPair (fun p => { p with live := false }) s)
    if p.home then afterLease (grantsUnheld ((pairKeys s1).foldl (fun t k => markJump k t) s1))
    else takeoverStart s1

/-! ### Forming (R187, R310, R317) -/

/-- This engine is the pair home by epoch, then by the lower address. -/
def homeBy (s : State) (peer : Nat) : Bool :=
  let p := s.fab.pair
  if epochAbove p.epoch peer then true
  else if epochAbove peer p.epoch then false
  else
    match s.fab.addr, p.partner with
    | some a, some b => decide (a < b)
    | _, _ => false

/-- The marks of every shared SA, by the index at their home. -/
def mergeRecs (s : State) : List MarkRec :=
  (pairKeys s).filterMap (fun k =>
    if markOf s k = 0 then none else some { sa := k % 4096, xpn := keyXpn s k, mark := markOf s k % 2 ^ 64 })

/-- MARK_MERGE messages: as many as the marks need, the last one says so. -/
def sendMerge (s : State) : State :=
  match s.fab.pair.partner with
  | some a => sendTo a (.markMerge (mergeRecs s) true) s
  | none => s

/-- The pair stands (R310): who is home, what happened meanwhile is merged where the epochs differ (R317). -/
def pairForms (peer : Nat) (s : State) : State :=
  let apart := s.fab.pair.epoch != peer
  let s1 := modPair (fun p => { p with
    formed := true, live := true, unsettled := false, home := homeBy s peer, takenOver := false, merging := apart, mismatch := false }) s
  let s2 := sendPairHello s1
  let s3 := lsaOriginate (reroute (if apart then sendMerge s2 else s2))
  afterLease (leaseResendAll (grantsUnheld (steerDrop s3)))

/-- PAIR_HELLO of the partner. -/
def helloOfPartner (m : PairHello) (s : State) : State :=
  let was := s.fab.pair.formed && s.fab.pair.live
  let s1 := modPair (fun p => { p with peerEpoch := m.epoch, peerDigest := BitVec.ofNat 64 (beNat (slice m.digest 0 8)) }) s
  if was && s.fab.pair.home == homeBy s1 m.epoch then s1 else pairForms m.epoch s1

/-! ### Merging (R317) -/

/-- The key that a merged mark's index names. -/
def mergeKey (s : State) (sa : Nat) : Nat := if ownPair s (sa % 4096) then sa % 4096 else 4096 + sa % 4096

/-- One mark received in MARK_MERGE: the home journals the greater value; the other engine keeps it for MERGE_ACK. -/
def mergeMark (home final : Bool) (r : MarkRec) (s : State) : State :=
  let key := mergeKey s r.sa
  let s1 := raiseMark key (if r.xpn then toldMark r.mark else r.mark) r.xpn s
  if home then jAdd 2 (markCell s1 key (markOf s1 key)) (.merge final) s1 else s1

/-- The caps and their cells go (R317). -/
def dropCaps (s : State) : State :=
  let s1 := (smKeys s.jnl.caps).foldl (fun t k =>
    jAdd 2 (.cell 8 (k + 0x8000) (if keyXpn t (4096 + k) then 4 else 3)) .nothing t) s
  modPair (fun p => { p with capped := false }) { s1 with jnl := { s1.jnl with caps := [] } }

/-- The merged marks are durable at the home: MERGE_ACK. -/
def mergeDone (s : State) : State :=
  match s.fab.pair.partner with
  | some a => sendTo a .mergeAck (modPair (fun p => { p with merging := false }) s)
  | none => s

/-- MARK_MERGE at either engine: the acknowledge follows the last mark's record. -/
def mergeTaken (rs : List MarkRec) (last : Bool) (s : State) : State :=
  let home := s.fab.pair.home && !readOnly s
  match rs.reverse with
  | [] => if home && last then mergeDone (jIssue (dropCaps s)) else s
  | r :: earlier =>
    let s1 := earlier.reverse.foldl (fun t r => mergeMark home false r t) s
    let s2 := mergeMark home last r (if home && last then dropCaps s1 else s1)
    if home then jIssue (capFix s2) else s2

/-- MERGE_ACK at the engine that is not home: its marks become PMARK cells with the merged values. -/
def mergeAcked (s : State) : State :=
  let s1 := (pairKeys s).foldl (fun t k =>
    let i := k % 4096
    let m := markOf t k
    if m = 0 then t
    else
      let x := keyXpn t k
      let t1 := { t with jnl := { t.jnl with pmark := smSet 0 t.jnl.pmark i (Nat.max m (smGet 0 t.jnl.pmark i)),
                                             pmark64 := if x then setAdd i t.jnl.pmark64 else t.jnl.pmark64 } }
      jAdd 2 (.cell (pmarkKind x) i (markVal m)) .nothing t1) s
  modPair (fun p => { p with merging := false }) (jIssue (capFix (dropCaps s1)))

end Sys2Proof.Machine
end

