-- ==== Sys2Proof/Machine/Journal.lean ====
section
/-!
DEFINITION. Rows of the journal (R59–R62, R188–R196): reads, confirmations and what each confirmed record brings about, faults.
-/
namespace Sys2Proof.Machine

/-! ### What a confirmed record brings about -/

/-- The engine that homes the SA now current on a link; none where that is this engine. -/
def cutHome (s : State) (l : Nat) : Option (Nat × Nat) :=
  match secyOf s l with
  | some y =>
    let i := 4 * l + y.curAn
    match txOf s i with
    | some a => if a.shared then some (a.home, a.homeSa)
      else if ownPair s i && s.fab.pair.formed && !s.fab.pair.home then s.fab.pair.partner.map (fun p => (p, i)) else none
    | none => none
  | none => none

/-- CUT_ACK for the shared cut of a link (R244, R319). -/
def cutAckLink (l status : Nat) (s : State) : State :=
  match cutHome s l, secyOf s l with
  | some (h, sa), some y => cutAnswer h { home := h, sa := sa, an := y.cutAn, t := y.cutTime, key := [], status := 0 } status s
  | _, _ => s

/-- An INTENT is durable: the SA is installed; its command replies, or the offered cut goes on (R227, R244). -/
def intentDone (i : Nat) (a : Sa) (cmd : Option Nat) (offer : Option (Nat × Nat)) (s : State) : State :=
  let l := saLink i
  if (txOf s i).isSome || (secyOf s l).isNone then
    (match cmd with | some c => completeId c stWrongState [] s | none => s)
  else
    let s1 := thrCheck i (installTx i a s)
    let s2 := match cmd with | some c => completeId c stOk [] s1 | none => s1
    match offer with
    | some (h, t) =>
      let m : CutMsg := { home := h, sa := (match cutHome s2 l with | some x => x.2 | none => i), an := i % 4, t := t, key := [], status := 0 }
      (match secyOf s2 l with
       | some y =>
         if y.cut != .none then cutAnswer h m stWrongState s2
         else
           let s3 := cutArm l (i % 4) t (linkMka s2 l) true s2
           if (secyOf s3 l).any (fun y => y.cut == .none) then cutAnswer h m (if readOnly s3 then stJnlWorn else stNoResource) s3 else s3
       | none => s2)
    | none => mkaPump l s2

/-- A COMMIT is durable: the cut is armed; at an engine that was offered it, the home hears so (R235, R244). -/
def commitDone (l seq : Nat) (s : State) : State :=
  let s1 := commitConfirmed l seq s
  match secyOf s1 l with
  | some y => if y.cutShared && (y.cut == .timed || y.cut == .armed) then cutAckLink l stOk s1 else s1
  | none => s1

/-- A CUT_DONE is durable; that of a cancelled cut ends the commands that wait for it (R230, R243). -/
def cutDoneDone (l : Nat) (cancelled : Bool) (s : State) : State :=
  if cancelled then
    deletePump l (completeWhere (fun w => w == .cut l) stAborted [] (completeWhere (fun w => w == .cutCancel l) stOk [] s))
  else deletePump l s

/-- The suite by which a BULK raised a mark: of its SA, else the kind of its latest cell. -/
def markXpn (s : State) (i : Nat) : Bool :=
  match txOf s i with
  | some a => isXpn a.suite
  | none => (latestCopies s).any (fun c => c.index == i && c.kind == 2)

/-- The BULK of resume is durable: every mark has risen by its D32 or D64; [mark, mark + d) is the first lease of an SA that waits for it;
requests that came meanwhile are served from the raised marks (R182, R196). -/
def bulkDone (d32 d64 : Nat) (s : State) : State :=
  asksServe (fun q => decide (q.sa < 4096)) <| (smKeys s.jnl.hw).foldl (fun t i =>
    let x := markXpn t i
    let m := hwOf t i
    let lim := Nat.min (m + (if x then d64 else d32)) (if x then 2 ^ 64 else 2 ^ 32)
    let t1 := setHw i lim t
    match txOf t i with
    | some a =>
      if a.lease == .wait && !a.shared && secyOn t (saLink i) && !inPairSet t (saLink i) && decide (m < lim)
        && !t.jnl.asks.any (fun q => q.req.isNone && q.sa == i) then leaseGranted i m lim t1
      else t1
    | none => t1) s

/-- CUT_DONEs that waited for an image of this generation or an earlier one (R235). -/
def imageCuts (gen : Nat) (s : State) : State :=
  let due := s.jnl.afterImg.filter (fun e => decide (e.1 ≤ gen))
  due.foldl (fun t e => cutDoneWrite e.2.1 e.2.2.1 e.2.2.2 false t)
    { s with jnl := { s.jnl with afterImg := s.jnl.afterImg.filter (fun e => !decide (e.1 ≤ gen)) } }

/-- Cuts that wait for an image or a lease go on. -/
def armingPump (s : State) : State :=
  ((secyLinks s).filter (fun l => match secyOf s l with | some y => y.cut == .arming | none => false)).foldl (fun t l => cutPump l t) s

/-- An IMAGE_HDR is durable: the image is the committed one (R190, R234, R235, R349). -/
def imageDone (s : State) : State :=
  match s.jnl.imgWr with
  | none => s
  | some im =>
    let s1 := { s with jnl := { s.jnl with image := some im, imgWr := none, imgNext := false } }
    let s2 := completeWhere (fun w => w == .image im.gen) stOk [put im.gen 0 32 ||| put im.words.length 32 16] s1
    let s3 := armingPump (imageCuts im.gen s2)
    if s.jnl.imgNext && s3.jnl.imgWr.isNone then
      (match imageStart s3 with
       | (some _, t) => t
       | (none, t) => completeWhere (fun w => match w with | .image _ => true | _ => false) stNoResource [] t)
    else s3

/-- JNL_ERASE's header is durable: no image is committed. -/
def eraseDone (cmd : Option Nat) (s : State) : State :=
  let s1 := { s with jnl := { s.jnl with image := none } }
  match cmd with | some c => completeId c stOk [] s1 | none => s1

/-- Stage 2 of the boot generator rests on a confirmed SEQ; a start-up resume may begin (R223). From a root row that has failed it is not
derived, and stage 2 is unavailable (R210). -/
def bootDone (seq : Nat) (s : State) : State :=
  if drbgOn s || s.vlt.bootStage = 2 || s.glb.mode == .lockout then s
  else if s.vlt.rootPar then (if s.glb.bootStage == 4 then setResume 6 s else s)
  else
    let s1 := drawHashKeys { s with vlt := { s.vlt with
      bootKey := some (bootKeyOf (keyAt s rootSlot) 2 seq), bootStage := 2, bootV := seq, bootIdx := 0 } }
    if s.glb.bootStage == 4 then startupResume s1 else s1

/-- One piece of work whose record is durable. -/
def workDone (seq : Nat) (w : JWork) (s : State) : State :=
  match w.done with
  | .nothing => s
  | .grant ask start _ => afterLease (grantDurable ask start s)
  | .syncAck key mark => syncDurable key mark s
  | .intent i a cmd offer => intentDone i { a with intentSeq := seq, intentAt := seq } cmd offer s
  | .commit l => commitDone l seq s
  | .cutDone l c => cutDoneDone l c s
  | .pair (some c) => completeId c stOk [] s
  | .pair none => s
  | .takeover a b => takeoverDone a b s
  | .resumeBulk a b => afterLease (bulkDone a b s)
  | .image _ => imageDone s
  | .erase c => eraseDone c s
  | .bootEntry => bootDone seq s
  | .merge last => if last then mergeDone s else s

/-! ### Work that a READ_ONLY journal refuses (R194) -/

/-- One piece of work that will not be written. -/
def workRefused (w : JWork) (s : State) : State :=
  match w.done with
  | .grant ask _ _ =>
    leaseReply ask 2 0 0 { s with jnl := { s.jnl with pend := s.jnl.pend.filter (fun p => p.ask != ask) } }
  | .intent i a cmd offer =>
    let s0 := if sakKey s a.kid then retireKey a.kid s else s
    let s1 := match cmd with | some c => completeId c stJnlWorn [] s0 | none => s0
    (match offer with
     | some (h, t) =>
       cutAnswer h { home := h, sa := (match cutHome s1 (saLink i) with | some x => x.2 | none => i), an := i % 4, t := t, key := [], status := 0 }
         stJnlWorn s1
     | none => s1)
  | .commit l => cutEnd l stJnlWorn (cutAckLink l stJnlWorn s)
  | .cutDone l true => deletePump l (completeWhere (fun w => w == .cutCancel l) stJnlWorn [] s)
  | .pair (some c) => completeId c stJnlWorn [] s
  | .image _ =>
    armingPump (completeWhere (fun w => match w with | .image _ => true | _ => false) stJnlWorn []
      { s with jnl := { s.jnl with imgWr := none, imgNext := false } })
  | .erase (some c) => completeId c stJnlWorn [] s
  | .bootEntry => if s.glb.bootStage == 4 then setResume 6 s else s
  | _ => s

/-- With the journal READ_ONLY nothing that waits is written any more. -/
def refuseWork (s : State) : State :=
  if !readOnly s || s.jnl.wr.isSome then s
  else
    let s1 := s.jnl.work.foldl (fun t w => workRefused w t) { s with jnl := { s.jnl with work := [] } }
    armingPump ((s1.jnl.asks).foldl (fun t q => leaseReply q 2 0 0 t) { s1 with jnl := { s1.jnl with asks := [] } })

/-! ### The rows -/

/-- A read ends: a check engine's serves its job (R389), the others the resolution. -/
def jReadStop (r : JRead) (good : Bool) (s : State) : State :=
  match r.chk with
  | some k =>
    let s1 := { s with jnl := { s.jnl with reads := s.jnl.reads.filter (fun x => x.tag != r.tag) } }
    jReadPump 8 (if good then chkFeed k r.bytes s1 else chkBad k s1)
  | none => jReadEnd r good s

/-- JNL_READ_BEAT (R60, R62): beat k carries bytes 8k to 8k + 7, the first in its low bits. -/
def execJnlReadBeat (tag : Nat) (data : W64) (err : Bool) (s : State) : Host.Outcome State Fault Refusal :=
  run s (match s.jnl.reads.find? (fun r => r.tag == tag) with
    | none => s
    | some r =>
      let r1 := { r with bytes := r.bytes ++ leBytes 8 data.toNat, err := r.err || err }
      let s1 := if err && !r.err then { s with jnl := { s.jnl with errCnt := satAdd 16 s.jnl.errCnt 1 } } else s
      if r1.bytes.length < 64 then { s1 with jnl := { s1.jnl with reads := replaceFirst (fun x => x.tag == tag) (fun _ => r1) s1.jnl.reads } }
      else jReadStop r1 (!r1.err) s1)

/-- JNL_READ_TIMEOUT (R62). -/
def execJnlReadTimeout (tag : Nat) (s : State) : Host.Outcome State Fault Refusal :=
  run s (match s.jnl.reads.find? (fun r => r.tag == tag) with
    | none => s
    | some r => jReadStop r false { s with jnl := { s.jnl with tmoCnt := satAdd 16 s.jnl.tmoCnt 1 } })

/-- The record is durable in its slot (R193); of an INTENT the SA knows its newest copy (R190). -/
def recordKept (w : JWrite) (s : State) : State :=
  let kept : JSlot := { wcnt := some w.record.wcnt, record := some w.record, retired := w.record.typ == 8, skip := none, blank := false }
  let s1 := { s with jnl := { s.jnl with slots := smSet .reset s.jnl.slots w.slot kept, wr := none,
                                         wrLat := Nat.max s.jnl.wrLat (Nat.min 0xFFFF ((now s - w.issued) / 1000)) } }
  if w.record.typ = 3 then
    modTx w.record.obj.toNat (fun a => if a.blob == w.record.payload then { a with intentSeq := w.record.seq } else a) s1
  else s1

/-- The outstanding record is confirmed (R61). -/
def writeConfirmed (w : JWrite) (s : State) : State :=
  let s1 := telBump 0x1D0 1 none (recordKept w s)
  let s2 := capFix (jnlWear s1)
  let s3 := w.works.foldl (fun t x => workDone w.record.seq x t) s2
  refuseWork (jIssue s3)

/-- A journal write failed (R195): the same record goes to the next slot with a new SEQ; a slot due for its RETIRE takes that first. -/
def writeFailed (w : JWrite) (s : State) : State :=
  let st := stampAdd s.jnl.wrStamps (now s)
  let v := jslot s w.slot
  let failed : JSlot := { v with wcnt := some (slotWrites s w.slot + 1), record := none, skip := some w.lap, blank := false }
  let s1 := raise .jnl 5 (setJslot w.slot failed { s with jnl := { s.jnl with wr := none, wrStamps := st } })
  let back := { s1 with jnl := { s1.jnl with work := w.works ++ s1.jnl.work } }
  if isPermanent s.jnl.retryCfg st then
    refuseWork (jnlWear { back with jnl := { back.jnl with portOos := true } })
  else
    let t := writeSlot s1
    if w.record.typ = 8 ∨ endurance s1 ≤ slotWrites s1 t + 1 ∨ readOnly s1 then refuseWork (jIssue (jnlWear back))
    else jWrite t w.record.typ w.record.obj w.record.payload w.works s1

/-- JNL_WRITE_DONE (R61, R62, R195): taken as that of the write outstanding now. One that comes late, after its write's timeout and the
retry's issue, counts as the confirmation of the retry (log 156, DESIGN CHOICE: R60 does not say to which attempt it belongs). -/
def execJnlWriteDone (err : Bool) (s : State) : Host.Outcome State Fault Refusal :=
  run s (match s.jnl.wr with
    | none => s
    | some w =>
      if err then writeFailed w { s with jnl := { s.jnl with errCnt := satAdd 16 s.jnl.errCnt 1 } } else writeConfirmed w s)

/-- JNL_WRITE_TIMEOUT (R62, R195). -/
def execJnlWriteTimeout (s : State) : Host.Outcome State Fault Refusal :=
  run s (match s.jnl.wr with
    | none => s
    | some w => writeFailed w { s with jnl := { s.jnl with tmoCnt := satAdd 16 s.jnl.tmoCnt 1 } })

end Sys2Proof.Machine
end

