-- ==== Sys2Proof/Machine/Lease.lean ====
section
/-!
DEFINITION. Rows of the lease messages (R177, R178, R181–R185, R320).
-/
namespace Sys2Proof.Machine

/-- LEASE_REQ (R181, R183): an SA that this engine knows no home for is refused NOT_HOME. -/
def execLeaseReq (hdr : MsgHdr) (m : LeaseReq) (s : State) : Host.Outcome State Fault Refusal :=
  run s (recvFrom hdr (.leaseReq m) (fun _ t =>
    match keyNamed t m.home m.sa with
    | some k => afterLease (leaseAsk { req := some m.req, sa := k, rid := m.rid, epoch := m.epoch } t)
    | none =>
      sendTo m.req (.leaseGrant { home := m.home, sa := m.sa, req := m.req, rid := m.rid, status := 3, start := 0, stop := 0 }) t) s)

/-- The transmit SA whose request a LEASE_GRANT answers: its home, its SA and its RID are those of the request outstanding. -/
def grantFor (s : State) (m : LeaseGrant) : Option Nat :=
  (smKeys s.tx).find? (fun i =>
    match txOf s i with
    | some a =>
      let named := match leaseTo s i a with | .there _ home sa => home == m.home && sa == m.sa | .here _ => false
      named && !pairHolds s i a && (a.lease == .wait || a.lease == .fetch) && smGet 0 s.jnl.rid i / 2 == m.rid
    | none => false)

/-- A grant or refusal taken (R177). -/
def grantTaken (i : Nat) (m : LeaseGrant) (s : State) : State :=
  match txOf s i with
  | some a =>
    if m.status = 0 then leaseGranted i m.start (if m.stop = 0 ∧ isXpn a.suite = true then 2 ^ 64 else m.stop) s
    else if m.status = 3 ∨ m.status = 5 then leaseSend i s
    else leaseRefused i m.status s
  | none => s

/-- LEASE_GRANT (R177, R320): from an engine that was not asked it is dropped. -/
def execLeaseGrant (hdr : MsgHdr) (m : LeaseGrant) (s : State) : Host.Outcome State Fault Refusal :=
  run s (recvFrom hdr (.leaseGrant m) (fun a t =>
    match grantFor t m with
    | some i =>
      let asked := match txOf t i with
        | some x => (match leaseTo t i x with | .there e _ _ => e == a | .here _ => false)
        | none => false
      if asked && t.fab.addr == some m.req then afterLease (grantTaken i m t) else bump 0x60 none t
    | none => bump 0x60 none t) s)

/-- LEASE_RESEND (R177, R178, R185): the request of a waiting SA, or the sync of a grant, is sent again. -/
def execLeaseResend (sa : Nat) (s : State) : Host.Outcome State Fault Refusal :=
  let s1 : State := match txOf s sa with
    | some a =>
      if a.lease == .wait || a.lease == .fetch then
        (if smGet 0 s.jnl.rid sa % 2 = 1 then leaseNew sa s else leaseSend sa s)
      else s
    | none => s
  let held := s1.jnl.pend.filter (fun p => p.durable && !p.synced && p.ask.sa % 4096 == sa && needsSync s1 p.ask.sa)
  run s (afterLease (held.foldl (fun t p => sendSync p t) s1))

/-- LEASE_SYNC (R185): what the journal holds already is acknowledged at once; a READ_ONLY journal acknowledges nothing. -/
def execLeaseSync (hdr : MsgHdr) (m : LeaseSync) (s : State) : Host.Outcome State Fault Refusal :=
  run s (recvPartner hdr (.leaseSync m) (fun _ t =>
    match keyNamed t m.home m.sa with
    | some k =>
      let mark := toldMark m.mark
      if mark ≤ smGet 0 t.jnl.pmark (k % 4096) then sendSyncAck k mark t
      else if readOnly t then t
      else syncTaken k mark t
    | none => t) s)

/-- LEASE_SYNC_ACK (R181, R185): the grant that waited for it is given. -/
def execLeaseSyncAck (hdr : MsgHdr) (m : LeaseSync) (s : State) : Host.Outcome State Fault Refusal :=
  run s (recvPartner hdr (.leaseSyncAck m) (fun _ t =>
    match (keyNamed t m.home m.sa).bind (fun k => t.jnl.pend.find? (fun p => p.ask.sa == k && p.durable && p.stop % 2 ^ 64 == m.mark)) with
    | some p => afterLease (grantGive p t)
    | none => t) s)

end Sys2Proof.Machine
end

