-- ==== Sys2Proof/Machine/Doze.lean ====
section
/-!
DEFINITION. DOZE, the wake, and the return to COLD (R82, R83, R92–R96).
-/
namespace Sys2Proof.Machine

/-! ### DOZE entry (R93) -/

/-- Frames of both directions have left. -/
def pathsEmpty (s : State) : Bool := s.egr.frames.isEmpty && s.ing.frames.isEmpty

/-- Lines that DOZE entry writes: dirty, in a group that is not quarantined. -/
def dirtyLines (s : State) : List Nat :=
  s.cis.lines.filterMap (fun e => match e.2 with | some c => if c.dirty && !isQuar s e.1 then some e.1 else none | none => none)

/-- Write back every dirty line (R93 step 5). -/
def writeBackAll (s : State) : State :=
  (dirtyLines s).foldl (fun t n => match cline t n with
    | some c => writeLine n (setCline n (some { c with dirty := false }) t)
    | none => t) s

/-- Writes, or reads that they wait for, are outstanding. -/
def cxmBusy (s : State) : Bool := cxmWriting s || !s.cxm.fills.isEmpty || !s.cxm.wbq.isEmpty

/-- Some leaf of the tree cache is dirty. -/
def leavesDirty (s : State) : Bool := s.cxm.leaves.any (fun e => match e.2 with | some l => l.dirty | none => false)

/-- Dirty lines of quarantined groups stay sources (R278); the cistern loses its contents. -/
def emptyCistern (s : State) : State :=
  { s with
    cxm := { s.cxm with kept := setUnion (s.cis.lines.filterMap (fun e => match e.2 with
      | some c => if c.dirty then some e.1 else none | none => none)) s.cxm.kept }
    cis := { s.cis with lines := [], pairs := 0, plru := [] } }

/-- A spare that is WARM, or on its way there, is switched off; one on its way into service goes on after the wake. -/
def dozeLane (i : Nat) (s : State) : State :=
  let l := laneOf s i
  if l.st == .warm then setLane i { l with st := .off } s
  else if l.ramping == some false then setLane i { l with ramping := none } s
  else s

/-- Check jobs on regions 0 and 1 pause, or go on (R393). -/
def pauseChecks (on : Bool) (s : State) : State :=
  { s with chk := (List.range 4).foldl (fun m k =>
      let c := smGet Chk.reset m k
      match c.prog with
      | some p => if p.region < 2 then smSet Chk.reset m k { c with paused := on && (c.st == .running || c.st == .stopping) } else m
      | none => m) s.chk }

/-- Domains that DOZE switches off (R93 step 6). -/
def dozeDomains : List Nat := (List.range 40).map (4 + ·) ++ [48, 49]

/-- DOZE is reached: the domains are off, the command replies; a cause latched meanwhile wakes the engine
(R82). -/
def dozeReached (s : State) : State :=
  let s0 := (List.range 36).foldl (fun t i => dozeLane i t) (emptyCistern { s with cxm := { s.cxm with nodesOut := false } })
  let s1 := { s0 with egr := { s0.egr with blkq := [], pipe := [] }, ing := { s0.ing with blkq := [], pipe := [] } }
  let s2 := dozeDomains.foldl (fun t n => pdClear n t) (modQue 0 queOff (modQue 1 queOff s1))
  let s3 := setMode .doze 1 { s2 with glb := { s2.glb with change := none, ramping := s2.glb.ramping.filter (fun n => decide (52 ≤ n)) } }
  let s4 := completeWhere (fun w => w == .mode) stOk [] (pauseChecks true s3)
  if s4.aon.wakeLatched then beginWake s4 else s4

/-- DOZE_ENTRY_COMPLETE (R93): entry goes on once the frames have left. Dirty lines go out first, then dirty leaves, then the interior
nodes; when every write is confirmed the domains are gated. -/
def execDozeEntryComplete (s : State) : Host.Outcome State Fault Refusal :=
  run s (if !s.glb.change.any (fun c => c.kind == .toDoze) || !pathsEmpty s then s
    else if !(dirtyLines s).isEmpty then writeBackAll s
    else if cxmBusy s then s
    else if leavesDirty s then flushLeaves s
    else if s.cxm.trusted && !s.cxm.nodesOut then writeNodes s
    else dozeReached s)

/-! ### The wake (R94–R96) -/

/-- WAKE_CAUSE (R82, R94). -/
def execWakeCause (s : State) : Host.Outcome State Fault Refusal := run s (beginWake s)

/-- 100 µs before the earliest timed cut has come (R94). -/
def cutNear (s : State) : Bool := decide (nextCut s ≠ 2 ^ 64 - 1) && decide (nextCut s ≤ now s + 100000)

/-- A timed wake is due. -/
def timedDue (s : State) : Bool := (bitAt s.aon.wakeCfg 2 && decide (s.aon.wakeTime.toNat ≤ now s)) || cutNear s

/-- TIMED_WAKE (R94). -/
def execTimedWake (s : State) : Host.Outcome State Fault Refusal := run s (if timedDue s then beginWake s else s)

/-- Lines that the wake still waits for. -/
def wakeWaits (s : State) : Bool :=
  s.glb.ramping.any (fun n => decide (n < 52) && !(decide (8 ≤ n) && (laneOf s (n - 8)).ramping.isSome)) || s.cxm.fills.any (fun f => decide (f.line < 5120) && !f.forWrite)

/-- Commands that waited for the wake run now (R94). -/
def runWaiting (s : State) : State :=
  let qs := (s.mci.running.filter (fun r => r.wait == .wake)).map (·.cmd)
  qs.foldl (fun t q => startOp q t) { s with mci := { s.mci with running := s.mci.running.filter (fun r => r.wait != .wake) } }

/-- The engine works again; a held need for TAKE is raised (R83, R315). -/
def wakeDone (s : State) : State :=
  let s1 := enterWorking 5 { s with glb := { s.glb with change := none }, aon := { s.aon with wakeLatched := false } }
  steerPump (runWaiting (completeWhere (fun w => w == .mode) stOk [] (pauseChecks false s1)))

/-- WAKE_COMPLETE (R95). -/
def execWakeComplete (s : State) : Host.Outcome State Fault Refusal :=
  run s (if s.glb.change.any (fun c => c.kind == .waking) && !wakeWaits s then wakeDone s else s)

/-- WAKE_LATE (R95): the event; the wake goes on. -/
def execWakeLate (s : State) : Host.Outcome State Fault Refusal :=
  run s (if s.glb.change.any (fun c => c.kind == .waking) then raise .aon 8 s else s)

/-! ### The return to COLD (R83, R407) -/

/-- The RWL fields of an event set at reset; LAST of ESC_ACT stays. -/
def EvSet.rwlReset (fresh e : EvSet) : EvSet :=
  { e with sev := fresh.sev, escTime := fresh.escTime, escAct := e.escAct &&& ones 16 3 }

/-- The RWL fields of every event set at reset. -/
def evtRwlReset (s : State) : State :=
  { s with evt := subs.foldl (fun v u => v.put u ((v.get u).rwlReset (Evts.reset.get u))) s.evt }

/-- CXM_REGION (R265): a region at another base has not been built (log 17). -/
def moveRegion (v : W64) (s : State) : State :=
  { s with cxm := { s.cxm with region := v, trusted := s.cxm.trusted && s.cxm.region == v } }

/-- Every RWL field at its reset value (R83). -/
def rwlReset (s : State) : State :=
  evtRwlReset <| moveRegion Cxm.reset.region { s with
    glb := { s.glb with pinSev := Glb.reset.pinSev }
    mci := { s.mci with cfg := Mci.reset.cfg }
    svc := { s.svc with mkaCfg := Svc.reset.mkaCfg }
    vlt := { s.vlt with cfg := Vlt.reset.cfg, entCfg := Vlt.reset.entCfg, retryCfg := Vlt.reset.retryCfg }
    cis := { s.cis with retryCfg := Cis.reset.retryCfg }
    cxm := { s.cxm with portCfg := Cxm.reset.portCfg, retryCfg := Cxm.reset.retryCfg }
    ecfg := { s.ecfg with tpid := EgrCfg.reset.tpid, cutCfg := EgrCfg.reset.cutCfg }
    lne := { s.lne with retryCfg := Lne.reset.retryCfg }
    jnl := { s.jnl with portCfg := Jnl.reset.portCfg, endurance := Jnl.reset.endurance, resend := Jnl.reset.resend,
                        rekey := Jnl.reset.rekey, retryCfg := Jnl.reset.retryCfg }
    fab := { s.fab with cfg := Fab.reset.cfg, trainCfg := Fab.reset.trainCfg, retryCfg := Fab.reset.retryCfg }
    chkCfg := 0x10
    tel := { s.tel with userEn := false } }

/-- Every SA, receive SC and SecY is deleted; their lines are freed (R83, R261). -/
def dropConfig (s : State) : State :=
  let s1 := (smKeys s.tx).foldl (fun t i => freeLine (txLine i) (setTx i none (leaseAbandon i t))) s
  let s2 := (smKeys s1.rx).foldl (fun t r => freeLine (rxLine r) (setRx r none t)) s1
  let s3 := (secyLinks s2).foldl (fun t l => freeLine (secyLine l) (setSecy l none t)) s2
  { s3 with sct := { s3.sct with scs := [], buckets := [], stash := [] } }

/-- What commands set returns to its reset values: rules, key agreement, grains, the roles and the pair (R83); the pair ends without
a record. -/
def dropSettings (s : State) : State :=
  { s with
    egr := { s.egr with rules := Path.reset.rules }
    ing := { s.ing with rules := Path.reset.rules }
    mci := { s.mci with stageEgr := none, stageIng := none }
    svc := { s.svc with cas := [], fabKey := none, mirTx := [], mirRx := [], pool := [], manual := [], scOut := [] }
    jnl := { s.jnl with grainXpn := Jnl.reset.grainXpn, grainPn := Jnl.reset.grainPn, grainOver := [], pend := [], asks := [] }
    fab := { s.fab with
      pref := Fab.reset.pref, auto := Fab.reset.auto, prio := Fab.reset.prio, ickKid := none, bound := []
      pair := { Pair.reset with epoch := s.fab.pair.epoch }
      steer := { s.fab.steer with needTake := false, needYield := false, handover := false } } }

/-- COLD, empty (R83). The zeroization clears the DRBG and the generators' keys too (R224): the DRBG is instantiated anew, and stage 2 of
the boot generator serves until then (R223). -/
def coldReached (s : State) : State :=
  let s1 := (s.fab.offers.map (·.cmd)).foldl (fun t c => offersAbort c t) s
  let s2 := zeroGens (reroute (dropSettings (zeroSlots (fun n => isTraffic n || isPool n) (dropConfig s1))))
  let s3 := setMode .cold 1 (rwlReset { s2 with glb := { s2.glb with change := none } })
  let s4 := if s3.jnl.resolved && !readOnly s3 then bootEntryWork s3 else s3
  completeWhere (fun w => w == .mode) stOk [] (if s4.vlt.drbgStop then s4 else collect .startup s4)

/-- Every SecY is OFF. -/
def allOff (s : State) : Bool := s.secys.all (fun e => match e.2 with | some y => y.st == .off | none => true)

/-- COLD_DRAIN_COMPLETE (R83). -/
def execColdDrainComplete (s : State) : Host.Outcome State Fault Refusal :=
  run s (if s.glb.change.any (fun c => c.kind == .toCold) && allOff s then coldReached s else s)

end Sys2Proof.Machine
end

