-- ==== Sys2Proof/Machine/Link.lean ====
section
/-!
DEFINITION. Fabric ports from their lanes to ACTIVE (R284–R300): signals, leaders, CAPS, timers, errors, IDLE and TEST. Lane 4p + l of
the fabric is physical lane l of port p.
-/
namespace Sys2Proof.Machine

/-! ### Lane signals (R67, R290, R295) -/

/-- The mask of physical lane `l`, and a mask with the lane set or cleared. -/
def laneBit (l : Nat) : BitVec 4 := BitVec.ofNat 4 (2 ^ (l % 4))
def setLaneBit (m : BitVec 4) (l : Nat) (b : Bool) : BitVec 4 := if b then m ||| laneBit l else m &&& ~~~laneBit l

/-- The port is in TRAIN or above and not in IDLE. -/
def bringUp (t : Port) : Bool := t.st == .train || t.st == .lock || t.st == .caps || t.st == .active

/-- A physical lane in use: one of the configured ones while TRAIN looks for them, then one that carries a lane of the width in use. -/
def laneInUse (t : Port) (l : Nat) : Bool :=
  bringUp t && decide (l < laneCount t.width) &&
    (t.st == .train || (t.locked.getLsbD l && decide (logicalLane t l < laneCount t.widthUse)))

/-- FAB_LANE_READY (R67): a lane is absent until it is ready. -/
def execFabLaneReady (lane : Nat) (up : Bool) (s : State) : Host.Outcome State Fault Refusal :=
  run s (if 32 ≤ lane then s
    else portTry (lane / 4) (modPort (lane / 4) (fun t => { t with rdy := setLaneBit t.rdy (lane % 4) up }) s))

/-- CDR lock of a lane is gone: loss of lock where the lane is in use (R67, R295). -/
def cdrGone (p l : Nat) (s : State) : State :=
  let use := laneInUse (portOf s p) l
  let s1 := modPort p (fun t => { t with cdr := setLaneBit t.cdr l false }) s
  if use then loseLock p s1 else s1

/-- CDR_LOCK_LOSS (R295). -/
def execCdrLockLoss (lane : Nat) (s : State) : Host.Outcome State Fault Refusal :=
  run s (if 32 ≤ lane then s else cdrGone (lane / 4) (lane % 4) s)

/-- PORT_SIGNAL_DETECT (R290): the port leaves DETECT where a configured lane shows all three. -/
def execPortSignalDetect (lane : Nat) (sig cdr : Bool) (s : State) : Host.Outcome State Fault Refusal :=
  let p := lane / 4
  let l := lane % 4
  run s (if 32 ≤ lane then s
    else
      let s1 := modPort p (fun t => { t with sig := setLaneBit t.sig l sig }) s
      if cdr then portTry p (modPort p (fun t => { t with cdr := setLaneBit t.cdr l true }) s1) else cdrGone p l s1)

/-! ### Leaders (R290–R292) -/

/-- What a leader teaches of its lane: identity and polarity; with block lock, that the lane is known (R290, R292). -/
def learnLane (l : Nat) (m : Leader) (t : Port) : Port :=
  { t with
    locked := if 64 ≤ smGet 0 t.hdrs l then t.locked ||| laneBit l else t.locked
    laneMap := BitVec.ofNat 8 (t.laneMap.toNat - logicalLane t l * 4 ^ l + (m.lane % 4) * 4 ^ l)
    polarity := if m.inverted then t.polarity ^^^ laneBit l else t.polarity }

/-- The run of blocks in which the lanes are aligned and the partner shows RX_LOCKED and DESKEWED and the same width; logical lane 0
counts it. -/
def lockRunOf (t : Port) (m : Leader) : Nat :=
  if deskewed t && m.rxLocked && m.deskewed && m.width == t.widthUse then (if m.lane = 0 then t.lockRun + 1 else t.lockRun) else 0

/-- TRAIN is over: every lane needed is known (R290). -/
def Port.toLock (t : Port) (w : Nat) : Port := { t with st := .lock, widthUse := w, lockRun := 0 }

/-- A valid leader on lane `l`. -/
def takeLeader (p l : Nat) (m : Leader) (s : State) : State :=
  let t : Port := { portOf s p with rseq := smSet 0 (portOf s p).rseq l (m.tseq + 1) }
  match t.st with
  | .train =>
    let t1 := learnLane l m t
    setPort p (if lanesReady t1 (laneCount t1.widthUse) then t1.toLock t1.widthUse else t1) s
  | .lock =>
    let n := lockRunOf t m
    setPort p (if 16 ≤ n then { t with st := .caps, lockRun := 0 } else { t with lockRun := n }) s
  | .idle =>
    let s1 := if m.phase = 5 then idleLeave p s else s
    let t1 := portOf s1 p
    if t1.exiting then setPort p { t1 with lockRun := if m.rxLocked then t1.lockRun + 1 else 0 } s1 else s1
  | _ => s

/-- A lane of the port that is present: one of its width, ready (R67, R284). -/
def lanePresent (t : Port) (l : Nat) : Bool := decide (l < laneCount t.width) && t.rdy.getLsbD l && !t.test

/-- Four fc have passed since the lane's last slip (R66). -/
def slipFree (s : State) (t : Port) (l : Nat) : Bool := smGet 0 t.slipAt l == 0 || decide (smGet 0 t.slipAt l + 19 ≤ now s)

/-- TRAIN looks for the boundary of a lane: a slip, at most one in four fc (R66, R290). -/
def slipLane (p l : Nat) (s : State) : State :=
  let t := portOf s p
  if t.st == .train && !t.locked.getLsbD l && slipFree s t l then
    setPort p { t with slip := t.slip ||| laneBit l, slipAt := smSet 0 t.slipAt l (now s + 1) } s
  else s

/-- Time of 64 blocks on a lane, in ns. -/
def blocks64 (t : Port) : Nat := if t.rate then 163 else 409

/-- An invalid sync header on a lane that has lock: kept for its window; the 16th within it loses lock (R295). -/
def badHeader (p l : Nat) (s : State) : State :=
  let t := portOf s p
  let at_ := ((smGet [] t.badHdr l).filter (fun x => decide (now s - x ≤ blocks64 t))) ++ [now s]
  if 16 ≤ at_.length then loseLock p (setPort p { t with badHdr := [] } s)
  else setPort p { t with badHdr := smSet [] t.badHdr l at_ } s

/-- A block that is in error: a symbol error of a lane that has lock; a bad header ends the run of good ones, and moves the boundary of a
lane without lock (R66, R290, R295). -/
def errBlock (p l : Nat) (kind : BlockErr) (s : State) : State :=
  let s0 := if kind == .syncHeader then slipLane p l (modPort p (fun t => { t with hdrs := smErase t.hdrs l }) s) else s
  let t := portOf s0 p
  if !bringUp t || !t.locked.getLsbD l then s0
  else
    let s1 := symbolError p s0
    if kind == .syncHeader && bringUp (portOf s1 p) then badHeader p l s1 else s1

/-- A block as the lane corrects its polarity (R292). -/
def straight (t : Port) (l : Nat) (b : Blk) : Blk := if t.polarity.getLsbD l then ~~~b else b

/-- A block on a present lane: its header counts towards block lock, and a leader is taken. -/
def takeBlk (p l : Nat) (b : Blk) (s : State) : State :=
  let c := straight (portOf s p) l b
  if !syncOk c then errBlock p l .syncHeader s
  else
    let s1 := modPort p (fun t => { t with hdrs := smSet 0 t.hdrs l (Nat.min 64 (smGet 0 t.hdrs l + 1)) }) s
    match leaderOf c with
    | some m => takeLeader p l m s1
    | none => s1

/-- LEADER_RECEIVED (R66, R291, R292): what fab_rx_blk and fab_rx_cnt carry on a lane in one fc; a lane that the port does not have, or
that is not ready, is absent (R67). -/
def execLeaderReceived (port lane : Nat) (m : RxBus) (s : State) : Host.Outcome State Fault Refusal :=
  run s (if decide (8 ≤ port) || !lanePresent (portOf s port) lane then s
    else
      let s1 := modPort port (fun t => { t with rxBlk := smSet 0 t.rxBlk lane m.blks, rxCnt := smSet 0 t.rxCnt lane m.cnt }) s
      (busBlks m.cnt m.blks).foldl (fun t b => takeBlk port lane b t) s1)

/-! ### CAPS (R293) -/

/-- The CAPS of a port. -/
def ownCaps (s : State) (p : Nat) : Caps :=
  let t := portOf s p
  { id := s.fab.engineId, cls := fabClass, major := 2, minor := 4, addr := s.fab.addr, port := p, width := t.widthUse, rate := t.rate,
    spine := decide (p < 2), rcvd := t.capsGot, prio := s.fab.prio, hasKey := s.fab.ickKid.isSome, unsync := s.fab.unsync,
    paired := s.fab.pair.partner.isSome, keyCheck := keyCheck s }

/-- What a CAPS tells of the neighbour. -/
def learnPeer (s : State) (m : Caps) (t : Port) : Port :=
  { t with peerAddr := m.addr, peerId := m.id, peerClass := m.cls, peerPrio := m.prio, peerUnsync := m.unsync,
           peerKeyOk := m.hasKey && s.fab.ickKid.isSome && m.keyCheck == keyCheck s }

/-- ACTIVE once a CAPS with PEER_CAPS_RCVD has gone each way (R290). -/
def capsCheck (p : Nat) (s : State) : State :=
  let t := portOf s p
  if t.st == .caps && t.capsAck && t.capsSent then portActive p s else s

/-- A CAPS in CAPS: a differing width or rate fails the attempt. -/
def takeCaps (p : Nat) (m : Caps) (s : State) : State :=
  let t := portOf s p
  if t.st != .caps then s
  else if m.width ≠ t.widthUse ∨ m.rate ≠ t.rate then portFail p s
  else capsCheck p (setPort p { learnPeer s m t with capsGot := true, capsAck := t.capsAck || m.rcvd } s)

/-- CAPS (R293). -/
def execCaps (hdr : MsgHdr) (m : Caps) (s : State) : Host.Outcome State Fault Refusal :=
  run s (recvMsg hdr (.caps m) (takeCaps hdr.port m) s)

/-- CAPS_SEND (R293). -/
def execCapsSend (port : Nat) (s : State) : Host.Outcome State Fault Refusal :=
  let t := portOf s port
  run s (if t.st == .caps then
      capsCheck port (modPort port (fun x => { x with capsSent := x.capsSent || t.capsGot }) (sendHop port (.caps (ownCaps s port)) s))
    else s)

/-! ### Timers of bring-up (R292, R294, R296) -/

/-- Width that a spine port falls back to: the widest below the one in use whose lanes are all known. -/
def fallback (p : Nat) (t : Port) : Option Nat :=
  if 2 ≤ p then none else [1, 0].find? (fun w => decide (w < t.widthUse) && lanesReady t (laneCount w))

/-- PHASE_TIMEOUT (R292, R294). -/
def execPhaseTimeout (port : Nat) (s : State) : Host.Outcome State Fault Refusal :=
  let t := portOf s port
  run s (match t.st with
    | .train => (match fallback port t with | some w => setPort port (t.toLock w) s | none => portFail port s)
    | .lock | .caps => portFail port s
    | _ => s)

/-- BACKOFF_END (R294). -/
def execBackoffEnd (port : Nat) (s : State) : Host.Outcome State Fault Refusal :=
  let t := portOf s port
  run s (if t.backoff then portTry port (setPort port { t with backoff := false } s) else s)

/-- ABSENT_PROBE (R294): one attempt; where no lane shows a partner it is over at once. -/
def execAbsentProbe (port : Nat) (s : State) : Host.Outcome State Fault Refusal :=
  let t := portOf s port
  run s (if t.st == .absent && t.en && !t.down then
      (let s1 := emit (.leader port 0) s
       if laneSeen t then setPort port { t.toTrain with probing := true } s1 else s1)
    else s)

/-- PORT_HOLD_END (R296). -/
def execPortHoldEnd (port : Nat) (s : State) : Host.Outcome State Fault Refusal :=
  let t := portOf s port
  run s (if t.held then portTry port (setPort port { t with held := false, fails := 0, backoff := false } s) else s)

/-- RETURN_WIN_EXPIRY (R295): the adjacency of a port below ACTIVE is withdrawn; in IDLE the window does not run (R298). -/
def execReturnWinExpiry (port : Nat) (s : State) : Host.Outcome State Fault Refusal :=
  let t := portOf s port
  run s (if t.adj && t.st != .active && !(t.st == .idle && !t.exiting) then
      idleCheck s (reroute (lsaOriginate (setPort port { t with adj := false } s)))
    else s)

/-- REFRESH_TIMER (R297): a leader run of phase 4. -/
def execRefreshTimer (port : Nat) (s : State) : Host.Outcome State Fault Refusal :=
  run s (if (portOf s port).st == .active then emit (.leader port 4) (modPort port (pushRun 4) s) else s)

/-! ### Errors on a link (R285, R286, R295) -/

/-- FABRIC_MESSAGE_DROP (R286). -/
def execFabricMessageDrop (port : Nat) (s : State) : Host.Outcome State Fault Refusal :=
  let st := (portOf s port).st
  run s (if st == .active || st == .caps then symbolError port s else s)

/-- INVALID_BLOCK (R285, R286, R295): a block as the descrambler gives it, in error by its header or by its type. -/
def execInvalidBlock (port lane : Nat) (blk : BitVec 66) (s : State) : Host.Outcome State Fault Refusal :=
  run s (match blockErr blk with
    | some kind => if decide (8 ≤ port) || !lanePresent (portOf s port) lane then s else errBlock port lane kind s
    | none => s)

/-! ### IDLE (R298) -/

/-- IDLE_REQ (R298): answered and agreed, unless the port is below ACTIVE. -/
def execIdleReq (port : Nat) (s : State) : Host.Outcome State Fault Refusal :=
  run s (if (portOf s port).st == .active then enterIdle port (emit (.idleAck port) (modPort port (pushBlks [idleAckBlk]) s)) else s)

/-- IDLE_ACK (R298). -/
def execIdleAck (port : Nat) (s : State) : Host.Outcome State Fault Refusal :=
  run s (if (portOf s port).st == .active then enterIdle port s else s)

/-- A port that left IDLE without its partner's lock trains anew. -/
def idleLost (p : Nat) (s : State) : State :=
  completeWhere (fun w => w == .port p) stTimeout [] (setPort p (portOf s p).toTrain s)

/-- IDLE_EXIT (R298): an IDLE port that no other path makes up for starts to leave; one that is leaving is ACTIVE once both ends show
RX_LOCKED, and trains otherwise. -/
def execIdleExit (port : Nat) (s : State) : Host.Outcome State Fault Refusal :=
  let t := portOf s port
  run s (if t.st != .idle then s
    else if !t.exiting then
      (match t.peerAddr with
       | some a => if (peerOf s a).reach then s else idleLeave port s
       | none => idleLeave port s)
    else if t.lockRun ≠ 0 then portActive port s
    else idleLost port s)

/-! ### Going down (R299) -/

/-- PORT_SHUTDOWN_COMPLETE (R299): OFF; an enable that was deferred executes, unless the domain is being gated. -/
def execPortShutdownComplete (port : Nat) (s : State) : Host.Outcome State Fault Refusal :=
  let t := portOf s port
  run s (if !t.down then s
    else
      let s1 := portOff port s
      match t.deferred with
      | some (w, r) => if portGated s1 port then s1 else portEnable port w r s1
      | none => s1)

/-! ### PRBS test (R300) -/

/-- PRBS_INJECT (R300): one inverted bit, which one is not specified, in the next block of each selected lane; INJ then reads 0. -/
def execPrbsInject (port : Nat) (s : State) : Host.Outcome State Fault Refusal :=
  let t := portOf s port
  run s (if t.test && bitAt t.prbsCtl 7 then
      let (bit, s1) := pickFree s
      emit (.prbsError port (BitVec.ofNat 4 (fld t.prbsCtl 8 4))) (setPort port { t with
        prbsCtl := setFld t.prbsCtl 4 1 0
        inj := ((List.range 4).filter (fun l => bitAt t.prbsCtl (8 + l))).map (fun l => (l, bit)) } s1)
    else s)

/-- A checker takes `bits` bits, `errs` of them wrong. -/
def prbsStep (bits errs : Nat) (c : Prbs) : Prbs :=
  if c.lock then
    let b := c.bad + errs
    let c1 := { c with errs := Nat.min 0x7FFF (c.errs + errs) }
    if 64 ≤ b then { c1 with lock := false, run := 0, bits := 0, bad := 0 }
    else if 1024 ≤ c.bits + bits then { c1 with bits := 0, bad := 0 }
    else { c1 with bits := c.bits + bits, bad := b }
  else if errs ≠ 0 then { c with run := 0 }
  else if 1024 ≤ c.run + bits then { c with lock := true, run := 0, bits := 0, bad := 0 }
  else { c with run := c.run + bits }

/-- PRBS_CHECKER (R300). -/
def execPrbsChecker (port lane bits errs : Nat) (s : State) : Host.Outcome State Fault Refusal :=
  let t := portOf s port
  run s (if t.test && bitAt t.prbsCtl 6 && decide (lane < laneCount t.width) then
      setPort port { t with prbs := smMod .reset t.prbs lane (prbsStep bits errs) } s
    else s)

end Sys2Proof.Machine
end

