-- ==== Sys2Proof/Machine/Fabric.lean ====
section
/-!
DEFINITION. The fabric of engines (R301–R309): HELLOs, LSAs and routes, addresses, fabric time, forwarding.
-/
namespace Sys2Proof.Machine

/-! ### HELLO (R295, R301) -/

/-- The HELLO of a port. -/
def ownHello (s : State) (p : Nat) : Hello :=
  { id := s.fab.engineId, addr := s.fab.addr, cls := fabClass, port := p, unsync := s.fab.unsync, paired := s.fab.pair.partner.isSome }

/-- HELLO_SEND (R301). -/
def execHelloSend (port : Nat) (s : State) : Host.Outcome State Fault Refusal :=
  run s (if (portOf s port).st == .active then sendHop port (.hello (ownHello s port)) s else s)

/-- A HELLO tells the neighbour's identity; a new address or class changes adjacency and routes. -/
def takeHello (p : Nat) (m : Hello) (s : State) : State :=
  let t := portOf s p
  let s1 := setPort p { t with peerAddr := m.addr, peerId := m.id, peerClass := m.cls, peerUnsync := m.unsync } s
  if t.peerAddr = m.addr ∧ t.peerClass = m.cls then s1
  else if t.peerAddr = m.addr then reroute s1
  else lsaOriginate (idleCheck s (reroute s1))

/-- HELLO (R301). -/
def execHello (hdr : MsgHdr) (m : Sys2Proof.Hello) (s : State) : Host.Outcome State Fault Refusal :=
  run s (recvMsg hdr (.hello m) (takeHello hdr.port m) s)

/-- HELLO_LOSS (R295). -/
def execHelloLoss (port : Nat) (s : State) : Host.Outcome State Fault Refusal :=
  run s (if (portOf s port).st == .active then loseLock port s else s)

/-! ### LSAs and addresses (R303, R304) -/

/-- The LSA held from an originator. -/
def lsaOf (s : State) (id : W64) : Option Lsa := s.fab.lsdb.find? (fun l => l.id == id)

/-- The neighbour on a port is a MEMBER; one without an address by its class and key. -/
def memberPort (s : State) (p : Nat) : Bool :=
  nbrOk s p && (match (portOf s p).peerAddr with | some a => isMember s a | none => true)

/-- An LSA goes on to every MEMBER neighbour but the one it came from. -/
def floodLsa (from_ : Nat) (m : Lsa) (s : State) : State :=
  ((activePorts s).filter (fun p => p != from_ && memberPort s p)).foldl (fun t p => sendHop p (.lsa m) t) s

/-- Whether this engine gives up the address that an LSA claims too: the lower ENGINE_ID keeps it, and an engine that is paired or
homes a shared SA never gives it up. -/
def yieldsAddr (s : State) (m : Lsa) : Bool :=
  m.addr.isSome && m.addr == s.fab.addr && !keepsAddr s && (m.partner.isSome || decide (m.id.toNat < s.fab.engineId.toNat))

/-- An engine that found every address in use claims as soon as one is free. -/
def retryClaim (s : State) : State :=
  let free := (List.range 64).any (fun a => !s.fab.lsdb.any (fun l => l.addr == some a))
  if s.fab.addr.isNone && !s.fab.claiming && s.fab.engineId != 0 && !(activePorts s).isEmpty && free then claimAddr s else s

/-- What follows a change of the LSAs held. -/
def lsdbChanged (old s : State) : State := retryClaim (idleCheck old (reroute s))

/-- A newer LSA is held, acted on and forwarded. -/
def takeLsa (from_ : Nat) (m : Lsa) (s : State) : State :=
  let newer := match lsaOf s m.id with | some l => decide (l.seq < m.seq) | none => true
  if m.id == s.fab.engineId || !newer then s
  else
    let s1 := { s with fab := { s.fab with lsdb := m :: s.fab.lsdb.filter (fun l => l.id != m.id) } }
    let s2 := floodLsa from_ m (lsdbChanged s s1)
    leaseRehomed s (if yieldsAddr s2 m then claimAddr s2 else s2)

/-- LSA (R304). -/
def execLsa (hdr : MsgHdr) (m : Sys2Proof.Lsa) (s : State) : Host.Outcome State Fault Refusal :=
  run s (recvMsg hdr (.lsa m) (takeLsa hdr.port m) s)

/-- LSA_REFRESH (R304). -/
def execLsaRefresh (s : State) : Host.Outcome State Fault Refusal := run s (lsaOriginate s)

/-- LSA_AGE_OUT (R304). -/
def execLsaAgeOut (id : W64) (s : State) : Host.Outcome State Fault Refusal :=
  run s (if (lsaOf s id).isSome then
      leaseRehomed s (lsdbChanged s { s with fab := { s.fab with lsdb := s.fab.lsdb.filter (fun l => l.id != id) } })
    else s)

/-- ADDRESS_CLAIM (R303): the 200 µs of collection are over. -/
def execAddressClaim (s : State) : Host.Outcome State Fault Refusal :=
  run s (if s.fab.claiming then claimAddr s else s)

/-! ### Fabric time (R306–R309) -/

/-- The port toward the master. -/
def masterPort (s : State) : Option Nat :=
  match s.fab.masterAddr with
  | some a => if s.fab.master || !(peerOf s a).reach then none else some (peerOf s a).nextPort
  | none => none

/-- TIME_SYNC_TIMER (R308): the departure is stamped and TIME_REQ goes out. -/
def execTimeSyncTimer (s : State) : Host.Outcome State Fault Refusal :=
  run s (match masterPort s with
    | some p => if (portOf s p).st == .active then modPort p (fun t => { t with t1 := some (now s) }) (sendHop p .timeReq s) else s
    | none => s)

/-- TIME_REQ (R308): answered with its arrival and departure stamps and the own estimate. -/
def execTimeReq (hdr : MsgHdr) (t2 t3 : Nat) (s : State) : Host.Outcome State Fault Refusal :=
  run s (recvMsg hdr .timeReq (fun s => sendHop hdr.port (.timeResp t2 t3 s.fab.offset) s) s)

/-- 400 ppm of 5 ns, in 2^-32 ns. -/
def servoMax : Int := 8589934

/-- A rate within the servo's limit. -/
def servoClamp (r : Int) : Int := if servoMax < r then servoMax else if r < -servoMax then -servoMax else r

/-- The engine is UNSYNC from now on (R309). -/
def enterUnsync (s : State) : State :=
  if s.fab.unsync || s.fab.master then s
  else peerEvent (peerPort s s.fab.masterAddr) 5 s.fab.masterAddr { s with fab := { s.fab with unsync := true, good := 0 } }

/-- A sync gave an offset: the flag follows it (R309). -/
def syncFlag (o : Int) (s : State) : State :=
  if o < -500 ∨ 500 < o then (let s1 := enterUnsync s
                              { s1 with fab := { s1.fab with good := 0 } })
  else
    let g := Nat.min 4 (s.fab.good + 1)
    { s with fab := { s.fab with good := g, unsync := s.fab.unsync && decide (g < 4) } }

/-- The time and the rate follow the offset: an UNSYNC engine that lags steps, one that leads slews; else the servo (R308, R309). -/
def syncApply (o : Int) (s : State) : State :=
  if s.fab.unsync ∧ 0 < o then
    { s with time := s.time + BitVec.ofNat 64 o.toNat, servo := 0, fab := { s.fab with offset := 0 } }
  else if s.fab.unsync ∧ o < -500 then { s with servo := -servoMax, fab := { s.fab with offset := o } }
  else { s with servo := servoClamp (Config.servo o), fab := { s.fab with offset := o } }

/-- A successful sync (R308). -/
def takeSync (p t1 t2 t3 t4 : Nat) (offset : Int) (s : State) : State :=
  let o : Int := (((t2 : Int) - t1) - ((t4 : Int) - t3)) / 2 + offset
  let s1 := modPort p (fun t => { t with t1 := none }) { s with fab := { s.fab with syncs := (s.fab.syncs + 1) % 2 ^ 32 } }
  syncApply o (syncFlag o s1)

/-- TIME_RESP (R308): an answer to the request outstanding on the port toward the master. -/
def execTimeResp (hdr : MsgHdr) (t2 t3 : Nat) (offset : Int) (t4 : Nat) (s : State) : Host.Outcome State Fault Refusal :=
  run s (recvMsg hdr (.timeResp t2 t3 offset) (fun s =>
    match (portOf s hdr.port).t1 with
    | some t1 => if masterPort s == some hdr.port then takeSync hdr.port t1 t2 t3 t4 offset s else s
    | none => s) s)

/-- SYNC_LOSS_TIMEOUT (R309). -/
def execSyncLossTimeout (s : State) : Host.Outcome State Fault Refusal := run s (enterUnsync s)

/-! ### Forwarding (R286, R304) -/

/-- A routed message for another engine goes on along its route with its TTL reduced; without a route or at TTL 0 it is dropped. -/
def forwardMsg (h : MsgHdr) (m : FabMsg) (s : State) : State :=
  let p := (peerOf s h.dst).nextPort
  if h.ttl ≤ 1 ∨ !isMember s h.dst ∨ (portOf s p).st ≠ .active then bump 0x60 none s
  else sendFrom h.src p h.dst (h.ttl - 1) m s

/-- MESSAGE_FORWARD (R304): what comes from a QUARANTINED engine or with a bad MAC goes nowhere (R287, R305). -/
def execMessageForward (hdr : MsgHdr) (m : FabMsg) (s : State) : Host.Outcome State Fault Refusal :=
  run s (if (portOf s hdr.port).st != .active || msgIsHop m || hdr.hop || s.fab.addr == some hdr.dst then s
    else
      let s1 := telBump 0x1D8 1 none (quePass (8 + hdr.port) 1 s)
      if msgHasMac m && hdr.mac != msgMac s hdr m then bump 0x61 none s1
      else if fromQuarantine s hdr then s1
      else forwardMsg hdr m s1)

end Sys2Proof.Machine
end

