-- ==== Sys2Proof/Machine/Pair.lean ====
section
/-!
DEFINITION. Rows of the pair (R310–R318) and of shared cuts (R244, R319).
-/
namespace Sys2Proof.Machine

/-! ### Heartbeats and the digest (R310–R312) -/

/-- PAIR_HELLO (R310). -/
def execPairHello (hdr : MsgHdr) (m : PairHello) (s : State) : Host.Outcome State Fault Refusal :=
  run s (recvPartner hdr (.pairHello m) (fun _ t => helloOfPartner m t) s)

/-- What a PAIR_HB tells. -/
def takeHb (a : Nat) (m : PairHb) (s : State) : State :=
  let s1 := setPeer a { peerOf s a with unsync := m.unsync } s
  modPair (fun p => { p with peerEpoch := m.epoch, peerDigest := m.digest, peerDeg := m.deg, peerBatch := m.batch,
                             mismatch := m.digest != digestPrefix s }) s1

/-- PAIR_HB (R312). -/
def execPairHb (hdr : MsgHdr) (m : PairHb) (s : State) : Host.Outcome State Fault Refusal :=
  run s (recvPartner hdr (.pairHb m) (takeHb · m) s)

/-- The PAIR_HB of this engine. -/
def ownHb (s : State) : PairHb :=
  { epoch := s.fab.pair.epoch, digest := digestPrefix s, deg := s.glb.deg, unsync := s.fab.unsync, batch := s.fab.pair.batch }

/-- PAIR_HB_SEND (R310, R312): the heartbeat, and the PAIR_HELLO that lets a partner which has restarted form the pair. -/
def execPairHbSend (s : State) : Host.Outcome State Fault Refusal :=
  run s (match s.fab.pair.partner with
    | some a => sendPairHello (sendTo a (.pairHb (ownHb s)) s)
    | none => s)

/-- PARTNER_LOST (R312, R315, R316). -/
def execPartnerLost (s : State) : Host.Outcome State Fault Refusal := run s (partnerLost s)

/-- DIGEST_MISMATCH_TIMER (R311): the digests have differed, or matched, for 2 ms. -/
def execDigestMismatchTimer (s : State) : Host.Outcome State Fault Refusal :=
  let p := s.fab.pair
  let differ := digestPrefix s != p.peerDigest
  run s (if !(p.partner.isSome && p.formed) || p.split == differ then s
    else
      let s1 := modPair (fun p => { p with split := differ, mismatch := differ }) s
      if differ then partnerEvent 4 s1 else s1)

/-! ### Mirroring (R313, R314) -/

/-- `xs` in runs of at most `n`, `fuel` runs at most. -/
def chunks {α : Type} (n : Nat) : Nat → List α → List (List α)
  | 0, _ => []
  | k + 1, xs => if xs.isEmpty then [] else xs.take n :: chunks n k (xs.drop n)

/-- A record for every installed transmit SA. -/
def mirTxRecs (s : State) : List MirTx :=
  s.tx.filterMap (fun e => e.2.map (fun a =>
    { current := (secyOf s (saLink e.1)).any (fun y => y.curAn == e.1 % 4), valid := true, sa := e.1, link := saLink e.1,
      batch := s.fab.pair.batch, pn := a.pn % 2 ^ 64 }))

/-- A record for each of the first 2,048 receive SAs of the pair set. -/
def mirRxRecs (s : State) : List MirRx :=
  (s.rx.filterMap (fun e => match e.2, scOf s (e.1 / 4) with
    | some a, some c =>
      if s.fab.pair.set.contains c.link then
        (secyOf s c.link).map (fun y => { an := e.1 % 4, link := c.link, sci := c.sci, low := lowPn a (rxpWindow y.rxp) % 2 ^ 64 })
      else none
    | _, _ => none)).take 2048

/-- MIRROR_SEND (R313): a transmit batch every 100 µs, the receive records with every tenth. -/
def execMirrorSend (s : State) : Host.Outcome State Fault Refusal :=
  run s (match s.fab.pair.partner with
    | some a =>
      let n := (s.fab.pair.batch + 1) % 2 ^ 32
      let s1 := modPair (fun p => { p with batch := n }) s
      let s2 := (chunks 127 33 (mirTxRecs s1)).foldl (fun t rs => sendTo a (.mirrorTx rs) t) s1
      if n % 10 = 0 then (chunks 101 21 (mirRxRecs s2)).foldl (fun t rs => sendTo a (.mirrorRx rs) t) s2 else s2
    | none => s)

/-- MIRROR_TX (R313): the latest records are kept; the last message of a batch completes it. -/
def execMirrorTx (hdr : MsgHdr) (rs : List MirTx) (last : Bool) (s : State) : Host.Outcome State Fault Refusal :=
  run s (recvPartner hdr (.mirrorTx rs) (fun _ t =>
    let m := rs.foldl (fun m r => smSet 0 m (r.sa % 4096) (if r.valid then r.pn else 0)) t.svc.mirTx
    let t1 := { t with svc := { t.svc with mirTx := m } }
    if last then modPair (fun p => { p with mirAge := 0, peerBatch := match rs.head? with | some r => r.batch | none => p.peerBatch }) t1
    else t1) s)

/-- Key of a mirrored receive record. -/
def mirKey (r : MirRx) : Nat := (r.sci.toNat * 1024 + r.link) * 4 + r.an

/-- MIRROR_RX (R313). -/
def execMirrorRx (hdr : MsgHdr) (rs : List MirRx) (s : State) : Host.Outcome State Fault Refusal :=
  run s (recvPartner hdr (.mirrorRx rs) (fun _ t =>
    { t with svc := { t.svc with mirRx := rs.foldl (fun m r => smSet 0 m (mirKey r) r.low) t.svc.mirRx } }) s)

/-- MIRROR_QUERY (R314): 0 where this engine holds no record. -/
def execMirrorQuery (hdr : MsgHdr) (rs : List MirRx) (s : State) : Host.Outcome State Fault Refusal :=
  run s (recvPartner hdr (.mirrorQuery rs) (fun a t =>
    sendTo a (.mirrorReply (rs.map (fun r => { r with low := smGet 0 t.svc.mirRx (mirKey r) }))) t) s)

/-- MIRROR_REPLY (R314): taken while the query is unanswered. -/
def execMirrorReply (hdr : MsgHdr) (rs : List MirRx) (s : State) : Host.Outcome State Fault Refusal :=
  run s (recvPartner hdr (.mirrorReply rs) (fun _ t =>
    match t.cxm.job with
    | some j => if j.asking then primeNow { t with cxm := { t.cxm with job := some { j with asking := false, lows := rs } } } else t
    | none => t) s)

/-! ### Merging and steering (R317, R318) -/

/-- MARK_MERGE (R317). -/
def execMarkMerge (hdr : MsgHdr) (rs : List MarkRec) (last : Bool) (s : State) : Host.Outcome State Fault Refusal :=
  run s (recvPartner hdr (.markMerge rs last) (fun _ t => mergeTaken rs last t) s)

/-- MERGE_ACK (R317): at the engine that is not home. -/
def execMergeAck (hdr : MsgHdr) (s : State) : Host.Outcome State Fault Refusal :=
  run s (recvPartner hdr .mergeAck (fun _ t => if t.fab.pair.home then t else mergeAcked t) s)

/-- YIELD_NOTE (R318): the partner learns it; nothing of its state depends on it. -/
def execYieldNote (hdr : MsgHdr) (s : State) : Host.Outcome State Fault Refusal :=
  run s (recvPartner hdr .yieldNote (fun _ t => t) s)

/-! ### Shared cuts (R244, R319) -/

/-- CUT_OFFER (R244). -/
def execCutOffer (hdr : MsgHdr) (m : CutMsg) (s : State) : Host.Outcome State Fault Refusal :=
  run s (recvFrom hdr (.cutOffer m) (fun _ t => takeOffer hdr m t) s)

/-- An acknowledge of an offer: a command replies once all have come and its COMMITs are confirmed. -/
def offerAcked (a : Nat) (o : Offer) (s : State) : State :=
  let o1 : Offer := { o with acked := setAdd a o.acked }
  let all := o1.waiting.all (fun x => o1.acked.contains x)
  let keep := o.cmd.isSome || !all
  timedReply { s with fab := { s.fab with
    offers := if keep then s.fab.offers.map (fun x => if x == o then o1 else x) else s.fab.offers.filter (fun x => x != o) } }

/-- CUT_ACK at the home. -/
def takeAck (a : Nat) (m : CutMsg) (s : State) : State :=
  match s.fab.offers.find? (fun o => o.sa == m.sa && o.an == m.an && o.waiting.contains a) with
  | some o => if m.status = 0 then offerAcked a o s else offerFail o s
  | none => s

/-- CUT_ACK (R244). -/
def execCutAck (hdr : MsgHdr) (m : CutMsg) (s : State) : Host.Outcome State Fault Refusal :=
  run s (recvFrom hdr (.cutAck m) (fun a t => takeAck a m t) s)

/-- An INTENT under way no longer leads to the cut that its offer asked for. -/
def dropOffer (home l an : Nat) (w : JWork) : JWork :=
  match w.done with
  | .intent i sa cmd (some (h, _)) => if h = home ∧ saLink i = l ∧ i % 4 = an then { w with done := .intent i sa cmd none } else w
  | _ => w

/-- CUT_ABORT at an engine that was offered the cut. -/
def takeAbort (m : CutMsg) (s : State) : State :=
  match offerLink s m with
  | some l =>
    let f := dropOffer m.home l m.an
    let s1 := { s with jnl := { s.jnl with
      work := s.jnl.work.map f, wr := s.jnl.wr.map (fun w => { w with works := w.works.map f }) } }
    (match secyOf s1 l with
     | some y => if y.cutShared && y.cut != .none && y.cutAn == m.an then cutCancel l s1 else s1
     | none => s1)
  | none => s

/-- CUT_ABORT (R319): from the home of the SA. -/
def execCutAbort (hdr : MsgHdr) (m : CutMsg) (s : State) : Host.Outcome State Fault Refusal :=
  run s (recvFrom hdr (.cutAbort m) (fun a t => if a = m.home then takeAbort m t else t) s)

end Sys2Proof.Machine
end

