-- ==== Sys2Proof/Machine/Queue.lean ====
section
/-!
DEFINITION. Queue flushes and pointer mismatches (R360–R362, R364).
-/
namespace Sys2Proof.Machine

/-- The item that is being written into CTQ: the open frame that is tapped. -/
def tapOpen (s : State) : Option Frame :=
  match openFrame s .ing with
  | some f => if f.fate == .tapped && decide (64 ≤ f.bytes.length) then some f else none
  | none => none

/-- The item being written to a queue loses its words, now and as they arrive. -/
def cutWriting (q : Nat) (s : State) : Nat × State :=
  match tapOpen s with
  | some f => if q = 4 then (1, setFate .ing f .discard s) else (0, s)
  | none => (0, s)

/-- FLUSH of a queue: packet queues only; a queue whose domain is off is empty. -/
def flushQueue (q : Nat) (s : State) : State :=
  if !isPacketQue q || !pdIsOn s (queDomain q) then s
  else
    let (n, s1) := cutWriting q s
    let s2 := if n = 0 then s1 else raise .que 7 s1
    modQue q (queFlush (now s) n) s2

/-- QUEUE_FLUSH (R360): the CSR write of FLUSH with its response (R49). -/
def execQueueFlush (q : Nat) (s : State) : Host.Outcome State Fault Refusal :=
  run s (csrGate (fun t => if q < 24 then csrOkay (flushQueue q t) else csrNomap t) s)

/-- Event of a pointer mismatch, by the queue's class (R364). -/
def mismatchSource (q : Nat) : Nat := if q ≤ 1 then 0 else if q ≤ 3 then 1 else if q ≤ 5 then 2 else if q ≤ 7 then 3 else 4

/-- Frames of a direction that a reset of their buffer or sump loses: those that had started end with err = 1, the others leave as
empty entries in their turn (R361). -/
def loseFrames (d : Dir) (p : Frame → Bool) (s : State) : State :=
  let gone := (pathOf s d).frames.filter (fun f => !isDead f && p f)
  gone.foldl (fun t f =>
    let t1 := killFrame d f t
    setFate d f .discard { t1 with lne := { t1.lne with
      redo := t1.lne.redo.filter (fun r => !(r.dir == d && r.link == f.link && r.order == f.orderTag)) } }) s

/-- Commands that the command queue held: a host's completes with ABORTED, the service engine issues its own again, a peer resends
(R362). -/
def loseCommands (s : State) : State :=
  let lost := s.mci.cmdq.filter (fun c => !isSvc c.pkt.req)
  let s1 := lost.foldl (fun t c => match c.pkt.req with
    | .hq _ => fail c stAborted t
    | _ => { t with mci := { t.mci with cmdq := t.mci.cmdq.filter (fun x => x.id != c.id) } }) s
  let left := s1.mci.cmdq.length
  modQue 6 (fun v => { v with rd := 0, wr := left, cmt := left, dropped := satAdd 32 v.dropped lost.length }) s1

/-- Every pointer of a queue at 0. -/
def zeroPtrs (v : Que) : Que := { v with rd := 0, wr := 0, cmt := 0 }

/-- What a queue's reset makes of its contents. -/
def resetQueue (q : Nat) (s : State) : State :=
  let lostN := fun (d : Dir) (p : Frame → Bool) => ((pathOf s d).frames.filter (fun f => !isDead f && p f)).length
  let drop := fun (n : Nat) (t : State) => modQue q (fun v => { v with dropped := satAdd 32 v.dropped n }) t
  match q with
  | 0 => modQue 0 zeroPtrs (syncSump .ing (drop (lostN .ing (fun _ => true)) (loseFrames .ing (fun _ => true) s)))
  | 1 => modQue 1 zeroPtrs (syncSump .egr (drop (lostN .egr (fun _ => true)) (loseFrames .egr (fun _ => true) s)))
  | 2 => modQue 2 zeroPtrs (syncBuffer .egr (drop (lostN .egr inSump) (loseFrames .egr inSump s)))
  | 3 => modQue 3 zeroPtrs (syncBuffer .ing (drop (lostN .ing inSump) (loseFrames .ing inSump s)))
  | 6 => loseCommands s
  | 7 => modQue 7 zeroPtrs s
  | _ => let (n, s1) := cutWriting q s
         modQue q (fun v =>
           let w := queFlush (now s) n { v with wr := v.rd, cmt := v.rd }
           { w with rd := 0, wr := 1, cmt := 1 }) s1

/-- POINTER_MISMATCH (R362). -/
def execPointerMismatch (q : Nat) (s : State) : Host.Outcome State Fault Refusal :=
  run s (if decide (24 ≤ q) || !pdIsOn s (queDomain q) then s
    else modQue q (fun v => { v with mismatch := satAdd 16 v.mismatch 1 }) (resetQueue q (raise .que (mismatchSource q) s)))

end Sys2Proof.Machine
end

