-- ==== Sys2Proof/Machine/Service.lean ====
section
/-!
DEFINITION. The service engine's restart (R383), power domains gated by request (R25), check jobs (R388–R393), wraps of telemetry
counters (R398).
-/
namespace Sys2Proof.Machine

/-! ### The service engine (R383) -/

/-- A participant begins again, under a new member identifier. -/
def partAnew (l : Nat) (p : MkPart) (s : State) : MkPart × State :=
  let (mi, s1) := drawMi s
  (newPart p.ckn p.cak p.k256 mi (match secyOf s1 l with | some y => y.curAn | none => p.an), s1)

/-- Both participants of a link's CA begin again. -/
def caAnew (l : Nat) (s : State) : State :=
  let f := fun (o : Option MkPart) (t : State) =>
    match o with
    | some p => let (q, u) := partAnew l p t; (some q, u)
    | none => (none, t)
  let (a, s1) := f (caOf s l).first s
  let (b, s2) := f (caOf s1 l).second s1
  modCa l (fun c => { c with first := a, second := b, bounded := false }) s2

/-- Restarts within 10 s that stop the service engine. -/
def restartLimit (s : State) (stamps : List Nat) : Bool :=
  decide (3 ≤ (stamps.filter (fun t => decide (now s - t ≤ 10000000000))).length)

/-- The service engine restarts: commands in progress end, the duplicate caches and the mirror are empty. -/
def svcRestart (s : State) : State :=
  let stamps := stampAdd s.svc.restartStamps (now s)
  let s1 := abortAll stAborted (fun _ => true) s
  { s1 with
    mci := { s1.mci with dups := [], running := [], cmdq := [] }
    svc := { s1.svc with restarting := true, restartStamps := stamps, stopped := s1.svc.stopped || restartLimit s stamps,
                         mirTx := [], mirRx := [] } }

/-- SVC_RAM_UNCORRECTABLE (R383). -/
def execSvcRamUncorrectable (s : State) : Host.Outcome State Fault Refusal :=
  run s (if !pdIsOn s 2 then s else if s.svc.stopped then raise .svc 5 s else svcRestart (raise .svc 5 s))

/-- SVC_RESTART_DONE (R383): the CAs begin anew and agree again with their peers; a stopped engine does not come back. -/
def execSvcRestartDone (s : State) : Host.Outcome State Fault Refusal :=
  run s (if s.svc.restarting && !s.svc.stopped && !drbgFull s then
      let s1 := (smKeys s.svc.cas).foldl (fun t l => caAnew l t) { s with svc := { s.svc with restarting := false } }
      ((smKeys s1.svc.cas).filter (fun l => (caOf s1 l).enabled)).foldl (fun t l => mkaSend l t) s1
    else s)

/-! ### Domains gated by request (R25) -/

/-- A domain that may be gated, by its bit of OFF_REQ. -/
def reqDomain (i : Nat) : Nat := 52 + i

/-- Fabric ports of such a domain. -/
def domainPorts (i : Nat) : List Nat := if i = 0 then [0, 1, 2, 3] else if i = 1 then [4, 5, 6, 7] else []

/-- OFF_REQ of a domain has risen: an engine part that is on, or switching on, goes off; its ports are taken down first. -/
def gateBegin (i : Nat) (s : State) : State :=
  if pdIsOn s (reqDomain i) || s.glb.ramping.contains (reqDomain i) then
    (domainPorts i).foldl (fun t p => portDown p (modPort p (fun x => { x with deferred := none }) t))
      { s with glb := { s.glb with gating := s.glb.gating ||| BitVec.ofNat 4 (2 ^ i) } }
  else s

/-- OFF_REQ has fallen: a domain that is off switches on again; one that is being gated completes that first. -/
def gateEnd (i : Nat) (s : State) : State :=
  if s.glb.gating.getLsbD i || pdIsOn s (reqDomain i) || s.glb.ramping.contains (reqDomain i) || !s.glb.fwOk then s
  else { s with glb := { s.glb with ramping := s.glb.ramping ++ [reqDomain i] } }

/-- A write of OFF_REQ. -/
def pdRequest (data : W64) (s : State) : State :=
  let new : BitVec 4 := data.extractLsb' 0 4
  let old := s.glb.pdReq
  (List.range 4).foldl (fun t i =>
    if new.getLsbD i && !old.getLsbD i then (if t.glb.gating.getLsbD i then t else gateBegin i t)
    else if !new.getLsbD i && old.getLsbD i then gateEnd i t else t)
    { s with glb := { s.glb with pdReq := new } }

/-- PD_GATE_REQUEST (R25). -/
def execPdGateRequest (data : W64) (s : State) : Host.Outcome State Fault Refusal :=
  run s (csrGate (fun t => csrOkay (pdRequest data t)) s)

/-- No unit of the domain works. -/
def domainIdle (i : Nat) (s : State) : Bool :=
  (domainPorts i).all (fun p => (portOf s p).st == .off) &&
    (i != 2 || (List.range 4).all (fun k => (chkOf s k).st != .running && (chkOf s k).st != .stopping))

/-- What a domain that is switched off loses: its queues' contents, its ports' counters, the check programs (R22, R361, R393). -/
def domainLost (i : Nat) (s : State) : State :=
  let qs := (List.range 24).filter (fun q => queDomain q == reqDomain i)
  let s1 := qs.foldl (fun t q => modQue q queOff t) s
  let s2 := (domainPorts i).foldl (fun t p => modPort p (fun x => { x with symErr := 0, retrains := 0, prbs := [] }) t) s1
  if i = 2 then { s2 with chk := [] } else s2

/-- A gated domain is off; a request withdrawn meanwhile switches it on again. -/
def gateDone (i : Nat) (s : State) : State :=
  let s1 := domainLost i (pdClear (reqDomain i) { s with glb := { s.glb with
    gating := s.glb.gating &&& ~~~BitVec.ofNat 4 (2 ^ i), ramping := s.glb.ramping.filter (· != reqDomain i) } })
  if s1.glb.pdReq.getLsbD i then s1 else { s1 with glb := { s1.glb with ramping := s1.glb.ramping ++ [reqDomain i] } }

/-- PD_GATE_COMPLETE (R25). -/
def execPdGateComplete (pd : Nat) (s : State) : Host.Outcome State Fault Refusal :=
  run s (if 52 ≤ pd ∧ pd < 56 ∧ s.glb.gating.getLsbD (pd - 52) = true ∧ domainIdle (pd - 52) s = true then gateDone (pd - 52) s else s)

/-! ### Check jobs (R388–R393) -/

/-- Outcome of a job (R388, R389). -/
def chkOutcome (p : ChkProg) (crc : W64) (fail refDamaged : Bool) : Nat :=
  if fail then 4
  else if !p.useRef then 0
  else if refDamaged then 3
  else if crc == p.reference then 1 else 2

/-- The CRC over a job's bytes (R387). -/
def chkCrc (p : ChkProg) (data : List Byte) : W64 := if p.alg64 then crc64 data else (crc32c data).setWidth 64

/-- Event of an outcome: source k + 4j (R376). -/
def chkSource (k outcome : Nat) : Nat := k + 4 * (if outcome ≤ 1 then 0 else outcome - 1)

/-- The state after a job (R390); a domain that is being gated starts nothing more. -/
def chkAfter (gating : Bool) (p : ChkProg) (c : Chk) : Chk :=
  if gating then { c with st := .idle, prog := none, deferred := none }
  else if c.st == .running && p.dailies then { c with st := .waiting }
  else chkIdle c

/-- CHK_JOB_END (R386, R389–R391). On context memory, cistern and journal the job ends once its reads have brought every byte of the range,
or a unit that failed; what the command says of a cistern word that cannot be corrected ends it too. On the service memories, whose
contents lie outside the model, the command brings the bytes. -/
def execChkJobEnd (k : Nat) (data : List Byte) (fail : Bool) (refDamaged : Bool) (s : State) : Host.Outcome State Fault Refusal :=
  let c := chkOf s k
  run s (match c.prog with
    | some p =>
      let bytes := if p.region ≤ 2 then c.buf else data
      let bad := if p.region ≤ 2 then c.err || (p.region == 1 && fail) else fail
      if decide (k < 4) && (c.st == .running || c.st == .stopping) && !c.paused
        && (bad && decide (bytes.length < p.len) || bytes.length == p.len) then
        let crc := chkCrc p bytes
        let o := chkOutcome p crc bad refDamaged
        let c1 := { c with outcome := o, crc := crc, scanned := bytes.length, alive := (c.alive + 1) % 65536, unit := [], buf := [], err := false }
        raise .chk (chkSource k o) (setChk k (chkAfter (s.glb.gating.getLsbD 2) p c1) s)
      else s
    | none => s)

/-- DAILIES_START (R392, R393): a start instant that falls in a run, or in DOZE for the regions that DOZE stops, is skipped. -/
def execDailiesStart (k : Nat) (s : State) : Host.Outcome State Fault Refusal :=
  let c := chkOf s k
  run s (match c.prog with
    | some p =>
      if decide (k < 4) && p.dailies then
        if c.st == .running || (c.st == .waiting && s.glb.mode == .doze && decide (p.region < 2)) then
          setChk k { c with skipped := satAdd 16 c.skipped 1 } s
        else if c.st == .waiting then setChk k (chkGo p c) s
        else s
      else s
    | none => s)

/-! ### Wraps (R398) -/

/-- WRAP_SAMPLE (R398): the event, and the record unless one is held. -/
def execWrapSample (i link : Nat) (s : State) : Host.Outcome State Fault Refusal :=
  run s (if telOn s && s.tel.wrapPend.contains i then
      let s1 := raise .tel 0 { s with tel := { s.tel with wrapPend := s.tel.wrapPend.filter (· != i) } }
      if bitAt s1.tel.wrapLog 63 then { s1 with tel := { s1.tel with wrapLog := s1.tel.wrapLog ||| putB true 61 } }
      else
        let bound := linkBound (fld (smGet 0 s1.tel.cfg i) 0 9)
        { s1 with tel := { s1.tel with
            wrapLog := putB true 63 ||| putB bound 62 ||| put (if bound then link else 0) 16 10 ||| put i 0 8
            wrapTime := s1.time } }
    else s)

end Sys2Proof.Machine
end

