-- ==== Sys2Proof/Machine/Events.lean ====
section
/-!
DEFINITION. Escalation (R373, R378, R379).
-/
namespace Sys2Proof.Machine

/-- Sources that qualify now and whose severity has action `a`. -/
def escSources (s : State) (u : Sub) (a : Nat) : BitVec 72 :=
  let e := s.evt.get u
  (bitsOf (e.qualifying u)).foldl (fun m i => if e.action (e.sevOf i) = a then m ||| (1 <<< i) else m) 0

/-! Action 1. -/

/-- A lane taken out as R168 does, never below 15 in service (R170). -/
def laneForced (i : Nat) (s : State) : State :=
  let l := laneOf s i
  match l.st with
  | .inService => if l.held || (serving s (laneDir i) ≤ 15 && (warmOf s (laneDir i)).isNone) then s else laneLeave i s
  | .off | .warm =>
    (match l.ramping with
     | some true => spareForService (laneDir i) (laneRetire i s)
     | some false => spareToWarm (laneDir i) (laneRetire i s)
     | none => laneRetire i s)
  | .retired => s

/-- An unwrap engine out of service (R215). -/
def unwrapOut (n : Nat) (s : State) : State := setDeg 2 { s with vlt := { s.vlt with unwOos := setAdd n s.vlt.unwOos } }

/-- Retire the units of a set's sources. -/
def escRetire (u : Sub) (src : BitVec 72) (s : State) : State :=
  let units := fun (m : BitVec 72) => (s.evt.get u).unitsOf (src &&& m)
  match u with
  | .vlt => (units 0x30).foldl (fun t n => unwrapOut n t) s
  | .cis => ((units 0xB).filter (fun p => !s.cis.retired.getLsbD p)).foldl (fun t p => retirePair p t) s
  | .lne => (setUnion ((bitsOf src).map (· % 36)) []).foldl (fun t i => laneForced i t) s
  | .fab => (setUnion ((bitsOf src).map (· / 4)) []).foldl (fun t p => portDown p t) s
  | .aon | .mci | .svc | .egr | .ing | .cxm | .jnl | .chk | .tel | .que => s

/-! Actions 2 to 4. -/

/-- Every SecY of the affected set that is ON is disabled. -/
def escDiscard (u : Sub) (s : State) : State :=
  ((s.evt.get u).aff.filter (fun l => match secyOf s l with | some y => y.st == .on | none => false)).foldl (fun t l => secyStop l t) s

/-- The DEGRADED cause of a set's sources. -/
def escDegrade (u : Sub) (src : BitVec 72) (s : State) : State :=
  let when := fun (m : BitVec 72) (b : Nat) (t : State) => if src &&& m != 0 then setDeg b t else t
  match u with
  | .vlt => when 0xC0 7 (when 0x38 2 s)
  | .cis => setDeg 3 s
  | .lne => when 0xFFFFC0000FFFFC0000 1 (when 0x00003FFFF00003FFFF 0 s)
  | .cxm => let s1 := setDeg 4 { s with cxm := { s.cxm with oos := true } }
            if s.cxm.oos then s1 else portLost s1
  | .jnl => refuseWork (setDeg 6 s)
  | .aon | .mci | .svc | .egr | .ing | .fab | .chk | .tel | .que => s

/-- One action. -/
def escApply (u : Sub) (a : Nat) (src : BitVec 72) (s : State) : State :=
  match a with
  | 1 => escRetire u src s
  | 2 => escDiscard u s
  | 3 => escDegrade u src s
  | _ => lockout 7 false s

/-- The actions that the timer's expiry applies. -/
def escDue (s : State) (u : Sub) : List Nat := [1, 2, 3, 4].filter (fun a => escSources s u a != 0)

/-- STATE fired, LAST the highest action. -/
def EvSet.fired (last : Option Nat) (e : EvSet) : EvSet :=
  { e with escState := .fired, escRemain := 0, escAct := match last with | some a => setFld e.escAct 16 3 a | none => e.escAct }

/-- ESCALATION_EXPIRY (R378): the actions that the severities held now ask for, in ascending order; no timer runs in LOCKOUT. -/
def execEscalationExpiry (sub : Nat) (s : State) : Host.Outcome State Fault Refusal :=
  run s (match subAt sub with
    | some u =>
      if (s.evt.get u).escState == .running && s.glb.mode != .lockout then
        let s1 := (escDue s u).foldl (fun t a => escApply u a (escSources s u a) t) s
        { s1 with evt := s1.evt.put u ((s1.evt.get u).fired (escDue s u).getLast?) }
      else s
    | none => s)

end Sys2Proof.Machine
end

