-- ==== Sys2Proof/Machine/Regs.lean ====
section
/-!
DEFINITION. Writes and clearing reads of the CSR window (R8, R49–R51, R404–R411), with the field limits of each register's
chapter.
-/
namespace Sys2Proof.Machine

/-! ### Fields -/

/-- A field of `n` bits at `lo` taken from the word written, where its value is allowed. -/
def takeF (lo n : Nat) (good : Nat → Bool) (new old : W64) : W64 := if good (fld new lo n) then blend (ones lo n) old new else old

/-- Any value; any but 0; a range. -/
def anyV (_ : Nat) : Bool := true
def nonZero (v : Nat) : Bool := v != 0
def inRange (a b v : Nat) : Bool := decide (a ≤ v) && decide (v ≤ b)

/-- LIMIT and WINDOW of a retry register (R381). -/
def writeRetry (new old : W64) : W64 := takeF 16 16 nonZero new (takeF 0 4 nonZero new old)

/-! ### The event sets (R369, R370, R374) -/

/-- Word `w` of 72 source bits replaced. -/
def putSrc (m : BitVec 72) (w : Nat) (v : W64) : BitVec 72 :=
  (m &&& ~~~BitVec.ofNat 72 ((2 ^ 64 - 1) <<< (64 * w))) ||| BitVec.ofNat 72 (v.toNat <<< (64 * w))

/-- Word `w` of the severities replaced. -/
def putSev (u : Sub) (m : BitVec 144) (w : Nat) (v : W64) : BitVec 144 :=
  ((m &&& ~~~BitVec.ofNat 144 ((2 ^ 64 - 1) <<< (64 * w))) ||| BitVec.ofNat 144 (v.toNat <<< (64 * w))) &&& sevMask u

/-- A set changed. -/
def modEvt (u : Sub) (f : EvSet → EvSet) (s : State) : State := { s with evt := s.evt.put u (f (s.evt.get u)) }

/-- A W1C write of STAT, a W1S write of FORCE, a W1C write of VALID: the set's cycle at the end of the step judges them. -/
def clearStat (u : Sub) (w : Nat) (v : W64) (s : State) : State := modEvt u (fun e => { e with clr := e.clr ||| putSrc 0 w v }) s
def forceEvt (u : Sub) (w : Nat) (v : W64) (s : State) : State := modEvt u (fun e => { e with pendForced := e.pendForced ||| putSrc 0 w v }) s
def clearFirst (u : Sub) (v : W64) (s : State) : State := modEvt u (fun e => { e with clrFirst := e.clrFirst || bitAt v 63 }) s

/-- Actions that a subsystem has, beside 0 (R378). -/
def Sub.actions : Sub → List Nat
  | .aon | .mci | .svc | .chk | .tel | .que => [4]
  | .vlt | .cis => [1, 2, 3, 4]
  | .egr | .ing => [2, 4]
  | .lne => [1, 3, 4]
  | .cxm => [2, 3, 4]
  | .jnl => [3, 4]
  | .fab => [1, 2, 4]

/-- Every action field carries a code that the subsystem has. -/
def actionsOk (u : Sub) (v : W64) : Bool := [0, 4, 8, 12].all (fun lo => fld v lo 3 == 0 || u.actions.contains (fld v lo 3))

/-- A write to a register of an event set. -/
def writeEvt (u : Sub) (off : Nat) (v : W64) (s : State) : State :=
  match off with
  | 0x00 => clearStat u 0 v s | 0x08 => clearStat u 1 v s
  | 0x20 => modEvt u (fun e => { e with mask := putSrc e.mask 0 v &&& u.defined }) s
  | 0x28 => modEvt u (fun e => { e with mask := putSrc e.mask 1 v &&& u.defined }) s
  | 0x30 => forceEvt u 0 v s | 0x38 => forceEvt u 1 v s
  | 0x40 => modEvt u (fun e => { e with sev := putSev u e.sev 0 v }) s
  | 0x48 => modEvt u (fun e => { e with sev := putSev u e.sev 1 v }) s
  | 0x50 => modEvt u (fun e => { e with sev := putSev u e.sev 2 v }) s
  | 0x58 => clearFirst u v s
  | 0x60 => modEvt u (fun e => { e with escTime := if inRange 1 16000 (fld v 0 14) then fld v 0 14 else e.escTime }) s
  | 0x68 => if actionsOk u v then modEvt u (fun e => { e with escAct := blend 0x8000000000007777 e.escAct v }) s else s
  | _ => s

/-! ### Each subsystem's registers -/

def writeGlb (off : Nat) (v : W64) (s : State) : State :=
  match off with
  | 0x030 => { s with glb := { s.glb with pinSev := blend 0x103 s.glb.pinSev v } }
  | 0x108 => pdRequest v s
  | 0x110 => if inRange 1 8 (fld v 0 4) then { s with glb := { s.glb with rampMax := fld v 0 4 } } else s
  | _ => s

def writeAon (off : Nat) (v : W64) (s : State) : State :=
  match off with
  | 0x18 => tmpClear v s
  | 0x30 => { s with aon := { s.aon with wakeCfg := v &&& 7 } }
  | 0x38 => { s with aon := { s.aon with wakeTime := v } }
  | _ => s

def writeMci (off : Nat) (v : W64) (s : State) : State :=
  if off = 0x10 then { s with mci := { s.mci with cfg := takeF 32 16 nonZero v (blend 0x10F s.mci.cfg v) } } else s

/-- SVC_MKA_CFG (R346). -/
def writeSvc (off : Nat) (v : W64) (s : State) : State :=
  if off = 0x10 then
    let c := takeF 48 16 nonZero v (takeF 0 4 (fun x => x % 2 == 1) v (blend (ones 40 8 ||| ones 16 16) s.svc.mkaCfg v))
    { s with svc := { s.svc with mkaCfg := c } }
  else s

def writeVlt (off : Nat) (v : W64) (s : State) : State :=
  match off with
  | 0x10 => { s with vlt := { s.vlt with cfg := v &&& 1 } }
  | 0x18 => { s with vlt := { s.vlt with remaskPeriod := v &&& 0xFFFF } }
  | 0x28 => { s with vlt := { s.vlt with entCfg := takeF 0 8 (inRange 1 128) v (blend (ones 48 16 ||| ones 32 8) s.vlt.entCfg v) } }
  | 0x40 => { s with vlt := { s.vlt with retryCfg := writeRetry v s.vlt.retryCfg } }
  | _ => s

def writeCis (off : Nat) (v : W64) (s : State) : State :=
  if off = 0x18 then { s with cis := { s.cis with retryCfg := writeRetry v s.cis.retryCfg } } else s

/-- SHED_HI and SHED_LO: a word with SHED_LO not below SHED_HI is ignored (R121, R148). -/
def writeShed (v old : W64) : W64 := if fld v 0 16 < fld v 16 16 then v &&& 0xFFFFFFFF else old

def writeEgr (off : Nat) (v : W64) (s : State) : State :=
  match off with
  | 0x18 => { s with ecfg := { s.ecfg with tpid := v &&& 0xFFFFFFFFFFFF } }
  | 0x20 => { s with egr := { s.egr with shedCfg := writeShed v s.egr.shedCfg } }
  | 0x30 => { s with ecfg := { s.ecfg with cutCfg := takeF 16 16 nonZero v (takeF 0 16 nonZero v s.ecfg.cutCfg) } }
  | _ => s

def writeIng (off : Nat) (v : W64) (s : State) : State :=
  if off = 0x20 then { s with ing := { s.ing with shedCfg := writeShed v s.ing.shedCfg } } else s

def writeLne (off : Nat) (v : W64) (s : State) : State :=
  if off = 0x10 then { s with lne := { s.lne with retryCfg := writeRetry v (takeF 32 1 anyV v s.lne.retryCfg) } } else s

/-- CXM_REGION.BASE is written in COLD alone (R265, R407). -/
def writeCxm (off : Nat) (v : W64) (s : State) : State :=
  match off with
  | 0x10 =>
    let c := takeF 48 16 nonZero v (takeF 32 16 nonZero v (takeF 16 6 (inRange 1 32) v (takeF 8 8 (inRange 1 128) v s.cxm.portCfg)))
    { s with cxm := { s.cxm with portCfg := c } }
  | 0x20 => if s.glb.mode == .cold then moveRegion (v &&& ones 24 16) s else s
  | 0x30 => if 8 ≤ fld v 0 16 then { s with cxm := { s.cxm with interval := fld v 0 16 } } else s
  | 0x38 => { s with cxm := { s.cxm with retryCfg := writeRetry v s.cxm.retryCfg } }
  | _ => s

def writeJnl (off : Nat) (v : W64) (s : State) : State :=
  match off with
  | 0x10 =>
    let c := takeF 48 16 nonZero v (takeF 32 16 nonZero v (takeF 0 4 (inRange 1 8) v s.jnl.portCfg))
    { s with jnl := { s.jnl with portCfg := c } }
  | 0x20 => if inRange 1024 (2 ^ 32) (fld v 0 33) then { s with jnl := { s.jnl with endurance := v &&& ones 0 33 } } else s
  | 0x30 => if fld v 48 16 = 0 then s else { s with jnl := { s.jnl with resend := fld v 48 16 } }
  | 0x38 => { s with jnl := { s.jnl with rekey := v } }
  | 0x40 => { s with jnl := { s.jnl with retryCfg := writeRetry v s.jnl.retryCfg } }
  | _ => s

/-- FAB_CFG: HB_LOSS is held against the HB_PERIOD that the same write leaves. -/
def writeFabCfg (v old : W64) : W64 :=
  let c := takeF 8 8 nonZero v (takeF 32 8 (inRange 1 63) v (takeF 40 2 anyV v old))
  takeF 16 16 (fun x => decide (3 * fld c 8 8 ≤ x)) v c

/-- FAB_TRAIN_CFG: BACKOFF_MAX is held against the BACKOFF_MIN that the same write leaves. -/
def writeTrain (v old : W64) : W64 :=
  let c := [(56, 8), (48, 8), (36, 4), (24, 8), (16, 8), (0, 8)].foldl (fun c f => takeF f.1 f.2 nonZero v c) old
  takeF 40 8 (fun x => decide (fld c 48 8 ≤ x)) v (takeF 8 8 anyV v c)

/-- FAB_PRBS_CTL of a port: a 1 sets INJ, unless the port's domain is off (R8, R51, R300). -/
def writePrbs (p : Nat) (v : W64) (s : State) : State :=
  let t := portOf s p
  setPort p { t with prbsCtl := blend 0xFEF t.prbsCtl v ||| putB (bitAt v 4 && pdIsOn s (portDomain p)) 4 } s

def writeFab (off : Nat) (v : W64) (s : State) : State :=
  match off with
  | 0x10 => { s with fab := { s.fab with cfg := writeFabCfg v s.fab.cfg } }
  | 0x18 => { s with fab := { s.fab with trainCfg := writeTrain v s.fab.trainCfg } }
  | 0x20 => { s with fab := { s.fab with retryCfg := takeF 32 16 nonZero v (writeRetry v s.fab.retryCfg) } }
  | _ => match instAt 0x110 0x20 8 off with | some p => writePrbs p v s | none => s

def writeChk (off : Nat) (v : W64) (s : State) : State :=
  if off = 0x10 ∧ inRange 1 64 (fld v 0 7) = true then { s with chkCfg := v &&& 0x7F } else s

/-- TEL_CNT: COUNT is written, OVF cleared by a 1; nothing while PD55 is off (R51, R397). -/
def writeTelCnt (i : Nat) (v : W64) (s : State) : State :=
  if telOn s then
    { s with tel := { s.tel with cnt := smMod 0 s.tel.cnt i (fun old => put (fld v 0 48) 0 48 ||| putB (bitAt old 63 && !bitAt v 63) 63) } }
  else s

/-- TEL_WRAP_LOG: VALID clears the record. -/
def clearWrapLog (v : W64) (s : State) : State :=
  if telOn s && bitAt v 63 then { s with tel := { s.tel with wrapLog := 0, wrapTime := 0 } } else s

def writeTel (off : Nat) (v : W64) (s : State) : State :=
  match off with
  | 0x10 => { s with tel := { s.tel with userEn := bitAt v 0 } }
  | 0x20 => clearWrapLog v s
  | _ =>
    match instAt 0x1000 8 256 off, instAt 0x2000 8 256 off with
    | some i, _ => { s with tel := { s.tel with cfg := smSet 0 s.tel.cfg i (v &&& 0xE000000003FF01FF) } }
    | none, some i => writeTelCnt i v s
    | none, none => s

/-- QUE_CTL: FLUSH (R360). -/
def writeQue (off : Nat) (v : W64) (s : State) : State :=
  match instAt 0x1010 0x40 24 off with
  | some q => if bitAt v 0 then flushQueue q s else s
  | none => s

/-- A write to the register at a span and offset. -/
def putReg (span off : Nat) (v : W64) (s : State) : State :=
  if 0xF000 ≤ off ∧ off ≤ 0xF070 then
    (match subAt (span - 1) with
     | some u => if span = 0 then s else writeEvt u (off - 0xF000) v s
     | none => s)
  else
    match span with
    | 0 => writeGlb off v s | 1 => writeAon off v s | 2 => writeMci off v s | 3 => writeSvc off v s | 4 => writeVlt off v s
    | 5 => writeCis off v s | 6 => writeEgr off v s | 7 => writeIng off v s | 8 => writeLne off v s | 9 => writeCxm off v s
    | 10 => writeJnl off v s | 11 => writeFab off v s | 12 => writeChk off v s | 13 => writeTel off v s | _ => writeQue off v s

/-! ### Privilege and lock (R407, R408) -/

/-- A write that always needs privilege. -/
def writePriv (span off : Nat) : Bool :=
  (span != 0 && (off == 0xF030 || off == 0xF038)) || (span == 1 && off == 0x18) || (span == 13 && decide (off < 0xF000))

/-- Registers with an RWL field, by span. -/
def rwlOffs (span : Nat) : List Nat :=
  match span with
  | 0 => [0x30] | 2 => [0x10] | 3 => [0x10] | 4 => [0x10, 0x28, 0x40] | 5 => [0x18] | 6 => [0x18, 0x30] | 8 => [0x10]
  | 9 => [0x10, 0x20, 0x38] | 10 => [0x10, 0x20, 0x30, 0x38, 0x40] | 11 => [0x10, 0x18, 0x20] | 12 => [0x10] | 13 => [0x10]
  | _ => []

def hasRwl (span off : Nat) : Bool :=
  (rwlOffs span).contains off || (span != 0 && [0xF040, 0xF048, 0xF050, 0xF060, 0xF068].contains off)

/-- A write refused under the lock is counted. -/
def lockDenied (s : State) : State := csrPriv { s with glb := { s.glb with denied := satAdd 16 s.glb.denied 1 } }

/-- A write to the slots, the doorbell or the release register of a host queue (R325). -/
def writeHq (off : Nat) (v : W64) (priv : Bool) (s : State) : State :=
  match instAt 0x100 0x20 4 off, instAt 0x110 0x20 4 off, slotAddr off with
  | some n, _, _ => ringBell n (fld v 0 3) priv s
  | none, some n, _ => releaseSlots n (BitVec.ofNat 8 (fld v 0 8)) priv s
  | none, none, some (reply, n, k, w) =>
    if !reply then slotWrite n k w v priv s
    else if !priv && privOnly s n then csrPriv s else csrOkay s
  | none, none, none => csrNomap s

/-- A CSR write and its answer. -/
def csrWrite (addr : Nat) (v : W64) (priv : Bool) (s : State) : State :=
  let so := spanOf (addr % 0x400000 / 8 * 8)
  if blockedAt s so.1 so.2 then csrBlocked s
  else if (regAt s so.1 so.2).isNone then csrNomap s
  else if so.1 = 2 ∧ (hqAt so.2).isSome = true then writeHq so.2 v priv s
  else if !priv && writePriv so.1 so.2 then csrPriv s
  else if !priv && s.glb.locked && hasRwl so.1 so.2 then lockDenied s
  else csrOkay (putReg so.1 so.2 v s)

/-! ### Clearing reads (R8) -/

/-- What a read of a register with RC fields clears. -/
def readClears (span off : Nat) (s : State) : State :=
  match span with
  | 0 => if off = 0x40 then { s with glb := { s.glb with denied := 0 } } else s
  | 4 => if off = 0x30 then { s with vlt := { s.vlt with failCnt := 0 } } else s
  | 6 => if off = 0x38 then { s with ecfg := { s.ecfg with abandoned := 0 } } else s
  | 7 => if off = 0x30 then { s with sct := { s.sct with relocHw := 0 } } else s
  | 9 => if off = 0x18 then { s with cxm := { s.cxm with tmoCnt := 0, errCnt := 0 } } else s
  | 10 => if off = 0x18 then { s with jnl := { s.jnl with wrLat := 0, tmoCnt := 0, errCnt := 0 } } else s
  | 11 =>
    (match instAt 0x108 0x20 8 off, instAt 0x118 0x20 8 off with
     | some p, _ => modPort p (fun t => { t with retrains := 0, symErr := 0 }) s
     | none, some p => modPort p (fun t => { t with prbs := (List.range 4).foldl (fun m l =>
         smMod Prbs.reset m l (fun e => { e with errs := 0 })) t.prbs }) s
     | none, none => s)
  | 12 => (match instAt 0x100 0x20 4 off with | some k => setChk k { chkOf s k with skipped := 0 } s | none => s)
  | 14 =>
    (match instAt 0x1008 0x40 24 off, instAt 0x1018 0x40 24 off with
     | some q, _ => modQue q (fun e => { e with hw := queCount e }) s
     | none, some q => modQue q (fun e => { e with mismatch := 0, splices := 0, dropped := 0 }) s
     | none, none => s)
  | _ => s

/-- A CSR read: the answer, then what it clears. -/
def csrReadClear (addr : Nat) (priv : Bool) (s : State) : State :=
  let r := csrRead s addr priv
  let so := spanOf (addr % 0x400000 / 8 * 8)
  emit (.csr r.1 r.2) (if r.1 == 0 then readClears so.1 so.2 s else s)

/-! ### The rows -/

/-- REGISTER_WRITE (R8, R407, R408). -/
def execRegisterWrite (addr : Nat) (data : W64) (priv : Bool) (s : State) : Host.Outcome State Fault Refusal :=
  run s (csrGate (csrWrite addr data priv) s)

/-- READ_CLEAR (R8). -/
def execReadClear (addr : Nat) (priv : Bool) (s : State) : Host.Outcome State Fault Refusal := run s (csrGate (csrReadClear addr priv) s)

/-- EVT_STAT_CLEAR (R370). -/
def execEvtStatClear (sub w : Nat) (data : W64) (s : State) : Host.Outcome State Fault Refusal :=
  run s (csrGate (fun t => match subAt sub with
    | some u => if w < 2 then csrOkay (clearStat u w data t) else csrNomap t
    | none => csrNomap t) s)

/-- EVT_FORCE (R372). -/
def execEvtForce (sub w : Nat) (data : W64) (priv : Bool) (s : State) : Host.Outcome State Fault Refusal :=
  run s (csrGate (fun t => match subAt sub with
    | some u => if 2 ≤ w then csrNomap t else if priv then csrOkay (forceEvt u w data t) else csrPriv t
    | none => csrNomap t) s)

/-- FIRST_CLEAR (R374). -/
def execFirstClear (sub : Nat) (data : W64) (s : State) : Host.Outcome State Fault Refusal :=
  run s (csrGate (fun t => match subAt sub with
    | some u => csrOkay (clearFirst u data t)
    | none => csrNomap t) s)

/-- TEL_CNT_WRITE (R397). -/
def execTelCntWrite (i : Nat) (data : W64) (priv : Bool) (s : State) : Host.Outcome State Fault Refusal :=
  run s (csrGate (fun t => if 256 ≤ i then csrNomap t else if priv then csrOkay (writeTelCnt i data t) else csrPriv t) s)

/-- WRAP_LOG_CLEAR (R398). -/
def execWrapLogClear (data : W64) (priv : Bool) (s : State) : Host.Outcome State Fault Refusal :=
  run s (csrGate (fun t => if priv then csrOkay (clearWrapLog data t) else csrPriv t) s)

end Sys2Proof.Machine
end

