-- ==== Sys2Proof/Machine/Test.lean ====
section
/-!
DEFINITION. Test access (R419–R422): the two instructions that enter test mode, and the end of a memory test.
-/
namespace Sys2Proof.Machine

/-- Test mode is entered: the vault is zeroized, traffic and fabric stop as in LOCKOUT, the ports make no request, no command goes
on (R421). -/
def testEnter (s : State) : State :=
  if s.glb.testMode then s
  else
    let s1 := lockoutStores (leaveFabric (flushPath .ing (flushPath .egr (zeroizeAll s))))
    let s2 := setMode .lockout s1.glb.cause.toNat { s1 with
      glb := { s1.glb with change := none, ramping := [], gating := 0, booting := false }
      mci := { s1.mci with cmdq := [], running := [] }
      jnl := { s1.jnl with reads := [], wr := none } }
    { s2 with glb := { s2.glb with testMode := true, zeroTest := s2.vlt.zeroOk } }

/-- SCAN_ENTER (R421). -/
def execScanEnter (s : State) : Host.Outcome State Fault Refusal := run s (testEnter s)

/-- The groups of a mask are under test (R422). -/
def mbistStart (mask : BitVec 8) (s : State) : State :=
  { s with glb := { s.glb with mbistRun := s.glb.mbistRun ||| mask, mbistDone := s.glb.mbistDone &&& ~~~mask,
                               mbistFail := s.glb.mbistFail &&& ~~~mask } }

/-- MBIST_RUN (R421, R422). -/
def execMbistRun (mask : BitVec 8) (s : State) : Host.Outcome State Fault Refusal :=
  run s (mbistStart mask (testEnter s))

/-- MBIST_COMPLETE (R422): run s and failed; after the vault array's test the array is zeroized and read back. -/
def execMbistComplete (group : Nat) (pass : Bool) (s : State) : Host.Outcome State Fault Refusal :=
  run s (if s.glb.mbistRun.getLsbD group then
      let b : BitVec 8 := BitVec.ofNat 8 (2 ^ group)
      let s1 := { s with glb := { s.glb with mbistRun := s.glb.mbistRun &&& ~~~b, mbistDone := s.glb.mbistDone ||| b,
                                             mbistFail := if pass then s.glb.mbistFail else s.glb.mbistFail ||| b } }
      if group = 2 then
        let s2 := zeroizeAll s1
        { s2 with glb := { s2.glb with zeroTest := s2.vlt.zeroOk } }
      else s1
    else s)

/-- TEST_STATUS (R420). -/
def testStatus (s : State) : BitVec 32 :=
  BitVec.ofNat 32 (bn s.glb.testMode + 2 * bn s.glb.zeroTest + 2 ^ 8 * s.glb.mbistDone.toNat + 2 ^ 16 * s.glb.mbistFail.toNat)

/-! ### The TAP (R419, R420) -/

/-- The TAP controller of IEEE 1149.1 takes its next state with tst_tms. -/
def Tap.next (tms : Bool) : Tap → Tap
  | .logicReset => if tms then .logicReset else .idle
  | .idle => if tms then .selDr else .idle
  | .selDr => if tms then .selIr else .capDr
  | .capDr => if tms then .exit1Dr else .shiftDr
  | .shiftDr => if tms then .exit1Dr else .shiftDr
  | .exit1Dr => if tms then .updDr else .pauseDr
  | .pauseDr => if tms then .exit2Dr else .pauseDr
  | .exit2Dr => if tms then .updDr else .shiftDr
  | .updDr => if tms then .selDr else .idle
  | .selIr => if tms then .logicReset else .capIr
  | .capIr => if tms then .exit1Ir else .shiftIr
  | .shiftIr => if tms then .exit1Ir else .shiftIr
  | .exit1Ir => if tms then .updIr else .pauseIr
  | .pauseIr => if tms then .exit2Ir else .pauseIr
  | .exit2Ir => if tms then .updIr else .shiftIr
  | .updIr => if tms then .selDr else .idle

/-- Codes of the TAP's instructions, the length of their data registers, and what those capture (R420); other codes act as BYPASS. -/
def irInfo : BitVec 5 := 0b00010
def irStatus : BitVec 5 := 0b00011
def irScan : BitVec 5 := 0b00100
def irMbist : BitVec 5 := 0b00101
def drLen (ir : BitVec 5) : Nat := if ir = irInfo then 64 else if ir = irStatus then 32 else if ir = irMbist then 8 else 1
def drCapture (s : State) (ir : BitVec 5) : W64 :=
  if ir = irInfo then regGlbId s else if ir = irStatus then (testStatus s).setWidth 64 else 0

/-- A register of `n` bits shifts towards tst_tdo. -/
def shiftIn (n : Nat) (tdi : Bool) (r : W64) : W64 := (r >>> 1) ||| putB tdi (n - 1)

/-- A rising edge of tst_tck: capture or shift, and the controller moves. -/
def tckRise (s : State) : State :=
  let t := s.tst
  let sr :=
    match t.tap with
    | .capDr => drCapture s t.ir
    | .shiftDr => shiftIn (drLen t.ir) t.tdi t.sr
    | .capIr => 1
    | .shiftIr => shiftIn 5 t.tdi t.sr
    | _ => t.sr
  let tap := t.tap.next t.tms
  { s with tst := { t with sr := sr, tap := tap, ir := if tap = .logicReset then 0x1F else t.ir } }

/-- A falling edge of tst_tck: tst_tdo shows the register that shifts, an instruction takes effect (R420–R422): SCAN_ENTER and MBIST_RUN
enter test mode at Update-IR, the groups of the mask start at Update-DR. -/
def tckFall (s : State) : State :=
  let t := s.tst
  let shifting := t.tap == .shiftDr || t.tap == .shiftIr
  let s1 := { s with tst := { t with tdo := shifting && bitAt t.sr 0 } }
  match t.tap with
  | .updIr =>
    let ir : BitVec 5 := t.sr.extractLsb' 0 5
    let s2 := { s1 with tst := { s1.tst with ir := ir } }
    if ir = irScan ∨ ir = irMbist then testEnter s2 else s2
  | .updDr => if t.ir = irMbist then mbistStart (t.sr.extractLsb' 0 8) s1 else s1
  | _ => s1

/-- The scan chains (R419): without test mode their pins have no effect; in it each rising edge of tst_scan_clk gives out what the chains
hold, which is no state of the model. -/
def scanTick (s : State) : State :=
  let t := s.tst
  let s1 := { s with tst := { t with scanWas := t.scanClk } }
  if s.glb.testMode && t.scanEn && t.scanClk && !t.scanWas then
    { s1 with rng := s1.rng + 1, tst := { s1.tst with so := Config.scanOut s1.rng } }
  else s1

/-- The test port in one cycle (R419): tst_trst_n low holds the TAP reset; edges of tst_tck are those between two cycles. -/
def tapTick (s : State) : State :=
  let t := s.tst
  let s1 := { s with tst := { t with tckWas := t.tck } }
  scanTick (if !t.trstN then { s1 with tst := { s1.tst with tap := .logicReset, ir := 0x1F, tdo := false } }
    else if t.tck && !t.tckWas then tckRise s1
    else if !t.tck && t.tckWas then tckFall s1
    else s1)

end Sys2Proof.Machine
end

