-- ==== Sys2Proof/Machine/Dispatch.lean ====
section
/-!
DEFINITION. Dispatch: every command's arm calls its meaning.
-/
namespace Sys2Proof.Machine

/-- The effect of a command on everything but the queue. -/
def exec (i : Instr) (s : State) : Host.Outcome State Fault Refusal :=
  match i with
  | .powerOnReset => Sys2Proof.Machine.execPowerOnReset s
  | .systemReset => Sys2Proof.Machine.execSystemReset s
  | .resetRelease => Sys2Proof.Machine.execResetRelease s
  | .rootkeyWord data err => Sys2Proof.Machine.execRootkeyWord data err s
  | .rootkeyDeadline => Sys2Proof.Machine.execRootkeyDeadline s
  | .firmwareVerified romOk patch => Sys2Proof.Machine.execFirmwareVerified romOk patch s
  | .domainRampDone pd err => Sys2Proof.Machine.execDomainRampDone pd err s
  | .commandReady => Sys2Proof.Machine.execCommandReady s
  | .journalResolution => Sys2Proof.Machine.execJournalResolution s
  | .resumeComplete => Sys2Proof.Machine.execResumeComplete s
  | .entropySample byte err => Sys2Proof.Machine.execEntropySample byte err s
  | .drbgInstantiate => Sys2Proof.Machine.execDrbgInstantiate s
  | .drbgReseed => Sys2Proof.Machine.execDrbgReseed s
  | .entropyRetest => Sys2Proof.Machine.execEntropyRetest s
  | .tamperInput level => Sys2Proof.Machine.execTamperInput level s
  | .voltageGlitch => Sys2Proof.Machine.execVoltageGlitch s
  | .clockFault bad => Sys2Proof.Machine.execClockFault bad s
  | .prtUpChange v => Sys2Proof.Machine.execPrtUpChange v s
  | .steerAckRise => Sys2Proof.Machine.execSteerAckRise s
  | .steerAckFall => Sys2Proof.Machine.execSteerAckFall s
  | .steerLate => Sys2Proof.Machine.execSteerLate s
  | .steerAckStuck => Sys2Proof.Machine.execSteerAckStuck s
  | .sysNop p => Sys2Proof.Machine.execSysNop p s
  | .sysGetInfo p => Sys2Proof.Machine.execSysGetInfo p s
  | .sysSetMode p => Sys2Proof.Machine.execSysSetMode p s
  | .sysReadState p => Sys2Proof.Machine.execSysReadState p s
  | .sysSetPolicy p => Sys2Proof.Machine.execSysSetPolicy p s
  | .stagingSetTimeout dir => Sys2Proof.Machine.execStagingSetTimeout dir s
  | .secyCreate p => Sys2Proof.Machine.execSecyCreate p s
  | .secyModify p => Sys2Proof.Machine.execSecyModify p s
  | .secyEnable p => Sys2Proof.Machine.execSecyEnable p s
  | .secyDisable p => Sys2Proof.Machine.execSecyDisable p s
  | .secyDelete p => Sys2Proof.Machine.execSecyDelete p s
  | .secyQuery p => Sys2Proof.Machine.execSecyQuery p s
  | .secyDrainComplete link => Sys2Proof.Machine.execSecyDrainComplete link s
  | .secyDrainTimeout link => Sys2Proof.Machine.execSecyDrainTimeout link s
  | .scAddRx p => Sys2Proof.Machine.execScAddRx p s
  | .scRemoveRx p => Sys2Proof.Machine.execScRemoveRx p s
  | .scQuery p => Sys2Proof.Machine.execScQuery p s
  | .saInstall p => Sys2Proof.Machine.execSaInstall p s
  | .saEnableRx p => Sys2Proof.Machine.execSaEnableRx p s
  | .saSetTx p => Sys2Proof.Machine.execSaSetTx p s
  | .saRetire p => Sys2Proof.Machine.execSaRetire p s
  | .saRetireComplete dir sa => Sys2Proof.Machine.execSaRetireComplete dir sa s
  | .saQuery p => Sys2Proof.Machine.execSaQuery p s
  | .saStatsRead p => Sys2Proof.Machine.execSaStatsRead p s
  | .keyLoadWrapped p => Sys2Proof.Machine.execKeyLoadWrapped p s
  | .keyDerive p => Sys2Proof.Machine.execKeyDerive p s
  | .keyWrapExport p => Sys2Proof.Machine.execKeyWrapExport p s
  | .keyRetire p => Sys2Proof.Machine.execKeyRetire p s
  | .keySlotZeroized slot => Sys2Proof.Machine.execKeySlotZeroized slot s
  | .keyQuery p => Sys2Proof.Machine.execKeyQuery p s
  | .keyGenerate p => Sys2Proof.Machine.execKeyGenerate p s
  | .cutSchedule p => Sys2Proof.Machine.execCutSchedule p s
  | .cutCancel p => Sys2Proof.Machine.execCutCancel p s
  | .cutQuery p => Sys2Proof.Machine.execCutQuery p s
  | .mkaEnable p => Sys2Proof.Machine.execMkaEnable p s
  | .mkaDisable p => Sys2Proof.Machine.execMkaDisable p s
  | .mkaSetCak p => Sys2Proof.Machine.execMkaSetCak p s
  | .mkaQuery p => Sys2Proof.Machine.execMkaQuery p s
  | .mkaForceRekey p => Sys2Proof.Machine.execMkaForceRekey p s
  | .leaseQuery p => Sys2Proof.Machine.execLeaseQuery p s
  | .leaseSetGrain p => Sys2Proof.Machine.execLeaseSetGrain p s
  | .fabQuery p => Sys2Proof.Machine.execFabQuery p s
  | .fabSetRole p => Sys2Proof.Machine.execFabSetRole p s
  | .fabPair p => Sys2Proof.Machine.execFabPair p s
  | .fabUnpair p => Sys2Proof.Machine.execFabUnpair p s
  | .fabPortCtl p => Sys2Proof.Machine.execFabPortCtl p s
  | .jnlCommitImage p => Sys2Proof.Machine.execJnlCommitImage p s
  | .jnlQuery p => Sys2Proof.Machine.execJnlQuery p s
  | .jnlErase p => Sys2Proof.Machine.execJnlErase p s
  | .cxmRekeyScramble p => Sys2Proof.Machine.execCxmRekeyScramble p s
  | .cxmRebuild p => Sys2Proof.Machine.execCxmRebuild p s
  | .chkRun p => Sys2Proof.Machine.execChkRun p s
  | .chkQuery p => Sys2Proof.Machine.execChkQuery p s
  | .telSlate p => Sys2Proof.Machine.execTelSlate p s
  | .diagLaneKat p => Sys2Proof.Machine.execDiagLaneKat p s
  | .diagVaultKat p => Sys2Proof.Machine.execDiagVaultKat p s
  | .commandSlotWrite q slot k data priv => Sys2Proof.Machine.execCommandSlotWrite q slot k data priv s
  | .doorbell q slot priv => Sys2Proof.Machine.execDoorbell q slot priv s
  | .commandStart => Sys2Proof.Machine.execCommandStart s
  | .replyRelease q mask priv => Sys2Proof.Machine.execReplyRelease q mask priv s
  | .fwdResend dst tag => Sys2Proof.Machine.execFwdResend dst tag s
  | .fwdTimeout dst tag => Sys2Proof.Machine.execFwdTimeout dst tag s
  | .cliRxFrame segs flt => Sys2Proof.Machine.execCliRxFrame segs flt s
  | .egressRelease fdBad => Sys2Proof.Machine.execEgressRelease fdBad s
  | .injectedFrame => Sys2Proof.Machine.execInjectedFrame s
  | .linRxFrame segs flt => Sys2Proof.Machine.execLinRxFrame segs flt s
  | .ingressCommit link fdBad => Sys2Proof.Machine.execIngressCommit link fdBad s
  | .ingressRelease fdBad => Sys2Proof.Machine.execIngressRelease fdBad s
  | .shedRise dir blocks => Sys2Proof.Machine.execShedRise dir blocks s
  | .shedFall dir blocks => Sys2Proof.Machine.execShedFall dir blocks s
  | .laneFaultFlag dir lane stage check link order block copy => Sys2Proof.Machine.execLaneFaultFlag dir lane stage check link order block copy s
  | .spareReady dir lane err => Sys2Proof.Machine.execSpareReady dir lane err s
  | .cxmReadBeat tag data last ecc => Sys2Proof.Machine.execCxmReadBeat tag data last ecc s
  | .cxmWriteDone tag err => Sys2Proof.Machine.execCxmWriteDone tag err s
  | .cxmReadTimeout tag => Sys2Proof.Machine.execCxmReadTimeout tag s
  | .cxmWriteTimeout tag => Sys2Proof.Machine.execCxmWriteTimeout tag s
  | .fillComplete line => Sys2Proof.Machine.execFillComplete line s
  | .reprimeStart => Sys2Proof.Machine.execReprimeStart s
  | .mirrorQueryTimeout => Sys2Proof.Machine.execMirrorQueryTimeout s
  | .reprimeDone => Sys2Proof.Machine.execReprimeDone s
  | .regionBuildDone => Sys2Proof.Machine.execRegionBuildDone s
  | .sweepStep => Sys2Proof.Machine.execSweepStep s
  | .jnlReadBeat tag data err => Sys2Proof.Machine.execJnlReadBeat tag data err s
  | .jnlReadTimeout tag => Sys2Proof.Machine.execJnlReadTimeout tag s
  | .jnlWriteDone err => Sys2Proof.Machine.execJnlWriteDone err s
  | .jnlWriteTimeout => Sys2Proof.Machine.execJnlWriteTimeout s
  | .leaseReq hdr m => Sys2Proof.Machine.execLeaseReq hdr m s
  | .leaseGrant hdr m => Sys2Proof.Machine.execLeaseGrant hdr m s
  | .leaseResend sa => Sys2Proof.Machine.execLeaseResend sa s
  | .leaseSync hdr m => Sys2Proof.Machine.execLeaseSync hdr m s
  | .leaseSyncAck hdr m => Sys2Proof.Machine.execLeaseSyncAck hdr m s
  | .cutTaken link => Sys2Proof.Machine.execCutTaken link s
  | .armTimeout link => Sys2Proof.Machine.execArmTimeout link s
  | .cutScheduleDeadline links => Sys2Proof.Machine.execCutScheduleDeadline links s
  | .mkpduReceived m => Sys2Proof.Machine.execMkpduReceived m s
  | .mkaHelloTimer link => Sys2Proof.Machine.execMkaHelloTimer link s
  | .mkaLifeTime link peer => Sys2Proof.Machine.execMkaLifeTime link peer s
  | .rekeyInterval link => Sys2Proof.Machine.execRekeyInterval link s
  | .overlapEnd link sc an => Sys2Proof.Machine.execOverlapEnd link sc an s
  | .dozeHeldTimeout => Sys2Proof.Machine.execDozeHeldTimeout s
  | .dozeEntryComplete => Sys2Proof.Machine.execDozeEntryComplete s
  | .wakeCause => Sys2Proof.Machine.execWakeCause s
  | .timedWake => Sys2Proof.Machine.execTimedWake s
  | .wakeComplete => Sys2Proof.Machine.execWakeComplete s
  | .wakeLate => Sys2Proof.Machine.execWakeLate s
  | .coldDrainComplete => Sys2Proof.Machine.execColdDrainComplete s
  | .remaskSweepStart => Sys2Proof.Machine.execRemaskSweepStart s
  | .remaskStalled sameShare => Sys2Proof.Machine.execRemaskStalled sameShare s
  | .unwrapDone engine parityFault => Sys2Proof.Machine.execUnwrapDone engine parityFault s
  | .fabLaneReady lane up => Sys2Proof.Machine.execFabLaneReady lane up s
  | .cdrLockLoss lane => Sys2Proof.Machine.execCdrLockLoss lane s
  | .portSignalDetect lane sig cdr => Sys2Proof.Machine.execPortSignalDetect lane sig cdr s
  | .leaderReceived port lane m => Sys2Proof.Machine.execLeaderReceived port lane m s
  | .caps hdr m => Sys2Proof.Machine.execCaps hdr m s
  | .capsSend port => Sys2Proof.Machine.execCapsSend port s
  | .phaseTimeout port => Sys2Proof.Machine.execPhaseTimeout port s
  | .backoffEnd port => Sys2Proof.Machine.execBackoffEnd port s
  | .absentProbe port => Sys2Proof.Machine.execAbsentProbe port s
  | .fabricMessageDrop port => Sys2Proof.Machine.execFabricMessageDrop port s
  | .portHoldEnd port => Sys2Proof.Machine.execPortHoldEnd port s
  | .returnWinExpiry port => Sys2Proof.Machine.execReturnWinExpiry port s
  | .refreshTimer port => Sys2Proof.Machine.execRefreshTimer port s
  | .idleReq port => Sys2Proof.Machine.execIdleReq port s
  | .idleAck port => Sys2Proof.Machine.execIdleAck port s
  | .idleExit port => Sys2Proof.Machine.execIdleExit port s
  | .prbsInject port => Sys2Proof.Machine.execPrbsInject port s
  | .helloSend port => Sys2Proof.Machine.execHelloSend port s
  | .hello hdr m => Sys2Proof.Machine.execHello hdr m s
  | .helloLoss port => Sys2Proof.Machine.execHelloLoss port s
  | .lsa hdr m => Sys2Proof.Machine.execLsa hdr m s
  | .lsaRefresh => Sys2Proof.Machine.execLsaRefresh s
  | .lsaAgeOut id => Sys2Proof.Machine.execLsaAgeOut id s
  | .addressClaim => Sys2Proof.Machine.execAddressClaim s
  | .timeSyncTimer => Sys2Proof.Machine.execTimeSyncTimer s
  | .timeReq hdr t2 t3 => Sys2Proof.Machine.execTimeReq hdr t2 t3 s
  | .timeResp hdr t2 t3 offset t4 => Sys2Proof.Machine.execTimeResp hdr t2 t3 offset t4 s
  | .syncLossTimeout => Sys2Proof.Machine.execSyncLossTimeout s
  | .pairHello hdr m => Sys2Proof.Machine.execPairHello hdr m s
  | .pairHb hdr m => Sys2Proof.Machine.execPairHb hdr m s
  | .pairHbSend => Sys2Proof.Machine.execPairHbSend s
  | .partnerLost => Sys2Proof.Machine.execPartnerLost s
  | .digestMismatchTimer => Sys2Proof.Machine.execDigestMismatchTimer s
  | .mirrorSend => Sys2Proof.Machine.execMirrorSend s
  | .mirrorTx hdr rs last => Sys2Proof.Machine.execMirrorTx hdr rs last s
  | .mirrorRx hdr rs => Sys2Proof.Machine.execMirrorRx hdr rs s
  | .mirrorQuery hdr rs => Sys2Proof.Machine.execMirrorQuery hdr rs s
  | .mirrorReply hdr rs => Sys2Proof.Machine.execMirrorReply hdr rs s
  | .markMerge hdr rs last => Sys2Proof.Machine.execMarkMerge hdr rs last s
  | .mergeAck hdr => Sys2Proof.Machine.execMergeAck hdr s
  | .yieldNote hdr => Sys2Proof.Machine.execYieldNote hdr s
  | .cutOffer hdr m => Sys2Proof.Machine.execCutOffer hdr m s
  | .cutAck hdr m => Sys2Proof.Machine.execCutAck hdr m s
  | .cutAbort hdr m => Sys2Proof.Machine.execCutAbort hdr m s
  | .cmd hdr header words => Sys2Proof.Machine.execCmd hdr header words s
  | .reply hdr header words => Sys2Proof.Machine.execReply hdr header words s
  | .queueFlush q => Sys2Proof.Machine.execQueueFlush q s
  | .pointerMismatch q => Sys2Proof.Machine.execPointerMismatch q s
  | .evtStatClear sub w data => Sys2Proof.Machine.execEvtStatClear sub w data s
  | .evtForce sub w data priv => Sys2Proof.Machine.execEvtForce sub w data priv s
  | .firstClear sub data => Sys2Proof.Machine.execFirstClear sub data s
  | .escalationExpiry sub => Sys2Proof.Machine.execEscalationExpiry sub s
  | .svcRamUncorrectable => Sys2Proof.Machine.execSvcRamUncorrectable s
  | .tamperLatchClear data priv => Sys2Proof.Machine.execTamperLatchClear data priv s
  | .pdGateRequest data => Sys2Proof.Machine.execPdGateRequest data s
  | .pdGateComplete pd => Sys2Proof.Machine.execPdGateComplete pd s
  | .chkJobEnd k data fail refDamaged => Sys2Proof.Machine.execChkJobEnd k data fail refDamaged s
  | .dailiesStart k => Sys2Proof.Machine.execDailiesStart k s
  | .telCntWrite ix data priv => Sys2Proof.Machine.execTelCntWrite ix data priv s
  | .wrapSample ix link => Sys2Proof.Machine.execWrapSample ix link s
  | .wrapLogClear data priv => Sys2Proof.Machine.execWrapLogClear data priv s
  | .readClear addr priv => Sys2Proof.Machine.execReadClear addr priv s
  | .registerWrite addr data priv => Sys2Proof.Machine.execRegisterWrite addr data priv s
  | .scanEnter => Sys2Proof.Machine.execScanEnter s
  | .mbistRun mask => Sys2Proof.Machine.execMbistRun mask s
  | .remaskRowWrite parBad => Sys2Proof.Machine.execRemaskRowWrite parBad s
  | .invalidBlock port lane blk => Sys2Proof.Machine.execInvalidBlock port lane blk s
  | .prbsChecker port lane bits errs => Sys2Proof.Machine.execPrbsChecker port lane bits errs s
  | .messageForward hdr m => Sys2Proof.Machine.execMessageForward hdr m s
  | .portShutdownComplete port => Sys2Proof.Machine.execPortShutdownComplete port s
  | .firstParticipantEnd link => Sys2Proof.Machine.execFirstParticipantEnd link s
  | .spareSwitchOff dir lane => Sys2Proof.Machine.execSpareSwitchOff dir lane s
  | .mbistComplete group pass => Sys2Proof.Machine.execMbistComplete group pass s
  | .svcRestartDone => Sys2Proof.Machine.execSvcRestartDone s

end Sys2Proof.Machine
end

