-- ==== Sys2Proof/Machine/Tick.lean ====
section
/-!
DEFINITION. The tick: on an empty queue one cycle of the fabric clock, 5 ns, passes (log 2). Clocks, fabric time, escalation timers
and telemetry move (R17, R306, R378, R395, R399).
-/
namespace Sys2Proof.Machine

/-- Fabric time advances by 5 ns and the servo's fraction (R306). -/
def tickTime (s : State) : State :=
  let sum := (5 * 2 ^ 32 + s.servo + (s.frac.toNat : Int)).toNat
  { s with time := s.time + BitVec.ofNat 64 (sum / 2 ^ 32), frac := BitVec.ofNat 32 (sum % 2 ^ 32) }

/-- The divider chain: 16 root cycles; an ac edge falls where it is 0 (R17). -/
def tickDivider (s : State) : State := { s with aon := { s.aon with divc := s.aon.divc + 16 } }

/-- Escalation timers run down, LOCKOUT apart (R378). -/
def tickEsc (s : State) : State :=
  if s.glb.mode == .lockout then s
  else subs.foldl (fun t u => modEvt u (fun e => if e.escState == .running then { e with escRemain := e.escRemain - 5 } else e) t) s

/-- Level sources count each cycle of their set's clock in which they hold: ac for AON, pc for the others (R366, R395). -/
def tickLevels (s : State) : State :=
  subs.foldl (fun t u =>
    let n := match u with | .aon => bn (t.aon.divc == 0) | _ => 2
    if n = 0 then t
    else (bitsOf (levelOf t u &&& u.defined)).foldl (fun t i => telBump (0x80 + u.first + i) n none t) t) s

/-- The slot ledgers run (R399). -/
def ledgerRuns (s : State) : Bool := s.mci.ready && s.glb.mode != .doze && telOn s

/-- 8 core cycles of a direction with `lanes` lanes, and the blocks that wait to be booked: the ledger's share and what is left of
them (R399, R400). -/
def ledgerStep (lanes : Nat) (back : Nat × Nat × Nat) (l : Ledger) : Ledger × (Nat × Nat × Nat) :=
  let short := 8 * (16 - lanes)
  let room := 128 - short
  let p := Nat.min back.1 room
  let q := Nat.min back.2.1 (room - p)
  let c := Nat.min back.2.2 (room - p - q)
  ({ cyc := l.cyc + 8, pumped := l.pumped + p, spilled := l.spilled + short + q, dry := l.dry + (room - p - q - c), choked := l.choked + c },
   (back.1 - p, back.2.1 - q, back.2.2 - c))

/-- The four accounts' growth as telemetry types from `base` on (R395). -/
def bumpLedger (base : Nat) (a b : Ledger) (s : State) : State :=
  telBump (base + 3) (b.choked - a.choked) none (telBump (base + 2) (b.dry - a.dry) none
    (telBump (base + 1) (b.spilled - a.spilled) none (telBump base (b.pumped - a.pumped) none s)))

/-- Both ledgers. -/
def tickLedgers (s : State) : State :=
  if !ledgerRuns s then s
  else
    let (e, eb) := ledgerStep s.egr.lanes s.tel.backEgr s.tel.egr
    let (i, ib) := ledgerStep s.ing.lanes s.tel.backIng s.tel.ing
    let s1 := { s with tel := { s.tel with egr := e, ing := i, backEgr := eb, backIng := ib } }
    bumpLedger 0x1DD s.tel.ing i (bumpLedger 0x1D9 s.tel.egr e (telBump 0x1C0 8 none s1))

/-- Core cycles with an input's or an output's ready at 0; DOZE counts none (R395, R403). -/
def tickReady (s : State) : State :=
  if s.glb.mode == .doze then s
  else
    let low := fun (code : Nat) (b : Bool) (t : State) => if b then telBump code 8 none t else t
    low 0x1CC (!s.ing.txReady) (low 0x1CB (!s.egr.txReady) (low 0x1CA (!inReady s .ing) (low 0x1C9 (!inReady s .egr) s)))

/-- The ports after 8 core cycles: the two beats that may follow a fallen ready are over, and an output begins a new segment (R38,
R46). -/
def tickPort (d : Dir) (s : State) : State :=
  setPath d { pathOf s d with late := if inReady s d then 0 else 8, txPos := 0 } s

/-- The age of the partner's mirror batch (R313). -/
def tickMirror (s : State) : State := modPair (fun p => if p.partner.isSome then { p with mirAge := p.mirAge + 5 } else p) s

/-- The lanes of the fabric ports in one fc (R65, R66). -/
def tickFabric (s : State) : State :=
  (List.range 8).foldl (fun t p =>
    if !pdIsOn t (portDomain p) then modPort p (fun x => { x with take := 0, tx := [], slip := 0, rxCnt := [] }) t
    else modPort p (portTx p) t) s

/-- One cycle of the fabric clock; rst_por_n stops every clock. -/
def tick (s : State) : State :=
  if s.aon.porLow then s
  else settle (chkPump (tapTick (renewCheck (tickFabric (tickMirror (tickPort .ing (tickPort .egr (tickReady (tickLedgers (tickLanes .ing (tickLanes .egr
    (tickLevels (tickEsc (tickTime (tickDivider s)))))))))))))))

end Sys2Proof.Machine
end

