-- ==== Sys2Proof/Safety.lean ====
section
/-!
DEFINITION. The words in which claims are made: a run that goes on, an event that shows, a cycle of the event sets without a new
cause, a host's command that starts at once, the reply it leaves and what else may change by it, the commands that carry a packet.
-/
namespace Sys2Proof.Machine

/-- A step goes on. -/
def goesOn (o : Host.Outcome State Fault Refusal) : Prop := ∃ t, o = .next t

/-! ### Frames -/

/-- The parts of the machine, one for each field of State. -/
inductive Part
  | pending | out | rng | time | frac | servo | aon | glb | evt | mci | svc | vlt
  | cis | cxm | egr | ing | ecfg | sct | secys | tx | rx | lne | jnl | fab
  | chkCfg | chk | tel | que | cnt | tst
deriving DecidableEq, Repr

/-- `t` has this part as `s` has it. -/
def Part.same (s t : State) : Part → Prop
  | .pending => t.pending = s.pending
  | .out => t.out = s.out
  | .rng => t.rng = s.rng
  | .time => t.time = s.time
  | .frac => t.frac = s.frac
  | .servo => t.servo = s.servo
  | .aon => t.aon = s.aon
  | .glb => t.glb = s.glb
  | .evt => t.evt = s.evt
  | .mci => t.mci = s.mci
  | .svc => t.svc = s.svc
  | .vlt => t.vlt = s.vlt
  | .cis => t.cis = s.cis
  | .cxm => t.cxm = s.cxm
  | .egr => t.egr = s.egr
  | .ing => t.ing = s.ing
  | .ecfg => t.ecfg = s.ecfg
  | .sct => t.sct = s.sct
  | .secys => t.secys = s.secys
  | .tx => t.tx = s.tx
  | .rx => t.rx = s.rx
  | .lne => t.lne = s.lne
  | .jnl => t.jnl = s.jnl
  | .fab => t.fab = s.fab
  | .chkCfg => t.chkCfg = s.chkCfg
  | .chk => t.chk = s.chk
  | .tel => t.tel = s.tel
  | .que => t.que = s.que
  | .cnt => t.cnt = s.cnt
  | .tst => t.tst = s.tst

/-- `t` has every part as `s` has it, but for those listed. -/
def sameBut (ps : List Part) (s t : State) : Prop := ∀ p, p ∉ ps → p.same s t

/-! ### Events -/

/-- STAT and RAW of source `n` of `u` are set (R370). -/
def eventSet (t : State) (u : Sub) (n : Nat) : Prop :=
  (t.evt.get u).stat.getLsbD n = true ∧ (t.evt.get u).raw.getLsbD n = true

/-- Every event set but those of `us` went through its cycle with the level conditions that hold now and no new cause. -/
def quietBut (us : List Sub) (s t : State) : Prop :=
  ∀ u, u ∉ us → t.evt.get u = (s.evt.get u).cycle u (levelOf t u) t.time.toNat

/-- `t` is `s` but for what the end of a step does to the event sets. -/
def settled (s t : State) : Prop := t = { s with evt := t.evt } ∧ quietBut [] s t

/-- `t` is `s` but for the event set of `u`, which shows source `n`, and the telemetry that counts the event. -/
def settledWith (u : Sub) (n : Nat) (s t : State) : Prop :=
  t = { s with evt := t.evt, tel := { s.tel with cnt := t.tel.cnt, wrapPend := t.tel.wrapPend } } ∧ eventSet t u n ∧ quietBut [u] s t

/-- The event sets between steps: no cause waits, every level condition shows in STAT and RAW, and an escalation timer is idle
exactly where no qualifying source has an action (R368, R370, R378). -/
def eventsSound (s : State) : Prop :=
  ∀ u, let e := s.evt.get u
    e.pendReal = 0 ∧ e.pendForced = 0 ∧ e.clr = 0 ∧ e.clrFirst = false ∧
    (levelOf s u &&& u.defined) &&& ~~~e.stat = 0 ∧ (levelOf s u &&& u.defined) &&& ~~~e.raw = 0 ∧
    (e.escState = .idle ↔ e.escActive u = false)

/-! ### Commands of hosts -/

/-- The command that packet `p` makes now. -/
def newCmd (op : Nat) (p : Pkt) (s : State) : QCmd := { id := s.mci.nextId, opcode := BitVec.ofNat 8 op, pkt := p }

/-- The opcode's rows of R336: it wakes the engine from DOZE first. -/
def opWakes (op : Nat) : Bool := match opInfo op with | some o => o.wake | none => false

/-- A host's command on HQ `n` that is not forwarded, passes the checks of R327 that do not depend on its words, and is held back
neither by an earlier command nor by a quarantine nor by a wake, with no reset low: it starts now. -/
def startsNow (op n : Nat) (p : Pkt) (s : State) : Bool :=
  let q := newCmd op p s
  decide (n < 4) && p.req == .hq n && !pktRemote p && (checkForm q).isNone && (dupEntry s q).isNone && !tagBusy s q
    && !heldBack s q && (checkRun q s).isNone && !(opWakes q.opcode.toNat && s.glb.mode == .doze) && !cmdLost s q && !resetLow s

/-- The reply of a command in its slot, and its event (R323, R325). -/
def replyIn (op n : Nat) (p : Pkt) (status : Nat) (words : List W64) (s t : State) : Prop :=
  hostSlot t n p.slot =
      { hostSlot s n p.slot with st := .done, rep := repHeader (newCmd op p s) status words.length 0 0 :: words } ∧
    eventSet t .mci n

/-- `t` is `s` with the reply of a command delivered: beside the slot and its event only the duplicate cache, the list of commands,
the counts of replies and commands, and queues 6 and 7 differ. -/
def answered (op n : Nat) (p : Pkt) (status : Nat) (words : List W64) (s t : State) : Prop :=
  let q := newCmd op p s
  replyIn op n p status words s t ∧
  t = { s with mci := t.mci, evt := t.evt, tel := t.tel, cnt := t.cnt, que := t.que } ∧
  t.mci = { s.mci with
    slots := t.mci.slots, nextId := s.mci.nextId + 1, running := s.mci.running.filter (fun r => r.cmd.id != q.id),
    cmdq := s.mci.cmdq.filter (fun c => c.id != q.id),
    dups := dupAdd { key := n, tag := p.tag, opcode := q.opcode, crc := pktCrc p, status := BitVec.ofNat 8 status,
                     rlen := words.length, words := words.take 8 } s.mci.dups } ∧
  (∀ m j, 8 * m + j ≠ 8 * n + p.slot → hostSlot t m j = hostSlot s m j) ∧
  t.tel = { s.tel with cnt := t.tel.cnt, wrapPend := t.tel.wrapPend } ∧
  (∀ c, smGet 0 t.cnt c = if c = 0x5C then satAdd 63 (smGet 0 s.cnt c) 1 else smGet 0 s.cnt c) ∧
  (∀ j, j ≠ 6 → j ≠ 7 → queOf t j = queOf s j) ∧ quietBut [.mci] s t

/-- `t` is `s` with a command that has started and waits for `w`: it is the last of the running ones. -/
def waiting (op : Nat) (p : Pkt) (w : Wait) (s t : State) : Prop :=
  ∃ r, t.mci.running = s.mci.running ++ [r] ∧ r.wait = w ∧ r.cmd = newCmd op p s

/-- A key is in slot `k`, which was EMPTY: masked in two shares, with its attributes, and no other slot changed (R200, R207). -/
def keyPlaced (attr : Attr) (role : Role) (k256 exp : Bool) (origin : Nat) (key : List Byte) (k : Nat) (s t : State) : Prop :=
  let v := vslot t k
  (vslot s k).st = .empty ∧ v.st = .loaded ∧ v.attr = attr ∧ v.role = role ∧ v.k256 = k256 ∧ v.exp = exp ∧ v.origin = origin ∧
    v.gen = (vslot s k).gen ∧ v.shareA ^^^ v.shareB = key256 key ∧ ∀ j, j ≠ k → vslot t j = vslot s j

/-- The opcode and packet of a command row. -/
def mciOf : Instr → Option (Nat × Pkt)
  | .sysNop p => some (0x01, p) | .sysGetInfo p => some (0x02, p) | .sysSetMode p => some (0x03, p)
  | .sysReadState p => some (0x04, p) | .sysSetPolicy p => some (0x05, p) | .secyCreate p => some (0x10, p)
  | .secyModify p => some (0x11, p) | .secyEnable p => some (0x12, p) | .secyDisable p => some (0x13, p)
  | .secyDelete p => some (0x14, p) | .secyQuery p => some (0x15, p) | .scAddRx p => some (0x20, p)
  | .scRemoveRx p => some (0x21, p) | .scQuery p => some (0x22, p) | .saInstall p => some (0x30, p)
  | .saEnableRx p => some (0x31, p) | .saSetTx p => some (0x32, p) | .saRetire p => some (0x33, p)
  | .saQuery p => some (0x34, p) | .saStatsRead p => some (0x35, p) | .keyLoadWrapped p => some (0x40, p)
  | .keyDerive p => some (0x41, p) | .keyWrapExport p => some (0x42, p) | .keyRetire p => some (0x43, p)
  | .keyQuery p => some (0x44, p) | .keyGenerate p => some (0x45, p) | .cutSchedule p => some (0x50, p)
  | .cutCancel p => some (0x51, p) | .cutQuery p => some (0x52, p) | .mkaEnable p => some (0x58, p)
  | .mkaDisable p => some (0x59, p) | .mkaSetCak p => some (0x5A, p) | .mkaQuery p => some (0x5B, p)
  | .mkaForceRekey p => some (0x5C, p) | .leaseQuery p => some (0x60, p) | .leaseSetGrain p => some (0x61, p)
  | .fabQuery p => some (0x68, p) | .fabSetRole p => some (0x69, p) | .fabPair p => some (0x6A, p)
  | .fabUnpair p => some (0x6B, p) | .fabPortCtl p => some (0x6C, p) | .jnlCommitImage p => some (0x70, p)
  | .jnlQuery p => some (0x71, p) | .jnlErase p => some (0x72, p) | .cxmRekeyScramble p => some (0x78, p)
  | .cxmRebuild p => some (0x79, p) | .chkRun p => some (0x80, p) | .chkQuery p => some (0x81, p)
  | .telSlate p => some (0x88, p) | .diagLaneKat p => some (0xF0, p) | .diagVaultKat p => some (0xF1, p)
  | _ => none

/-- The steps before a command's own: form, duplicates and order are passed, `n` is a host queue that does not forward, and no reset
is low. -/
def reaches (op n : Nat) (p : Pkt) (s : State) : Bool :=
  let q := newCmd op p s
  decide (n < 4) && p.req == .hq n && !pktRemote p && (checkForm q).isNone && (dupEntry s q).isNone && !tagBusy s q
    && !heldBack s q && !resetLow s

/-! ### Frames -/

/-- One segment that carries a whole frame of at most 64 bytes without a port error. -/
def wholeSeg (l : Nat) (fd : BitVec 16) (bs : List Byte) : Seg :=
  { valid := true, sop := true, eop := true, empty := 64 - bs.length, link := l, err := false, fd := fd, data := slice bs 0 64,
    permitted := true }

/-- What ingress counts at a frame's end is counted: the frame goes on to the lanes, waits, is dead or bad, or has been counted. -/
def tallied (f : Frame) : Bool :=
  !(f.ended && !f.inErr && !f.tooLong && !f.counted && f.fate != .crypt && f.fate != .verified && !inSump f && !isDead f)

/-- No frame of a path waits for its blocks to be queued or for its count, and none was discarded at step 19 before its turn to commit:
what the path's rows leave in their wake is done. -/
def calm (s : State) (d : Dir) : Bool :=
  (pathOf s d).frames.all (fun f => (f.queued || f.fate != .crypt || !f.ended) && (d == .egr || (tallied f && f.lateSa.isNone)))

/-- A whole frame of link `l` can start on a path: backpressure permits its segment, no frame is open, and the link's next position is
free. -/
def mayEnter (s : State) (d : Dir) (l : Nat) : Bool :=
  permits s d (wholeSeg l 0 []) && calm s d && !(pathOf s d).isOpen && decide (l < 1024)
    && (frameOf s d l (smGet 0 (pathOf s d).order l)).isNone

/-- It can, and its link is below its in-flight limit (R13). -/
def mayStart (s : State) (d : Dir) (l : Nat) : Bool :=
  mayEnter s d l && decide ((pathOf s d).frames.countP (fun x => x.link == l) < 2048)

/-- The whole frame `f` has joined a path as its newest, at the next position of its link; no other frame has changed. -/
def joined (d : Dir) (l : Nat) (bs : List Byte) (f : Frame) (s t : State) : Prop :=
  (pathOf t d).frames = (pathOf s d).frames ++ [f] ∧ f.link = l ∧ f.orderTag = smGet 0 (pathOf s d).order l ∧ f.bytes = bs ∧
    f.ended = true ∧ (pathOf t d).isOpen = false ∧ smGet 0 (pathOf t d).order l = (smGet 0 (pathOf s d).order l + 1) % 4096

/-- A counter of R122 or R149 has risen by `n`. -/
def counted (code n : Nat) (s t : State) : Prop := smGet 0 t.cnt code = satAdd 63 (smGet 0 s.cnt code) n

/-- Of these counters that one alone has risen. -/
def countedOnly (code n : Nat) (s t : State) : Prop := counted code n s t ∧ ∀ c, c ≠ code → smGet 0 t.cnt c = smGet 0 s.cnt c

/-- A SecY with statistic `i` raised by one (R123, R150). -/
def yStat (i : Nat) (y : Secy) : Secy :=
  { y with stats := smSet 0 y.stats i (Nat.min (smGet 0 y.stats i + 1) (2 ^ 64 - 1)),
           sat := if 2 ^ 64 - 1 < smGet 0 y.stats i + 1 then y.sat ||| BitVec.ofNat 11 (2 ^ i) else y.sat }

/-- The frames of a path are as before but for `f`: it has this fate, perhaps the PN recovered anew and the mark that it is counted; one
that is discarded leaves nothing. -/
def fateAt (d : Dir) (f : Frame) (v : Fate) (s t : State) : Prop :=
  ∃ (p : Frame → Nat) (c : Frame → Bool),
    (pathOf t d).frames = mapWhere (fun x => x.link == f.link && x.orderTag == f.orderTag)
      (fun x => { x with fate := v, pn := p x, counted := c x, started := x.started && v != .discard }) (pathOf s d).frames

/-- Frame `f` has left a path and no other has. -/
def leftPath (d : Dir) (f : Frame) (s t : State) : Prop :=
  (pathOf t d).frames = (pathOf s d).frames.filter (fun x => !(x.link == f.link && x.orderTag == f.orderTag))

/-- A release of the path takes frame `f`: no reset is low, the output is ready, nothing is being sent, no injected frame is due on
egress, and `f` is the first due among the oldest of each link. -/
def mayLeave (s : State) (d : Dir) (due : Frame → Bool) (f : Frame) : Bool :=
  !resetLow s && (pathOf s d).txReady && calm s d && (d == .ing || !injectDue s) && !(pathOf s d).frames.any (·.started)
    && (oldest (pathOf s d).frames).find? due == some f

/-- The frames of a link that wait for a position of it (R13); one that is arriving waits for its parse first. -/
def awaits (d : Dir) (l : Nat) (x : Frame) : Bool :=
  x.link == l && x.fate == .wait none && (x.ended || decide ((match d with | .egr => 64 | .ing => ingEnough) ≤ x.bytes.length))

/-- A release takes `f`, and no frame of its link waits for the position that it leaves. -/
def nextOut (s : State) (d : Dir) (due : Frame → Bool) (f : Frame) : Bool :=
  mayLeave s d due f && !(pathOf s d).frames.any (awaits d f.link)

/-! ### Fills -/

/-- The key of a filled line's SA is there, or an unwrap of its blob brings it; a SecY line has none (R273). -/
def keyComes (s : State) (n : Nat) : Bool :=
  if n < 4096 then (loadKey false n s).1 else if n < 8192 then true else (loadKey true (n - 8192) s).1

/-! ### Check jobs -/

/-- The bytes of a check job that CHK_JOB_END ends, and whether one of its units failed (R384, R389). -/
def jobBytes (s : State) (k : Nat) (p : ChkProg) (data : List Byte) : List Byte := if p.region ≤ 2 then (chkOf s k).buf else data
def jobBad (s : State) (k : Nat) (p : ChkProg) (fail : Bool) : Bool :=
  if p.region ≤ 2 then (chkOf s k).err || (p.region == 1 && fail) else fail

/-! ### Lanes of the fabric -/

/-- The one block on the receive bus of a present lane is the leader `m`. -/
def leads (s : State) (p l : Nat) (bus : BitVec 132) (m : Leader) : Prop :=
  p < 8 ∧ lanePresent (portOf s p) l = true ∧ leaderOf (straight (portOf s p) l (bus.extractLsb' 0 66)) = some m

/-- The port once the bus of lane `l` carried one block with a valid header. -/
def portHears (l : Nat) (bus : BitVec 132) (t : Port) : Port :=
  { t with rxBlk := smSet 0 t.rxBlk l bus, rxCnt := smSet 0 t.rxCnt l 1, hdrs := smSet 0 t.hdrs l (Nat.min 64 (smGet 0 t.hdrs l + 1)) }

/-! ### Fabric messages -/

/-- Message `m` under header `h` is taken: no reset is low, its port is ACTIVE, its MAC is the fabric's where it has one, no QUARANTINED engine sent it
(but for HELLO, CAPS and LSA), and a routed one names this engine (R287, R305). -/
def heard (s : State) (h : MsgHdr) (m : FabMsg) : Prop :=
  resetLow s = false ∧ (portOf s h.port).st = .active ∧ (msgHasMac m = true → h.mac = msgMac s h m) ∧
    (msgTyp m ≠ 0x01 → msgTyp m ≠ 0x02 → msgTyp m ≠ 0x0C → fromQuarantine s h = false) ∧
    (msgIsHop m = false → h.hop = false ∧ s.fab.addr = some h.dst)

/-- It comes from engine `a`, a MEMBER. -/
def heardFrom (s : State) (h : MsgHdr) (m : FabMsg) (a : Nat) : Prop := heard s h m ∧ h.src = some a ∧ isMember s a = true

/-- It comes from the partner of the pair. -/
def heardPartner (s : State) (h : MsgHdr) (m : FabMsg) (a : Nat) : Prop := heardFrom s h m a ∧ s.fab.pair.partner = some a

/-- A message to engine `a` can leave: this engine has an address, `a` is a MEMBER and the port of its route is ACTIVE. -/
def canReach (s : State) (a : Nat) : Bool :=
  s.fab.addr.isSome && isMember s a && (portOf s (peerOf s a).nextPort).st == .active

/-- `m` alone has been sent, on port `p`, hop by hop or to engine `d`, under the fabric's MAC (R286, R287). -/
def sentOn (p d : Nat) (m : FabMsg) (s t : State) : Prop :=
  t.out = s.out ++ [.fab
    (let h : MsgHdr := { port := p, src := s.fab.addr, hop := msgIsHop m, dst := if msgIsHop m then 0 else d, ttl := cfgTtl s,
                         lseq := (portOf s p).lseq % 65536, mac := 0 }
     { h with mac := msgMac s h m }) m]

/-- No cut waits for a lease, no CA exists and no next PN is due for its threshold event: a lease brings about nothing further. -/
def quietLease (s : State) : Bool :=
  s.svc.cas.isEmpty && (smKeys s.tx).all (fun i => (txOf s i).all (fun a => !thrDue s a)) && (secyLinks s).all (fun l => match secyOf s l with | some y => y.cut != .arming | none => true)

/-- The end of a lease that a LEASE_GRANT tells: 0 stands for 2^64 under extended packet numbers (R183). -/
def leaseStop (m : LeaseGrant) (a : Sa) : Nat := if m.stop = 0 ∧ isXpn a.suite = true then 2 ^ 64 else m.stop

/-- The fabric messages that a step has sent, in order. -/
def said (s t : State) : List FabMsg := (t.out.drop s.out.length).filterMap (fun o => match o with | .fab _ m => some m | _ => none)

/-- What the ports have carried out in the step holds no fabric message. -/
def noMessage (s t : State) : Bool := (t.out.drop s.out.length).all (fun o => match o with | .fab _ _ => false | _ => true)

end Sys2Proof.Machine
end

