-- ==== Sys2Proof/Certificates/Slice0/Obligations.lean ====
section
/-!
DEFINITION. What is claimed of the engine, for the provers. A clause that rests on a choice of the model names its log entry.
-/
open Sys2Proof Sys2Proof.Machine

/-- O1. For every command c and state s, the step of s with c put at the front of its queue is exec of c on s with the
rest of the queue. -/
def Obligations.FrontCommandRuns : Prop :=
  ∀ (c : Instr) (s : State), step { s with pending := c :: s.pending } = exec c s

/-- O2. Every step of every state answers a next state, and so does every command of the table on every state and
operands: no command and no tick ends in a fault or a refusal. (Model's choices that it rests on: log 137.) -/
def Obligations.StepGoesOn : Prop :=
  (∀ s : State, goesOn (step s)) ∧ ∀ (c : Instr) (s : State), ∃ t, exec c s = .next t

/-- O3. With no command waiting and rst_por_n low a step changes nothing. With it high a step is one 5 ns cycle of the
fabric clock (log 2: the model's choice of what an empty queue does): fabric time and its 32-bit fraction advance by 5
ns plus the servo's rate (R306, R308) and the divider counter by 16 root cycles (R17); where the test port's clocks
stand still and its reset is high, no check job runs and no counter renewal is due, nothing but time, the divider,
event sets, telemetry, the lanes and paths, the fabric ports and the age of the partner's mirror changes, and on both
paths every frame but its block groups, every order tag, the rules, LANES and the shed level stay. A tick samples the
test port's pins (log 167): with tst_trst_n low the TAP is in its reset state with the code of BYPASS and tst_tdo 0;
with it high a rising edge of tst_tck takes the controller to its next state by tst_tms, and in Shift-DR shifts the
data register by one bit towards tst_tdo; without test mode the scan pins change nothing. Reset leaves tst_tdo and
every bit of tst_so at 0, and a power-on reset sets them so. (Model's choices that it rests on: log 2, 127, 149, 167.) -/
def Obligations.EmptyQueueTicks : Prop :=
  (∀ s : State, s.pending = [] →
    ∃ t, step s = .next t ∧ (s.aon.porLow = true → t = s) ∧
      (s.aon.porLow = false → s.tst.tck = s.tst.tckWas → s.tst.scanClk = s.tst.scanWas → s.tst.trstN = true →
        (∀ k, (chkOf s k).prog = none) → s.cxm.topCtr < 2 ^ 56 - 2 ^ 32 →
        (let sum := (5 * 2 ^ 32 + s.servo + (s.frac.toNat : Int)).toNat
         t.time = s.time + BitVec.ofNat 64 (sum / 2 ^ 32) ∧ t.frac = BitVec.ofNat 32 (sum % 2 ^ 32)) ∧
        t.aon = { s.aon with divc := s.aon.divc + 16 } ∧
        t.fab = { s.fab with ports := t.fab.ports, pair := { s.fab.pair with mirAge := t.fab.pair.mirAge } } ∧
        (∀ d, (pathOf t d).frames.map (fun f => { f with groups := [] }) = (pathOf s d).frames.map (fun f => { f with groups := [] }) ∧
          (pathOf t d).order = (pathOf s d).order ∧ (pathOf t d).isOpen = (pathOf s d).isOpen ∧
            (pathOf t d).shed = (pathOf s d).shed ∧
          (pathOf t d).lanes = (pathOf s d).lanes ∧ (pathOf t d).rules = (pathOf s d).rules) ∧
        sameBut [.time, .frac, .aon, .evt, .tel, .fab, .egr, .ing, .lne] s t)) ∧
  (∀ s : State, s.pending = [] → s.aon.porLow = false → s.tst.trstN = false →
      ∃ t, step s = .next t ∧ t.tst.tap = .logicReset ∧ t.tst.ir = 0x1F ∧ t.tst.tdo = false) ∧
  (∀ s : State, s.pending = [] → s.aon.porLow = false → s.tst.trstN = true → s.tst.tck = true → s.tst.tckWas = false →
      ∃ t, step s = .next t ∧ t.tst.tap = s.tst.tap.next s.tst.tms ∧ t.tst.tckWas = true ∧ t.tst.tdo = s.tst.tdo ∧
        (s.tst.tap = .shiftDr → t.tst.sr = shiftIn (drLen s.tst.ir) s.tst.tdi s.tst.sr) ∧
        (s.glb.testMode = false → t.tst.so = s.tst.so)) ∧
  State.reset.tst.tdo = false ∧ State.reset.tst.so = 0 ∧
  (∀ s : State, ∃ t, exec .powerOnReset s = .next t ∧ t.tst.tdo = false ∧ t.tst.so = 0)

/-- O4. From every state whose event sets are sound, every step leaves them sound: between steps no cause waits, every
level source whose condition holds shows in STAT and RAW, and a set's escalation timer is idle exactly where no
qualifying source has an action configured. (Model's choices that it rests on: log 11.) -/
def Obligations.EventSetsStaySound : Prop :=
  ∀ s t : State, eventsSound s → step s = .next t → eventsSound t

/-- O5. The machine right after reset has sound event sets, and no bit of STAT, RAW or a forced source is set in any of
them. -/
def Obligations.ResetEventSetsSound : Prop :=
  eventsSound State.reset ∧ ∀ u, let e := State.reset.evt.get u; e.stat = 0 ∧ e.raw = 0 ∧ e.forced = 0

/-- O6. After reset the engine is in COLD with previous mode and cause 0, no degraded cause, RWL fields unlocked, only
PD00 on, RST_CAUSE power-on, RAMP_MAX 4, and the registers whose reset values the register summary gives hold them:
MCI_CFG, the MKA, entropy, lane, cistern, context, journal, cut, TPID and fabric settings, CHK_CFG; no key, SecY, SA,
SC, queue item or counter is there; the shed settings and both rule tables are at rest, and every fabric port is OFF
with its transmitters in electrical idle. -/
def Obligations.ResetValues : Prop :=
  let s := State.reset
  s.glb.mode = .cold ∧ s.glb.prev = .cold ∧ s.glb.cause = 0 ∧ s.glb.deg = 0 ∧ s.glb.locked = false ∧ s.glb.pdOn = 1 ∧
    s.glb.rampMax = 4 ∧ s.glb.pinSev = 0x2 ∧ s.aon.rstCause = 1 ∧ s.aon.bootCnt = 0 ∧ s.aon.wakeCfg = 0x3 ∧
    s.mci.cfg = 0x0000000A00000100 ∧ s.svc.mkaCfg = 0x03E810000000000F ∧ s.vlt.entCfg = 0x019A002900000008 ∧
    s.lne.retryCfg = 0x0000000103E80003 ∧ s.cis.retryCfg = 0x03E80003 ∧ s.cxm.portCfg = 0x0400010000208000 ∧
    s.jnl.portCfg = 0x03E8006400000008 ∧ s.jnl.endurance = 100000000 ∧ s.jnl.grainXpn = 24 ∧ s.jnl.grainPn = 16 ∧
    s.ecfg.cutCfg = 0x00642710 ∧ s.ecfg.tpid = 0x0000910088A88100 ∧ s.fab.cfg = 0x0000013F00320A00 ∧
    s.fab.trainCfg = 0x020140801001020A ∧ s.chkCfg = 0x10 ∧ s.vlt.slots = [] ∧ s.secys = [] ∧ s.tx = [] ∧ s.rx = [] ∧
    s.sct.scs = [] ∧ s.que = [] ∧ s.cnt = [] ∧ s.egr.shedCfg = 0x04000100 ∧ s.ing.shedCfg = 0x04000100 ∧
    s.egr.rules = List.replicate 32 (0, 0) ∧ s.ing.rules = List.replicate 32 (0, 0) ∧
    (∀ p, (portOf s p).st = .off ∧ (portOf s p).eidle = 0xF ∧ (portOf s p).take = 0)

/-- O7. POWER_ON_RESET: every part of the engine is as after reset, AON and fabric time included, with rst_por_n low and
every event set clear (what the ports carried out before, and the count of free values drawn, are the model's record;
the test port's inputs stay). SYSTEM_RESET, with rst_por_n high and outside test mode: AON keeps its tamper latch,
live inputs, wake settings and divider, records the mode in LAST_MODE and cause 2, counts the boot, and its event set
and fabric time stay; the vault holds no key; the rest is as after reset. RESET_RELEASE, before any start-up and
outside test mode: with no tamper latched start-up begins and the root secret is asked for, and nothing else changes;
with one latched the engine is in LOCKOUT with cause 6 and BOOT_STAGE 0x0F at once. In test mode it raises rst_sys_n
alone, and after start-up has begun it changes nothing. (Model's choices that it rests on: log 5, 10, 75, 175.) -/
def Obligations.Resets : Prop :=
  (∀ s : State, ∃ t, exec .powerOnReset s = .next t ∧ sameBut [.pending, .out, .rng, .aon, .evt, .tst] State.reset t ∧
      t.aon = { Aon.reset with porLow := true } ∧ t.pending = s.pending ∧ t.out = s.out ∧
      t.tst = { s.tst with tdo := false, so := 0, tap := .logicReset, ir := 0x1F, sr := 0 } ∧
      ∀ u, (t.evt.get u).stat = 0 ∧ (t.evt.get u).raw = 0) ∧
  (∀ s : State, s.aon.porLow = false → s.glb.testMode = false → ∃ t, exec .systemReset s = .next t ∧
      sameBut [.pending, .out, .rng, .time, .frac, .aon, .evt, .vlt, .fab, .tst] State.reset t ∧
      t.time = s.time ∧ t.frac = s.frac ∧ t.pending = s.pending ∧ t.out = s.out ∧ t.tst = s.tst ∧
        t.vlt = { Vlt.reset with zeroOk := true } ∧
      t.fab = { Fab.reset with steer := { Steer.reset with ack := s.fab.steer.ack } } ∧
      t.aon = { s.aon with lastMode := BitVec.ofNat 3 s.glb.mode.code, rstCause := 2, bootCnt := Nat.min 0xFFFF (s.aon.bootCnt + 1),
                           sysLow := true, rootReq := false, rootWords := [], rootAbsent := false, wakeLatched := false } ∧
      t.evt.aon = s.evt.aon.cycle .aon (levelOf t .aon) s.time.toNat) ∧
  (∀ s : State, s.glb.booting = false → s.glb.bootStage = 0 → s.glb.testMode = false → s.aon.tmpLatched = 0 →
      ∃ t, exec .resetRelease s = .next t ∧
        settled { s with aon := { s.aon with porLow := false, sysLow := false, rootReq := true, rootWords := [] },
                         glb := { s.glb with booting := true } } t) ∧
  (∀ s : State, s.glb.booting = false → s.glb.bootStage = 0 → s.glb.testMode = false → s.aon.tmpLatched ≠ 0 →
      s.glb.mode ≠ .lockout →
      ∃ t, exec .resetRelease s = .next t ∧ t.glb.mode = .lockout ∧ t.glb.cause = 6 ∧ t.glb.tampered = true ∧
        t.glb.bootStage = 0x0F ∧
        t.aon.porLow = false ∧ t.aon.sysLow = false) ∧
  (∀ s : State, s.glb.booting = false → s.glb.bootStage = 0 → s.glb.testMode = true →
      ∃ t, exec .resetRelease s = .next t ∧ settled { s with aon := { s.aon with sysLow := false } } t) ∧
  (∀ s : State, (s.glb.booting = true ∨ s.glb.bootStage ≠ 0) → ∃ t, exec .resetRelease s = .next t ∧ settled s t)

/-- O8. While the engine asks for the root secret, with no reset low: each of the first seven words is kept in order, and
nothing else changes. The eighth makes a 256-bit value, word k in bits 32k to 32k + 31; if it is neither all zeros nor
all ones, the vault holds it in two shares whose sum is the value in system slot 8192, AON is up, the capture register
is empty, BOOT_STAGE is 1 and PD01 to PD03 ramp. A value of all zeros or all ones, rootkey_err or the deadline leaves
the secret absent: RESUME is 5, the absent level event shows, and start-up goes on the same way. (Model's choices that
it rests on: log 7, 10.) -/
def Obligations.RootSecret : Prop :=
  (∀ (s : State) (w : BitVec 32), resetLow s = false → s.aon.rootReq = true → s.aon.rootWords.length < 7 →
      ∃ t, exec (.rootkeyWord w false) s = .next t ∧
        settled { s with aon := { s.aon with rootWords := s.aon.rootWords ++ [w] } } t) ∧
  (∀ (s : State) (w : BitVec 32), resetLow s = false → s.aon.rootReq = true → s.aon.rootWords.length = 7 →
      (s.aon.rootWords ++ [w]).any (· != 0) = true → (s.aon.rootWords ++ [w]).any (· != 0xFFFFFFFF) = true →
      ∃ t, exec (.rootkeyWord w false) s = .next t ∧ t.vlt.rootOk = true ∧ (vslot t 8192).st = .loaded ∧
        (vslot t 8192).role = .system ∧ (vslot t 8192).attr = .deriveOnly ∧
        (∀ k, k < 8 → ((vslot t 8192).shareA ^^^ (vslot t 8192).shareB).extractLsb' (32 * k) 32 =
          (s.aon.rootWords ++ [w]).getD k 0) ∧
        t.aon = { s.aon with rootReq := false, rootWords := [], up := true } ∧
        t.glb = { s.glb with bootStage := 1, ramping := [1, 2, 3] } ∧ (∀ n, n ≠ 8192 → vslot t n = vslot s n) ∧
        sameBut [.vlt, .rng, .aon, .glb, .evt] s t) ∧
  (∀ (s : State) (w : BitVec 32) (e : Bool), resetLow s = false → s.aon.rootReq = true →
      (e = true ∨ s.aon.rootWords.length = 7 ∧
        ((s.aon.rootWords ++ [w]).all (· == 0) = true ∨ (s.aon.rootWords ++ [w]).all (· == 0xFFFFFFFF) = true)) →
      ∃ t, exec (.rootkeyWord w e) s = .next t ∧ eventSet t .aon 5 ∧
        settled { s with aon := { s.aon with rootReq := false, rootWords := [], up := true, rootAbsent := true },
                         glb := { s.glb with bootStage := 1, resume := 5, ramping := [1, 2, 3] } } t) ∧
  (∀ s : State, resetLow s = false → s.aon.rootReq = true → ∃ t, exec .rootkeyDeadline s = .next t ∧ eventSet t .aon 5 ∧
      settled { s with aon := { s.aon with rootReq := false, rootWords := [], up := true, rootAbsent := true },
                       glb := { s.glb with bootStage := 1, resume := 5, ramping := [1, 2, 3] } } t)

/-- O9. FIRMWARE_VERIFIED at BOOT_STAGE 1 of start-up: with a good ROM the version is the patch's, or 1.0.0 of the ROM
without an accepted patch (R4), the domains of R21 ramp after those that ramp, BOOT_STAGE is 2, and a rejected patch
raises its service event; a bad ROM raises AON source 9 and enters LOCKOUT with cause 8 and BOOT_STAGE 0x0F.
DOMAIN_RAMP_DONE of one of the first RAMP_MAX ramping domains whose units pass their test switches it on, and a bank
pair of the cistern serves; of PD01 to PD03, PD44 to PD47, PD50, PD52 and PD53 it changes nothing else but the ramp
order, and the last one of start-up makes BOOT_STAGE 3. COMMAND_READY at BOOT_STAGE 3 opens the command interface;
without a root secret start-up ends there at BOOT_STAGE 6 with RESUME 5, with one BOOT_STAGE is 4; in LOCKOUT it opens
the command interface alone. All of this with no reset low. (Model's choices that it rests on: log 5, 10, 74, 83,
147.) -/
def Obligations.Startup : Prop :=
  (∀ (s : State) (p : Option (Option (BitVec 24))), resetLow s = false → s.glb.booting = true → s.glb.bootStage = 1 →
      s.glb.mode ≠ .lockout →
      p ≠ some none →
      ∃ t, exec (.firmwareVerified true p) s = .next t ∧
        settled { s with
          glb := { s.glb with fw := (match p with | some (some v) => v | _ => 0x010000), fwOk := true,
                              ramping := s.glb.ramping ++ startDomains s, bootStage := 2 }
          svc := { s.svc with patch := if p.isSome then 1 else 0 } } t) ∧
  (∀ s : State, resetLow s = false → s.glb.booting = true → s.glb.bootStage = 1 → s.glb.mode ≠ .lockout →
      ∃ t, exec (.firmwareVerified true (some none)) s = .next t ∧
        settledWith .svc 0 { s with
          glb := { s.glb with fw := 0x010000, fwOk := true, ramping := s.glb.ramping ++ startDomains s, bootStage := 2 }
          svc := { s.svc with patch := 2 } } t) ∧
  (∀ s : State, resetLow s = false → s.glb.booting = true → s.glb.bootStage = 1 → s.glb.mode ≠ .lockout →
      ∀ p, ∃ t, exec (.firmwareVerified false p) s = .next t ∧ t.glb.mode = .lockout ∧ t.glb.cause = 8 ∧ t.glb.tampered = false ∧
        t.glb.bootStage = 0x0F ∧ eventSet t .aon 9) ∧
  (∀ (s : State) (pd : Nat) (e : BitVec 512), resetLow s = false → pd ∈ s.glb.ramping.take s.glb.rampMax → pd < 56 →
      katClean e = true →
      ∃ t, exec (.domainRampDone pd e) s = .next t ∧ t.glb.pdOn.getLsbD pd = true ∧
        (4 ≤ pd → pd ≤ 7 → t.cis.pairs.getLsbD (pd - 4) = true)) ∧
  (∀ (s : State) (pd : Nat) (e : BitVec 512), resetLow s = false → pd ∈ s.glb.ramping.take s.glb.rampMax →
      pd ∈ [1, 2, 3, 44, 45, 46, 47, 50, 52, 53] →
      ∃ t, exec (.domainRampDone pd e) s = .next t ∧
        settled { s with glb := { s.glb with
          ramping := s.glb.ramping.filter (· != pd), pdOn := s.glb.pdOn ||| BitVec.ofNat 56 (2 ^ pd),
          bootStage := if s.glb.booting = true ∧ s.glb.bootStage = 2 ∧ s.glb.ramping.filter (· != pd) = [] then 3
            else s.glb.bootStage } } t) ∧
  (∀ s : State, resetLow s = false → s.glb.booting = true → s.glb.bootStage = 3 → s.glb.mode ≠ .lockout →
      s.aon.rootAbsent = true →
      ∃ t, exec .commandReady s = .next t ∧
        settled { s with glb := { s.glb with booting := false, resume := 5, bootStage := 6 },
                         mci := { s.mci with ready := true } } t) ∧
  (∀ s : State, resetLow s = false → s.glb.booting = true → s.glb.mode = .lockout →
      ∃ t, exec .commandReady s = .next t ∧
        settled { s with glb := { s.glb with booting := false }, mci := { s.mci with ready := true } } t) ∧
  (∀ s : State, resetLow s = false → s.glb.booting = true → s.glb.bootStage = 3 → s.glb.mode ≠ .lockout →
      s.aon.rootAbsent = false →
      ∃ t, exec .commandReady s = .next t ∧ t.mci = { s.mci with ready := true } ∧
        t.glb = { s.glb with booting := false, bootStage := 4 } ∧ sameBut [.glb, .mci, .jnl, .out, .evt] s t)

/-- O10. TAMPER_INPUT, with rst_por_n high: an input at 1 in two ac samples running is latched and is the live value.
VOLTAGE_GLITCH sets latch bit 4. Before reset release, in LOCKOUT, or with an empty latch nothing else follows. With
the engine released, any latched tamper enters LOCKOUT with cause 6 at once, whatever the masks, severities, times and
actions of the event sets, and every vault slot is EMPTY with both shares zero. CLOCK_FAULT sets or clears the
condition of AON source 7, which shows while it holds. (Model's choices that it rests on: log 66, 67, 145, 148.) -/
def Obligations.TamperAndClock : Prop :=
  (∀ (s : State) (v : BitVec 4), s.aon.porLow = false →
      (released s = false ∨ s.glb.mode = .lockout ∨ s.aon.tmpLatched ||| (v &&& s.aon.tmpPrev).setWidth 5 = 0) →
      ∃ t, exec (.tamperInput v) s = .next t ∧
        settled { s with aon := { s.aon with tmpLive := v &&& s.aon.tmpPrev, tmpPrev := v,
                                             tmpLatched := s.aon.tmpLatched ||| (v &&& s.aon.tmpPrev).setWidth 5 } } t) ∧
  (∀ s : State, s.aon.porLow = false → (released s = false ∨ s.glb.mode = .lockout) →
      ∃ t, exec .voltageGlitch s = .next t ∧
        settled { s with aon := { s.aon with tmpLatched := s.aon.tmpLatched ||| 0x10 } } t) ∧
  (∀ (s : State) (v : BitVec 4), s.aon.porLow = false → released s = true → s.glb.mode ≠ .lockout →
      s.aon.tmpLatched ||| (v &&& s.aon.tmpPrev).setWidth 5 ≠ 0 →
      ∃ t, exec (.tamperInput v) s = .next t ∧ t.glb.mode = .lockout ∧ t.glb.cause = 6 ∧ t.glb.prev = s.glb.mode ∧
        t.glb.tampered = true ∧ ∀ n, (vslot t n).st = .empty ∧ (vslot t n).shareA = 0 ∧ (vslot t n).shareB = 0) ∧
  (∀ s : State, s.aon.porLow = false → released s = true → s.glb.mode ≠ .lockout →
      ∃ t, exec .voltageGlitch s = .next t ∧ t.glb.mode = .lockout ∧ t.glb.cause = 6 ∧ t.glb.prev = s.glb.mode ∧
        t.glb.tampered = true ∧ ∀ n, (vslot t n).st = .empty ∧ (vslot t n).shareA = 0 ∧ (vslot t n).shareB = 0) ∧
  (∀ (s : State) (b : Bool), s.aon.porLow = false → ∃ t, exec (.clockFault b) s = .next t ∧
      settled { s with aon := { s.aon with clkBad := b } } t ∧ (levelOf t .aon).getLsbD 7 = b ∧ (b = true → eventSet t .aon 7))

/-- O11. While a collection runs, a sample that reaches neither cutoff of the two continuous tests raises the number of
good samples by one, and only the collection changes; ent_err counts a failure, raises its event and begins the
collection again as long as the fault is not permanent. DRBG_INSTANTIATE and DRBG_RESEED with enough samples seed the
DRBG: it generates and the seed time is now; DRBG_RESEED without a collection starts one 65,536 requests or 1 s after
the seed. ENTROPY_RETEST starts a batch while the DRBG has stopped. (The random values are free, log 4.) (Model's
choices that it rests on: log 4, 79, 80, 162.) -/
def Obligations.EntropyAndDrbg : Prop :=
  (∀ (s : State) (b : Byte), resetLow s = false → s.vlt.ent.purpose.isSome = true → entBad s (entStep b s.vlt.ent) = false →
      entReady { s with vlt := { s.vlt with ent := entStep b s.vlt.ent } } .startup = false →
      ∃ t, exec (.entropySample b false) s = .next t ∧ t.vlt.ent.got = s.vlt.ent.got + 1 ∧ t.vlt.ent.last = some b ∧
        t.vlt.ent.run = (if s.vlt.ent.last = some b then s.vlt.ent.run + 1 else 1) ∧
        settled { s with vlt := { s.vlt with ent := t.vlt.ent } } t) ∧
  (∀ (s : State) (b : Byte), resetLow s = false → s.vlt.ent.purpose.isSome = true → s.vlt.drbgStop = false →
      isPermanent s.vlt.retryCfg (stampAdd s.vlt.entStamps (now s)) = false →
      ∃ t, exec (.entropySample b true) s = .next t ∧
        settledWith .vlt 6 { s with vlt := { s.vlt with
          entStamps := stampAdd s.vlt.entStamps (now s), failCnt := Nat.min 0xFFFF (s.vlt.failCnt + 1),
          ent := { Ent.idle with purpose := s.vlt.ent.purpose } } } t) ∧
  (∀ s : State, resetLow s = false → entReady s .instantiate = true → s.vlt.drbg = false → s.glb.deg.getLsbD 7 = false →
      s.glb.resume ≠ 6 →
      s.svc.cas = [] →
      ∃ t, exec .drbgInstantiate s = .next t ∧ t.vlt.drbg = true ∧ t.vlt.drbgStop = false ∧ t.vlt.lastSeed = now s ∧
        t.vlt.ent = .idle ∧ t.vlt.bootKey = none ∧ t.vlt.slots = s.vlt.slots ∧ sameBut [.vlt, .rng, .cis, .sct, .evt] s t) ∧
  (∀ s : State, resetLow s = false → entReady s .reseed = true → s.vlt.drbg = true → s.glb.deg.getLsbD 7 = false →
      s.glb.resume ≠ 6 →
      s.svc.cas = [] →
      ∃ t, exec .drbgReseed s = .next t ∧
        settled { s with vlt := { s.vlt with drbg := true, drbgStop := false, lastSeed := now s, reqSince := 0, ent := .idle,
                                             bootKey := none, bootStage := 0, bootV := 0, bootIdx := 0 } } t) ∧
  (∀ s : State, resetLow s = false → s.vlt.drbg = true → s.vlt.drbgStop = false → s.vlt.ent.purpose = none →
      (65536 ≤ s.vlt.reqSince ∨ s.vlt.lastSeed + 1000000000 ≤ now s) →
      ∃ t, exec .drbgReseed s = .next t ∧
        settled { s with vlt := { s.vlt with ent := { Ent.idle with purpose := some .reseed } } } t) ∧
  (∀ s : State, resetLow s = false → s.vlt.drbgStop = true → s.vlt.ent.purpose = none →
      ∃ t, exec .entropyRetest s = .next t ∧
        settled { s with vlt := { s.vlt with ent := { Ent.idle with purpose := some .retest } } } t)

/-- O12. REMASK_SWEEP_START with the root secret held and a random source begins a sweep at row 0 under a fresh key (a
free value, log 4). REMASK_ROW_WRITE of a sweep writes the row read in the cycle before: both shares are changed by
one value, so that their sum, the key, and the state, role, attribute and generation of every slot stay, then reads
the next row; after the last row's write the sweep ends and is counted. REMASK_STALLED with an unchanged share raises
AON source 6. UNWRAP_DONE with a parity fault that is not permanent raises VLT source 4 and stamps its engine; without
one it changes nothing. (Model's choices that it rests on: log 4, 80, 82.) -/
def Obligations.Remasking : Prop :=
  (∀ s : State, resetLow s = false → s.vlt.sweeping = false → s.vlt.rootOk = true → drbgFull s = false →
      (drbgOn s = true ∨ s.vlt.bootKey.isSome = true) →
      ∃ t, exec .remaskSweepStart s = .next t ∧ t.vlt.sweeping = true ∧ t.vlt.row = 0 ∧ t.vlt.sweepStart = now s ∧
        t.vlt.remaskRead = none ∧ t.vlt.slots = s.vlt.slots ∧ sameBut [.vlt, .rng, .evt] s t) ∧
  (∀ s : State, resetLow s = false → s.vlt.sweeping = true → s.vlt.row < 8448 →
      ∃ t, exec (.remaskRowWrite false) s = .next t ∧ t.vlt.row = s.vlt.row + 1 ∧ t.vlt.sweeping = true ∧
        (∀ n, let v := vslot s n; let w := vslot t n
          w.shareA ^^^ w.shareB = v.shareA ^^^ v.shareB ∧ w.mw ^^^ fold256 w.shareA = v.mw ^^^ fold256 v.shareA ∧
          w.st = v.st ∧ w.role = v.role ∧ w.attr = v.attr ∧ w.gen = v.gen ∧ w.refs = v.refs ∧
          ((∀ x, s.vlt.remaskRead ≠ some (n, x)) → w = v)) ∧
        t.vlt.remaskRead = some (s.vlt.row, (vslot t s.vlt.row).shareA) ∧ sameBut [.vlt, .rng, .evt] s t) ∧
  (∀ s : State, resetLow s = false → s.vlt.sweeping = true → 8448 ≤ s.vlt.row → s.vlt.remaskRead = none →
      ∃ t, exec (.remaskRowWrite false) s = .next t ∧
        settled { s with vlt := { s.vlt with sweeping := false, row := 0, sweeps := (s.vlt.sweeps + 1) % 2 ^ 32 } } t) ∧
  (∀ s : State, resetLow s = false → ∃ t, exec (.remaskStalled true) s = .next t ∧ settledWith .aon 6 s t) ∧
  (∀ (s : State) (e : Nat), resetLow s = false → ∃ t, exec (.unwrapDone e false) s = .next t ∧ settled s t) ∧
  (∀ (s : State) (e : Nat), resetLow s = false → e < 8 → s.vlt.unwOn = true → e ∉ s.vlt.unwOos →
      isPermanent s.vlt.retryCfg (stampAdd (smGet [] s.vlt.unwStamps e) (now s)) = false →
      ∃ t, exec (.unwrapDone e true) s = .next t ∧ eventSet t .vlt 4 ∧
        smGet [] t.vlt.unwStamps e = stampAdd (smGet [] s.vlt.unwStamps e) (now s) ∧ t.vlt.unwOos = s.vlt.unwOos ∧
        sameBut [.vlt, .evt, .tel] s t)

/-- O13. PRT_UP_CHANGE holds the new port states; outside DOZE and with no mode change in progress nothing else changes;
in DOZE a change wakes the engine where WAKE_CFG bit 0 allows it. STEER_ACK_RISE with a request drops it and the
handshake drains; without one the PEER event with cause STEER_PROTO is raised. STEER_ACK_FALL with no need held ends
the handshake; outside LOCKOUT a held TAKE, outside DOZE too, goes before a held YIELD and names the partner.
STEER_LATE raises the PEER event with cause 7 while the request is unanswered, and the request stays. STEER_ACK_STUCK
raises STEER_PROTO while the acknowledge of a fallen request stays up. (Model's choices that it rests on: log 19, 111,
126.) -/
def Obligations.PortsAndSteering : Prop :=
  (∀ (s : State) (v : W64), resetLow s = false → s.glb.mode ≠ .doze → s.glb.change = none →
      ∃ t, exec (.prtUpChange v) s = .next t ∧ settled { s with glb := { s.glb with prt := v } } t) ∧
  (∀ (s : State) (v : W64), resetLow s = false → s.glb.mode = .doze → s.glb.change = none → v ≠ s.glb.prt →
      s.aon.wakeCfg.getLsbD 0 = true →
      ∃ t, exec (.prtUpChange v) s = .next t ∧ t.glb.prt = v ∧ t.glb.change = some { kind := .waking, cmd := none } ∧
        t.aon = { s.aon with wakeLatched := true } ∧ sameBut [.glb, .aon, .evt] s t) ∧
  (∀ s : State, resetLow s = false → s.fab.steer.req = true → ∃ t, exec .steerAckRise s = .next t ∧
      settled { s with fab := { s.fab with steer := { s.fab.steer with ack := true, req := false, draining := true } } } t) ∧
  (∀ s : State, resetLow s = false → s.fab.steer.req = false → ∃ t, exec .steerAckRise s = .next t ∧
      t.fab = { s.fab with steer := { s.fab.steer with ack := true }, peerLog := t.fab.peerLog } ∧ fld t.fab.peerLog 60 4 = 9 ∧
      (peerPort s s.fab.pair.partner < 8 → eventSet t .fab (4 * peerPort s s.fab.pair.partner + 3)) ∧
      sameBut [.fab, .evt, .tel] s t) ∧
  (∀ s : State, resetLow s = false → s.fab.steer.needTake = false → s.fab.steer.needYield = false → ∃ t,
      exec .steerAckFall s = .next t ∧
      settled { s with fab := { s.fab with steer := { s.fab.steer with ack := false, draining := false } } } t) ∧
  (∀ (s : State) (p : Nat), resetLow s = false → s.fab.steer.req = false → s.fab.pair.partner = some p →
      s.fab.steer.needTake = true →
      s.glb.mode ≠ .doze → s.glb.mode ≠ .lockout → ∃ t, exec .steerAckFall s = .next t ∧
      settled { s with fab := { s.fab with steer := { s.fab.steer with
        ack := false, draining := false, req := true, code := 1, peer := p, needTake := false } } } t) ∧
  (∀ (s : State) (p : Nat), resetLow s = false → s.fab.steer.req = false → s.fab.pair.partner = some p →
      s.fab.steer.needTake = false →
      s.fab.steer.needYield = true → s.glb.mode ≠ .lockout → ∃ t, exec .steerAckFall s = .next t ∧
      settled { s with fab := { s.fab with steer := { s.fab.steer with
        ack := false, draining := false, req := true, code := 2, peer := p, needYield := false, handover := false } } } t) ∧
  (∀ s : State, resetLow s = false → s.fab.steer.req = true → s.fab.steer.ack = false → ∃ t, exec .steerLate s = .next t ∧
      t.fab = { s.fab with peerLog := t.fab.peerLog } ∧ fld t.fab.peerLog 60 4 = 7 ∧
      (peerPort s s.fab.pair.partner < 8 → eventSet t .fab (4 * peerPort s s.fab.pair.partner + 3)) ∧ sameBut [.fab, .evt,
        .tel] s t) ∧
  (∀ s : State, resetLow s = false → s.fab.steer.ack = true → s.fab.steer.draining = true → ∃ t, exec .steerAckStuck s = .next t ∧
      t.fab = { s.fab with peerLog := t.fab.peerLog } ∧ fld t.fab.peerLog 60 4 = 9 ∧
      (peerPort s s.fab.pair.partner < 8 → eventSet t .fab (4 * peerPort s s.fab.pair.partner + 3)) ∧ sameBut [.fab, .evt,
        .tel] s t)

/-- O14. In LOCKOUT every command of a host but SYS_GET_INFO and SYS_READ_STATE, privileged where it must be, replies
TAMPERED if the cause of LOCKOUT was a tamper and WRONG_MODE otherwise, and beside its reply nothing of the engine
changes. -/
def Obligations.LockoutReplies : Prop :=
  ∀ (c : Instr) (op n : Nat) (p : Pkt) (s : State), mciOf c = some (op, p) → reaches op n p s = true →
    s.glb.mode = .lockout → op ≠ 0x02 → op ≠ 0x04 → (p.priv = true ∨ ∀ o, opInfo op = some o → o.priv = false) →
    ∃ t, exec c s = .next t ∧ answered op n p (if s.glb.tampered then 0x1A else 0x16) [] s t

/-- O15. In every mode a command that R336 marks as privileged, from a host queue without privilege, replies PRIV_DENIED.
In COLD a command that R336 does not permit there, privileged where it must be, replies WRONG_MODE. Beside its reply
nothing of the engine changes. (Model's choices that it rests on: log 11.) -/
def Obligations.PrivilegeAndColdReplies : Prop :=
  (∀ (c : Instr) (op n : Nat) (p : Pkt) (s : State) (o : OpInfo), mciOf c = some (op, p) → reaches op n p s = true →
      opInfo op = some o → o.priv = true → p.priv = false →
      ∃ t, exec c s = .next t ∧ answered op n p 0x20 [] s t) ∧
  (∀ (c : Instr) (op n : Nat) (p : Pkt) (s : State) (o : OpInfo), mciOf c = some (op, p) → reaches op n p s = true →
      s.glb.mode = .cold → opInfo op = some o → o.cold = false → (o.priv = true → p.priv = true) →
      ∃ t, exec c s = .next t ∧ answered op n p 0x16 [] s t)

/-- O16. Outside LOCKOUT and COLD, with no mode change, resume or service fault, a permitted command whose header has a
reserved bit set, or a destination without REMOTE, replies BAD_PARAM and is not executed. A command whose LEN its
opcode does not allow replies BAD_LENGTH. A command of the same requester, tag, opcode and parameter CRC as one kept
for the duplicate check is not executed: it replies DUPLICATE with the kept words and the kept status in its header,
and both the reply and the duplicate are counted. Neither enters the cache. -/
def Obligations.HeaderChecksAndDuplicates : Prop :=
  (∀ (c : Instr) (op n : Nat) (p : Pkt) (s : State) (o : OpInfo), mciOf c = some (op, p) → reaches op n p s = true →
      s.glb.mode ≠ .lockout → s.glb.mode ≠ .cold → s.glb.change = none → s.glb.resume ≠ 1 → s.svc.stopped = false →
      opInfo op = some o → (o.priv = true → p.priv = true) → (p.flags &&& 0xFC ≠ 0 ∨ p.rsv ≠ 0 ∨ p.dst ≠ 0) →
      ∃ t, exec c s = .next t ∧ answered op n p 0x12 [] s t) ∧
  (∀ (c : Instr) (op n : Nat) (p : Pkt) (s : State) (o : OpInfo), mciOf c = some (op, p) → n < 4 → p.req = .hq n →
      resetLow s = false →
      opInfo op = some o → (64 < p.len ∨ o.len p.len p.words = false) →
      ∃ t, exec c s = .next t ∧ replyIn op n p 0x11 [] s t ∧ t.mci.dups = s.mci.dups ∧ t.mci.cmdq = s.mci.cmdq ∧
        t.mci.running = s.mci.running ∧ sameBut [.mci, .evt, .tel, .cnt, .que] s t) ∧
  (∀ (c : Instr) (op n : Nat) (p : Pkt) (s : State) (d : Dup), mciOf c = some (op, p) → n < 4 → p.req = .hq n →
      resetLow s = false →
      checkForm (newCmd op p s) = none → dupEntry s (newCmd op p s) = some d → d.opcode = BitVec.ofNat 8 op → d.crc = pktCrc p →
      ∃ t, exec c s = .next t ∧
        (hostSlot t n p.slot).st = .done ∧ (hostSlot t n p.slot).rep =
          repHeader (newCmd op p s) 0x02 d.words.length d.status.toNat (bn (decide (8 < d.rlen))) :: d.words ∧
        smGet 0 t.cnt 0x5D = satAdd 63 (smGet 0 s.cnt 0x5D) 1 ∧ smGet 0 t.cnt 0x5C = satAdd 63 (smGet 0 s.cnt 0x5C) 1 ∧
        t.mci.dups = s.mci.dups ∧ t.mci.cmdq = s.mci.cmdq ∧ t.mci.running = s.mci.running ∧
        sameBut [.mci, .evt, .tel, .cnt, .que] s t)

/-- O17. A command that passes the checks of form and duplicates, but shares an object or a fence with an earlier command
that has not completed, joins the end of the command queue and nothing is replied. COMMAND_START with no command whose
turn has come changes nothing. (Model's choices that it rests on: log 14, 114, 163.) -/
def Obligations.CommandsWaitTheirTurn : Prop :=
  (∀ (c : Instr) (op n : Nat) (p : Pkt) (s : State), resetLow s = false → mciOf c = some (op, p) → p.req = .hq n →
      pktRemote p = false →
      checkForm (newCmd op p s) = none → dupEntry s (newCmd op p s) = none → tagBusy s (newCmd op p s) = false →
      heldBack s (newCmd op p s) = true →
      ∃ t, exec c s = .next t ∧
        t.mci = { s.mci with nextId := s.mci.nextId + 1, cmdq := s.mci.cmdq ++ [newCmd op p s] } ∧
        (∀ j, j ≠ 6 → queOf t j = queOf s j) ∧ (queOf t 6).wr = (queOf s 6).wr + 1 ∧ (queOf t 6).rd = (queOf s 6).rd ∧
        sameBut [.mci, .evt, .tel, .que] s t) ∧
  (∀ s : State, resetLow s = false → startable s = none → ∃ t, exec .commandStart s = .next t ∧ settled s t) ∧
  (∀ (s : State) (q : QCmd) (n : Nat), resetLow s = false → startable s = some q → q.pkt.req = .hq n → n < 4 → q.opcode = 0x01 →
      checkRun q s = none →
      ∃ t, exec .commandStart s = .next t ∧ (hostSlot t n q.pkt.slot).st = .done ∧
        (hostSlot t n q.pkt.slot).rep = [repHeader q 0 0 0 0] ∧ eventSet t .mci n ∧
        t.mci.cmdq = s.mci.cmdq.filter (fun c => c.id != q.id) ∧ sameBut [.mci, .evt, .tel, .cnt, .que] s t)

/-- O18. SYS_NOP replies OK with no word. SYS_GET_INFO replies GLB_ID, GLB_MODE, the degraded causes and the free traffic
slots, free SC places and transmit SAs. SYS_READ_STATE replies the state summary, ending with fabric time, or with bit
0 the FIRST record of each of the 14 subsystems in csr_irq order. None of them changes anything beside its reply.
(Model's choices that it rests on: log 33.) -/
def Obligations.SystemReads : Prop :=
  (∀ (p : Pkt) (s : State) (n : Nat), startsNow 0x01 n p s = true →
      ∃ t, exec (.sysNop p) s = .next t ∧ answered 0x01 n p 0 [] s t) ∧
  (∀ (p : Pkt) (s : State) (n : Nat), startsNow 0x02 n p s = true →
      ∃ t, exec (.sysGetInfo p) s = .next t ∧ answered 0x02 n p 0 [regGlbId s, regGlbMode s, put s.glb.deg.toNat 0 8,
        put (8192 - usedSlots s isTraffic) 32 14 ||| put (16384 - s.sct.scs.length) 16 15 ||| put s.tx.length 0 13] s t) ∧
  (∀ (p : Pkt) (s : State) (n : Nat), startsNow 0x04 n p s = true → wordAt p.words 0 = 0 →
      ∃ t, exec (.sysReadState p) s = .next t ∧ answered 0x04 n p 0 [regGlbMode s, put s.glb.deg.toNat 0 8, regTmpStat s,
        regBoot s, regVltStat s,
        regJnlStat s, regCxmStat s, s.time] s t) ∧
  (∀ (p : Pkt) (s : State) (n : Nat), startsNow 0x04 n p s = true → wordAt p.words 0 = 1 →
      ∃ t, exec (.sysReadState p) s = .next t ∧ answered 0x04 n p 0 [s.evt.aon.first, s.evt.mci.first, s.evt.svc.first,
        s.evt.vlt.first, s.evt.cis.first,
        s.evt.egr.first, s.evt.ing.first, s.evt.lne.first, s.evt.cxm.first, s.evt.jnl.first, s.evt.fab.first, s.evt.chk.first,
        s.evt.tel.first, s.evt.que.first] s t)

/-- O19. SECY_QUERY, SC_QUERY, SA_QUERY, SA_STATS_READ and CUT_QUERY of an object that exists reply OK with its words and
change nothing else; of one that does not exist they reply NOT_FOUND. SECY_QUERY: SCI, TXP, RXP, the state word, and
the eleven statistics. SC_QUERY: link, installed and enabled ANs, SCI. SA_QUERY: configuration, PN, lease or floor,
times. SA_STATS_READ: four statistics and their flags. CUT_QUERY: state and AN, instant, COMMIT sequence. (Model's
choices that it rests on: log 33.) -/
def Obligations.TableReads : Prop :=
  (∀ (p : Pkt) (s : State) (n : Nat) (y : Secy), startsNow 0x15 n p s = true → onlyBits 0x3FF (wordAt p.words 0) = true →
      secyOf s (fld (wordAt p.words 0) 0 10) = some y →
      ∃ t, exec (.secyQuery p) s = .next t ∧ answered 0x15 n p 0 ([y.sci, y.txp, y.rxp,
        secyWord y ||| putB y.pendEn 47 ||| put y.cut.code 45 2 ||| put y.cutAn 43 2] ++
        (List.range 11).map (fun i => put (smGet 0 y.stats i) 0 64)) s t) ∧
  (∀ (p : Pkt) (s : State) (n : Nat), startsNow 0x15 n p s = true → onlyBits 0x3FF (wordAt p.words 0) = true →
      secyOf s (fld (wordAt p.words 0) 0 10) = none →
      ∃ t, exec (.secyQuery p) s = .next t ∧ answered 0x15 n p 0x14 [] s t) ∧
  (∀ (p : Pkt) (s : State) (n : Nat) (c : Sc), startsNow 0x22 n p s = true → onlyBits 0x3FFF (wordAt p.words 0) = true →
      scOf s (fld (wordAt p.words 0) 0 14) = some c →
      ∃ t, exec (.scQuery p) s = .next t ∧ answered 0x22 n p 0 [put (((List.range 4).foldl (fun m a =>
          m + bn ((rxOf s (4 * fld (wordAt p.words 0) 0 14 + a)).any (fun x => x.enabled)) * 2 ^ a) 0)) 20 4 |||
        put (((List.range 4).foldl (fun m a =>
          m + bn ((rxOf s (4 * fld (wordAt p.words 0) 0 14 + a)).any (fun _ => true)) * 2 ^ a) 0)) 16 4 ||| put c.link 0 10,
            c.sci] s t) ∧
  (∀ (p : Pkt) (s : State) (n : Nat), startsNow 0x22 n p s = true → onlyBits 0x3FFF (wordAt p.words 0) = true →
      scOf s (fld (wordAt p.words 0) 0 14) = none →
      ∃ t, exec (.scQuery p) s = .next t ∧ answered 0x22 n p 0x14 [] s t) ∧
  (∀ (p : Pkt) (s : State) (n : Nat) (a : Sa), startsNow 0x34 n p s = true → saWordOk (wordAt p.words 0) = true →
      bitAt (wordAt p.words 0) 63 = false →
      txOf s (fld (wordAt p.words 0) 0 16) = some a →
      ∃ t, exec (.saQuery p) s = .next t ∧ answered 0x34 n p 0 [saConfig false (fld (wordAt p.words 0) 0 16 % 4)
        (saLink (fld (wordAt p.words 0) 0 16)) a, put a.pn 0 64, put a.cur.stop 0 64, put a.nxt.start 0 64, put a.nxt.stop 0 64,
        put a.tInst 0 64, put a.tStart 0 64, put a.tStop 0 64] s t) ∧
  (∀ (p : Pkt) (s : State) (n : Nat) (a : Sa), startsNow 0x34 n p s = true → saWordOk (wordAt p.words 0) = true →
      bitAt (wordAt p.words 0) 63 = true →
      rxOf s (fld (wordAt p.words 0) 0 16) = some a →
      ∃ t, exec (.saQuery p) s = .next t ∧ answered 0x34 n p 0 [saConfig true (fld (wordAt p.words 0) 0 16 % 4)
        (rxLink s (fld (wordAt p.words 0) 0 16)) a, put a.pn 0 64, put a.floor 0 64, put 0 0 64, put 0 0 64,
        put a.tInst 0 64, put a.tStart 0 64, put a.tStop 0 64] s t) ∧
  (∀ (p : Pkt) (s : State) (n : Nat) (a : Sa), startsNow 0x35 n p s = true → saWordOk (wordAt p.words 0) = true →
      (if bitAt (wordAt p.words 0) 63 then rxOf s (fld (wordAt p.words 0) 0 16) else txOf s (fld (wordAt p.words 0) 0 16)) = some a →
      ∃ t, exec (.saStatsRead p) s = .next t ∧ answered 0x35 n p 0 [put (smGet 0 a.stats 0) 0 64,
        put (smGet 0 a.stats 1) 0 64, put (smGet 0 a.stats 2) 0 64, put (smGet 0 a.stats 3) 0 64,
        putB a.reprimed 4 ||| put a.sat.toNat 0 4] s t) ∧
  (∀ (p : Pkt) (s : State) (n : Nat), startsNow 0x35 n p s = true → saWordOk (wordAt p.words 0) = true →
      (if bitAt (wordAt p.words 0) 63 then rxOf s (fld (wordAt p.words 0) 0 16) else txOf s (fld (wordAt p.words 0) 0 16)) = none →
      ∃ t, exec (.saStatsRead p) s = .next t ∧ answered 0x35 n p 0x14 [] s t) ∧
  (∀ (p : Pkt) (s : State) (n : Nat) (y : Secy), startsNow 0x52 n p s = true → onlyBits 0x3FF (wordAt p.words 0) = true →
      secyOf s (fld (wordAt p.words 0) 0 10) = some y →
      ∃ t, exec (.cutQuery p) s = .next t ∧ answered 0x52 n p 0 [put y.cut.code 0 2 ||| put y.cutAn 4 2, put y.cutTime 0 64,
        put y.cutSeq 0 64] s t)

/-- O20. KEY_QUERY of a slot that the command may name, MKA_QUERY of a SecY, LEASE_QUERY, FAB_QUERY (summary, ports,
peers), JNL_QUERY of a resolved journal and CHK_QUERY reply OK with their words and change nothing beside the reply.
(Model's choices that it rests on: log 57, 58.) -/
def Obligations.ServiceReads : Prop :=
  (∀ (p : Pkt) (s : State) (n : Nat) (k : Nat), startsNow 0x44 n p s = true → onlyBits 0xFFFF (wordAt p.words 0) = true →
      rootGone s = false →
      cmdSlot s (fld (wordAt p.words 0) 0 16) = some k →
      ∃ t, exec (.keyQuery p) s = .next t ∧ answered 0x44 n p 0 [descriptor s k] s t) ∧
  (∀ (p : Pkt) (s : State) (n : Nat), startsNow 0x5B n p s = true → onlyBits 0x3FF (wordAt p.words 0) = true →
      (secyOf s (fld (wordAt p.words 0) 0 10)).isSome = true →
      ∃ t, exec (.mkaQuery p) s = .next t ∧ answered 0x5B n p 0 (mkaQueryWords s (fld (wordAt p.words 0) 0 10)) s t) ∧
  (∀ (p : Pkt) (s : State) (n : Nat), startsNow 0x60 n p s = true → onlyBits 0xFFF (wordAt p.words 0) = true →
      ∃ t, exec (.leaseQuery p) s = .next t ∧ answered 0x60 n p 0 (leaseWords s (fld (wordAt p.words 0) 0 12)) s t) ∧
  (∀ (p : Pkt) (s : State) (n : Nat), startsNow 0x68 n p s = true → wordAt p.words 0 = 0 →
      ∃ t, exec (.fabQuery p) s = .next t ∧ answered 0x68 n p 0 [regFabCfg s, s.time, regTimeStat s, regPairStat s,
        s.fab.peerLog, s.fab.engineId] s t) ∧
  (∀ (p : Pkt) (s : State) (n : Nat), startsNow 0x68 n p s = true → wordAt p.words 0 = 2 →
      ∃ t, exec (.fabQuery p) s = .next t ∧ answered 0x68 n p 0 ((List.range 64).map (regPeer s)) s t) ∧
  (∀ (p : Pkt) (s : State) (n : Nat), startsNow 0x71 n p s = true → jnlGate s false = none →
      ∃ t, exec (.jnlQuery p) s = .next t ∧ answered 0x71 n p 0 [regJnlStat s, regJnlWear s, BitVec.ofNat 64 s.jnl.seq,
        (match s.jnl.image with | some im => putB true 63 ||| put im.words.length 32 16 ||| put im.gen 0 32 | none => 0)] s t) ∧
  (∀ (p : Pkt) (s : State) (n : Nat), startsNow 0x81 n p s = true → onlyBits 3 (wordAt p.words 0) = true → pdIsOn s 54 = true →
      ∃ t, exec (.chkQuery p) s = .next t ∧ answered 0x81 n p 0 (let c := chkOf s (fld (wordAt p.words 0) 0 2)
        [put c.st.code 60 4 ||| put c.outcome 56 4 ||| put c.alive 0 16, c.crc, BitVec.ofNat 64 c.scanned]) s t)

/-- O21. SYS_SET_MODE: from PROVISION, target 2 enters PROTECT, or DEGRADED where a cause is set, with cause 1, and locks
the RWL fields; from COLD, target 1 enters PROVISION with the protected region built, keeping hash keys drawn before;
from PROTECT or DEGRADED, target 4 starts the entry of DOZE and the command waits for it; target 5 replies WRONG_MODE.
SYS_SET_POLICY without COMMIT puts its rules into the staging set of the direction, owned by its requester; with
COMMIT and no staging set it installs the direction's rules with its own written over them; while another requester
owns the set it replies BUSY. STAGING_SET_TIMEOUT discards the set. (Model's choices that it rests on: log 14, 17, 31,
171.) -/
def Obligations.ModesAndPolicy : Prop :=
  (∀ (p : Pkt) (s : State) (n : Nat), startsNow 0x03 n p s = true → wordAt p.words 0 = 2 → s.glb.mode = .provision →
      s.vlt.drbgStop = false →
      ∃ t, exec (.sysSetMode p) s = .next t ∧ answered 0x03 n p 0 []
        { s with glb := { s.glb with prev := .provision, mode := if s.glb.deg = 0 then .protect else .degraded, cause := 1,
                                     locked := true } } t) ∧
  (∀ (p : Pkt) (s : State) (n : Nat), startsNow 0x03 n p s = true → wordAt p.words 0 = 1 → s.glb.mode = .cold →
      ∃ t, exec (.sysSetMode p) s = .next t ∧ replyIn 0x03 n p 0 [] s t ∧
        t.glb = { s.glb with prev := .cold, mode := .provision, cause := 1 } ∧ t.cxm.trusted = true ∧
        (s.cis.setKey ≠ 0 → t.cis.setKey = s.cis.setKey ∧ t.sct = s.sct) ∧
        sameBut [.mci, .evt, .tel, .cnt, .que, .glb, .cis, .sct, .rng, .vlt, .cxm, .out] s t) ∧
  (∀ (p : Pkt) (s : State) (n : Nat), startsNow 0x03 n p s = true → wordAt p.words 0 = 1 → s.glb.mode = .cold →
      s.cxm.trusted = true → s.cis.setKey ≠ 0 →
      ∃ t, exec (.sysSetMode p) s = .next t ∧ answered 0x03 n p 0 []
        { s with glb := { s.glb with prev := .cold, mode := .provision, cause := 1 } } t) ∧
  (∀ (p : Pkt) (s : State) (n : Nat), startsNow 0x03 n p s = true → wordAt p.words 0 = 4 → s.glb.mode = .protect ∨
      s.glb.mode = .degraded →
      ∃ t, exec (.sysSetMode p) s = .next t ∧ waiting 0x03 p .mode s t ∧
        t.glb = { s.glb with change := some { kind := .toDoze, cmd := some s.mci.nextId } } ∧ sameBut [.mci, .glb, .evt, .tel,
          .que] s t) ∧
  (∀ (p : Pkt) (s : State) (n : Nat), startsNow 0x03 n p s = true → wordAt p.words 0 = 5 →
      ∃ t, exec (.sysSetMode p) s = .next t ∧ answered 0x03 n p 0x16 [] s t) ∧
  (∀ (p : Pkt) (s : State) (n : Nat) (d : Dir), startsNow 0x05 n p s = true → onlyBits 0x3F1F07 (wordAt p.words 0) = true →
      d = (if bitAt (wordAt p.words 0) 0 then .ing else .egr) → fld (wordAt p.words 0) 16 6 ≤ 31 →
        fld (wordAt p.words 0) 8 5 + fld (wordAt p.words 0) 16 6 ≤ 32 →
          (partRules p.words (fld (wordAt p.words 0) 16 6)).all ruleOk = true → stageOf s d = none →
            bitAt (wordAt p.words 0) 1 = true →
      ∃ t, exec (.sysSetPolicy p) s = .next t ∧ answered 0x05 n p 0 [] (setPath d { pathOf s d with
        rules := (pathOf s d).rules.take (fld (wordAt p.words 0) 8 5) ++ partRules p.words (fld (wordAt p.words 0) 16 6) ++
          (pathOf s d).rules.drop (fld (wordAt p.words 0) 8 5 + fld (wordAt p.words 0) 16 6) } s) t) ∧
  (∀ (p : Pkt) (s : State) (n : Nat) (d : Dir), startsNow 0x05 n p s = true → onlyBits 0x3F1F07 (wordAt p.words 0) = true →
      d = (if bitAt (wordAt p.words 0) 0 then .ing else .egr) → fld (wordAt p.words 0) 16 6 ≤ 31 →
        fld (wordAt p.words 0) 8 5 + fld (wordAt p.words 0) 16 6 ≤ 32 →
          (partRules p.words (fld (wordAt p.words 0) 16 6)).all ruleOk = true → stageOf s d = none →
            bitAt (wordAt p.words 0) 1 = false →
      ∃ t, exec (.sysSetPolicy p) s = .next t ∧ answered 0x05 n p 0 [] (setStageOf d (some ⟨.hq n,
        (pathOf s d).rules.take (fld (wordAt p.words 0) 8 5) ++ partRules p.words (fld (wordAt p.words 0) 16 6) ++
          (pathOf s d).rules.drop (fld (wordAt p.words 0) 8 5 + fld (wordAt p.words 0) 16 6)⟩) s) t) ∧
  (∀ (p : Pkt) (s : State) (n : Nat) (d : Dir) (g : Staging), startsNow 0x05 n p s = true →
      onlyBits 0x3F1F07 (wordAt p.words 0) = true → d = (if bitAt (wordAt p.words 0) 0 then .ing else .egr) →
        fld (wordAt p.words 0) 16 6 ≤ 31 → fld (wordAt p.words 0) 8 5 + fld (wordAt p.words 0) 16 6 ≤ 32 →
          (partRules p.words (fld (wordAt p.words 0) 16 6)).all ruleOk = true → stageOf s d = some g → g.owner ≠ .hq n →
      ∃ t, exec (.sysSetPolicy p) s = .next t ∧ answered 0x05 n p 0x1E [] s t) ∧
  (∀ (s : State) (d : Dir), resetLow s = false → ∃ t, exec (.stagingSetTimeout d) s = .next t ∧ settled (setStageOf d none s) t)

/-- O22. SECY_CREATE with parameters in range on a link without a SecY makes an OFF SecY with them, transmit AN 0 and no
cut, and no other SecY, SA, SC or mark changes; with a SecY there it replies WRONG_STATE. SECY_MODIFY of an OFF SecY
without SAs and SCs, MKA and offset kept, replaces the words it names; all of its words are in range. SECY_ENABLE: an
OFF SecY without transmit SAs becomes ON, an ON one stays, a DRAINING one replies DEFERRED with the enable pending.
SECY_DISABLE: an ON SecY without a cut drains, its SAs asking for no further lease, a DRAINING one loses its pending
enable, an OFF one stays. SECY_DELETE of an OFF SecY without SAs, SCs or cut, with nothing else running, replies OK
and the SecY is gone. (Model's choices that it rests on: log 29, 30, 154.) -/
def Obligations.SecyCommands : Prop :=
  (∀ (p : Pkt) (s : State) (n : Nat), startsNow 0x10 n p s = true → onlyBits 0x3FF (wordAt p.words 0) = true →
      txpOk (wordAt p.words 2) = true → rxpOk (wordAt p.words 3) = true → sciOk (wordAt p.words 1) (wordAt p.words 2) = true →
        secyOf s (fld (wordAt p.words 0) 0 10) = none →
      ∃ t, exec (.secyCreate p) s = .next t ∧ replyIn 0x10 n p 0 [] s t ∧
        secyOf t (fld (wordAt p.words 0) 0 10) = some (newSecy (wordAt p.words 1) (wordAt p.words 2) (wordAt p.words 3)) ∧
        (∀ j, j ≠ fld (wordAt p.words 0) 0 10 → secyOf t j = secyOf s j) ∧ sameBut [.mci, .evt, .tel, .cnt, .que, .secys, .cis,
          .cxm, .out] s t) ∧
  (∀ (p : Pkt) (s : State) (n : Nat), startsNow 0x10 n p s = true → onlyBits 0x3FF (wordAt p.words 0) = true →
      txpOk (wordAt p.words 2) = true → rxpOk (wordAt p.words 3) = true → sciOk (wordAt p.words 1) (wordAt p.words 2) = true →
        (secyOf s (fld (wordAt p.words 0) 0 10)).isSome = true →
      ∃ t, exec (.secyCreate p) s = .next t ∧ answered 0x10 n p 0x15 [] s t) ∧
  (∀ (p : Pkt) (s : State) (n : Nat) (y z : Secy), startsNow 0x11 n p s = true → onlyBits 0x703FF (wordAt p.words 0) = true →
      secyOf s (fld (wordAt p.words 0) 0 10) = some y → z = { y with
        sci := (if bitAt (wordAt p.words 0) 16 then wordAt p.words 1 else y.sci),
        txp := (if bitAt (wordAt p.words 0) 17 then wordAt p.words 2 else y.txp),
        rxp := (if bitAt (wordAt p.words 0) 18 then wordAt p.words 3 else y.rxp) } → txpOk (wordAt p.words 2) = true → rxpOk (wordAt p.words 3) = true → sciOk z.sci z.txp = true → y.st = .off → txOfLink s (fld (wordAt p.words 0) 0 10) = [] → rxOfLink s (fld (wordAt p.words 0) 0 10) = [] → scsOfLink s (fld (wordAt p.words 0) 0 10) = [] → txpMka z.txp = txpMka y.txp → txpOff z.txp = txpOff y.txp →
      ∃ t, exec (.secyModify p) s = .next t ∧ replyIn 0x11 n p 0 [] s t ∧ secyOf t (fld (wordAt p.words 0) 0 10) = some z ∧
        (∀ j, j ≠ fld (wordAt p.words 0) 0 10 → secyOf t j = secyOf s j) ∧
        sameBut [.mci, .evt, .tel, .cnt, .que, .secys, .cis, .cxm, .out] s t) ∧
  (∀ (p : Pkt) (s : State) (n : Nat) (y : Secy), startsNow 0x12 n p s = true → onlyBits 0x3FF (wordAt p.words 0) = true →
      secyOf s (fld (wordAt p.words 0) 0 10) = some y → y.st = .off → txOfLink s (fld (wordAt p.words 0) 0 10) = [] →
      ∃ t, exec (.secyEnable p) s = .next t ∧ replyIn 0x12 n p 0 [] s t ∧
        secyOf t (fld (wordAt p.words 0) 0 10) = some { y with st := .on, pendEn := false } ∧
        (∀ j, j ≠ fld (wordAt p.words 0) 0 10 → secyOf t j = secyOf s j) ∧ sameBut [.mci, .evt, .tel, .cnt, .que, .secys, .cis,
          .cxm, .out] s t) ∧
  (∀ (p : Pkt) (s : State) (n : Nat) (y : Secy), startsNow 0x12 n p s = true → onlyBits 0x3FF (wordAt p.words 0) = true →
      secyOf s (fld (wordAt p.words 0) 0 10) = some y → y.st = .on →
      ∃ t, exec (.secyEnable p) s = .next t ∧ answered 0x12 n p 0 [] s t) ∧
  (∀ (p : Pkt) (s : State) (n : Nat) (y : Secy), startsNow 0x12 n p s = true → onlyBits 0x3FF (wordAt p.words 0) = true →
      secyOf s (fld (wordAt p.words 0) 0 10) = some y → y.st = .draining →
      ∃ t, exec (.secyEnable p) s = .next t ∧
        answered 0x12 n p 0x01 [] (setSecy (fld (wordAt p.words 0) 0 10) (some { y with pendEn := true }) s) t) ∧
  (∀ (p : Pkt) (s : State) (n : Nat) (y : Secy), startsNow 0x13 n p s = true → onlyBits 0x3FF (wordAt p.words 0) = true →
      secyOf s (fld (wordAt p.words 0) 0 10) = some y → y.st = .on → y.cut = .none →
      ∃ t, exec (.secyDisable p) s = .next t ∧ replyIn 0x13 n p 0 [] s t ∧
        secyOf t (fld (wordAt p.words 0) 0 10) = some { y with st := .draining, pendEn := false } ∧
        (∀ j, j ≠ fld (wordAt p.words 0) 0 10 → secyOf t j = secyOf s j) ∧
        (∀ i, txOf t i = if saLink i = fld (wordAt p.words 0) 0 10 then (txOf s i).map (fun a => { a with
          lease := match a.lease with | .wait => .none | .fetch => .one | v => v }) else txOf s i) ∧ sameBut [.mci, .evt, .tel, .cnt, .que, .secys, .cis, .cxm, .out, .tx] s t) ∧
  (∀ (p : Pkt) (s : State) (n : Nat) (y : Secy), startsNow 0x13 n p s = true → onlyBits 0x3FF (wordAt p.words 0) = true →
      secyOf s (fld (wordAt p.words 0) 0 10) = some y → y.st = .draining →
      ∃ t, exec (.secyDisable p) s = .next t ∧
        answered 0x13 n p 0 [] (setSecy (fld (wordAt p.words 0) 0 10) (some { y with pendEn := false }) s) t) ∧
  (∀ (p : Pkt) (s : State) (n : Nat) (y : Secy), startsNow 0x13 n p s = true → onlyBits 0x3FF (wordAt p.words 0) = true →
      secyOf s (fld (wordAt p.words 0) 0 10) = some y → y.st = .off →
      ∃ t, exec (.secyDisable p) s = .next t ∧ answered 0x13 n p 0 [] s t) ∧
  (∀ (p : Pkt) (s : State) (n : Nat) (y : Secy), startsNow 0x14 n p s = true → onlyBits 0x3FF (wordAt p.words 0) = true →
      secyOf s (fld (wordAt p.words 0) 0 10) = some y → y.st = .off → y.cut = .none →
        txOfLink s (fld (wordAt p.words 0) 0 10) = [] → rxOfLink s (fld (wordAt p.words 0) 0 10) = [] →
          scsOfLink s (fld (wordAt p.words 0) 0 10) = [] → s.mci.running = [] → s.mci.cmdq = [] → s.jnl.work = [] →
            s.jnl.wr = none →
      ∃ t, exec (.secyDelete p) s = .next t ∧ replyIn 0x14 n p 0 [] s t ∧ secyOf t (fld (wordAt p.words 0) 0 10) = none ∧ (∀ j,
        j ≠ fld (wordAt p.words 0) 0 10 → secyOf t j = secyOf s j) ∧
        t.mci.running = [] ∧ sameBut [.mci, .evt, .tel, .cnt, .que, .secys, .cis, .cxm, .out, .svc, .vlt] s t)

/-- O23. SECY_DRAIN_COMPLETE of a DRAINING SecY that has no frame in flight in either direction and no transmit SA makes
it OFF, or, where an enable is pending, ON again; while a frame is in flight it changes nothing. SECY_DRAIN_TIMEOUT
discards and counts a whole egress frame of the link that is still held, the only one in flight, and the SecY stays
DRAINING. (Model's choices that it rests on: log 73, 154.) -/
def Obligations.DrainingSecys : Prop :=
  (∀ (s : State) (l : Nat) (y : Secy), resetLow s = false → secyOf s l = some y → y.st = .draining → inFlightOf s .egr l = 0 →
      inFlightOf s .ing l = 0 →
      txOfLink s l = [] → ∃ t, exec (.secyDrainComplete l) s = .next t ∧
        secyOf t l = some (if y.pendEn then { y with st := .on, pendEn := false } else { y with st := .off }) ∧
        (∀ j, j ≠ l → secyOf t j = secyOf s j) ∧ sameBut [.evt, .tel, .cnt, .secys, .cis, .cxm, .out] s t) ∧
  (∀ (s : State) (l : Nat) (y : Secy), resetLow s = false → secyOf s l = some y → y.st = .draining →
      (inFlightOf s .egr l ≠ 0 ∨ inFlightOf s .ing l ≠ 0) →
      ∃ t, exec (.secyDrainComplete l) s = .next t ∧ settled s t) ∧
  (∀ (s : State) (l : Nat) (y : Secy) (f : Frame), resetLow s = false → secyOf s l = some y → y.st = .draining →
      s.egr.frames = [f] → s.ing.frames = [] →
      f.link = l → f.ended = true → f.started = false → isDead f = false →
      ∃ t, exec (.secyDrainTimeout l) s = .next t ∧ t.egr.frames = [] ∧ smGet 0 t.cnt 5 = satAdd 63 (smGet 0 s.cnt 5) 1 ∧
        (∀ c, c ≠ 5 → smGet 0 t.cnt c = smGet 0 s.cnt c) ∧ sameBut [.egr, .evt, .tel, .cnt, .que, .lne] s t)

/-- O24. SC_ADD_RX of a new SCI on a SecY without MKA: where the placement of R134 finds no place, it replies NO_RESOURCE;
else it replies the index, which held no SC (which free index is a free value, log 4), the SC is there and its table
is the placement's. An SC that is there replies WRONG_STATE. SC_REMOVE_RX of an SC without SAs on a SecY without MKA
frees it and changes nothing else; with an SA it replies WRONG_STATE. (Model's choices that it rests on: log 4, 134,
146.) -/
def Obligations.ReceiveChannels : Prop :=
  (∀ (p : Pkt) (s : State) (n : Nat) (y : Secy), startsNow 0x20 n p s = true → onlyBits 0x3FF (wordAt p.words 0) = true →
      secyOf s (fld (wordAt p.words 0) 0 10) = some y → txpMka y.txp = false →
        findSc s (fld (wordAt p.words 0) 0 10) (wordAt p.words 1) = none →
      ∃ t, exec (.scAddRx p) s = .next t ∧ ((addSc (fld (wordAt p.words 0) 0 10) (wordAt p.words 1) s).1 = none →
        answered 0x20 n p 0x13 [] s t) ∧
        (∀ i, (addSc (fld (wordAt p.words 0) 0 10) (wordAt p.words 1) s).1 = some i → replyIn 0x20 n p 0 [put i 0 14] s t ∧
          scOf s i = none ∧ scOf t i = some ⟨fld (wordAt p.words 0) 0 10, wordAt p.words 1⟩ ∧
            t.sct = (addSc (fld (wordAt p.words 0) 0 10) (wordAt p.words 1) s).2.sct ∧ sameBut [.mci, .evt, .tel, .cnt, .que,
              .sct, .rng] s t)) ∧
  (∀ (p : Pkt) (s : State) (n : Nat) (y : Secy), startsNow 0x20 n p s = true → onlyBits 0x3FF (wordAt p.words 0) = true →
      secyOf s (fld (wordAt p.words 0) 0 10) = some y →
        (findSc s (fld (wordAt p.words 0) 0 10) (wordAt p.words 1)).isSome = true →
      ∃ t, exec (.scAddRx p) s = .next t ∧ answered 0x20 n p 0x15 [] s t) ∧
  (∀ (p : Pkt) (s : State) (n : Nat) (c : Sc), startsNow 0x21 n p s = true → onlyBits 0x3FFF (wordAt p.words 0) = true →
      scOf s (fld (wordAt p.words 0) 0 14) = some c → (∀ a, a < 4 → rxOf s (4 * fld (wordAt p.words 0) 0 14 + a) = none) →
        linkMka s c.link = false →
      ∃ t, exec (.scRemoveRx p) s = .next t ∧ answered 0x21 n p 0 [] (removeSc (fld (wordAt p.words 0) 0 14) s) t ∧
        scOf t (fld (wordAt p.words 0) 0 14) = none ∧ (∀ j, j ≠ fld (wordAt p.words 0) 0 14 → scOf t j = scOf s j)) ∧
  (∀ (p : Pkt) (s : State) (n : Nat) (c : Sc) (a : Nat), startsNow 0x21 n p s = true →
      onlyBits 0x3FFF (wordAt p.words 0) = true → scOf s (fld (wordAt p.words 0) 0 14) = some c → a < 4 →
        (rxOf s (4 * fld (wordAt p.words 0) 0 14 + a)).isSome = true →
      ∃ t, exec (.scRemoveRx p) s = .next t ∧ answered 0x21 n p 0x15 [] s t)

/-- O25. SA_INSTALL for receive, with an unwrap engine in service, of a key with DEC_ONLY in a slot that may be named and
a device blob, on an SC without that AN: the SA is there, disabled, with the key's KID and blob, the SecY's suite, PN
at least 1 and the FLOOR given, no other SA changes, and it replies OK. For transmit, of a key with ENC_ONLY: nothing
is installed yet, and the command waits for the INTENT that is queued for the journal. A key of the wrong attribute
replies ATTR_DENIED, is counted and raises its event. SA_ENABLE_RX enables with the time, or disables. SA_SET_TX on an
ON SecY whose stand-in has no lease yet arms the cut and waits. SA_RETIRE stops an SA: a receive SA is disabled, a
transmit SA loses its leases, and the command waits for its frames. SA_RETIRE_COMPLETE removes a retiring SA that no
frame uses. (Model's choices that it rests on: log 16, 28, 31, 32, 161.) -/
def Obligations.SaCommands : Prop :=
  (∀ (p : Pkt) (s : State) (n : Nat) (l k : Nat) (y : Secy), startsNow 0x30 n p s = true → bitAt (wordAt p.words 0) 63 = true →
      installForm (newCmd 0x30 p s) = true → installOwner s (newCmd 0x30 p s) = some (l, y) →
        installRange (newCmd 0x30 p s) (txpSuite y.txp) = true → cmdSlot s (fld (wordAt p.words 1) 0 16) = some k →
          txpMka y.txp = false → rxOf s (4 * fld (wordAt p.words 0) 0 14 + fld (wordAt p.words 0) 56 2) = none →
            (vslot s k).st ≠ .retiring → (vslot s k).attr = .decOnly → unwInSvc s ≠ 0 → (trafficBlob s k).isSome = true →
      ∃ t, exec (.saInstall p) s = .next t ∧ replyIn 0x30 n p 0 [] s t ∧
        (∃ a, rxOf t (4 * fld (wordAt p.words 0) 0 14 + fld (wordAt p.words 0) 56 2) = some a ∧
          a.kid = fld (wordAt p.words 1) 0 16 ∧ a.suite = txpSuite y.txp ∧ a.enabled = false ∧
          a.pn = Nat.max 1 (wordAt p.words 2).toNat ∧ a.floor = (wordAt p.words 3).toNat ∧ a.tInst = now s ∧ a.retiring = false ∧
          trafficBlob s k = some a.blob) ∧
        (∀ j, j ≠ (4 * fld (wordAt p.words 0) 0 14 + fld (wordAt p.words 0) 56 2) → rxOf t j = rxOf s j) ∧ sameBut [.mci, .evt,
          .tel, .cnt, .que, .rx, .vlt, .cis, .cxm, .out, .jnl] s t) ∧
  (∀ (p : Pkt) (s : State) (n : Nat) (l k : Nat) (y : Secy), startsNow 0x30 n p s = true →
      bitAt (wordAt p.words 0) 63 = false → installForm (newCmd 0x30 p s) = true → installOwner s (newCmd 0x30 p s) = some (l,
        y) → installRange (newCmd 0x30 p s) (txpSuite y.txp) = true → cmdSlot s (fld (wordAt p.words 1) 0 16) = some k →
          txpMka y.txp = false → txOf s (4 * fld (wordAt p.words 0) 0 14 + fld (wordAt p.words 0) 56 2) = none →
            y.curAn ≠ fld (wordAt p.words 0) 56 2 → (vslot s k).st ≠ .retiring → (vslot s k).attr = .encOnly → unwInSvc s ≠ 0 →
              (trafficBlob s k).isSome = true → readOnly s = false → s.jnl.resolved = true →
      ∃ t, exec (.saInstall p) s = .next t ∧ waiting 0x30 p (.jnl s.jnl.nextWork) s t ∧ t.jnl.nextWork = s.jnl.nextWork + 1 ∧
        t.mci.slots = s.mci.slots ∧
        sameBut [.mci, .jnl, .out, .evt, .tel, .que] s t) ∧
  (∀ (p : Pkt) (s : State) (n : Nat) (l k : Nat) (y : Secy), startsNow 0x30 n p s = true → bitAt (wordAt p.words 0) 63 = true →
      installForm (newCmd 0x30 p s) = true → installOwner s (newCmd 0x30 p s) = some (l, y) →
        installRange (newCmd 0x30 p s) (txpSuite y.txp) = true → cmdSlot s (fld (wordAt p.words 1) 0 16) = some k →
          txpMka y.txp = false → rxOf s (4 * fld (wordAt p.words 0) 0 14 + fld (wordAt p.words 0) 56 2) = none →
            (vslot s k).st ≠ .retiring → (vslot s k).attr ≠ .decOnly →
      ∃ t, exec (.saInstall p) s = .next t ∧ replyIn 0x30 n p 0x17 [] s t ∧ eventSet t .vlt 0 ∧
        smGet 0 t.cnt 0x58 = satAdd 63 (smGet 0 s.cnt 0x58) 1 ∧ sameBut [.mci, .evt, .tel, .cnt, .que] s t) ∧
  (∀ (p : Pkt) (s : State) (n : Nat) (a : Sa), startsNow 0x31 n p s = true →
      onlyBits 0x800000000000FFFF (wordAt p.words 0) = true → rxOf s (fld (wordAt p.words 0) 0 16) = some a → a.retiring = false →
      ∃ t, exec (.saEnableRx p) s = .next t ∧ replyIn 0x31 n p 0 [] s t ∧
        rxOf t (fld (wordAt p.words 0) 0 16) = some (if bitAt (wordAt p.words 0) 63 then
          { a with enabled := true, tStart := now s, tStop := 0 }
        else { a with enabled := false, tStop := if a.enabled then now s else a.tStop }) ∧
        (∀ j, j ≠ fld (wordAt p.words 0) 0 16 → rxOf t j = rxOf s j) ∧ sameBut [.mci, .evt, .tel, .cnt, .que, .rx, .cis, .cxm,
          .out] s t) ∧
  (∀ (p : Pkt) (s : State) (n : Nat) (y : Secy), startsNow 0x32 n p s = true → onlyBits 0x303FF (wordAt p.words 0) = true →
      secyOf s (fld (wordAt p.words 0) 0 10) = some y →
        cutCheck s (fld (wordAt p.words 0) 0 10) (fld (wordAt p.words 0) 16 2) false = none → y.st = .on →
          leaseHeld s (4 * fld (wordAt p.words 0) 0 10 + fld (wordAt p.words 0) 16 2) = false →
      ∃ t, exec (.saSetTx p) s = .next t ∧ waiting 0x32 p (.cut (fld (wordAt p.words 0) 0 10)) s t ∧
        secyOf t (fld (wordAt p.words 0) 0 10) = some { y with cut := .arming, cutAn := fld (wordAt p.words 0) 16 2, cutTime := 0, cutBySvc := false, cutShared := false } ∧
        (∀ j, j ≠ fld (wordAt p.words 0) 0 10 → secyOf t j = secyOf s j) ∧ sameBut [.mci, .evt, .tel, .que, .secys] s t) ∧
  (∀ (p : Pkt) (s : State) (n : Nat) (a : Sa), startsNow 0x33 n p s = true → saWordOk (wordAt p.words 0) = true →
      bitAt (wordAt p.words 0) 63 = true → rxOf s (fld (wordAt p.words 0) 0 16) = some a →
      ∃ t, exec (.saRetire p) s = .next t ∧ waiting 0x33 p (.saRetire .ing (fld (wordAt p.words 0) 0 16)) s t ∧
        rxOf t (fld (wordAt p.words 0) 0 16) = some { a with retiring := true, enabled := false } ∧
        (∀ j, j ≠ fld (wordAt p.words 0) 0 16 → rxOf t j = rxOf s j) ∧ sameBut [.mci, .evt, .tel, .cnt, .que, .rx, .cis, .cxm,
          .out] s t) ∧
  (∀ (p : Pkt) (s : State) (n : Nat) (a : Sa) (y : Secy), startsNow 0x33 n p s = true → saWordOk (wordAt p.words 0) = true →
      bitAt (wordAt p.words 0) 63 = false → txOf s (fld (wordAt p.words 0) 0 16) = some a →
        secyOf s (saLink (fld (wordAt p.words 0) 0 16)) = some y → y.curAn ≠ fld (wordAt p.words 0) 0 16 % 4 → y.cut = .none →
      ∃ t, exec (.saRetire p) s = .next t ∧ waiting 0x33 p (.saRetire .egr (fld (wordAt p.words 0) 0 16)) s t ∧
        txOf t (fld (wordAt p.words 0) 0 16) = some { a with retiring := true, lease := .none, cur := ⟨0, 0⟩, nxt := ⟨0, 0⟩ } ∧
        (∀ j, j ≠ fld (wordAt p.words 0) 0 16 → txOf t j = txOf s j) ∧ sameBut [.mci, .evt, .tel, .que, .tx, .cis, .cxm] s t) ∧
  (∀ (s : State) (i : Nat) (a : Sa), resetLow s = false → rxOf s i = some a → a.retiring = true → saBusy s .ing i = false →
      secyOf s (rxLink s i) = none →
      s.mci.running = [] → ∃ t, exec (.saRetireComplete .ing i) s = .next t ∧ rxOf t i = none ∧ (∀ j, j ≠ i →
        rxOf t j = rxOf s j) ∧
        sameBut [.evt, .tel, .cnt, .rx, .vlt, .cis, .cxm, .out, .jnl, .sct, .svc] s t) ∧
  (∀ (s : State) (i : Nat) (a : Sa), resetLow s = false → txOf s i = some a → a.retiring = true → saBusy s .egr i = false →
      secyOf s (saLink i) = none →
      s.mci.running = [] → ∃ t, exec (.saRetireComplete .egr i) s = .next t ∧ txOf t i = none ∧ (∀ j, j ≠ i →
        txOf t j = txOf s j) ∧
        hwOf t i = hwOf s i ∧ sameBut [.evt, .tel, .cnt, .tx, .vlt, .cis, .cxm, .out] s t)

/-- O26. Each of the commands that create a key, with a source of masks and a free slot, puts it into an EMPTY slot of its
group (which one is a free value, log 4) with its attribute, role, length and origin, the sum of the two shares the
key, the generation kept and no other slot changed, and replies the KID: KEY_LOAD_WRAPPED of a clear KEK before
traffic where the vault allows it; KEY_DERIVE with the KDF from a HOST_KDK or CAK; KEY_GENERATE a key of the right
length from the DRBG (a free value). A blob that does not unwrap replies AUTH_FAIL. KEY_WRAP_EXPORT replies the host
blob. KEY_RETIRE of an unreferenced key makes it RETIRING and waits. KEY_SLOT_ZEROIZED empties a RETIRING slot that no
frame holds, under a new generation. (Model's choices that it rests on: log 4, 21, 31, 32, 162.) -/
def Obligations.KeyCommands : Prop :=
  (∀ (p : Pkt) (s : State) (n : Nat), startsNow 0x40 n p s = true → fld (wordAt p.words 0) 0 16 = 0xFFFF → s.glb.mode = .cold ∨
      s.glb.mode = .provision → onlyBits 0xFC00FFFFFF (wordAt p.words 0) = true → fld (wordAt p.words 0) 16 8 = 32 →
        rootGone s = false → bitAt s.vlt.cfg 0 = true → fld (wordAt p.words 0) 34 2 = 2 → fld (wordAt p.words 0) 36 3 = 1 →
          keySource s = none → (∃ k, 8200 ≤ k ∧ k < 8264 ∧ (vslot s k).st = .empty) →
      ∃ t, exec (.keyLoadWrapped p) s = .next t ∧ ∃ k, 8200 ≤ k ∧ k < 8264 ∧ replyIn 0x40 n p 0 [put (kidOf s k) 0 16] s t ∧
        keyPlaced .wrapOnly .hostKek true (bitAt (wordAt p.words 0) 39) 5 ((wordsBytes (p.words.drop 1)).take 32) k s t ∧
          sameBut [.mci, .evt, .tel, .cnt, .que, .vlt, .rng] s t) ∧
  (∀ (p : Pkt) (s : State) (n : Nat) (k : Nat), startsNow 0x40 n p s = true → fld (wordAt p.words 0) 0 16 ≠ 0xFFFF →
      onlyBits 0xFFFFFF (wordAt p.words 0) = true → fld (wordAt p.words 0) 16 8 = 32 ∨ fld (wordAt p.words 0) 16 8 = 48 →
        cmdSlot s (fld (wordAt p.words 0) 0 16) = some k → rootGone s = false → (vslot s k).st ≠ .retiring →
          unwrapsHost k (vslot s k) = true → unwInSvc s ≠ 0 → keySource s = none →
      ∃ t, exec (.keyLoadWrapped p) s = .next t ∧
        ((Config.unwrap (slotKey (vslot s k)) ((wordsBytes (p.words.drop 1)).take (fld (wordAt p.words 0) 16 8))).bind parseHost = none →
        answered 0x40 n p 0x18 [] s t)) ∧
  (∀ (p : Pkt) (s : State) (n : Nat) (k : Nat), startsNow 0x41 n p s = true →
      onlyBits 0x003F3FFD0000FFFF (wordAt p.words 0) = true → 0 < fld (wordAt p.words 0) 40 6 →
        fld (wordAt p.words 0) 40 6 ≤ 32 → fld (wordAt p.words 0) 48 6 ≤ 32 →
          ((wordsBytes ((p.words.drop 1).take 4)).drop (fld (wordAt p.words 0) 40 6)).all (· == 0) = true →
            ((wordsBytes ((p.words.drop 5).take 4)).drop (fld (wordAt p.words 0) 48 6)).all (· == 0) = true →
              fld (wordAt p.words 0) 36 3 = 7 → fld (wordAt p.words 0) 34 2 = 3 → bitAt (wordAt p.words 0) 32 = true →
                cmdSlot s (fld (wordAt p.words 0) 0 16) = some k → rootGone s = false → (vslot s k).st ≠ .retiring →
                  (vslot s k).attr = .deriveOnly → (vslot s k).role = .hostKdk ∨ (vslot s k).role = .cak → unwInSvc s ≠ 0 →
                    keySource s = none → (∃ k, 8200 ≤ k ∧ k < 8264 ∧ (vslot s k).st = .empty) →
      ∃ t, exec (.keyDerive p) s = .next t ∧ ∃ m, 8200 ≤ m ∧ m < 8264 ∧ replyIn 0x41 n p 0 [put (kidOf s m) 0 16] s t ∧
        keyPlaced .deriveOnly .hostKdk true (bitAt (wordAt p.words 0) 39) 3 (kdf (slotKey (vslot s k))
          ((wordsBytes ((p.words.drop 1).take 4)).take (fld (wordAt p.words 0) 40 6)) ((wordsBytes ((p.words.drop 5).take 4)).take (fld (wordAt p.words 0) 48 6)) 32) m s t ∧
        sameBut [.mci, .evt, .tel, .cnt, .que, .vlt, .rng] s t) ∧
  (∀ (p : Pkt) (s : State) (n : Nat), startsNow 0x45 n p s = true → onlyBits 0xFD00000000 (wordAt p.words 0) = true →
      fld (wordAt p.words 0) 36 3 = 7 → fld (wordAt p.words 0) 34 2 = 3 → bitAt (wordAt p.words 0) 32 = false →
        rootGone s = false → s.glb.deg.getLsbD 7 = false → s.vlt.drbg = true → s.vlt.drbgStop = false →
          s.vlt.reqSince < 2 ^ 20 → (∃ k, 8200 ≤ k ∧ k < 8264 ∧ (vslot s k).st = .empty) →
      ∃ t, exec (.keyGenerate p) s = .next t ∧ ∃ (m : Nat) (key : List Byte), 8200 ≤ m ∧ m < 8264 ∧ key.length = 16 ∧
        replyIn 0x45 n p 0 [put (kidOf s m) 0 16] s t ∧
        keyPlaced .deriveOnly .hostKdk false (bitAt (wordAt p.words 0) 39) 2 key m s t ∧ t.vlt.reqSince = s.vlt.reqSince + 1 ∧
          sameBut [.mci, .evt, .tel, .cnt, .que, .vlt, .rng] s t) ∧
  (∀ (p : Pkt) (s : State) (n : Nat) (a b : Nat), startsNow 0x42 n p s = true → onlyBits 0xFFFFFFFF (wordAt p.words 0) = true →
      cmdSlot s (fld (wordAt p.words 0) 0 16) = some a → cmdSlot s (fld (wordAt p.words 0) 16 16) = some b →
        rootGone s = false → (vslot s a).st ≠ .retiring → (vslot s b).st ≠ .retiring → isHost a = true →
          (vslot s a).exp = true → (vslot s a).attr = .wrapOnly ∨ (vslot s a).attr = .deriveOnly →
            (vslot s b).attr = .wrapOnly → (vslot s b).role = .hostKek → unwInSvc s ≠ 0 →
      ∃ t, exec (.keyWrapExport p) s = .next t ∧
        answered 0x42 n p 0 (bytesWords (if (vslot s a).k256 then 6 else 4) (hostBlob (slotKey (vslot s b)) (vslot s a))) s t) ∧
  (∀ (p : Pkt) (s : State) (n : Nat) (k : Nat), startsNow 0x43 n p s = true → onlyBits 0xFFFF (wordAt p.words 0) = true →
      cmdSlot s (fld (wordAt p.words 0) 0 16) = some k → rootGone s = false → (vslot s k).refs = 0 →
        (vslot s k).st ≠ .retiring → k ≠ 8198 →
      ∃ t, exec (.keyRetire p) s = .next t ∧ waiting 0x43 p (.slotZero (fld (wordAt p.words 0) 0 16)) s t ∧
        vslot t k = { vslot s k with st := .retiring } ∧
        (∀ j, j ≠ k → vslot t j = vslot s j) ∧ sameBut [.mci, .evt, .tel, .que, .vlt] s t) ∧
  (∀ (s : State) (k : Nat), resetLow s = false → (vslot s k).st = .retiring → inFlight s (kidOf s k) = false →
      s.mci.running = [] →
      ∃ t, exec (.keySlotZeroized k) s = .next t ∧ vslot t k = { VSlot.reset with gen := (vslot s k).gen + 1 } ∧
        (∀ j, j ≠ k → vslot t j = vslot s j) ∧ sameBut [.vlt, .evt] s t)

/-- O27. CUT_SCHEDULE of one SecY that is ON, whose stand-in has no lease yet and whose SA no other engine sends on, with
the instant at least the lead away, time in sync and a writable journal: the SecY's cut is ARMING towards that AN at
that instant, no other SecY changes, and the command waits until it is TIMED. Without time sync it replies
TIME_UNSYNC. CUT_CANCEL of an ARMED or TIMED cut takes the cut back at once and waits for its CUT_DONE; of an ARMING
one it replies BUSY, without a cut WRONG_STATE. (Model's choices that it rests on: log 36, 37.) -/
def Obligations.CutCommands : Prop :=
  (∀ (p : Pkt) (s : State) (n : Nat) (l : Nat) (y : Secy), startsNow 0x50 n p s = true → linkSet (p.words.drop 2) = [l] →
      schedForm (newCmd 0x50 p s) [l] = true → now s + cutLead s ≤ (wordAt p.words 1).toNat → secyOf s l = some y →
        cutCheck s l (schedAn (newCmd 0x50 p s) l) false = none → y.st = .on →
          leaseHeld s (4 * l + schedAn (newCmd 0x50 p s) l) = false → sharers s (4 * l + y.curAn) = [] → s.fab.unsync = false →
            readOnly s = false → s.mci.running = [] → s.fab.offers = [] →
      ∃ t, exec (.cutSchedule p) s = .next t ∧ waiting 0x50 p (.timed [l]) s t ∧
        secyOf t l = some { y with cut := .arming, cutAn := schedAn (newCmd 0x50 p s) l, cutTime := (wordAt p.words 1).toNat, cutBySvc := false, cutShared := false } ∧
        (∀ j, j ≠ l → secyOf t j = secyOf s j) ∧ sameBut [.mci, .evt, .tel, .que, .secys] s t) ∧
  (∀ (p : Pkt) (s : State) (n : Nat) (l : Nat), startsNow 0x50 n p s = true → linkSet (p.words.drop 2) = [l] →
      schedForm (newCmd 0x50 p s) [l] = true → now s + cutLead s ≤ (wordAt p.words 1).toNat → (secyOf s l).isSome = true →
        (txOf s (4 * l + schedAn (newCmd 0x50 p s) l)).isSome = true → s.fab.unsync = true →
      ∃ t, exec (.cutSchedule p) s = .next t ∧ answered 0x50 n p 0x1C [] s t) ∧
  (∀ (p : Pkt) (s : State) (n : Nat) (y : Secy), startsNow 0x51 n p s = true → onlyBits 0x3FF (wordAt p.words 0) = true →
      secyOf s (fld (wordAt p.words 0) 0 10) = some y → txpMka y.txp = false → y.cut = .armed ∨ y.cut = .timed →
        readOnly s = false →
      ∃ t, exec (.cutCancel p) s = .next t ∧ waiting 0x51 p (.cutCancel (fld (wordAt p.words 0) 0 10)) s t ∧
        secyOf t (fld (wordAt p.words 0) 0 10) = some { y with cut := .none, cutTime := 0, cutSeq := 0, cutShared := false, cutBySvc := false } ∧
        (∀ j, j ≠ fld (wordAt p.words 0) 0 10 → secyOf t j = secyOf s j) ∧ sameBut [.mci, .evt, .tel, .que, .secys, .jnl,
          .out] s t) ∧
  (∀ (p : Pkt) (s : State) (n : Nat) (y : Secy), startsNow 0x51 n p s = true → onlyBits 0x3FF (wordAt p.words 0) = true →
      secyOf s (fld (wordAt p.words 0) 0 10) = some y → txpMka y.txp = false → y.cut = .arming →
      ∃ t, exec (.cutCancel p) s = .next t ∧ answered 0x51 n p 0x1E [] s t) ∧
  (∀ (p : Pkt) (s : State) (n : Nat) (y : Secy), startsNow 0x51 n p s = true → onlyBits 0x3FF (wordAt p.words 0) = true →
      secyOf s (fld (wordAt p.words 0) 0 10) = some y → txpMka y.txp = false → y.cut = .none →
      ∃ t, exec (.cutCancel p) s = .next t ∧ answered 0x51 n p 0x15 [] s t)

/-- O28. MKA_ENABLE of a SecY with MKA starts its CA with the policy given. MKA_DISABLE of a CA without SAs, SCs or cut
ends it, and the link is no longer keyed by MKA. MKA_SET_CAK, with an unwrap engine and a random source, from a host
CAK on a SecY with MKA and no participant gives it a first participant with that CKN (its member identifier is a free
value, log 4). MKA_FORCE_REKEY at the key server of one CA, with entropy, an unwrap engine, free slots and its next AN
free, replies OK and a SAK with the next key number is being distributed, to be cut at the instant given. No other
SecY's CA changes. (Model's choices that it rests on: log 4, 20, 45, 46, 162.) -/
def Obligations.MkaCommands : Prop :=
  (∀ (p : Pkt) (s : State) (n : Nat) (y : Secy), startsNow 0x58 n p s = true → onlyBits 0x7FFF03FF (wordAt p.words 0) = true →
      onlyBits 0xFFFFFFFF (wordAt p.words 1) = true → secyOf s (fld (wordAt p.words 0) 0 10) = some y → txpMka y.txp = true →
        (caOf s (fld (wordAt p.words 0) 0 10)).enabled = false →
      ∃ t, exec (.mkaEnable p) s = .next t ∧ replyIn 0x58 n p 0 [] s t ∧ (let c := caOf t (fld (wordAt p.words 0) 0 10)
          c.enabled = true ∧ c.prio = fld (wordAt p.words 0) 16 8 ∧ c.suites = fld (wordAt p.words 0) 24 4 ∧
            c.offs = fld (wordAt p.words 0) 28 3 ∧
          c.rekeyS = fld (wordAt p.words 1) 16 16 ∧ c.overlapMs = fld (wordAt p.words 1) 0 16 ∧
          c.first.map (fun x => { x with mn := 0 }) = (caOf s (fld (wordAt p.words 0) 0 10)).first.map (fun x => { x with mn := 0 })) ∧ linkMka t (fld (wordAt p.words 0) 0 10) = true ∧
        (∀ j, j ≠ fld (wordAt p.words 0) 0 10 → caOf t j = caOf s j) ∧ sameBut [.mci, .evt, .tel, .cnt, .que, .svc, .rng,
          .vlt] s t) ∧
  (∀ (p : Pkt) (s : State) (n : Nat) (y : Secy), startsNow 0x59 n p s = true → onlyBits 0x3FF (wordAt p.words 0) = true →
      secyOf s (fld (wordAt p.words 0) 0 10) = some y → txpMka y.txp = true →
        (caOf s (fld (wordAt p.words 0) 0 10)).enabled = true → y.cut = .none → txOfLink s (fld (wordAt p.words 0) 0 10) = [] →
          rxOfLink s (fld (wordAt p.words 0) 0 10) = [] → scsOfLink s (fld (wordAt p.words 0) 0 10) = [] → s.mci.running = [] →
      ∃ t, exec (.mkaDisable p) s = .next t ∧ replyIn 0x59 n p 0 [] s t ∧ caOf t (fld (wordAt p.words 0) 0 10) = .reset ∧
        linkMka t (fld (wordAt p.words 0) 0 10) = false ∧ (∀ j, j ≠ fld (wordAt p.words 0) 0 10 → caOf t j = caOf s j) ∧
        sameBut [.mci, .evt, .tel, .cnt, .que, .svc, .secys, .vlt] s t) ∧
  (∀ (p : Pkt) (s : State) (n : Nat) (y : Secy) (k : Nat), startsNow 0x5A n p s = true →
      onlyBits 0x3FFFFF03FF (wordAt p.words 0) = true → 0 < fld (wordAt p.words 0) 32 6 → fld (wordAt p.words 0) 32 6 ≤ 32 →
        wordAt p.words 1 = 0 → fld (wordAt p.words 0) 16 16 ≠ 0xFFFF →
          ((wordsBytes ((p.words.drop 2).take 4)).drop (fld (wordAt p.words 0) 32 6)).all (· == 0) = true →
            secyOf s (fld (wordAt p.words 0) 0 10) = some y → txpMka y.txp = true →
              cmdSlot s (fld (wordAt p.words 0) 16 16) = some k → (vslot s k).st ≠ .retiring → isHost k = true →
                (vslot s k).role = .cak → (vslot s k).attr = .deriveOnly → unwInSvc s ≠ 0 → keySource s = none →
                  drbgFull s = false → caOf s (fld (wordAt p.words 0) 0 10) = .reset →
      ∃ t, exec (.mkaSetCak p) s = .next t ∧ replyIn 0x5A n p 0 [] s t ∧ (∃ x,
        (caOf t (fld (wordAt p.words 0) 0 10)).first = some x ∧
          x.ckn = (wordsBytes ((p.words.drop 2).take 4)).take (fld (wordAt p.words 0) 32 6) ∧
          x.peers = [] ∧ x.phase = .none) ∧ (caOf t (fld (wordAt p.words 0) 0 10)).second = none ∧ (∀ j,
            j ≠ fld (wordAt p.words 0) 0 10 → caOf t j = caOf s j) ∧
        sameBut [.mci, .evt, .tel, .cnt, .que, .svc, .rng, .vlt] s t) ∧
  (∀ (p : Pkt) (s : State) (n : Nat) (l a b : Nat) (y : Secy) (x : MkPart), startsNow 0x5C n p s = true →
      wordAt p.words 0 = 0 → linkSet (p.words.drop 2) = [l] → secyOf s l = some y → linkMka s l = true → linkKs s l = true →
        (caOf s l).first = some x → (caOf s l).ending = false → unwInSvc s ≠ 0 → s.vlt.reqSince < 2 ^ 20 → s.vlt.drbg = true →
          s.vlt.drbgStop = false → s.glb.deg.getLsbD 7 = false → usedSlots s isTraffic ≤ 8190 →
            anBusy s l ((x.an + 1) % 4) = false → readOnly s = false → a < 8192 → b < 8192 → a ≠ b → (vslot s a).st = .empty →
              (vslot s b).st = .empty →
      ∃ t, exec (.mkaForceRekey p) s = .next t ∧ replyIn 0x5C n p 0 [] s t ∧ (∃ z, (caOf t l).first = some z ∧
        z.kn = x.kn + 1 ∧ z.an = (x.an + 1) % 4 ∧ z.phase = .distributing ∧
          z.cutT = (wordAt p.words 1).toNat ∧ z.want = false) ∧ (∀ j, j ≠ l → caOf t j = caOf s j))

/-- O29. LEASE_SET_GRAIN sets the default grain for XPN or 32-bit PNs, or an SA's own, or takes that away. FAB_SET_ROLE:
OP 0 without a key sets address choice and time priority and drops the fabric key, OP 1 at the time master sets a time
that does not go back, OP 2 with the steering port at rest asks the partner to take over, OP 3 binds a PAIR key to an
address. FAB_PAIR names the partner, key and set and waits for the PAIR record. FAB_UNPAIR with a PAIR record that
names a partner ends the pair and waits for its record; without a pair it replies OK. FAB_PORT_CTL: enables an OFF
port, disables one that is OFF, asks an ACTIVE port for IDLE and waits, lets an IDLE port leave IDLE and waits; a port
in DETECT tests, and a port that tests leaves TEST again. (Model's choices that it rests on: log 41, 51, 52, 53, 54,
55.) -/
def Obligations.LeaseAndFabricCommands : Prop :=
  (∀ (p : Pkt) (s : State) (n : Nat), startsNow 0x61 n p s = true → onlyBits 0xC0003F0000000FFF (wordAt p.words 0) = true →
      fld (wordAt p.words 0) 62 2 = 0 → 12 ≤ fld (wordAt p.words 0) 40 6 → fld (wordAt p.words 0) 40 6 ≤ 32 →
      ∃ t, exec (.leaseSetGrain p) s = .next t ∧
        answered 0x61 n p 0 [] { s with jnl := { s.jnl with grainXpn := fld (wordAt p.words 0) 40 6 } } t) ∧
  (∀ (p : Pkt) (s : State) (n : Nat), startsNow 0x61 n p s = true → onlyBits 0xC0003F0000000FFF (wordAt p.words 0) = true →
      fld (wordAt p.words 0) 62 2 = 1 → 12 ≤ fld (wordAt p.words 0) 40 6 → fld (wordAt p.words 0) 40 6 ≤ 32 →
      ∃ t, exec (.leaseSetGrain p) s = .next t ∧
        answered 0x61 n p 0 [] { s with jnl := { s.jnl with grainPn := fld (wordAt p.words 0) 40 6 } } t) ∧
  (∀ (p : Pkt) (s : State) (n : Nat), startsNow 0x61 n p s = true → onlyBits 0xC0003F0000000FFF (wordAt p.words 0) = true →
      fld (wordAt p.words 0) 62 2 = 2 → 12 ≤ fld (wordAt p.words 0) 40 6 → fld (wordAt p.words 0) 40 6 ≤ 32 →
      ∃ t, exec (.leaseSetGrain p) s = .next t ∧
        answered 0x61 n p 0 [] { s with jnl := { s.jnl with grainOver := smSet 0 s.jnl.grainOver (fld (wordAt p.words 0) 0 12) (fld (wordAt p.words 0) 40 6) } } t) ∧
  (∀ (p : Pkt) (s : State) (n : Nat), startsNow 0x61 n p s = true → onlyBits 0xC0003F0000000FFF (wordAt p.words 0) = true →
      fld (wordAt p.words 0) 62 2 = 3 →
      ∃ t, exec (.leaseSetGrain p) s = .next t ∧
        answered 0x61 n p 0 [] { s with jnl := { s.jnl with grainOver := smSet 0 s.jnl.grainOver (fld (wordAt p.words 0) 0 12) 0 } } t) ∧
  (∀ (p : Pkt) (s : State) (n : Nat), startsNow 0x69 n p s = true → onlyBits 0xF07FFF000000FFFF (wordAt p.words 0) = true →
      wordAt p.words 1 = 0 → fld (wordAt p.words 0) 60 4 = 0 → fld (wordAt p.words 0) 0 16 = 0xFFFF →
      ∃ t, exec (.fabSetRole p) s = .next t ∧ replyIn 0x69 n p 0 [] s t ∧
        t.fab.auto = bitAt (wordAt p.words 0) 54 ∧ t.fab.pref = fld (wordAt p.words 0) 48 6 ∧
          t.fab.prio = fld (wordAt p.words 0) 40 8 ∧ t.svc.fabKey = none ∧ t.fab.ickKid = none) ∧
  (∀ (p : Pkt) (s : State) (n : Nat) (a : Nat), startsNow 0x69 n p s = true → wordAt p.words 0 = 0x2000000000000000 →
      wordAt p.words 1 = 0 → s.fab.pair.partner = some a → s.fab.pair.split = false → s.fab.steer.req = false →
        s.fab.steer.ack = false → s.fab.steer.needTake = false → s.glb.mode ≠ .lockout →
      ∃ t, exec (.fabSetRole p) s = .next t ∧ replyIn 0x69 n p 0 [] s t ∧
        t.fab.steer = { s.fab.steer with req := true, code := 2, peer := a, needYield := false, handover := false }) ∧
  (∀ (p : Pkt) (s : State) (n : Nat), startsNow 0x69 n p s = true → wordAt p.words 0 = 0x1000000000000000 →
      now s ≤ (wordAt p.words 1).toNat → s.fab.master = true →
      ∃ t, exec (.fabSetRole p) s = .next t ∧ answered 0x69 n p 0 [] { s with time := wordAt p.words 1 } t) ∧
  (∀ (p : Pkt) (s : State) (n : Nat) (k : Nat), startsNow 0x69 n p s = true →
      onlyBits 0xF03F00000000FFFF (wordAt p.words 0) = true → wordAt p.words 1 = 0 → fld (wordAt p.words 0) 60 4 = 3 →
        s.fab.pair.split = false → cmdSlot s (fld (wordAt p.words 0) 0 16) = some k → (vslot s k).st ≠ .retiring →
          isHost k = true → (vslot s k).role = .pair → (vslot s k).attr = .wrapOnly →
      ∃ t, exec (.fabSetRole p) s = .next t ∧ answered 0x69 n p 0 []
        { s with fab := { s.fab with bound := smSet 0xFFFF s.fab.bound (fld (wordAt p.words 0) 48 6) (fld (wordAt p.words 0) 0 16) } } t) ∧
  (∀ (p : Pkt) (s : State) (n : Nat) (k : Nat), startsNow 0x6A n p s = true →
      onlyBits 0x003F00000000FFFF (wordAt p.words 0) = true → s.fab.addr ≠ some (fld (wordAt p.words 0) 48 6) →
        cmdSlot s (fld (wordAt p.words 0) 0 16) = some k → (vslot s k).st ≠ .retiring → isHost k = true →
          (vslot s k).role = .pair → (vslot s k).attr = .wrapOnly →
            (linkSet (p.words.drop 1)).all (fun l => (secyOf s l).isSome) = true → jnlGate s true = none →
              s.fab.pair.split = false →
      ∃ t, exec (.fabPair p) s = .next t ∧ (∃ r k, r ∈ t.mci.running ∧ r.cmd = newCmd 0x6A p s ∧ r.wait = .jnl k) ∧
        t.fab.pair.partner = some (fld (wordAt p.words 0) 48 6) ∧
        t.fab.pair.kid = fld (wordAt p.words 0) 0 16 ∧ t.fab.pair.set = linkSet (p.words.drop 1) ∧ t.secys = s.secys ∧
          t.vlt = s.vlt) ∧
  (∀ (p : Pkt) (s : State) (n : Nat), startsNow 0x6B n p s = true → jnlGate s true = none → pairOnRecord s = none →
      s.fab.pair.partner = none →
      ∃ t, exec (.fabUnpair p) s = .next t ∧ answered 0x6B n p 0 [] s t) ∧
  (∀ (p : Pkt) (s : State) (n : Nat), startsNow 0x6B n p s = true → jnlGate s true = none → (pairOnRecord s).isSome = true →
      ∃ t, exec (.fabUnpair p) s = .next t ∧ (∃ r k, r ∈ t.mci.running ∧ r.cmd = newCmd 0x6B p s ∧ r.wait = .jnl k) ∧
        t.fab.pair.partner = none ∧ t.fab.pair.formed = false ∧
        t.fab.steer.needTake = false ∧ t.fab.steer.needYield = false) ∧
  (∀ (p : Pkt) (s : State) (n : Nat), startsNow 0x6C n p s = true → onlyBits 0x7F7 (wordAt p.words 0) = true →
      fld (wordAt p.words 0) 4 4 = 1 → fld (wordAt p.words 0) 8 2 ≠ 3 → portGated s (fld (wordAt p.words 0) 0 3) = false →
        (portOf s (fld (wordAt p.words 0) 0 3)).st = .off → (portOf s (fld (wordAt p.words 0) 0 3)).down = false →
      ∃ t, exec (.fabPortCtl p) s = .next t ∧ replyIn 0x6C n p 0 [] s t ∧ (let x := portOf t (fld (wordAt p.words 0) 0 3)
          x.en = true ∧ x.width = fld (wordAt p.words 0) 8 2 ∧ x.rate = bitAt (wordAt p.words 0) 10 ∧ x.st ≠ .off) ∧
        (∀ j, j ≠ fld (wordAt p.words 0) 0 3 → portOf t j = portOf s j) ∧ sameBut [.mci, .evt, .tel, .cnt, .que, .fab,
          .out] s t) ∧
  (∀ (p : Pkt) (s : State) (n : Nat), startsNow 0x6C n p s = true → onlyBits 0x7F7 (wordAt p.words 0) = true →
      fld (wordAt p.words 0) 4 4 = 0 → fld (wordAt p.words 0) 8 3 = 0 → (portOf s (fld (wordAt p.words 0) 0 3)).st = .off →
      ∃ t, exec (.fabPortCtl p) s = .next t ∧
        answered 0x6C n p 0 [] (modPort (fld (wordAt p.words 0) 0 3) (fun x => { x with deferred := none }) s) t) ∧
  (∀ (p : Pkt) (s : State) (n : Nat), startsNow 0x6C n p s = true → onlyBits 0x7F7 (wordAt p.words 0) = true →
      fld (wordAt p.words 0) 4 4 = 2 → fld (wordAt p.words 0) 8 3 = 0 → (portOf s (fld (wordAt p.words 0) 0 3)).st = .active →
      ∃ t, exec (.fabPortCtl p) s = .next t ∧ waiting 0x6C p (.port (fld (wordAt p.words 0) 0 3)) s t ∧
        t.out = s.out ++ [.idleReq (fld (wordAt p.words 0) 0 3)] ∧
        t.fab = (modPort (fld (wordAt p.words 0) 0 3) (pushBlks [idleReqBlk]) s).fab ∧ sameBut [.mci, .evt, .tel, .que, .out,
          .fab] s t) ∧
  (∀ (p : Pkt) (s : State) (n : Nat), startsNow 0x6C n p s = true → onlyBits 0x7F7 (wordAt p.words 0) = true →
      fld (wordAt p.words 0) 4 4 = 3 → fld (wordAt p.words 0) 8 3 = 0 → (portOf s (fld (wordAt p.words 0) 0 3)).st = .idle →
        (portOf s (fld (wordAt p.words 0) 0 3)).exiting = false →
      ∃ t, exec (.fabPortCtl p) s = .next t ∧ waiting 0x6C p (.port (fld (wordAt p.words 0) 0 3)) s t ∧
        t.out = s.out ++ [.leader (fld (wordAt p.words 0) 0 3) 5] ∧
        portOf t (fld (wordAt p.words 0) 0 3) = { portOf s (fld (wordAt p.words 0) 0 3) with exiting := true, lockRun := 0 } ∧
          (∀ j, j ≠ fld (wordAt p.words 0) 0 3 → portOf t j = portOf s j) ∧
        sameBut [.mci, .evt, .tel, .que, .out, .fab] s t) ∧
  (∀ (p : Pkt) (s : State) (n : Nat), startsNow 0x6C n p s = true → onlyBits 0x7F7 (wordAt p.words 0) = true →
      fld (wordAt p.words 0) 4 4 = 5 → fld (wordAt p.words 0) 8 3 = 0 → (portOf s (fld (wordAt p.words 0) 0 3)).test = true →
      ∃ t, exec (.fabPortCtl p) s = .next t ∧ replyIn 0x6C n p 0 [] s t ∧
        (portOf t (fld (wordAt p.words 0) 0 3)).test = false ∧ (∀ j, j ≠ fld (wordAt p.words 0) 0 3 → portOf t j = portOf s j) ∧
        sameBut [.mci, .evt, .tel, .cnt, .que, .fab, .out] s t) ∧
  (∀ (p : Pkt) (s : State) (n : Nat), startsNow 0x6C n p s = true → onlyBits 0x7F7 (wordAt p.words 0) = true →
      fld (wordAt p.words 0) 4 4 = 4 → fld (wordAt p.words 0) 8 3 = 0 → (portOf s (fld (wordAt p.words 0) 0 3)).st = .detect →
        (portOf s (fld (wordAt p.words 0) 0 3)).down = false →
      ∃ t, exec (.fabPortCtl p) s = .next t ∧ replyIn 0x6C n p 0 [] s t ∧ (portOf t (fld (wordAt p.words 0) 0 3)).test = true ∧
        (∀ j, j ≠ fld (wordAt p.words 0) 0 3 → portOf t j = portOf s j) ∧
        sameBut [.mci, .evt, .tel, .cnt, .que, .fab] s t)

/-- O30. JNL_COMMIT_IMAGE while an image is being written asks for the next one and waits for its generation; otherwise,
with room, it starts the next generation. JNL_ERASE waits for its record. CXM_REKEY_SCRAMBLE with an unwrap engine and
the next mix key held starts the sweep at line 0 and waits, and replies BUSY while one runs. CXM_REBUILD of the whole
region quarantines all 1,152 groups and waits; of one group while none is re-primed it quarantines that group and
waits. CHK_RUN of a sound program on an IDLE engine runs it; of a running engine STOP makes it STOPPING. TEL_SLATE
freezes the counters with the time, and releases them with the time of the slate. DIAG_LANE_KAT replies whether the
lane passed, DIAG_VAULT_KAT the outcomes of the units (outcomes are free values, log 4). (Model's choices that it
rests on: log 17, 51, 56, 57, 58, 59, 60, 91, 160.) -/
def Obligations.StoreCheckAndTestCommands : Prop :=
  (∀ (p : Pkt) (s : State) (n : Nat) (im : Image), startsNow 0x70 n p s = true → jnlGate s true = none → s.jnl.imgWr = some im →
      ∃ t, exec (.jnlCommitImage p) s = .next t ∧ waiting 0x70 p (.image (im.gen + 1)) s t ∧
        t.jnl = { s.jnl with imgNext := true } ∧ sameBut [.mci, .evt, .tel, .que, .jnl] s t) ∧
  (∀ (p : Pkt) (s : State) (n : Nat), startsNow 0x70 n p s = true → jnlGate s true = none → s.jnl.imgWr = none →
      s.jnl.image = none → cellsLive s + (buildImage s).length ≤ jnlCap s →
      ∃ t, exec (.jnlCommitImage p) s = .next t ∧ waiting 0x70 p (.image 1) s t ∧
        (∃ im, t.jnl.imgWr = some im ∧ im.gen = 1 ∧ im.words = buildImage s) ∧ sameBut [.mci, .evt, .tel, .que, .jnl, .out] s t) ∧
  (∀ (p : Pkt) (s : State) (n : Nat), startsNow 0x72 n p s = true → jnlGate s true = none →
      ∃ t, exec (.jnlErase p) s = .next t ∧ waiting 0x72 p (.jnl s.jnl.nextWork) s t ∧ t.jnl.image = s.jnl.image ∧
        t.jnl.nextWork = s.jnl.nextWork + 1 ∧ sameBut [.mci, .evt, .tel, .que, .jnl, .out] s t) ∧
  (∀ (p : Pkt) (s : State) (n : Nat), startsNow 0x78 n p s = true → s.cxm.sweepOn = false → unwInSvc s ≠ 0 →
      (vslot s mixNextSlot).st = .loaded →
      ∃ t, exec (.cxmRekeyScramble p) s = .next t ∧ waiting 0x78 p .sweep s t ∧
        t.cxm = { s.cxm with sweepOn := true, sweepPtr := 0, sweepRead := false } ∧ sameBut [.mci, .evt, .tel, .que, .cxm] s t) ∧
  (∀ (p : Pkt) (s : State) (n : Nat), startsNow 0x78 n p s = true → s.cxm.sweepOn = true →
      ∃ t, exec (.cxmRekeyScramble p) s = .next t ∧ answered 0x78 n p 0x1E [] s t) ∧
  (∀ (p : Pkt) (s : State) (n : Nat), startsNow 0x79 n p s = true → onlyBits 0x80000000000007FF (wordAt p.words 0) = true →
      bitAt (wordAt p.words 0) 63 = true → s.cxm.rebuild = false →
      ∃ t, exec (.cxmRebuild p) s = .next t ∧ waiting 0x79 p (.rebuild none) s t ∧ eventSet t .cxm 10 ∧
        t.cxm = { s.cxm with rebuild := true, quar := List.range 1152, queue := List.range 1152, failed := [], job := none } ∧
        sameBut [.mci, .evt, .tel, .que, .cxm] s t) ∧
  (∀ (p : Pkt) (s : State) (n : Nat), startsNow 0x79 n p s = true → onlyBits 0x7FF (wordAt p.words 0) = true →
      fld (wordAt p.words 0) 0 11 < 1152 → s.cxm.job = none → fld (wordAt p.words 0) 0 11 ∉ s.cxm.queue →
      ∃ t, exec (.cxmRebuild p) s = .next t ∧ waiting 0x79 p (.rebuild (some (fld (wordAt p.words 0) 0 11))) s t ∧
        fld (wordAt p.words 0) 0 11 ∈ t.cxm.quar) ∧
  (∀ (p : Pkt) (s : State) (n : Nat), startsNow 0x80 n p s = true → onlyBits 0x8773 (wordAt p.words 0) = true →
      onlyBits 0xFFFFFFFF (wordAt p.words 3) = true → onlyBits 0xFF (wordAt p.words 5) = true →
        bitAt (wordAt p.words 0) 15 = false → chkProgOk (chkProg (newCmd 0x80 p s)) = true → pdIsOn s 54 = true →
          s.glb.gating.getLsbD 2 = false → (chkOf s (fld (wordAt p.words 0) 0 2)).st = .idle →
      ∃ t, exec (.chkRun p) s = .next t ∧ answered 0x80 n p 0 []
        (setChk (fld (wordAt p.words 0) 0 2) { chkOf s (fld (wordAt p.words 0) 0 2) with
          st := .running, pos := (chkProg (newCmd 0x80 p s)).start, unit := [], buf := [], err := false,
          prog := some (chkProg (newCmd 0x80 p s)), skipped := 0, deferred := none } s) t) ∧
  (∀ (p : Pkt) (s : State) (n : Nat), startsNow 0x80 n p s = true → onlyBits 0x8003 (wordAt p.words 0) = true →
      bitAt (wordAt p.words 0) 15 = true → (p.words.drop 1).all (· == 0) = true → pdIsOn s 54 = true →
        s.glb.gating.getLsbD 2 = false → (chkOf s (fld (wordAt p.words 0) 0 2)).st = .running →
      ∃ t, exec (.chkRun p) s = .next t ∧
        answered 0x80 n p 0 [] (setChk (fld (wordAt p.words 0) 0 2) { chkOf s (fld (wordAt p.words 0) 0 2) with st := .stopping } s) t) ∧
  (∀ (p : Pkt) (s : State) (n : Nat), startsNow 0x88 n p s = true → wordAt p.words 0 = 0 → s.tel.frozen = false →
      telOn s = true → s.glb.gating.getLsbD 3 = false →
      ∃ t, exec (.telSlate p) s = .next t ∧ replyIn 0x88 n p 0 [s.time] s t ∧
        t.tel.frozen = true ∧ t.tel.slateTime = s.time ∧ t.tel.egrShd = s.tel.egr ∧ t.tel.ingShd = s.tel.ing ∧
          t.tel.cfg = s.tel.cfg ∧
        ((∀ e ∈ s.tel.cfg, telCounts e.2 0x1D6 none = false) → t.tel.shd = s.tel.cnt) ∧ sameBut [.mci, .evt, .tel, .cnt,
          .que] s t) ∧
  (∀ (p : Pkt) (s : State) (n : Nat), startsNow 0x88 n p s = true → wordAt p.words 0 = 1 →
      ∃ t, exec (.telSlate p) s = .next t ∧
        answered 0x88 n p 0 [s.tel.slateTime] { s with tel := { s.tel with frozen := false } } t) ∧
  (∀ (p : Pkt) (s : State) (n : Nat), startsNow 0xF0 n p s = true → onlyBits 0x3F (wordAt p.words 0) = true →
      fld (wordAt p.words 0) 0 5 < 18 →
        (laneOf s (laneNo (if bitAt (wordAt p.words 0) 5 then .ing else .egr) (fld (wordAt p.words 0) 0 5))).st ≠ .retired →
      ∃ t, exec (.diagLaneKat p) s = .next t ∧ replyIn 0xF0 n p 0 [put (bn (katClean (Config.laneDefect s.rng))) 0 1] s t ∧
        t.secys = s.secys ∧ t.tx = s.tx ∧ t.rx = s.rx ∧ t.vlt = s.vlt ∧ t.jnl = s.jnl) ∧
  (∀ (p : Pkt) (s : State) (n : Nat), startsNow 0xF1 n p s = true →
      ∃ t, exec (.diagVaultKat p) s = .next t ∧ answered 0xF1 n p 0 [vaultKat s] { s with rng := s.rng + 10 } t)

/-- O31. A whole frame arrives on cli_rx_ (one segment of at most 64 bytes, no port error, at a free position of its
link). It joins egress as its newest frame, and the first check that applies decides: shorter than 64 bytes, mode
LOCKOUT, a bypass rule, COLD, no SecY, SecY not ON, PROVISION without the early policy, port down, MKA frames, the
uncontrolled flag, PROTECT_FRAMES 0, the shed level. Each discard counts its own counter once, and the SecY's discard
statistic where a SecY is read; a frame that a bypass rule passes counts EGR_BYP_PASS here, the other frames sent in
clear take that fate and count nothing yet. On a link at its in-flight limit of 2,048 frames the frame waits in the
sump for a position, whatever it carries. (Model's choices that it rests on: log 70, 71, 72, 73, 141, 142.) -/
def Obligations.EgressClassification : Prop :=
  (∀ (s : State) (l : Nat) (fd : BitVec 16) (bs : List Byte) (flt : FrameFaults), mayStart s .egr l = true → 0 < bs.length →
      bs.length < 64 →
      ∃ t, exec (.cliRxFrame [wholeSeg l fd bs] flt) s = .next t ∧ ∃ f, joined .egr l bs f s t ∧ f.fate = .discard ∧
        countedOnly 1 1 s t ∧ sameBut [.egr, .que, .tel, .cnt, .evt] s t) ∧
  (∀ (s : State) (l : Nat) (fd : BitVec 16) (bs : List Byte) (flt : FrameFaults), mayStart s .egr l = true → bs.length = 64 →
      s.glb.mode = .lockout →
      ∃ t, exec (.cliRxFrame [wholeSeg l fd bs] flt) s = .next t ∧ ∃ f, joined .egr l bs f s t ∧ f.fate = .discard ∧
        countedOnly 4 1 s t ∧ sameBut [.egr, .que, .tel, .cnt, .evt] s t) ∧
  (∀ (s : State) (l : Nat) (fd : BitVec 16) (bs : List Byte) (flt : FrameFaults), mayStart s .egr l = true → bs.length = 64 →
      s.glb.mode ≠ .lockout → ruleOf s .egr l bs = some true →
      ∃ t, exec (.cliRxFrame [wholeSeg l fd bs] flt) s = .next t ∧ ∃ f, joined .egr l bs f s t ∧ f.fate = .discard ∧
        countedOnly 0xA 1 s t ∧ sameBut [.egr, .que, .tel, .cnt, .evt] s t) ∧
  (∀ (s : State) (l : Nat) (fd : BitVec 16) (bs : List Byte) (flt : FrameFaults), mayStart s .egr l = true → bs.length = 64 →
      s.glb.mode ≠ .lockout → ruleOf s .egr l bs = some false →
      ∃ t, exec (.cliRxFrame [wholeSeg l fd bs] flt) s = .next t ∧ ∃ f, joined .egr l bs f s t ∧ f.fate = .bypass ∧
        countedOnly 0xB 1 s t ∧ sameBut [.egr, .que, .tel, .cnt, .evt] s t) ∧
  (∀ (s : State) (l : Nat) (fd : BitVec 16) (bs : List Byte) (flt : FrameFaults), mayStart s .egr l = true → bs.length = 64 →
      s.glb.mode = .cold → ruleOf s .egr l bs = none →
      ∃ t, exec (.cliRxFrame [wholeSeg l fd bs] flt) s = .next t ∧ ∃ f, joined .egr l bs f s t ∧ f.fate = .discard ∧
        countedOnly 4 1 s t ∧ sameBut [.egr, .que, .tel, .cnt, .evt] s t) ∧
  (∀ (s : State) (l : Nat) (fd : BitVec 16) (bs : List Byte) (flt : FrameFaults), mayStart s .egr l = true → bs.length = 64 →
      s.glb.mode ≠ .lockout → ruleOf s .egr l bs = none → s.glb.mode ≠ .cold → secyOf s l = none →
      ∃ t, exec (.cliRxFrame [wholeSeg l fd bs] flt) s = .next t ∧ ∃ f, joined .egr l bs f s t ∧ f.fate = .discard ∧
        countedOnly 6 1 s t ∧ sameBut [.egr, .que, .tel, .cnt, .evt] s t) ∧
  (∀ (s : State) (l : Nat) (fd : BitVec 16) (bs : List Byte) (flt : FrameFaults) (y : Secy), mayStart s .egr l = true →
      bs.length = 64 → s.glb.mode ≠ .lockout → ruleOf s .egr l bs = none → s.glb.mode ≠ .cold → secyOf s l = some y → y.st ≠ .on →
      ∃ t, exec (.cliRxFrame [wholeSeg l fd bs] flt) s = .next t ∧ ∃ f, joined .egr l bs f s t ∧ f.fate = .discard ∧
        counted 7 1 s t ∧ secyOf t l = some (yStat 3 y) ∧
        sameBut [.egr, .que, .tel, .cnt, .evt, .secys, .cis, .cxm, .out] s t) ∧
  (∀ (s : State) (l : Nat) (fd : BitVec 16) (bs : List Byte) (flt : FrameFaults) (y : Secy), mayStart s .egr l = true →
      bs.length = 64 → s.glb.mode ≠ .lockout → ruleOf s .egr l bs = none → s.glb.mode ≠ .cold → secyOf s l = some y →
        y.st = .on → s.glb.mode = .provision → txpEarly y.txp = false →
      ∃ t, exec (.cliRxFrame [wholeSeg l fd bs] flt) s = .next t ∧ ∃ f, joined .egr l bs f s t ∧ f.fate = .discard ∧
        counted 4 1 s t ∧ secyOf t l = some (yStat 3 y) ∧
        sameBut [.egr, .que, .tel, .cnt, .evt, .secys, .cis, .cxm, .out] s t) ∧
  (∀ (s : State) (l : Nat) (fd : BitVec 16) (bs : List Byte) (flt : FrameFaults) (y : Secy), mayStart s .egr l = true →
      bs.length = 64 → s.glb.mode ≠ .lockout → ruleOf s .egr l bs = none → s.glb.mode ≠ .cold → secyOf s l = some y →
        y.st = .on → (s.glb.mode = .provision → txpEarly y.txp = true) → bitAt s.glb.prt (txpPport y.txp) = false →
      ∃ t, exec (.cliRxFrame [wholeSeg l fd bs] flt) s = .next t ∧ ∃ f, joined .egr l bs f s t ∧ f.fate = .discard ∧
        counted 8 1 s t ∧ secyOf t l = some (yStat 3 y) ∧
        sameBut [.egr, .que, .tel, .cnt, .evt, .secys, .cis, .cxm, .out] s t) ∧
  (∀ (s : State) (l : Nat) (fd : BitVec 16) (bs : List Byte) (flt : FrameFaults) (y : Secy), mayStart s .egr l = true →
      bs.length = 64 → s.glb.mode ≠ .lockout → ruleOf s .egr l bs = none → s.glb.mode ≠ .cold → secyOf s l = some y →
        y.st = .on → (s.glb.mode = .provision → txpEarly y.txp = true) → bitAt s.glb.prt (txpPport y.txp) = true →
          txpMka y.txp = true → etypeAt s bs 2 = 0x888E →
      ∃ t, exec (.cliRxFrame [wholeSeg l fd bs] flt) s = .next t ∧ ∃ f, joined .egr l bs f s t ∧ f.fate = .discard ∧
        counted 9 1 s t ∧ secyOf t l = some (yStat 3 y) ∧
        sameBut [.egr, .que, .tel, .cnt, .evt, .secys, .cis, .cxm, .out] s t) ∧
  (∀ (s : State) (l : Nat) (fd : BitVec 16) (bs : List Byte) (flt : FrameFaults) (y : Secy), mayStart s .egr l = true →
      bs.length = 64 → s.glb.mode ≠ .lockout → ruleOf s .egr l bs = none → s.glb.mode ≠ .cold → secyOf s l = some y →
        y.st = .on → (s.glb.mode = .provision → txpEarly y.txp = true) → bitAt s.glb.prt (txpPport y.txp) = true →
          (txpMka y.txp = true → etypeAt s bs 2 ≠ 0x888E) → fd.getLsbD 0 = true →
      ∃ t, exec (.cliRxFrame [wholeSeg l fd bs] flt) s = .next t ∧ ∃ f, joined .egr l bs f s t ∧ f.fate = .uncontrolled ∧
        f.pport = txpPport y.txp ∧ sameBut [.egr, .que, .tel, .evt] s t) ∧
  (∀ (s : State) (l : Nat) (fd : BitVec 16) (bs : List Byte) (flt : FrameFaults) (y : Secy), mayStart s .egr l = true →
      bs.length = 64 → s.glb.mode ≠ .lockout → ruleOf s .egr l bs = none → s.glb.mode ≠ .cold → secyOf s l = some y →
        y.st = .on → (s.glb.mode = .provision → txpEarly y.txp = true) → bitAt s.glb.prt (txpPport y.txp) = true →
          (txpMka y.txp = true → etypeAt s bs 2 ≠ 0x888E) → fd.getLsbD 0 = false → txpProtect y.txp = false →
      ∃ t, exec (.cliRxFrame [wholeSeg l fd bs] flt) s = .next t ∧ ∃ f, joined .egr l bs f s t ∧ f.fate = .unmodified ∧
        f.pport = txpPport y.txp ∧ sameBut [.egr, .que, .tel, .evt] s t) ∧
  (∀ (s : State) (l : Nat) (fd : BitVec 16) (bs : List Byte) (flt : FrameFaults) (y : Secy), mayStart s .egr l = true →
      bs.length = 64 → s.glb.mode ≠ .lockout → ruleOf s .egr l bs = none → s.glb.mode ≠ .cold → secyOf s l = some y →
        y.st = .on → (s.glb.mode = .provision → txpEarly y.txp = true) → bitAt s.glb.prt (txpPport y.txp) = true →
          (txpMka y.txp = true → etypeAt s bs 2 ≠ 0x888E) → fd.getLsbD 0 = false → txpProtect y.txp = true →
            txpPrio y.txp < s.egr.shed →
      ∃ t, exec (.cliRxFrame [wholeSeg l fd bs] flt) s = .next t ∧ ∃ f, joined .egr l bs f s t ∧ f.fate = .discard ∧
        counted 0xC 1 s t ∧ secyOf t l = some (yStat 3 y) ∧
        sameBut [.egr, .que, .tel, .cnt, .evt, .secys, .cis, .cxm, .out] s t) ∧
  (∀ (s : State) (l : Nat) (fd : BitVec 16) (bs : List Byte) (flt : FrameFaults), mayEnter s .egr l = true → bs.length = 64 →
      2048 ≤ s.egr.frames.countP (fun x => x.link == l) →
      ∃ t, exec (.cliRxFrame [wholeSeg l fd bs] flt) s = .next t ∧ ∃ f, joined .egr l bs f s t ∧ f.fate = .wait none)

/-- O32. A whole 64-byte frame passes steps 2 to 13, its SecY has no cut pending and is resident. Without an SA at the
current AN, or with one that retires, the frame is discarded at step 14. With a resident SA: an exhausted one discards
at step 17 with its event, one without a PN in a valid lease at step 18 with its event, and neither takes a PN.
Otherwise the frame is to be encrypted under the SA with SA_IDX 4 × link + AN, takes exactly the SA's next PN and the
key of the SA's vault slot, and the next PN rises by one, or goes on at the start of the next lease where the current
one has ended; at the prefetch point of its only lease the SA asks for the next one. The first time the next PN
reaches the threshold its event is raised (stated for a link whose key agreement is off). An SA line that is not
resident sends the frame to the egress sump, without a PN. (Model's choices that it rests on: log 72, 78.) -/
def Obligations.EgressPacketNumbers : Prop :=
  (∀ (s : State) (l : Nat) (fd : BitVec 16) (bs : List Byte) (flt : FrameFaults) (y : Secy), mayStart s .egr l = true →
      bs.length = 64 → s.glb.mode ≠ .lockout → ruleOf s .egr l bs = none → s.glb.mode ≠ .cold → secyOf s l = some y →
        y.st = .on → (s.glb.mode = .provision → txpEarly y.txp = true) → bitAt s.glb.prt (txpPport y.txp) = true →
          (txpMka y.txp = true → etypeAt s bs 2 ≠ 0x888E) → fd.getLsbD 0 = false → txpProtect y.txp = true →
            s.egr.shed ≤ txpPrio y.txp → y.cut = .none → isResident s (secyLine l) = true → flt.secyEcc = 0 →
              txOf s (4 * l + y.curAn) = none →
      ∃ t, exec (.cliRxFrame [wholeSeg l fd bs] flt) s = .next t ∧ ∃ f, joined .egr l bs f s t ∧ f.fate = .discard ∧
        counted 0xD 1 s t ∧ t.tx = s.tx) ∧
  (∀ (s : State) (l : Nat) (fd : BitVec 16) (bs : List Byte) (flt : FrameFaults) (y : Secy) (a : Sa),
      mayStart s .egr l = true → bs.length = 64 → s.glb.mode ≠ .lockout → ruleOf s .egr l bs = none → s.glb.mode ≠ .cold →
        secyOf s l = some y → y.st = .on → (s.glb.mode = .provision → txpEarly y.txp = true) →
          bitAt s.glb.prt (txpPport y.txp) = true → (txpMka y.txp = true → etypeAt s bs 2 ≠ 0x888E) → fd.getLsbD 0 = false →
            txpProtect y.txp = true → s.egr.shed ≤ txpPrio y.txp → y.cut = .none → isResident s (secyLine l) = true →
              flt.secyEcc = 0 → txOf s (4 * l + y.curAn) = some a → a.retiring = true →
      ∃ t, exec (.cliRxFrame [wholeSeg l fd bs] flt) s = .next t ∧ ∃ f, joined .egr l bs f s t ∧ f.fate = .discard ∧
        counted 0xD 1 s t ∧ t.tx = s.tx) ∧
  (∀ (s : State) (l : Nat) (fd : BitVec 16) (bs : List Byte) (flt : FrameFaults) (y : Secy) (a : Sa),
      mayStart s .egr l = true → bs.length = 64 → s.glb.mode ≠ .lockout → ruleOf s .egr l bs = none → s.glb.mode ≠ .cold →
        secyOf s l = some y → y.st = .on → (s.glb.mode = .provision → txpEarly y.txp = true) →
          bitAt s.glb.prt (txpPport y.txp) = true → (txpMka y.txp = true → etypeAt s bs 2 ≠ 0x888E) → fd.getLsbD 0 = false →
            txpProtect y.txp = true → s.egr.shed ≤ txpPrio y.txp → y.cut = .none → isResident s (secyLine l) = true →
              flt.secyEcc = 0 → txOf s (4 * l + y.curAn) = some a → a.retiring = false → y.curAn < 4 → flt.cisEcc = 0 →
                isResident s (txLine (4 * l + y.curAn)) = true → a.exhausted = true →
      ∃ t, exec (.cliRxFrame [wholeSeg l fd bs] flt) s = .next t ∧ ∃ f, joined .egr l bs f s t ∧ f.fate = .discard ∧
        counted 0xF 1 s t ∧ eventSet t .egr 4 ∧ t.tx = s.tx) ∧
  (∀ (s : State) (l : Nat) (fd : BitVec 16) (bs : List Byte) (flt : FrameFaults) (y : Secy) (a : Sa),
      mayStart s .egr l = true → bs.length = 64 → s.glb.mode ≠ .lockout → ruleOf s .egr l bs = none → s.glb.mode ≠ .cold →
        secyOf s l = some y → y.st = .on → (s.glb.mode = .provision → txpEarly y.txp = true) →
          bitAt s.glb.prt (txpPport y.txp) = true → (txpMka y.txp = true → etypeAt s bs 2 ≠ 0x888E) → fd.getLsbD 0 = false →
            txpProtect y.txp = true → s.egr.shed ≤ txpPrio y.txp → y.cut = .none → isResident s (secyLine l) = true →
              flt.secyEcc = 0 → txOf s (4 * l + y.curAn) = some a → a.retiring = false → y.curAn < 4 → flt.cisEcc = 0 →
                isResident s (txLine (4 * l + y.curAn)) = true → a.exhausted = false → leaseValid a = false →
      ∃ t, exec (.cliRxFrame [wholeSeg l fd bs] flt) s = .next t ∧ ∃ f, joined .egr l bs f s t ∧ f.fate = .discard ∧
        counted 0x10 1 s t ∧ eventSet t .egr 3 ∧ t.tx = s.tx) ∧
  (∀ (s : State) (l : Nat) (fd : BitVec 16) (bs : List Byte) (flt : FrameFaults) (y : Secy) (a : Sa) (k : Nat),
      mayStart s .egr l = true → bs.length = 64 → s.glb.mode ≠ .lockout → ruleOf s .egr l bs = none → s.glb.mode ≠ .cold →
        secyOf s l = some y → y.st = .on → (s.glb.mode = .provision → txpEarly y.txp = true) →
          bitAt s.glb.prt (txpPport y.txp) = true → (txpMka y.txp = true → etypeAt s bs 2 ≠ 0x888E) → fd.getLsbD 0 = false →
            txpProtect y.txp = true → s.egr.shed ≤ txpPrio y.txp → y.cut = .none → isResident s (secyLine l) = true →
              flt.secyEcc = 0 → txOf s (4 * l + y.curAn) = some a → a.retiring = false → y.curAn < 4 → flt = noFaults →
                isResident s (txLine (4 * l + y.curAn)) = true → a.exhausted = false → leaseValid a = true →
                  a.pn + 1 < pnThreshold s a.suite → a.pn + 1 < a.cur.stop → (a.lease = .one →
                    a.pn + 1 < prefetchPoint a.cur) → kidSlot s a.kid = some k → (vslot s k).st = .loaded →
                      (vslot s k).attr = .encOnly →
      ∃ t, exec (.cliRxFrame [wholeSeg l fd bs] flt) s = .next t ∧ ∃ f, joined .egr l bs f s t ∧ f.fate = .crypt ∧
        f.saIdx = 4 * l + y.curAn ∧ f.pn = a.pn ∧
        f.kid = a.kid ∧ f.key = keyAt s k ∧ f.sci = y.sci ∧ f.txp = y.txp ∧
          (txOf t (4 * l + y.curAn)).map (·.pn) = some (a.pn + 1) ∧
        (∀ j, j ≠ 4 * l + y.curAn → txOf t j = txOf s j) ∧ t.secys = s.secys ∧ t.rx = s.rx) ∧
  (∀ (s : State) (l : Nat) (fd : BitVec 16) (bs : List Byte) (flt : FrameFaults) (y : Secy) (a : Sa),
      mayStart s .egr l = true → bs.length = 64 → s.glb.mode ≠ .lockout → ruleOf s .egr l bs = none → s.glb.mode ≠ .cold →
        secyOf s l = some y → y.st = .on → (s.glb.mode = .provision → txpEarly y.txp = true) →
          bitAt s.glb.prt (txpPport y.txp) = true → (txpMka y.txp = true → etypeAt s bs 2 ≠ 0x888E) → fd.getLsbD 0 = false →
            txpProtect y.txp = true → s.egr.shed ≤ txpPrio y.txp → y.cut = .none → isResident s (secyLine l) = true →
              flt.secyEcc = 0 → txOf s (4 * l + y.curAn) = some a → a.retiring = false → y.curAn < 4 → flt = noFaults →
                isResident s (txLine (4 * l + y.curAn)) = true → a.exhausted = false → leaseValid a = true → a.thr = false →
                  pnThreshold s a.suite ≤ a.pn + 1 → a.pn + 1 < a.cur.stop → (caOf s l).enabled = false →
      ∃ t, exec (.cliRxFrame [wholeSeg l fd bs] flt) s = .next t ∧ ∃ f, joined .egr l bs f s t ∧
        f.pn = (if f.fate = .crypt then a.pn else 0) ∧ eventSet t .jnl 1 ∧ (txOf t (4 * l + y.curAn)).map (·.thr) = some true) ∧
  (∀ (s : State) (l : Nat) (fd : BitVec 16) (bs : List Byte) (flt : FrameFaults) (y : Secy) (a : Sa) (k : Nat),
      mayStart s .egr l = true → bs.length = 64 → s.glb.mode ≠ .lockout → ruleOf s .egr l bs = none → s.glb.mode ≠ .cold →
        secyOf s l = some y → y.st = .on → (s.glb.mode = .provision → txpEarly y.txp = true) →
          bitAt s.glb.prt (txpPport y.txp) = true → (txpMka y.txp = true → etypeAt s bs 2 ≠ 0x888E) → fd.getLsbD 0 = false →
            txpProtect y.txp = true → s.egr.shed ≤ txpPrio y.txp → y.cut = .none → isResident s (secyLine l) = true →
              flt.secyEcc = 0 → txOf s (4 * l + y.curAn) = some a → a.retiring = false → y.curAn < 4 → flt = noFaults →
                isResident s (txLine (4 * l + y.curAn)) = true → a.exhausted = false → leaseValid a = true →
                  a.nxt.start < pnThreshold s a.suite → kidSlot s a.kid = some k → (vslot s k).st = .loaded →
                    (vslot s k).attr = .encOnly → a.lease = .two → a.cur.stop ≤ a.pn + 1 →
      ∃ t, exec (.cliRxFrame [wholeSeg l fd bs] flt) s = .next t ∧ ∃ f, joined .egr l bs f s t ∧ f.fate = .crypt ∧ f.pn = a.pn ∧
        (txOf t (4 * l + y.curAn)).map (fun x => (x.pn, x.cur)) = some (a.nxt.start, a.nxt)) ∧
  (∀ (s : State) (l : Nat) (fd : BitVec 16) (bs : List Byte) (flt : FrameFaults) (y : Secy) (a : Sa) (k : Nat),
      mayStart s .egr l = true → bs.length = 64 → s.glb.mode ≠ .lockout → ruleOf s .egr l bs = none → s.glb.mode ≠ .cold →
        secyOf s l = some y → y.st = .on → (s.glb.mode = .provision → txpEarly y.txp = true) →
          bitAt s.glb.prt (txpPport y.txp) = true → (txpMka y.txp = true → etypeAt s bs 2 ≠ 0x888E) → fd.getLsbD 0 = false →
            txpProtect y.txp = true → s.egr.shed ≤ txpPrio y.txp → y.cut = .none → isResident s (secyLine l) = true →
              flt.secyEcc = 0 → txOf s (4 * l + y.curAn) = some a → a.retiring = false → y.curAn < 4 → flt = noFaults →
                isResident s (txLine (4 * l + y.curAn)) = true → a.exhausted = false → leaseValid a = true →
                  a.pn + 1 < pnThreshold s a.suite → kidSlot s a.kid = some k → (vslot s k).st = .loaded →
                    (vslot s k).attr = .encOnly → a.lease = .one → prefetchPoint a.cur ≤ a.pn + 1 → a.pn + 1 < a.cur.stop →
      ∃ t, exec (.cliRxFrame [wholeSeg l fd bs] flt) s = .next t ∧ ∃ f, joined .egr l bs f s t ∧ f.fate = .crypt ∧ f.pn = a.pn ∧
        ∃ x, txOf t (4 * l + y.curAn) = some x ∧ x.pn = a.pn + 1 ∧ (x.lease = .fetch ∨ x.lease = .two)) ∧
  (∀ (s : State) (l : Nat) (fd : BitVec 16) (bs : List Byte) (flt : FrameFaults) (y : Secy) (a : Sa),
      mayStart s .egr l = true → bs.length = 64 → s.glb.mode ≠ .lockout → ruleOf s .egr l bs = none → s.glb.mode ≠ .cold →
        secyOf s l = some y → y.st = .on → (s.glb.mode = .provision → txpEarly y.txp = true) →
          bitAt s.glb.prt (txpPport y.txp) = true → (txpMka y.txp = true → etypeAt s bs 2 ≠ 0x888E) → fd.getLsbD 0 = false →
            txpProtect y.txp = true → s.egr.shed ≤ txpPrio y.txp → y.cut = .none → isResident s (secyLine l) = true →
              flt.secyEcc = 0 → txOf s (4 * l + y.curAn) = some a → a.retiring = false → y.curAn < 4 →
                isResident s (txLine (4 * l + y.curAn)) = false → s.cxm.oos = false →
                  isQuar s (txLine (4 * l + y.curAn)) = false →
      ∃ t, exec (.cliRxFrame [wholeSeg l fd bs] flt) s = .next t ∧ ∃ f, joined .egr l bs f s t ∧
        f.fate = .wait (some (txLine (4 * l + y.curAn))) ∧ t.tx = s.tx ∧ (fillOf t (txLine (4 * l + y.curAn))).isSome = true)

/-- O33. EGRESS_RELEASE takes the first due among the oldest frames of the links, in the segments of lin_tx_ from the byte
behind the last frame. A discarded frame leaves nothing on lin_tx_. A whole frame sent in clear leaves with its FCS
field written as zeros; a protected one as the clear head, the SecTAG with its PN, the secure data encrypted under its
key and the ICV; each leaves its path and counts. A frame whose input ended with err, or whose lanes gave it up,
leaves with err = 1. With a damaged descriptor nothing is sent, the frame is discarded with its event. A frame whose
end has not arrived starts, and while it is being sent no other frame and no injected frame leaves; one that ended
while lin_tx_ready was 0 leaves first. With lin_tx_ready at 0 nothing leaves. INJECTED_FRAME sends the oldest item of
INJQ in clear on its link, padded to 64 bytes with a zero FCS, and a frame that has not started waits while one is
there. A freed position of a link goes to the frame that waits for it. (Model's choices that it rests on: log 1, 73,
126, 140.) -/
def Obligations.EgressRelease : Prop :=
  (∀ (s : State) (f : Frame), nextOut s .egr egrDue f = true → f.fate = .discard →
      ∃ t, exec (.egressRelease false) s = .next t ∧ t.out = s.out ∧ leftPath .egr f s t ∧ sameBut [.egr, .lne, .que, .evt] s t) ∧
  (∀ (s : State) (f : Frame), nextOut s .egr egrDue f = true → f.fate = .bypass → f.ended = true → f.inErr = false →
      f.abandoned = false →
      ∃ t, exec (.egressRelease false) s = .next t ∧
        t.out = s.out ++ [frameOut .egr s f.link (lineFd f) (zeroFcs f.bytes) false] ∧ leftPath .egr f s t ∧ sameBut [.egr,
          .lne, .out, .que, .tel, .evt] s t) ∧
  (∀ (s : State) (f : Frame), nextOut s .egr egrDue f = true → f.fate = .uncontrolled ∨ f.fate = .unmodified → f.ended = true →
      f.inErr = false → f.abandoned = false →
      ∃ t, exec (.egressRelease false) s = .next t ∧
        s.out ++ [frameOut .egr s f.link (lineFd f) (zeroFcs f.bytes) false] <+: t.out ∧ leftPath .egr f s t ∧
        secyOf t f.link = (secyOf s f.link).map (yStat (if f.fate = .unmodified then 0 else 2))) ∧
  (∀ (s : State) (f : Frame), nextOut s .egr egrDue f = true → 64 ≤ f.bytes.length → f.fate = .crypt → f.ended = true →
      f.inErr = false → f.abandoned = false →
      ∃ t, exec (.egressRelease false) s = .next t ∧
        s.out ++ [frameOut .egr s f.link (lineFd f) (protectFrame s f) false] <+: t.out ∧ leftPath .egr f s t ∧
        (txOf t f.saIdx).map (fun a => smGet 0 a.stats (if txpConf f.txp then 1 else 0)) =
          (txOf s f.saIdx).map (fun a => Nat.min (smGet 0 a.stats (if txpConf f.txp then 1 else 0) + 1) (2 ^ 64 - 1)) ∧
        (let n := 12 + 4 * vlanTags s f.bytes (txpClear f.txp)
         slice (protectFrame s f) n 2 = [0x88, 0xE5] ∧ slice (protectFrame s f) (n + 4) 4 = beBytes 4 (f.pn % 2 ^ 32))) ∧
  (∀ (s : State) (f : Frame), nextOut s .egr egrDue f = true → f.fate ≠ .discard → f.fate ≠ .crypt → f.ended = true →
      f.inErr = true →
      ∃ t, exec (.egressRelease false) s = .next t ∧
        t.out = s.out ++ [frameOut .egr s f.link (lineFd f) (zeroFcs f.bytes) true] ∧ leftPath .egr f s t ∧ countedOnly 3 1 s t) ∧
  (∀ (s : State) (f : Frame), nextOut s .egr egrDue f = true → f.fate = .crypt → f.ended = true → f.inErr = false →
      f.abandoned = true →
      ∃ t, exec (.egressRelease false) s = .next t ∧
        t.out = s.out ++ [frameOut .egr s f.link (lineFd f) (protectFrame s f) true] ∧ leftPath .egr f s t) ∧
  (∀ (s : State) (f : Frame), nextOut s .egr egrDue f = true → f.fate ≠ .discard → f.ended = true →
      ∃ t, exec (.egressRelease true) s = .next t ∧ t.out = s.out ∧ leftPath .egr f s t ∧ countedOnly 0x11 1 s t ∧
        eventSet t .egr 1) ∧
  (∀ (s : State) (f : Frame), nextOut s .egr egrDue f = true → f.fate ≠ .discard → f.ended = false →
      ∃ t, exec (.egressRelease false) s = .next t ∧ t.out = s.out ∧
        t.egr.frames = mapWhere (fun x => x.link == f.link && x.orderTag == f.orderTag) (fun x => { x with started := true }) s.egr.frames) ∧
  (∀ (s : State) (f : Frame), nextOut s .egr egrDue f = true → f.fate ≠ .discard → f.ended = false →
      ∃ t, exec (.egressRelease true) s = .next t ∧ t.out = s.out ∧ eventSet t .egr 1 ∧ (∀ x ∈ t.egr.frames, x.link = f.link →
        x.orderTag = f.orderTag → x.fate = .discard)) ∧
  (∀ (s : State) (f g : Frame) (v : Fate), mayLeave s .egr egrDue f = true → f.fate = .discard →
      s.egr.frames.find? (awaits .egr f.link) = some g →
      g.orderTag ≠ f.orderTag → g.parked = some v → v ≠ .crypt → s.egr.frames.countP (fun x => x.link == f.link) ≤ 2048 →
      ∃ t, exec (.egressRelease false) s = .next t ∧
        t.egr.frames = mapWhere (fun x => x.link == f.link && x.orderTag == g.orderTag) (fun x => { x with fate := v, parked := none })
          (s.egr.frames.filter (fun x => !(x.link == f.link && x.orderTag == f.orderTag)))) ∧
  (∀ (s : State) (b : Bool) (f : Frame), resetLow s = false → s.egr.frames.find? (·.started) = some f → f.ended = false ∨
      s.egr.txReady = false →
      ∃ t, exec (.egressRelease b) s = .next t ∧ settled s t) ∧
  (∀ (s : State) (b : Bool) (f : Frame), resetLow s = false → s.egr.txReady = true → calm s .egr = true →
      s.egr.frames.find? (·.started) = some f → f.ended = true →
      s.egr.frames.any (awaits .egr f.link) = false →
      ∃ t, exec (.egressRelease b) s = .next t ∧
        s.out ++ [frameOut .egr s f.link (lineFd f) (if f.fate = .crypt then protectFrame s f else zeroFcs f.bytes) (f.inErr || f.abandoned)] <+: t.out ∧ leftPath .egr f s t) ∧
  (∀ (s : State) (b : Bool), resetLow s = false → s.egr.frames.any (·.started) = false → s.egr.txReady = false ∨
      injectDue s = true ∨ s.egr.frames.any egrDue = false →
      ∃ t, exec (.egressRelease b) s = .next t ∧ settled s t) ∧
  (∀ s : State, resetLow s = false → s.egr.frames.any (·.started) = true ∨ s.glb.mode = .lockout ∨ s.glb.mode = .doze ∨
      s.egr.txReady = false →
      ∃ t, exec .injectedFrame s = .next t ∧ settled s t) ∧
  (∀ (s : State) (it : Option QItem) (v : Que), resetLow s = false → s.egr.frames.any (·.started) = false →
      s.glb.mode ≠ .lockout → s.glb.mode ≠ .doze → s.egr.txReady = true →
      queTake (queOf s 5) = (it, v) →
      ∃ t, exec .injectedFrame s = .next t ∧ queOf t 5 = v ∧ (∀ j, j ≠ 5 → queOf t j = queOf s j) ∧ sameBut [.out, .egr, .que,
        .tel, .evt] s t ∧
        (match it with
         | some x => t.out = s.out ++ [frameOut .egr s x.link (BitVec.ofNat 16 (64 + x.pport)) (padFrame x.body) false] ∧
             t.egr = { s.egr with txPos := (s.egr.txPos + (padFrame x.body).length) % 64 }
         | none => t.out = s.out ∧ t.egr = s.egr))

/-- O34. A whole frame arrives on lin_rx_ (one segment of at most 64 bytes, no port error, at a free position of its
link). The first check that applies decides its fate and the counter that rises: length, mode, bypass rule, no SecY,
SecY not ON, port down, MKA frames to CTQ, the early policy, no SecTAG by VALIDATE_FRAMES and NO_TAG, a bad SecTAG,
VALIDATE_FRAMES DISABLED, the shed level, no SC, no enabled SA: where a frame cannot be verified it is delivered
unchecked under CHECK with C = 0, else discarded. Past them an SA line that is not resident sends the frame to the
ingress sump with the SA that it selected; a late frame under REPLAY_PROTECT is discarded with its event and counts
PKTS_LATE in its turn; any other goes to the lanes with its recovered PN and its SA's key. No receive SA's NEXT_PN
changes. On a link at its in-flight limit of 2,048 frames the frame waits in the sump for a position. (Model's choices
that it rests on: log 71, 72, 113, 143.) -/
def Obligations.IngressClassification : Prop :=
  (∀ (s : State) (l : Nat) (fd : BitVec 16) (bs : List Byte) (flt : FrameFaults), mayStart s .ing l = true → 0 < bs.length →
      bs.length < 64 →
      ∃ t, exec (.linRxFrame [wholeSeg l fd bs] flt) s = .next t ∧ ∃ f, joined .ing l bs f s t ∧ f.fate = .discard ∧
        countedOnly 0x21 1 s t ∧ sameBut [.ing, .que, .tel, .cnt, .evt] s t) ∧
  (∀ (s : State) (l : Nat) (fd : BitVec 16) (bs : List Byte) (flt : FrameFaults), mayStart s .ing l = true → bs.length = 64 →
      s.glb.mode = .lockout →
      ∃ t, exec (.linRxFrame [wholeSeg l fd bs] flt) s = .next t ∧ ∃ f, joined .ing l bs f s t ∧ f.fate = .discard ∧
        countedOnly 0x24 1 s t ∧ sameBut [.ing, .que, .tel, .cnt, .evt] s t) ∧
  (∀ (s : State) (l : Nat) (fd : BitVec 16) (bs : List Byte) (flt : FrameFaults), mayStart s .ing l = true → bs.length = 64 →
      s.glb.mode ≠ .lockout → ruleOf s .ing l bs = some true →
      ∃ t, exec (.linRxFrame [wholeSeg l fd bs] flt) s = .next t ∧ ∃ f, joined .ing l bs f s t ∧ f.fate = .discard ∧
        countedOnly 0x2B 1 s t ∧ sameBut [.ing, .que, .tel, .cnt, .evt] s t) ∧
  (∀ (s : State) (l : Nat) (fd : BitVec 16) (bs : List Byte) (flt : FrameFaults), mayStart s .ing l = true → bs.length = 64 →
      s.glb.mode ≠ .lockout → ruleOf s .ing l bs = some false →
      ∃ t, exec (.linRxFrame [wholeSeg l fd bs] flt) s = .next t ∧ ∃ f, joined .ing l bs f s t ∧ f.fate = .bypass ∧
        countedOnly 0x2C 1 s t ∧ sameBut [.ing, .que, .tel, .cnt, .evt] s t) ∧
  (∀ (s : State) (l : Nat) (fd : BitVec 16) (bs : List Byte) (flt : FrameFaults), mayStart s .ing l = true → bs.length = 64 →
      s.glb.mode = .cold → ruleOf s .ing l bs = none →
      ∃ t, exec (.linRxFrame [wholeSeg l fd bs] flt) s = .next t ∧ ∃ f, joined .ing l bs f s t ∧ f.fate = .discard ∧
        countedOnly 0x24 1 s t ∧ sameBut [.ing, .que, .tel, .cnt, .evt] s t) ∧
  (∀ (s : State) (l : Nat) (fd : BitVec 16) (bs : List Byte) (flt : FrameFaults), mayStart s .ing l = true → bs.length = 64 →
      s.glb.mode ≠ .lockout → ruleOf s .ing l bs = none → s.glb.mode ≠ .cold → secyOf s l = none →
      ∃ t, exec (.linRxFrame [wholeSeg l fd bs] flt) s = .next t ∧ ∃ f, joined .ing l bs f s t ∧ f.fate = .discard ∧
        countedOnly 0x26 1 s t ∧ sameBut [.ing, .que, .tel, .cnt, .evt] s t) ∧
  (∀ (s : State) (l : Nat) (fd : BitVec 16) (bs : List Byte) (flt : FrameFaults) (y : Secy), mayStart s .ing l = true →
      bs.length = 64 → s.glb.mode ≠ .lockout → ruleOf s .ing l bs = none → s.glb.mode ≠ .cold → secyOf s l = some y → y.st ≠ .on →
      ∃ t, exec (.linRxFrame [wholeSeg l fd bs] flt) s = .next t ∧ ∃ f, joined .ing l bs f s t ∧ f.fate = .discard ∧
        countedOnly 0x27 1 s t ∧ sameBut [.ing, .que, .tel, .cnt, .evt] s t) ∧
  (∀ (s : State) (l : Nat) (fd : BitVec 16) (bs : List Byte) (flt : FrameFaults) (y : Secy), mayStart s .ing l = true →
      bs.length = 64 → s.glb.mode ≠ .lockout → ruleOf s .ing l bs = none → s.glb.mode ≠ .cold → secyOf s l = some y →
        y.st = .on → bitAt s.glb.prt (fd.toNat % 64) = false →
      ∃ t, exec (.linRxFrame [wholeSeg l fd bs] flt) s = .next t ∧ ∃ f, joined .ing l bs f s t ∧ f.fate = .discard ∧
        countedOnly 0x28 1 s t ∧ sameBut [.ing, .que, .tel, .cnt, .evt] s t) ∧
  (∀ (s : State) (l : Nat) (fd : BitVec 16) (bs : List Byte) (flt : FrameFaults) (y : Secy), mayStart s .ing l = true →
      bs.length = 64 → s.glb.mode ≠ .lockout → ruleOf s .ing l bs = none → s.glb.mode ≠ .cold → secyOf s l = some y →
        y.st = .on → bitAt s.glb.prt (fd.toNat % 64) = true → tagOf s bs (txpClear y.txp) (isXpn (txpSuite y.txp)) = none →
          txpMka y.txp = true → etypeAt s bs (txpClear y.txp) = 0x888E → queFits 4 (queOf s 4) 2 = true →
      ∃ t, exec (.linRxFrame [wholeSeg l fd bs] flt) s = .next t ∧ ∃ f, joined .ing l bs f s t ∧ f.fate = .tapped ∧
        countedOnly 0x29 1 s t ∧
        (queOf t 4).items = (queOf s 4).items ++ [bodyItem 2 (fd.toNat % 64) l (now s) bs] ∧
          (queOf t 4).wr = (queOf s 4).wr + 2 ∧ sameBut [.ing, .que, .tel, .cnt, .evt] s t) ∧
  (∀ (s : State) (l : Nat) (fd : BitVec 16) (bs : List Byte) (flt : FrameFaults) (y : Secy), mayStart s .ing l = true →
      bs.length = 64 → s.glb.mode ≠ .lockout → ruleOf s .ing l bs = none → s.glb.mode ≠ .cold → secyOf s l = some y →
        y.st = .on → bitAt s.glb.prt (fd.toNat % 64) = true → tagOf s bs (txpClear y.txp) (isXpn (txpSuite y.txp)) = none →
          (txpMka y.txp = true → etypeAt s bs (txpClear y.txp) ≠ 0x888E) → s.glb.mode = .provision → txpEarly y.txp = false →
      ∃ t, exec (.linRxFrame [wholeSeg l fd bs] flt) s = .next t ∧ ∃ f, joined .ing l bs f s t ∧ f.fate = .discard ∧
        countedOnly 0x24 1 s t ∧ sameBut [.ing, .que, .tel, .cnt, .evt] s t) ∧
  (∀ (s : State) (l : Nat) (fd : BitVec 16) (bs : List Byte) (flt : FrameFaults) (y : Secy), mayStart s .ing l = true →
      bs.length = 64 → s.glb.mode ≠ .lockout → ruleOf s .ing l bs = none → s.glb.mode ≠ .cold → secyOf s l = some y →
        y.st = .on → bitAt s.glb.prt (fd.toNat % 64) = true → tagOf s bs (txpClear y.txp) (isXpn (txpSuite y.txp)) = none →
          (txpMka y.txp = true → etypeAt s bs (txpClear y.txp) ≠ 0x888E) → (s.glb.mode = .provision → txpEarly y.txp = true) →
            rxpVal y.rxp ≠ 2 →
      ∃ t, exec (.linRxFrame [wholeSeg l fd bs] flt) s = .next t ∧ ∃ f, joined .ing l bs f s t ∧ f.fate = .unmodified ∧
        counted 0x2E 1 s t ∧ secyOf t l = some (yStat 4 y)) ∧
  (∀ (s : State) (l : Nat) (fd : BitVec 16) (bs : List Byte) (flt : FrameFaults) (y : Secy), mayStart s .ing l = true →
      bs.length = 64 → s.glb.mode ≠ .lockout → ruleOf s .ing l bs = none → s.glb.mode ≠ .cold → secyOf s l = some y →
        y.st = .on → bitAt s.glb.prt (fd.toNat % 64) = true → tagOf s bs (txpClear y.txp) (isXpn (txpSuite y.txp)) = none →
          (txpMka y.txp = true → etypeAt s bs (txpClear y.txp) ≠ 0x888E) → (s.glb.mode = .provision → txpEarly y.txp = true) →
            rxpVal y.rxp = 2 →
      ∃ t, exec (.linRxFrame [wholeSeg l fd bs] flt) s = .next t ∧ ∃ f, joined .ing l bs f s t ∧
        f.fate = (if rxpNoTag y.rxp then .uncontrolled else .discard) ∧ counted (if rxpNoTag y.rxp then 0x2F else 0x2D) 1 s t ∧
        secyOf t l = some (yStat 5 y)) ∧
  (∀ (s : State) (l : Nat) (fd : BitVec 16) (bs : List Byte) (flt : FrameFaults) (y : Secy) (k : Tag),
      mayStart s .ing l = true → bs.length = 64 → s.glb.mode ≠ .lockout → ruleOf s .ing l bs = none → s.glb.mode ≠ .cold →
        secyOf s l = some y → y.st = .on → bitAt s.glb.prt (fd.toNat % 64) = true → (s.glb.mode = .provision →
          txpEarly y.txp = true) → tagOf s bs (txpClear y.txp) (isXpn (txpSuite y.txp)) = some k → k.good = false →
      ∃ t, exec (.linRxFrame [wholeSeg l fd bs] flt) s = .next t ∧ ∃ f, joined .ing l bs f s t ∧ f.fate = .discard ∧
        counted 0x30 1 s t ∧ secyOf t l = some (yStat 6 y)) ∧
  (∀ (s : State) (l : Nat) (fd : BitVec 16) (bs : List Byte) (flt : FrameFaults) (y : Secy) (k : Tag),
      mayStart s .ing l = true → bs.length = 64 → s.glb.mode ≠ .lockout → ruleOf s .ing l bs = none → s.glb.mode ≠ .cold →
        secyOf s l = some y → y.st = .on → bitAt s.glb.prt (fd.toNat % 64) = true → (s.glb.mode = .provision →
          txpEarly y.txp = true) → tagOf s bs (txpClear y.txp) (isXpn (txpSuite y.txp)) = some k → k.good = true →
            rxpVal y.rxp = 0 → k.bit 2 = true →
      ∃ t, exec (.linRxFrame [wholeSeg l fd bs] flt) s = .next t ∧ ∃ f, joined .ing l bs f s t ∧ f.fate = .discard ∧
        countedOnly 0x37 1 s t ∧ sameBut [.ing, .que, .tel, .cnt, .evt] s t) ∧
  (∀ (s : State) (l : Nat) (fd : BitVec 16) (bs : List Byte) (flt : FrameFaults) (y : Secy) (k : Tag),
      mayStart s .ing l = true → bs.length = 64 → s.glb.mode ≠ .lockout → ruleOf s .ing l bs = none → s.glb.mode ≠ .cold →
        secyOf s l = some y → y.st = .on → bitAt s.glb.prt (fd.toNat % 64) = true → (s.glb.mode = .provision →
          txpEarly y.txp = true) → tagOf s bs (txpClear y.txp) (isXpn (txpSuite y.txp)) = some k → k.good = true →
            rxpVal y.rxp = 0 → k.bit 2 = false →
      ∃ t, exec (.linRxFrame [wholeSeg l fd bs] flt) s = .next t ∧ ∃ f, joined .ing l bs f s t ∧ f.fate = .unchecked ∧
        countedOnly 0x38 1 s t ∧ sameBut [.ing, .que, .tel, .cnt, .evt] s t) ∧
  (∀ (s : State) (l : Nat) (fd : BitVec 16) (bs : List Byte) (flt : FrameFaults) (y : Secy) (k : Tag),
      mayStart s .ing l = true → bs.length = 64 → s.glb.mode ≠ .lockout → ruleOf s .ing l bs = none → s.glb.mode ≠ .cold →
        secyOf s l = some y → y.st = .on → bitAt s.glb.prt (fd.toNat % 64) = true → (s.glb.mode = .provision →
          txpEarly y.txp = true) → tagOf s bs (txpClear y.txp) (isXpn (txpSuite y.txp)) = some k → k.good = true →
            rxpVal y.rxp ≠ 0 → txpPrio y.txp < s.ing.shed →
      ∃ t, exec (.linRxFrame [wholeSeg l fd bs] flt) s = .next t ∧ ∃ f, joined .ing l bs f s t ∧ f.fate = .discard ∧
        countedOnly 0x31 1 s t ∧ sameBut [.ing, .que, .tel, .cnt, .evt] s t) ∧
  (∀ (s : State) (l : Nat) (fd : BitVec 16) (bs : List Byte) (flt : FrameFaults) (y : Secy) (k : Tag) (sci : W64),
      mayStart s .ing l = true → bs.length = 64 → s.glb.mode ≠ .lockout → ruleOf s .ing l bs = none → s.glb.mode ≠ .cold →
        secyOf s l = some y → y.st = .on → bitAt s.glb.prt (fd.toNat % 64) = true → (s.glb.mode = .provision →
          txpEarly y.txp = true) → tagOf s bs (txpClear y.txp) (isXpn (txpSuite y.txp)) = some k → k.good = true →
            isResident s (secyLine l) = true → flt.secyEcc = 0 → rxpVal y.rxp ≠ 0 → s.ing.shed ≤ txpPrio y.txp →
              sciOf s l bs k = some sci → findSc s l sci = none → rxpVal y.rxp = 1 → k.bit 2 = false →
      ∃ t, exec (.linRxFrame [wholeSeg l fd bs] flt) s = .next t ∧ ∃ f, joined .ing l bs f s t ∧ f.fate = .unchecked ∧
        counted 0x38 1 s t ∧ secyOf t l = some (yStat 7 y) ∧ t.rx = s.rx) ∧
  (∀ (s : State) (l : Nat) (fd : BitVec 16) (bs : List Byte) (flt : FrameFaults) (y : Secy) (k : Tag) (sci : W64),
      mayStart s .ing l = true → bs.length = 64 → s.glb.mode ≠ .lockout → ruleOf s .ing l bs = none → s.glb.mode ≠ .cold →
        secyOf s l = some y → y.st = .on → bitAt s.glb.prt (fd.toNat % 64) = true → (s.glb.mode = .provision →
          txpEarly y.txp = true) → tagOf s bs (txpClear y.txp) (isXpn (txpSuite y.txp)) = some k → k.good = true →
            isResident s (secyLine l) = true → flt.secyEcc = 0 → rxpVal y.rxp ≠ 0 → s.ing.shed ≤ txpPrio y.txp →
              sciOf s l bs k = some sci → findSc s l sci = none → rxpVal y.rxp = 2 ∨ k.bit 2 = true →
      ∃ t, exec (.linRxFrame [wholeSeg l fd bs] flt) s = .next t ∧ ∃ f, joined .ing l bs f s t ∧ f.fate = .discard ∧
        counted 0x32 1 s t ∧ secyOf t l = some (yStat 8 y) ∧ t.rx = s.rx) ∧
  (∀ (s : State) (l : Nat) (fd : BitVec 16) (bs : List Byte) (flt : FrameFaults) (y : Secy) (k : Tag) (sci : W64) (c : Nat),
      mayStart s .ing l = true → bs.length = 64 → s.glb.mode ≠ .lockout → ruleOf s .ing l bs = none → s.glb.mode ≠ .cold →
        secyOf s l = some y → y.st = .on → bitAt s.glb.prt (fd.toNat % 64) = true → (s.glb.mode = .provision →
          txpEarly y.txp = true) → tagOf s bs (txpClear y.txp) (isXpn (txpSuite y.txp)) = some k → k.good = true →
            isResident s (secyLine l) = true → flt.secyEcc = 0 → rxpVal y.rxp ≠ 0 → s.ing.shed ≤ txpPrio y.txp →
              sciOf s l bs k = some sci → findSc s l sci = some c → (∀ a, rxOf s (4 * c + k.tci % 4) = some a →
                a.enabled = false) → rxpVal y.rxp = 1 → k.bit 2 = false →
      ∃ t, exec (.linRxFrame [wholeSeg l fd bs] flt) s = .next t ∧ ∃ f, joined .ing l bs f s t ∧ f.fate = .unchecked ∧
        counted 0x38 1 s t ∧ secyOf t l = some (yStat 9 y) ∧ t.rx = s.rx) ∧
  (∀ (s : State) (l : Nat) (fd : BitVec 16) (bs : List Byte) (flt : FrameFaults) (y : Secy) (k : Tag) (sci : W64) (c : Nat),
      mayStart s .ing l = true → bs.length = 64 → s.glb.mode ≠ .lockout → ruleOf s .ing l bs = none → s.glb.mode ≠ .cold →
        secyOf s l = some y → y.st = .on → bitAt s.glb.prt (fd.toNat % 64) = true → (s.glb.mode = .provision →
          txpEarly y.txp = true) → tagOf s bs (txpClear y.txp) (isXpn (txpSuite y.txp)) = some k → k.good = true →
            isResident s (secyLine l) = true → flt.secyEcc = 0 → rxpVal y.rxp ≠ 0 → s.ing.shed ≤ txpPrio y.txp →
              sciOf s l bs k = some sci → findSc s l sci = some c → (∀ a, rxOf s (4 * c + k.tci % 4) = some a →
                a.enabled = false) → rxpVal y.rxp = 2 ∨ k.bit 2 = true →
      ∃ t, exec (.linRxFrame [wholeSeg l fd bs] flt) s = .next t ∧ ∃ f, joined .ing l bs f s t ∧ f.fate = .discard ∧
        counted 0x33 1 s t ∧ secyOf t l = some (yStat 10 y) ∧ t.rx = s.rx) ∧
  (∀ (s : State) (l : Nat) (fd : BitVec 16) (bs : List Byte) (flt : FrameFaults) (y : Secy) (k : Tag) (sci : W64) (c r : Nat) (a : Sa), mayStart s .ing l = true → bs.length = 64 → s.glb.mode ≠ .lockout → ruleOf s .ing l bs = none → s.glb.mode ≠ .cold → secyOf s l = some y → y.st = .on → bitAt s.glb.prt (fd.toNat % 64) = true → (s.glb.mode = .provision → txpEarly y.txp = true) → tagOf s bs (txpClear y.txp) (isXpn (txpSuite y.txp)) = some k → k.good = true → isResident s (secyLine l) = true → flt.secyEcc = 0 → rxpVal y.rxp ≠ 0 → s.ing.shed ≤ txpPrio y.txp → sciOf s l bs k = some sci → findSc s l sci = some c → r = 4 * c + k.tci % 4 → rxOf s r = some a → a.enabled = true → isResident s (rxLine r) = false → s.cxm.oos = false → isQuar s (rxLine r) = false →
      ∃ t, exec (.linRxFrame [wholeSeg l fd bs] flt) s = .next t ∧ ∃ f, joined .ing l bs f s t ∧
        f.fate = .wait (some (rxLine r)) ∧ f.saIdx = r ∧ f.sci = sci ∧ t.rx = s.rx ∧ counted 0x49 1 s t ∧
          (fillOf t (rxLine r)).isSome = true) ∧
  (∀ (s : State) (l : Nat) (fd : BitVec 16) (bs : List Byte) (flt : FrameFaults) (y : Secy) (k : Tag) (sci : W64) (c r : Nat) (a : Sa), mayStart s .ing l = true → bs.length = 64 → s.glb.mode ≠ .lockout → ruleOf s .ing l bs = none → s.glb.mode ≠ .cold → secyOf s l = some y → y.st = .on → bitAt s.glb.prt (fd.toNat % 64) = true → (s.glb.mode = .provision → txpEarly y.txp = true) → tagOf s bs (txpClear y.txp) (isXpn (txpSuite y.txp)) = some k → k.good = true → isResident s (secyLine l) = true → flt.secyEcc = 0 → rxpVal y.rxp ≠ 0 → s.ing.shed ≤ txpPrio y.txp → sciOf s l bs k = some sci → findSc s l sci = some c → r = 4 * c + k.tci % 4 → rxOf s r = some a → a.enabled = true → isResident s (rxLine r) = true → flt = noFaults → rxpReplay y.rxp = true → recoverPn a.suite (lowPn a (rxpWindow y.rxp)) k.pn < lowPn a (rxpWindow y.rxp) →
      ∃ t, exec (.linRxFrame [wholeSeg l fd bs] flt) s = .next t ∧ ∃ f, joined .ing l bs f s t ∧ f.fate = .discard ∧
        counted 0x35 1 s t ∧ eventSet t .ing 4 ∧ (rxOf t r).map (·.pn) = some a.pn ∧
        (s.ing.frames.any (fun x => x.link == l && (x.fate == .crypt || inSump x)) = false →
          (rxOf t r).map (fun x => smGet 0 x.stats 3) = some (Nat.min (smGet 0 a.stats 3 + 1) (2 ^ 64 - 1)))) ∧
  (∀ (s : State) (l : Nat) (fd : BitVec 16) (bs : List Byte) (flt : FrameFaults) (y : Secy) (k : Tag) (sci : W64) (c r : Nat) (a : Sa) (j : Nat), mayStart s .ing l = true → bs.length = 64 → s.glb.mode ≠ .lockout → ruleOf s .ing l bs = none → s.glb.mode ≠ .cold → secyOf s l = some y → y.st = .on → bitAt s.glb.prt (fd.toNat % 64) = true → (s.glb.mode = .provision → txpEarly y.txp = true) → tagOf s bs (txpClear y.txp) (isXpn (txpSuite y.txp)) = some k → k.good = true → isResident s (secyLine l) = true → flt.secyEcc = 0 → rxpVal y.rxp ≠ 0 → s.ing.shed ≤ txpPrio y.txp → sciOf s l bs k = some sci → findSc s l sci = some c → r = 4 * c + k.tci % 4 → rxOf s r = some a → a.enabled = true → isResident s (rxLine r) = true → flt = noFaults → (recoverPn a.suite (lowPn a (rxpWindow y.rxp)) k.pn < lowPn a (rxpWindow y.rxp) → rxpReplay y.rxp = false) → kidSlot s a.kid = some j → (vslot s j).st = .loaded → (vslot s j).attr = .decOnly →
      ∃ t, exec (.linRxFrame [wholeSeg l fd bs] flt) s = .next t ∧ ∃ f, joined .ing l bs f s t ∧ f.fate = .crypt ∧
        f.saIdx = r ∧ f.pn = recoverPn a.suite (lowPn a (rxpWindow y.rxp)) k.pn ∧
        f.kid = a.kid ∧ f.key = keyAt s j ∧ f.sci = sci ∧ f.salt = a.salt ∧ f.suite = a.suite ∧ counted 0x48 1 s t ∧
          t.rx = s.rx ∧ t.tx = s.tx) ∧
  (∀ (s : State) (l : Nat) (fd : BitVec 16) (bs : List Byte) (flt : FrameFaults), mayEnter s .ing l = true → bs.length = 64 →
      2048 ≤ s.ing.frames.countP (fun x => x.link == l) →
      ∃ t, exec (.linRxFrame [wholeSeg l fd bs] flt) s = .next t ∧ ∃ f, joined .ing l bs f s t ∧ f.fate = .wait none)

/-- O35. INGRESS_COMMIT decides the first frame of its link that is not committed, once its input has ended, with its PN
recovered anew. With the SecY and its receive SA present and the frame not released yet, within the link's in-flight
limit: if the ICV fails, a frame with C = 0 under CHECK is delivered unchecked, any other is discarded with its event;
a late frame (its recovered PN below the lowest acceptable one) is discarded with REPLAY_PROTECT, and in all these
cases NEXT_PN stays. A late frame without REPLAY_PROTECT is verified and NEXT_PN stays. Any other frame is verified
and NEXT_PN becomes the larger of itself and its PN + 1. A frame the lanes gave up has the verdict of an ICV failure.
A frame that has started to leave ends on cli_tx_ with its verdict: poisoned, with err = 1, where it is a discard.
With cli_tx_ready at 0 it waits decided. A damaged descriptor discards the frame. A frame whose input has not ended,
or that waits in the sump, is not committed. A frame that was discarded late counts PKTS_LATE when the frames of its
link before it are committed. (Model's choices that it rests on: log 1, 73, 143.) -/
def Obligations.IngressCommit : Prop :=
  (∀ (s : State) (l : Nat) (f : Frame) (y : Secy) (k : Tag) (a : Sa) (r : Nat), resetLow s = false → calm s .ing = true →
      commitNext s l = some f → f.link = l → f.fate = .crypt → f.ended = true → secyOf s l = some y →
        tagOf s f.bytes (txpClear f.txp) (isXpn (txpSuite f.txp)) = some k → f.saIdx = r → rxOf s r = some a →
          f.started = false → atLimit s .ing f = false →
      ∃ t, exec (.ingressCommit l false) s = .next t ∧
        (let late := decide (recoverPn a.suite (lowPn a (rxpWindow y.rxp)) k.pn < lowPn a (rxpWindow y.rxp))
         let ok := icvOk ({ f with pn := recoverPn a.suite (lowPn a (rxpWindow y.rxp)) k.pn }) k
         (ok = false → rxpVal y.rxp = 1 → k.bit 2 = false → fateAt .ing f .unchecked s t ∧ counted 0x38 1 s t ∧
           (rxOf t r).map (·.pn) = some a.pn) ∧
         (ok = false → rxpVal y.rxp ≠ 1 ∨ k.bit 2 = true → fateAt .ing f .discard s t ∧ counted 0x36 1 s t ∧
           eventSet t .ing 3 ∧ (rxOf t r).map (·.pn) = some a.pn) ∧
         (ok = true → late = true → rxpReplay y.rxp = true → fateAt .ing f .discard s t ∧ counted 0x35 1 s t ∧
           eventSet t .ing 4 ∧ (rxOf t r).map (·.pn) = some a.pn) ∧
         (ok = true → late = true → rxpReplay y.rxp = false → fateAt .ing f .verified s t ∧ counted 0x39 1 s t ∧
           counted 0x3C 1 s t ∧ (rxOf t r).map (·.pn) = some a.pn) ∧
         (ok = true → late = false → fateAt .ing f .verified s t ∧ counted 0x3C 1 s t ∧
           (rxOf t r).map (·.pn) = some (Nat.max a.pn (recoverPn a.suite (lowPn a (rxpWindow y.rxp)) k.pn + 1)))) ∧
        (∀ j, j ≠ r → rxOf t j = rxOf s j) ∧ t.tx = s.tx ∧ t.vlt = s.vlt) ∧
  (∀ (s : State) (l : Nat) (f : Frame) (y : Secy) (k : Tag) (a : Sa) (r : Nat), resetLow s = false → calm s .ing = true →
      commitNext s l = some f → f.link = l → f.fate = .crypt → f.ended = true → secyOf s l = some y →
        tagOf s f.bytes (txpClear f.txp) (isXpn (txpSuite f.txp)) = some k → f.saIdx = r → rxOf s r = some a →
          f.started = false → atLimit s .ing f = false → f.abandoned = true → rxpVal y.rxp = 2 →
      ∃ t, exec (.ingressCommit l false) s = .next t ∧ counted 0x36 1 s t ∧ eventSet t .ing 3 ∧ fateAt .ing f .discard s t) ∧
  (∀ (s : State) (l : Nat) (f : Frame) (y : Secy) (k : Tag) (a : Sa) (r : Nat), resetLow s = false → calm s .ing = true →
      commitNext s l = some f → f.link = l → f.fate = .crypt → f.ended = true → secyOf s l = some y →
        tagOf s f.bytes (txpClear f.txp) (isXpn (txpSuite f.txp)) = some k → f.saIdx = r → rxOf s r = some a →
          f.started = true → f.inErr = false → f.poison = false → s.ing.txReady = true →
            icvOk ({ f with pn := recoverPn a.suite (lowPn a (rxpWindow y.rxp)) k.pn }) k = true →
              lowPn a (rxpWindow y.rxp) ≤ recoverPn a.suite (lowPn a (rxpWindow y.rxp)) k.pn →
      ∃ t, exec (.ingressCommit l false) s = .next t ∧
        [frameOut .ing s f.link (clientFd f (k.tci % 4) false false false) (rebuilt f k (ingPlain ({ f with pn := recoverPn a.suite (lowPn a (rxpWindow y.rxp)) k.pn }) k)) false] <:+ t.out ∧ leftPath .ing f s t ∧ counted 0x3C 1 s t ∧ (rxOf t r).map (·.pn) = some (Nat.max a.pn (recoverPn a.suite (lowPn a (rxpWindow y.rxp)) k.pn + 1))) ∧
  (∀ (s : State) (l : Nat) (f : Frame) (y : Secy) (k : Tag) (a : Sa) (r : Nat), resetLow s = false → calm s .ing = true →
      commitNext s l = some f → f.link = l → f.fate = .crypt → f.ended = true → secyOf s l = some y →
        tagOf s f.bytes (txpClear f.txp) (isXpn (txpSuite f.txp)) = some k → f.saIdx = r → rxOf s r = some a →
          f.started = true → f.inErr = false → f.poison = false → s.ing.txReady = true →
            icvOk ({ f with pn := recoverPn a.suite (lowPn a (rxpWindow y.rxp)) k.pn }) k = false →
      ∃ t, exec (.ingressCommit l false) s = .next t ∧
        [frameOut .ing s f.link (clientFd f (k.tci % 4) false false false) (rebuilt f k (ingPlain ({ f with pn := recoverPn a.suite (lowPn a (rxpWindow y.rxp)) k.pn }) k)) true] <:+ t.out ∧ leftPath .ing f s t ∧ counted 0x36 1 s t ∧ counted 0x3A 1 s t ∧ eventSet t .ing 5 ∧ (rxOf t r).map (·.pn) = some a.pn) ∧
  (∀ (s : State) (l : Nat) (f : Frame) (y : Secy) (k : Tag) (a : Sa) (r : Nat), resetLow s = false → calm s .ing = true →
      commitNext s l = some f → f.link = l → f.fate = .crypt → f.ended = true → secyOf s l = some y →
        tagOf s f.bytes (txpClear f.txp) (isXpn (txpSuite f.txp)) = some k → f.saIdx = r → rxOf s r = some a →
          f.started = true → s.ing.txReady = false →
      ∃ t, exec (.ingressCommit l false) s = .next t ∧ (∀ x ∈ t.ing.frames, x.link = l → x.orderTag = f.orderTag →
        x.fate = .verified)) ∧
  (∀ (s : State) (l : Nat) (f : Frame), resetLow s = false → calm s .ing = true → commitNext s l = some f → f.link = l →
      f.fate = .crypt → f.ended = true → f.started = false → atLimit s .ing f = false →
      ∃ t, exec (.ingressCommit l true) s = .next t ∧ countedOnly 0x3B 1 s t ∧ eventSet t .ing 1 ∧ t.rx = s.rx ∧
        fateAt .ing f .discard s t) ∧
  (∀ (s : State) (l r : Nat) (f g : Frame) (a : Sa) (b : Bool), resetLow s = false →
      s.ing.frames.filter (fun x => x.link == l) = [f, g] → f.orderTag ≠ g.orderTag →
      s.ing.frames.filter (fun x => x.lateSa.isSome) = [g] → f.fate = .crypt → f.ended = true → f.started = false →
        g.fate = .discard → g.ended = true → g.lateSa = some r →
      f.saIdx ≠ r → rxOf s r = some a →
      ∃ t, exec (.ingressCommit l b) s = .next t ∧
        (rxOf t r).map (fun x => smGet 0 x.stats 3) = some (Nat.min (smGet 0 a.stats 3 + 1) (2 ^ 64 - 1)) ∧
        (∀ x ∈ t.ing.frames, x.link = l → x.orderTag = g.orderTag → x.lateSa = none)) ∧
  (∀ (s : State) (l : Nat) (b : Bool), resetLow s = false → (∀ f, commitNext s l = some f → f.fate ≠ .crypt ∨ f.ended = false) →
      ∃ t, exec (.ingressCommit l b) s = .next t ∧ settled s t)

/-- O36. INGRESS_RELEASE takes the first due among the oldest frames of the links, in the segments of cli_tx_ from the
byte behind the last frame. A discarded or tapped frame leaves nothing on cli_tx_. A bypass frame, an uncontrolled one
and one without a SecTAG leave as they came but for their FCS field, with BYPASS, UNCTRL or UNCHK and the port in fd;
a verified frame leaves without SecTAG and ICV, padded to 64 bytes, with its AN in fd; one delivered unchecked
likewise with UNCHK, its secure data as it came or, where the lanes had its key, as they give it. With a damaged
descriptor nothing is sent. Under cut-through a frame starts before its verdict, and nothing else leaves while it is
being sent; decided, it leaves first. With cli_tx_ready at 0 nothing leaves. (Model's choices that it rests on: log
73, 126, 139, 140.) -/
def Obligations.IngressRelease : Prop :=
  (∀ (s : State) (f : Frame), nextOut s .ing ingDue f = true → f.fate = .discard ∨ f.fate = .tapped →
      ∃ t, exec (.ingressRelease false) s = .next t ∧ t.out = s.out ∧ leftPath .ing f s t ∧ sameBut [.ing, .lne, .que,
        .evt] s t) ∧
  (∀ (s : State) (f : Frame), nextOut s .ing ingDue f = true → f.fate = .bypass →
      ∃ t, exec (.ingressRelease false) s = .next t ∧
        t.out = s.out ++ [frameOut .ing s f.link (BitVec.ofNat 16 (64 + f.pport)) (zeroFcs f.bytes) (f.inErr || f.poison)] ∧
          leftPath .ing f s t ∧ sameBut [.ing, .lne, .out, .que, .tel, .evt] s t) ∧
  (∀ (s : State) (f : Frame), nextOut s .ing ingDue f = true → f.fate = .uncontrolled →
      ∃ t, exec (.ingressRelease false) s = .next t ∧
        t.out = s.out ++ [frameOut .ing s f.link (BitVec.ofNat 16 (128 + f.pport)) (zeroFcs f.bytes) (f.inErr || f.poison)] ∧
          leftPath .ing f s t ∧ sameBut [.ing, .lne, .out, .que, .tel, .evt] s t) ∧
  (∀ (s : State) (f : Frame), nextOut s .ing ingDue f = true → f.fate = .unmodified →
      tagOf s f.bytes (txpClear f.txp) (isXpn (txpSuite f.txp)) = none →
      ∃ t, exec (.ingressRelease false) s = .next t ∧
        t.out = s.out ++ [frameOut .ing s f.link (BitVec.ofNat 16 (256 + f.pport)) (zeroFcs f.bytes) (f.inErr || f.poison)] ∧
          leftPath .ing f s t ∧ sameBut [.ing, .lne, .out, .que, .tel, .evt] s t) ∧
  (∀ (s : State) (f : Frame) (k : Tag), nextOut s .ing ingDue f = true → f.fate = .verified →
      tagOf s f.bytes (txpClear f.txp) (isXpn (txpSuite f.txp)) = some k →
      ∃ t, exec (.ingressRelease false) s = .next t ∧
        t.out = s.out ++ [frameOut .ing s f.link (BitVec.ofNat 16 (512 * (k.tci % 4) + f.pport)) (rebuilt f k (ingPlain f k)) (f.inErr || f.poison)] ∧ leftPath .ing f s t ∧ sameBut [.ing, .lne, .out, .que, .tel, .evt] s t) ∧
  (∀ (s : State) (f : Frame) (k : Tag), nextOut s .ing ingDue f = true → f.fate = .unchecked →
      tagOf s f.bytes (txpClear f.txp) (isXpn (txpSuite f.txp)) = some k →
      ∃ t, exec (.ingressRelease false) s = .next t ∧
        t.out = s.out ++ [frameOut .ing s f.link (BitVec.ofNat 16 (512 * (k.tci % 4) + 256 + f.pport)) (rebuilt f k (if f.key = [] then slice f.bytes (k.off + k.len) k.sd else ingPlain f k)) (f.inErr || f.poison)] ∧ leftPath .ing f s t ∧ sameBut [.ing, .lne, .out, .que, .tel, .evt] s t) ∧
  (∀ (s : State) (f : Frame), nextOut s .ing ingDue f = true → f.fate ≠ .discard → f.fate ≠ .tapped → f.ended = true →
      ∃ t, exec (.ingressRelease true) s = .next t ∧ t.out = s.out ∧ leftPath .ing f s t ∧ countedOnly 0x3B 1 s t ∧
        eventSet t .ing 1) ∧
  (∀ (s : State) (f : Frame), nextOut s .ing ingDue f = true → f.fate = .crypt →
      ∃ t, exec (.ingressRelease false) s = .next t ∧ t.out = s.out ∧ rxpCut f.rxp = true ∧
        t.ing.frames = mapWhere (fun x => x.link == f.link && x.orderTag == f.orderTag) (fun x => { x with started := true }) s.ing.frames) ∧
  (∀ (s : State) (f : Frame) (k : Tag) (b : Bool), resetLow s = false → s.ing.txReady = true → calm s .ing = true →
      s.ing.frames.find? (·.started) = some f → f.fate = .verified →
      s.ing.frames.any (awaits .ing f.link) = false → tagOf s f.bytes (txpClear f.txp) (isXpn (txpSuite f.txp)) = some k →
      ∃ t, exec (.ingressRelease b) s = .next t ∧
        t.out = s.out ++ [frameOut .ing s f.link (BitVec.ofNat 16 (512 * (k.tci % 4) + f.pport)) (rebuilt f k (ingPlain f k)) (f.inErr || f.poison)] ∧ leftPath .ing f s t) ∧
  (∀ (s : State) (b : Bool), resetLow s = false → s.ing.txReady = false ∨ (∃ f, s.ing.frames.find? (·.started) = some f ∧
      f.fate ≠ .verified) ∨
        (s.ing.frames.any (·.started) = false ∧ s.ing.frames.any ingDue = false) →
      ∃ t, exec (.ingressRelease b) s = .next t ∧ settled s t)

/-- O37. The counter mode of the lanes is its own inverse under the same key and IV, and keeps the length. (Model's
choices that it rests on: log 1.) -/
def Obligations.LanesRunBothWays : Prop :=
  ∀ k iv bs : List Byte, gcmCrypt k iv (gcmCrypt k iv bs) = bs ∧ (gcmCrypt k iv bs).length = bs.length

/-- O38. A fault flag is counted with its stage and check and raises the lane's event. On the first copy of a block of a
frame in the lanes, a pair of copies is issued to the first two lanes in service that did not fault. With one copy of
the pair already faulted, the other's fault issues the second pair, and of the second pair gives the block up: an
egress frame that has not started is discarded, an ingress frame is marked so that its verdict is an ICV failure, and
the frame's recomputation ends. The first fault of a pair's copies is noted alone. A lane whose faults reach the limit
within the window is replaced by a WARM spare at once; without one, it leaves with 16 lanes in service, a spare that
is off ramps into its place, and LANES falls to 15; with 15 it stays, marked as held. (Model's choices that it rests
on: log 61, 86, 87, 136.) -/
def Obligations.LaneFaults : Prop :=
  (∀ (s : State) (d : Dir) (i stage check l o b : Nat) (f : Frame) (k : Block), resetLow s = false → i < 18 →
      frameOf s d l o = some f → f.fate = .crypt → f.abandoned = false → redoOf s d l o b = none →
        keptBlock s d l o b = some k → isPermanent s.lne.retryCfg (stampAdd (laneOf s (laneNo d i)).stamps (now s)) = false →
      ∃ t, exec (.laneFaultFlag d i stage check l o b false) s = .next t ∧ t.lne.redo = s.lne.redo ++
          [{ dir := d, link := l, order := o, block := b, kept := k, round := 1, lanes := copyLanes s d (laneNo d i), faulted := [], age := 0 }] ∧
        ((pathOf t d).pipe.take (copyLanes s d (laneNo d i)).length).map (fun x => (x.lane, x.copy,
          x.blk)) = (copyLanes s d (laneNo d i)).map (fun j => (j, true, k)) ∧
        counted (match d with | .egr => 0x40 | .ing => 0x41) 1 s t ∧ (frameOf t d l o).map (·.redo) = some true ∧
          (laneOf t (laneNo d i)).total = satAdd 32 (laneOf s (laneNo d i)).total 1 ∧ (laneOf t (laneNo d i)).lastStage = stage ∧
        (laneOf t (laneNo d i)).lastCheck = check ∧ eventSet t .lne (laneNo d i) ∧ t.vlt = s.vlt ∧ t.tx = s.tx ∧ t.rx = s.rx) ∧
  (∀ (s : State) (d : Dir) (i stage check l o b : Nat) (f : Frame) (r : Redo), resetLow s = false → i < 18 →
      frameOf s d l o = some f → f.fate = .crypt → f.abandoned = false → redoOf s d l o b = some r → r.faulted = [] →
        laneNo d i ∈ r.lanes → laneNo d i ∉ r.faulted →
          isPermanent s.lne.retryCfg (stampAdd (laneOf s (laneNo d i)).stamps (now s)) = false →
      ∃ t, exec (.laneFaultFlag d i stage check l o b true) s = .next t ∧
        redoOf t d l o b = some { r with faulted := [laneNo d i] } ∧
          (laneOf t (laneNo d i)).total = satAdd 32 (laneOf s (laneNo d i)).total 1 ∧ (laneOf t (laneNo d i)).lastStage = stage ∧
        (laneOf t (laneNo d i)).lastCheck = check ∧ eventSet t .lne (laneNo d i) ∧ t.cnt = s.cnt) ∧
  (∀ (s : State) (d : Dir) (i stage check l o b : Nat) (f : Frame) (r : Redo), resetLow s = false → i < 18 →
      frameOf s d l o = some f → f.fate = .crypt → f.abandoned = false → redoOf s d l o b = some r → r.round = 1 →
        r.faulted ≠ [] → laneNo d i ∈ r.lanes → laneNo d i ∉ r.faulted →
          isPermanent s.lne.retryCfg (stampAdd (laneOf s (laneNo d i)).stamps (now s)) = false →
      ∃ t, exec (.laneFaultFlag d i stage check l o b true) s = .next t ∧
        redoOf t d l o b = some { r with round := 2, faulted := [], lanes := copyLanes s d (laneNo d i), age := 0 } ∧
        ((pathOf t d).pipe.take (copyLanes s d (laneNo d i)).length).map (fun x => (x.lane, x.copy,
          x.blk)) = (copyLanes s d (laneNo d i)).map (fun j => (j, true, r.kept)) ∧
            counted (match d with | .egr => 0x40 | .ing => 0x41) 1 s t ∧
              (laneOf t (laneNo d i)).total = satAdd 32 (laneOf s (laneNo d i)).total 1 ∧
                (laneOf t (laneNo d i)).lastStage = stage ∧
        (laneOf t (laneNo d i)).lastCheck = check ∧ eventSet t .lne (laneNo d i)) ∧
  (∀ (s : State) (d : Dir) (i stage check l o b : Nat) (f : Frame) (r : Redo), resetLow s = false → i < 18 →
      frameOf s d l o = some f → f.fate = .crypt → f.abandoned = false → redoOf s d l o b = some r → 2 ≤ r.round →
        r.faulted ≠ [] → laneNo d i ∈ r.lanes → laneNo d i ∉ r.faulted → d = .ing ∨ f.started = false → atLimit s d f = false →
          isPermanent s.lne.retryCfg (stampAdd (laneOf s (laneNo d i)).stamps (now s)) = false →
      ∃ t, exec (.laneFaultFlag d i stage check l o b true) s = .next t ∧ redoOf t d l o b = none ∧
        counted (match d with | .egr => 0x42 | .ing => 0x43) 1 s t ∧
        frameOf t d l o = some { f with abandoned := true, fate := (if d = .egr then .discard else .crypt) } ∧
          (laneOf t (laneNo d i)).total = satAdd 32 (laneOf s (laneNo d i)).total 1 ∧ (laneOf t (laneNo d i)).lastStage = stage ∧
        (laneOf t (laneNo d i)).lastCheck = check ∧ eventSet t .lne (laneNo d i)) ∧
  (∀ (s : State) (d : Dir) (i stage check l o b : Nat) (w : Nat), resetLow s = false → i < 18 → frameOf s d l o = none →
      isPermanent s.lne.retryCfg (stampAdd (laneOf s (laneNo d i)).stamps (now s)) = true →
        (laneOf s (laneNo d i)).st = .inService → (laneOf s (laneNo d i)).held = false → warmOf s d = some w →
      ∃ t, exec (.laneFaultFlag d i stage check l o b false) s = .next t ∧ (laneOf t (laneNo d i)).st = .retired ∧
        (laneOf t w).st = .inService ∧ serving t d = serving s d ∧
        (pathOf t d).lanes = serving s d ∧ pdIsOn t (laneDomain (laneNo d i)) = false ∧ pdIsOn t (laneDomain w) = true ∧
          (laneOf t (laneNo d i)).total = satAdd 32 (laneOf s (laneNo d i)).total 1 ∧ (laneOf t (laneNo d i)).lastStage = stage ∧
        (laneOf t (laneNo d i)).lastCheck = check ∧ eventSet t .lne (laneNo d i)) ∧
  (∀ (s : State) (d : Dir) (i stage check l o b : Nat) (w : Nat), resetLow s = false → i < 18 → frameOf s d l o = none →
      isPermanent s.lne.retryCfg (stampAdd (laneOf s (laneNo d i)).stamps (now s)) = true →
        (laneOf s (laneNo d i)).st = .inService → (laneOf s (laneNo d i)).held = false → warmOf s d = none →
          warmingOf s d = none → coldSpare s d = some w → serving s d = 16 →
      ∃ t, exec (.laneFaultFlag d i stage check l o b false) s = .next t ∧ (laneOf t (laneNo d i)).st = .retired ∧
        (laneOf t w).ramping = some true ∧ laneDomain w ∈ t.glb.ramping ∧
        (pathOf t d).lanes = 15 ∧ pdIsOn t (laneDomain (laneNo d i)) = false ∧ eventSet t .lne (36 + laneNo d i) ∧
          (laneOf t (laneNo d i)).total = satAdd 32 (laneOf s (laneNo d i)).total 1 ∧ (laneOf t (laneNo d i)).lastStage = stage ∧
        (laneOf t (laneNo d i)).lastCheck = check ∧ eventSet t .lne (laneNo d i)) ∧
  (∀ (s : State) (d : Dir) (i stage check l o b : Nat), resetLow s = false → i < 18 → frameOf s d l o = none →
      isPermanent s.lne.retryCfg (stampAdd (laneOf s (laneNo d i)).stamps (now s)) = true →
        (laneOf s (laneNo d i)).st = .inService → (laneOf s (laneNo d i)).held = false → warmOf s d = none → serving s d = 15 →
      ∃ t, exec (.laneFaultFlag d i stage check l o b false) s = .next t ∧ (laneOf t (laneNo d i)).st = .inService ∧
        (laneOf t (laneNo d i)).held = true ∧ serving t d = 15 ∧ eventSet t .lne (36 + laneNo d i) ∧
          (laneOf t (laneNo d i)).total = satAdd 32 (laneOf s (laneNo d i)).total 1 ∧ (laneOf t (laneNo d i)).lastStage = stage ∧
        (laneOf t (laneNo d i)).lastCheck = check ∧ eventSet t .lne (laneNo d i))

/-- O39. The known-answer test passes exactly where the lane adds nothing to its results. SPARE_READY counts for one of
the first RAMP_MAX domains that ramp. With a pass, a spare that ramps straight into service is in service, switched
on, and LANES counts it; a permanently faulty lane that was held then leaves where 16 serve. One that ramps towards
WARM is WARM. A failed spare is RETIRED and switched off, with its fault counted at stage 17, check 5. A row for a
lane that does not ramp, or that waits for its turn, changes nothing. SPARE_SWITCH_OFF switches a WARM spare beyond
those that lanes need off again, and leaves a needed one. SHED_RISE raises a direction's shed level by one where its
cause is set, the blocks that the row brings and those in its queue exceed the high mark and the level is below 7;
SHED_FALL lowers it by one where the cause is set, both are under the low mark and the level is above 0; else the
level stays. A level above 0 shows as its level event, and the other direction and everything else stay. (Model's
choices that it rests on: log 60, 61, 144, 176.) -/
def Obligations.SparesAndShedding : Prop :=
  (∀ e : BitVec 512, katClean e = true ↔ e = 0) ∧
  (∀ (s : State) (d : Dir) (i : Nat), resetLow s = false → i < 18 →
      laneDomain (laneNo d i) ∈ s.glb.ramping.take s.glb.rampMax → (laneOf s (laneNo d i)).ramping = some true →
        (lanesOf d).all (fun j => !(laneOf s j).held) = true → (laneOf s (laneNo d i)).st = .off →
      ∃ t, exec (.spareReady d i 0) s = .next t ∧ (laneOf t (laneNo d i)).st = .inService ∧
        (laneOf t (laneNo d i)).ramping = none ∧ (pathOf t d).lanes = serving s d + 1 ∧
          pdIsOn t (laneDomain (laneNo d i)) = true ∧ laneDomain (laneNo d i) ∉ t.glb.ramping ∧ (∀ j, j ≠ laneNo d i →
            laneOf t j = laneOf s j) ∧ sameBut [.egr, .ing, .lne, .glb, .evt] s t) ∧
  (∀ (s : State) (d : Dir) (i : Nat) (h : Nat), resetLow s = false → i < 18 →
      laneDomain (laneNo d i) ∈ s.glb.ramping.take s.glb.rampMax → (laneOf s (laneNo d i)).ramping = some true →
        (laneOf s (laneNo d i)).st = .off → (lanesOf d).find? (fun j => (laneOf s j).held) = some h →
          (laneOf s h).st = .inService → warmOf s d = none → serving s d = 15 →
      ∃ t, exec (.spareReady d i 0) s = .next t ∧ (laneOf t (laneNo d i)).st = .inService ∧ (laneOf t h).st = .retired ∧
        (pathOf t d).lanes = 15 ∧ pdIsOn t (laneDomain h) = false) ∧
  (∀ (s : State) (d : Dir) (i : Nat), resetLow s = false → i < 18 →
      laneDomain (laneNo d i) ∈ s.glb.ramping.take s.glb.rampMax → (laneOf s (laneNo d i)).ramping = some false →
      ∃ t, exec (.spareReady d i 0) s = .next t ∧ (laneOf t (laneNo d i)).st = .warm ∧ (laneOf t (laneNo d i)).ramping = none ∧
        pdIsOn t (laneDomain (laneNo d i)) = true ∧ laneDomain (laneNo d i) ∉ t.glb.ramping ∧ (∀ j, j ≠ laneNo d i →
          laneOf t j = laneOf s j) ∧ sameBut [.lne, .glb, .evt] s t) ∧
  (∀ (s : State) (d : Dir) (i : Nat) (e : BitVec 512), resetLow s = false → i < 18 →
      laneDomain (laneNo d i) ∈ s.glb.ramping.take s.glb.rampMax → (laneOf s (laneNo d i)).ramping.isSome = true →
        (laneOf s (laneNo d i)).st = .off → e ≠ 0 →
      ∃ t, exec (.spareReady d i e) s = .next t ∧ (laneOf t (laneNo d i)).st = .retired ∧
        (laneOf t (laneNo d i)).lastStage = 17 ∧ (laneOf t (laneNo d i)).lastCheck = 5 ∧
          pdIsOn t (laneDomain (laneNo d i)) = false ∧ laneDomain (laneNo d i) ∉ t.glb.ramping ∧ eventSet t .lne (laneNo d i) ∧
            eventSet t .lne (36 + laneNo d i)) ∧
  (∀ (s : State) (d : Dir) (i : Nat) (e : BitVec 512), resetLow s = false → 18 ≤ i ∨ (laneOf s (laneNo d i)).ramping = none ∨
      laneDomain (laneNo d i) ∉ s.glb.ramping.take s.glb.rampMax →
      ∃ t, exec (.spareReady d i e) s = .next t ∧ settled s t) ∧
  (∀ (s : State) (d : Dir) (i : Nat), resetLow s = false → i < 18 → (laneOf s (laneNo d i)).st = .warm ∨
      (laneOf s (laneNo d i)).ramping = some false → warmNeed s d < warmCount s d →
      ∃ t, exec (.spareSwitchOff d i) s = .next t ∧ (laneOf t (laneNo d i)).st = .off ∧
        (laneOf t (laneNo d i)).ramping = none ∧ pdIsOn t (laneDomain (laneNo d i)) = false ∧
          laneDomain (laneNo d i) ∉ t.glb.ramping ∧
        (∀ j, j ≠ laneNo d i → laneOf t j = laneOf s j) ∧ sameBut [.lne, .glb, .evt] s t) ∧
  (∀ (s : State) (d : Dir) (i : Nat), resetLow s = false → 18 ≤ i ∨ ((laneOf s (laneNo d i)).st ≠ .warm ∧
      (laneOf s (laneNo d i)).ramping ≠ some false) ∨ warmCount s d ≤ warmNeed s d →
      ∃ t, exec (.spareSwitchOff d i) s = .next t ∧ settled s t) ∧
  (∀ (s : State) (d : Dir) (b : Nat), resetLow s = false →
      ∃ t, exec (.shedRise d b) s = .next t ∧ pathOf t d = { pathOf s d with shed :=
          (if shedding s d = true ∧ fld (pathOf s d).shedCfg 16 16 < b ∧
            fld (pathOf s d).shedCfg 16 16 < (pathOf s d).blkq.length ∧
              (pathOf s d).shed < 7 then (pathOf s d).shed + 1 else (pathOf s d).shed) } ∧
        (0 < (pathOf t d).shed → eventSet t (match d with | .egr => .egr | .ing => .ing) 2) ∧
          sameBut [(match d with | .egr => .egr | .ing => .ing), .evt] s t) ∧
  (∀ (s : State) (d : Dir) (b : Nat), resetLow s = false →
      ∃ t, exec (.shedFall d b) s = .next t ∧ pathOf t d = { pathOf s d with shed :=
          (if shedding s d = true ∧ b < fld (pathOf s d).shedCfg 0 16 ∧
            (pathOf s d).blkq.length < fld (pathOf s d).shedCfg 0 16 ∧
              0 < (pathOf s d).shed then (pathOf s d).shed - 1 else (pathOf s d).shed) } ∧
        sameBut [(match d with | .egr => .egr | .ing => .ing), .evt] s t)

/-- O40. QUEUE_FLUSH is answered OKAY. Of a packet queue (a fabric queue, INJQ, CTQ) that is on: its items are gone, RD
and CMT stand at the old WR, one splice marker records how many were lost, with the frame that is being written to CTQ
among them, and no other queue changes. A flush of a queue that carries no packets, or whose domain is off, changes
nothing more; of no queue it is answered NOMAP, in test mode BLOCKED, and with PD01 off not at all. POINTER_MISMATCH
counts the queue's mismatch and raises the event of the queue's class: the pointers of a frame buffer or sump return
to 0 and every frame that it held is discarded; the reply queue only loses its pointers; a packet queue stands at RD
0, WR 1 with a splice marker alone; the command queue keeps only the service's own commands. (Model's choices that it
rests on: log 113.) -/
def Obligations.QueueFlushAndMismatch : Prop :=
  (∀ (s : State) (q : Nat), resetLow s = false → s.glb.testMode = false → pdIsOn s 1 = true → isPacketQue q = true →
      pdIsOn s (queDomain q) = true →
      ∃ t, exec (.queueFlush q) s = .next t ∧ (queOf t q).items =
          [spliceItem ((queOf s q).items.foldl (fun n it => n + (if it.splice then it.dropped else 1)) (if q = 4 then (tapOpen s).toList.length else 0)) 0 0 (now s)] ∧
        (queOf t q).rd = (queOf s q).wr ∧ (queOf t q).wr = (queOf s q).wr + 1 ∧ (queOf t q).cmt = (queOf s q).wr + 1 ∧ (∀ j,
          j ≠ q → queOf t j = queOf s j) ∧
        t.out = s.out ++ [.csr 0 0] ∧ (q ≠ 4 → t.ing = s.ing) ∧ sameBut [.out, .ing, .que, .tel, .evt] s t) ∧
  (∀ (s : State) (q : Nat), resetLow s = false → s.glb.testMode = false → pdIsOn s 1 = true → isPacketQue q = false ∨
      pdIsOn s (queDomain q) = false →
      ∃ t, exec (.queueFlush q) s = .next t ∧ t.out = s.out ++ [.csr (if q < 24 then 0 else 2) 0] ∧ sameBut [.out, .evt] s t) ∧
  (∀ (s : State) (q : Nat), resetLow s = false → s.glb.testMode = true →
      ∃ t, exec (.queueFlush q) s = .next t ∧ t.out = s.out ++ [.csr 3 0] ∧ sameBut [.out, .evt] s t) ∧
  (∀ (s : State) (q : Nat), resetLow s = false → s.glb.testMode = false → pdIsOn s 1 = false →
      ∃ t, exec (.queueFlush q) s = .next t ∧ settled s t) ∧
  (∀ (s : State), resetLow s = false → pdIsOn s 48 = true →
      ∃ t, exec (.pointerMismatch 0) s = .next t ∧ eventSet t .que 0 ∧ (∀ f ∈ t.ing.frames, isDead f = true) ∧
        (queOf t 0).rd = 0 ∧
        (queOf t 0).wr = 0 ∧ (queOf t 0).cmt = 0 ∧ (queOf t 0).mismatch = satAdd 16 (queOf s 0).mismatch 1 ∧ t.egr = s.egr ∧
          t.mci = s.mci) ∧
  (∀ (s : State), resetLow s = false → pdIsOn s 49 = true →
      ∃ t, exec (.pointerMismatch 1) s = .next t ∧ eventSet t .que 0 ∧ (∀ f ∈ t.egr.frames, isDead f = true) ∧
        (queOf t 1).rd = 0 ∧
        (queOf t 1).wr = 0 ∧ (queOf t 1).cmt = 0 ∧ (queOf t 1).mismatch = satAdd 16 (queOf s 1).mismatch 1 ∧ t.ing = s.ing ∧
          t.mci = s.mci) ∧
  (∀ (s : State), resetLow s = false → pdIsOn s 44 = true →
      ∃ t, exec (.pointerMismatch 2) s = .next t ∧ eventSet t .que 1 ∧ (∀ f ∈ t.egr.frames, inSump f = true →
        isDead f = true) ∧ (queOf t 2).rd = 0 ∧
        (queOf t 2).wr = 0 ∧ (queOf t 2).cmt = 0 ∧ (queOf t 2).mismatch = satAdd 16 (queOf s 2).mismatch 1 ∧ t.ing = s.ing ∧
          t.mci = s.mci) ∧
  (∀ (s : State), resetLow s = false → pdIsOn s 45 = true →
      ∃ t, exec (.pointerMismatch 3) s = .next t ∧ eventSet t .que 1 ∧ (∀ f ∈ t.ing.frames, inSump f = true →
        isDead f = true) ∧ (queOf t 3).rd = 0 ∧
        (queOf t 3).wr = 0 ∧ (queOf t 3).cmt = 0 ∧ (queOf t 3).mismatch = satAdd 16 (queOf s 3).mismatch 1 ∧ t.egr = s.egr ∧
          t.mci = s.mci) ∧
  (∀ (s : State), resetLow s = false → pdIsOn s 1 = true →
      ∃ t, exec (.pointerMismatch 7) s = .next t ∧ eventSet t .que 3 ∧ (queOf t 7).rd = 0 ∧ (queOf t 7).wr = 0 ∧
        (queOf t 7).mismatch = satAdd 16 (queOf s 7).mismatch 1 ∧ t.mci = s.mci ∧ (∀ j, j ≠ 7 → queOf t j = queOf s j) ∧
          sameBut [.que, .tel, .evt] s t) ∧
  (∀ (s : State) (q : Nat), resetLow s = false → isPacketQue q = true → pdIsOn s (queDomain q) = true →
      ∃ t, exec (.pointerMismatch q) s = .next t ∧ eventSet t .que (if q ≤ 5 then 2 else 4) ∧ (queOf t q).rd = 0 ∧
        (queOf t q).wr = 1 ∧
        (queOf t q).items = [spliceItem ((queOf s q).items.foldl (fun n it => n + (if it.splice then it.dropped else 1)) (if q = 4 then (tapOpen s).toList.length else 0)) 0 0 (now s)] ∧
        (queOf t q).mismatch = satAdd 16 (queOf s q).mismatch 1 ∧ (∀ j, j ≠ q → queOf t j = queOf s j) ∧ sameBut [.ing, .que,
          .tel, .evt] s t) ∧
  (∀ (s : State), resetLow s = false → pdIsOn s 1 = true → (s.mci.cmdq.map (·.id)).Nodup →
      ∃ t, exec (.pointerMismatch 6) s = .next t ∧ eventSet t .que 3 ∧
        t.mci.cmdq = s.mci.cmdq.filter (fun c => isSvc c.pkt.req) ∧ (queOf t 6).rd = 0 ∧ (queOf t 6).wr = t.mci.cmdq.length) ∧
  (∀ (s : State) (q : Nat), resetLow s = false → 24 ≤ q ∨ pdIsOn s (queDomain q) = false →
      ∃ t, exec (.pointerMismatch q) s = .next t ∧ settled s t)

/-- O41. A beat for a read that is not outstanding changes nothing; a beat's 64 bytes are added to its fill; a corrected
one is counted and raises its event. With its last beat a good read is done; one with uncorrectable data is made once
more, and the second time it is the fill's memory error. A read that times out holds its tag, is counted, raises its
event and is made once more; at the second time-out the fill fails and the frames that waited for its line are
discarded. Late data under a held tag is thrown away. A fault that is permanent takes the port out of service with its
cause and event, and every fill of a line fails. A confirmed write is over, and with no write waiting the others stay
outstanding; the late response of a write that timed out frees its tag. A write that fails or times out is counted,
raises its event and goes out again at once with the same bytes to the same address under the lowest free tag, where
no other request holds the address; the tag of one that timed out is not free. (Model's choices that it rests on: log
88, 89, 130, 158, 168.) -/
def Obligations.ContextPort : Prop :=
  (∀ (s : State) (tag : Nat) (data : List Byte) (b : Bool) (e : BitVec 2), resetLow s = false →
      s.cxm.reads.find? (fun x => x.tag == tag) = none →
      ∃ t, exec (.cxmReadBeat tag data b e) s = .next t ∧ settled s t) ∧
  (∀ (s : State) (tag : Nat) (data : List Byte) (r : CxmRead), resetLow s = false →
      s.cxm.reads.find? (fun x => x.tag == tag) = some r → r.held = true →
      ∃ t, exec (.cxmReadBeat tag data false 0) s = .next t ∧ settled s t) ∧
  (∀ (s : State) (tag : Nat) (data : List Byte) (r : CxmRead) (f : Fill), resetLow s = false →
      s.cxm.reads.find? (fun x => x.tag == tag) = some r → r.held = false → r.chk = none → r.leaf = false →
        f.lineDone = false → s.cxm.fills.any (·.forWrite) = false → s.cxm.fills.filter (fun x => x.line == r.line) = [f] →
      ∃ t, exec (.cxmReadBeat tag data false 0) s = .next t ∧
        fillOf t r.line = some { f with lineBytes := f.lineBytes ++ slice data 0 64 } ∧ t.cxm.reads = s.cxm.reads ∧
          sameBut [.cxm, .evt] s t) ∧
  (∀ (s : State) (tag : Nat) (data : List Byte) (r : CxmRead) (f : Fill), resetLow s = false →
      s.cxm.reads.find? (fun x => x.tag == tag) = some r → r.held = false → r.chk = none → r.leaf = true → f.leafDone = false →
        s.cxm.fills.any (·.forWrite) = false → s.cxm.fills.filter (fun x => x.line == r.line) = [f] →
      ∃ t, exec (.cxmReadBeat tag data false 1) s = .next t ∧
        fillOf t r.line = some { f with leafBytes := f.leafBytes ++ slice data 0 64 } ∧ counted 0x52 1 s t ∧ eventSet t .cxm 2) ∧
  (∀ (s : State) (tag : Nat) (data : List Byte) (r : CxmRead) (f : Fill), resetLow s = false →
      s.cxm.reads.find? (fun x => x.tag == tag) = some r → r.held = false → r.chk = none → r.bad = false → r.leaf = false →
        f.lineDone = false → s.cxm.fills.any (·.forWrite) = false → s.cxm.fills.filter (fun x => x.line == r.line) = [f] →
      ∃ t, exec (.cxmReadBeat tag data true 0) s = .next t ∧
        fillOf t r.line = some { f with lineBytes := f.lineBytes ++ slice data 0 64, lineDone := true }) ∧
  (∀ (s : State) (tag : Nat) (data : List Byte) (r : CxmRead) (f : Fill), resetLow s = false →
      s.cxm.reads.find? (fun x => x.tag == tag) = some r → r.held = false → r.chk = none → r.leaf = false →
        f.lineDone = false → f.lineRetry = false → s.cxm.fills.any (·.forWrite) = false →
          s.cxm.fills.filter (fun x => x.line == r.line) = [f] →
      ∃ t, exec (.cxmReadBeat tag data true 2) s = .next t ∧
        fillOf t r.line = some { f with lineBytes := [], lineRetry := true } ∧ t.cxm.errCnt = satAdd 16 s.cxm.errCnt 1) ∧
  (∀ (s : State) (tag : Nat) (data : List Byte) (r : CxmRead) (f : Fill), resetLow s = false →
      s.cxm.reads.find? (fun x => x.tag == tag) = some r → r.held = false → r.chk = none → r.leaf = false →
        f.lineDone = false → f.lineRetry = true → s.cxm.fills.any (·.forWrite) = false →
          s.cxm.fills.filter (fun x => x.line == r.line) = [f] →
      ∃ t, exec (.cxmReadBeat tag data true 2) s = .next t ∧ (fillOf t r.line).map (·.memErr) = some true ∧
        t.cxm.errCnt = satAdd 16 s.cxm.errCnt 1) ∧
  (∀ (s : State) (tag : Nat) (r : CxmRead) (f : Fill), resetLow s = false →
      s.cxm.reads.find? (fun x => x.tag == tag) = some r → r.held = false → r.chk = none → r.leaf = false →
        f.lineRetry = false → s.cxm.fills.any (·.forWrite) = false → s.cxm.fills.filter (fun x => x.line == r.line) = [f] →
          s.cxm.fills.any (·.timedOut) = false → isPermanent s.cxm.retryCfg (stampAdd s.cxm.stamps (now s)) = false →
      ∃ t, exec (.cxmReadTimeout tag) s = .next t ∧ fillOf t r.line = some { f with lineRetry := true, lineBytes := [] } ∧
        t.cxm.reads.contains { r with held := true } = true ∧
        t.cxm.tmoCnt = satAdd 16 s.cxm.tmoCnt 1 ∧ eventSet t .cxm 4 ∧ t.cxm.oos = s.cxm.oos ∧ sameBut [.cxm, .evt, .tel,
          .out] s t) ∧
  (∀ (s : State) (tag : Nat) (r : CxmRead) (f : Fill), resetLow s = false →
      s.cxm.reads.find? (fun x => x.tag == tag) = some r → r.held = false → r.chk = none → r.leaf = false →
        f.lineRetry = true → s.cxm.fills.any (·.forWrite) = false → s.cxm.fills.filter (fun x => x.line == r.line) = [f] →
          s.cxm.fills.any (·.timedOut) = false → isPermanent s.cxm.retryCfg (stampAdd s.cxm.stamps (now s)) = false →
      ∃ t, exec (.cxmReadTimeout tag) s = .next t ∧ (r.line < 4096 ∨ 5120 ≤ r.line → fillOf t r.line = none) ∧
        eventSet t .cxm 4 ∧ (∀ x ∈ t.egr.frames, x.fate ≠ .wait (some r.line)) ∧
        ∀ x ∈ t.ing.frames, x.fate ≠ .wait (some r.line)) ∧
  (∀ (s : State) (tag : Nat) (r : CxmRead), resetLow s = false → s.cxm.reads.find? (fun x => x.tag == tag) = some r →
      r.held = false → r.chk = none → s.cxm.oos = false → s.cxm.fills.any (·.fromWb) = false →
        isPermanent s.cxm.retryCfg (stampAdd s.cxm.stamps (now s)) = true →
      ∃ t, exec (.cxmReadTimeout tag) s = .next t ∧ t.cxm.oos = true ∧ t.glb.deg.getLsbD 4 = true ∧ eventSet t .cxm 6 ∧
        ∀ x ∈ t.cxm.fills, x.forWrite = true) ∧
  (∀ (s : State) (tag : Nat) (w : CxmWrite), resetLow s = false → writeUnder s tag = some w →
      s.cxm.writes.any (fun x => x.tag == 32) = false → s.cxm.wbq = [] →
      ∃ t, exec (.cxmWriteDone tag false) s = .next t ∧ t.cxm.writes = s.cxm.writes.filter (fun x => x.tag != tag) ∧
        sameBut [.cxm, .out, .evt, .tel] s t) ∧
  (∀ (s : State) (tag : Nat) (b : Bool), resetLow s = false → tag < 32 → writeUnder s tag = none →
      s.cxm.writes.any (fun x => x.tag == 32) = false → s.cxm.wbq = [] →
      ∃ t, exec (.cxmWriteDone tag b) s = .next t ∧ t.cxm.writes = s.cxm.writes.filter (fun x => x.tag != tag) ∧ sameBut [.cxm,
        .out, .evt, .tel] s t) ∧
  (∀ (s : State) (tag k : Nat) (w : CxmWrite), resetLow s = false → writeUnder s tag = some w →
      isPermanent s.cxm.retryCfg (stampAdd s.cxm.stamps (now s)) = false → s.cxm.writes.filter (fun x => x.tag == tag) = [w] →
        s.cxm.writes.countP (fun x => decide (x.tag < 32)) ≤ wrMax s →
          s.cxm.reads.any (fun x => x.offset == w.offset) = false →
            s.cxm.writes.filter (fun x => x.offset == w.offset && !x.held) = [w] →
              s.cxm.writes.any (fun x => x.tag == 32) = false →
                firstFrom (fun i => !(s.cxm.writes.map (·.tag)).contains i || i == tag) 0 32 = some k →
      ∃ t, exec (.cxmWriteDone tag true) s = .next t ∧ t.out = s.out ++ [.cxmWrite (cxmAddr s w.offset) w.data k] ∧
        eventSet t .cxm 5 ∧ sameBut [.cxm, .out, .evt, .tel] s t ∧
        t.cxm.writes = mapWhere (fun x => x == w) (fun x => { x with tag := k }) s.cxm.writes ∧
          t.cxm.errCnt = satAdd 16 s.cxm.errCnt 1) ∧
  (∀ (s : State) (tag k : Nat) (w : CxmWrite), resetLow s = false → writeUnder s tag = some w →
      isPermanent s.cxm.retryCfg (stampAdd s.cxm.stamps (now s)) = false →
        s.cxm.writes.countP (fun x => decide (x.tag < 32)) < wrMax s →
          s.cxm.reads.any (fun x => x.offset == w.offset) = false →
            s.cxm.writes.filter (fun x => x.offset == w.offset && !x.held) = [w] →
              s.cxm.writes.any (fun x => x.tag == 32) = false →
                firstFrom (fun i => !(s.cxm.writes.map (·.tag)).contains i) 0 32 = some k →
      ∃ t, exec (.cxmWriteTimeout tag) s = .next t ∧ t.out = s.out ++ [.cxmWrite (cxmAddr s w.offset) w.data k] ∧
        eventSet t .cxm 5 ∧ sameBut [.cxm, .out, .evt, .tel] s t ∧
        t.cxm.writes = mapWhere (fun x => x == w) (fun x => { x with tag := k }) s.cxm.writes ++ [{ w with data := [], line := none, held := true }] ∧
        t.cxm.tmoCnt = satAdd 16 s.cxm.tmoCnt 1)

/-- O42. FILL_COMPLETE of a line for which no frame waits, whose leaf is cached and whose two reads are done: the stored
line is checked against the tag under its counter; if the tag differs, the fill fails, the integrity event shows and
the line's group is quarantined; if it agrees, the decoded line is its SA's or SecY's and an SA's key is there or can
be unwrapped, the line is resident. A line that the write-back buffer holds is installed from it. With a memory error
the fill fails and the group is quarantined. Before its reads are done a fill stays. A line without a fill changes
nothing. (Model's choices that it rests on: log 88, 130, 159, 169.) -/
def Obligations.ContextFills : Prop :=
  (∀ (s : State) (n : Nat) (f : Fill) (lf : Leaf) (k : Nat), resetLow s = false →
      s.cxm.fills.filter (fun x => x.line == n && !x.forWrite) = [f] →
        (s.egr.frames ++ s.ing.frames).any (waitsFor n) = false → f.memErr = false → f.timedOut = false → f.fromWb = false →
          inWb s n = false → f.leafDone = true → f.lineDone = true → s.cxm.oos = false → isQuar s n = false →
            slotFor s n = some k → victimStuck s k = false → leafOf s (leafOfLine n) = some lf → s.cxm.sweepRead = false →
              s.cxm.failed.contains (groupOfLine n) = false → s.cxm.job = none → s.cxm.queue.contains (groupOfLine n) = false →
                s.cxm.queue.length < 32 →
      ∃ t, exec (.fillComplete n) s = .next t ∧ fillOf t n = none ∧
        (let e := smGet (0, 0) lf.ents (n % 8)
         let stored := slice f.lineBytes 0 128
         let plain := mixLine (mixKey s n) s.cxm.nonce (lineOffset n) e.1 stored
         let u := takeLine n plain s
         (lineTag s n e.1 stored ≠ e.2 → eventSet t .cxm 0 ∧ groupOfLine n ∈ t.cxm.quar ∧ counted 0x50 1 s t) ∧
         (lineTag s n e.1 stored = e.2 → lineHeld u n = true → lineCheck u n plain = true → keyComes u n = true →
           isResident t n = true))) ∧
  (∀ (s : State) (n : Nat) (f : Fill) (k : Nat), resetLow s = false →
      s.cxm.fills.filter (fun x => x.line == n && !x.forWrite) = [f] →
        (s.egr.frames ++ s.ing.frames).any (waitsFor n) = false → f.memErr = false → f.timedOut = false → f.fromWb = true →
          slotFor s n = some k → victimStuck s k = false → lineHeld s n = true → keyComes s n = true →
      ∃ t, exec (.fillComplete n) s = .next t ∧ isResident t n = true ∧ fillOf t n = none) ∧
  (∀ (s : State) (n : Nat) (f : Fill), resetLow s = false → s.cxm.fills.filter (fun x => x.line == n && !x.forWrite) = [f] →
      f.memErr = true → f.errLeaf = false → f.fromWb = false → inWb s n = false →
        s.cxm.failed.contains (groupOfLine n) = false → s.cxm.job = none → s.cxm.queue.contains (groupOfLine n) = false →
          s.cxm.queue.length < 32 →
      ∃ t, exec (.fillComplete n) s = .next t ∧ fillOf t n = none ∧ eventSet t .cxm 3 ∧ groupOfLine n ∈ t.cxm.quar ∧
        counted 0x51 1 s t) ∧
  (∀ (s : State) (n : Nat) (f : Fill), resetLow s = false → fillOf s n = some f → f.memErr = false → f.timedOut = false →
      f.fromWb = false → inWb s n = false → f.leafDone = false ∨ f.lineDone = false → s.cxm.oos = false → isQuar s n = false →
      ∃ t, exec (.fillComplete n) s = .next t ∧ settled s t) ∧
  (∀ (s : State) (n : Nat), resetLow s = false → fillOf s n = none →
      ∃ t, exec (.fillComplete n) s = .next t ∧ settled s t)

/-- O43. REPRIME_START takes the oldest quarantined group when none is being re-primed; with a live partner it asks it for
the group's receive SAs, without a partner it asks nobody. MIRROR_QUERY_TIMEOUT ends the asking. With nobody to ask, a
group all of whose lines have a source in the engine is written under a new counter. REPRIME_DONE, once those writes
are confirmed, lifts the group's quarantine, counts it, raises its event and completes the commands that waited for
it. REGION_BUILD_DONE, with no group left and no write of a build outstanding, ends the rebuild and completes its
commands. SWEEP_STEP writes a line that is resident or in the write-back buffer and goes on to the next, starts the
read of any other, skips a quarantined group, and after the last line makes the next key current, raises its event and
completes its command. (Model's choices that it rests on: log 27, 90, 91, 170.) -/
def Obligations.RebuildAndSweep : Prop :=
  (∀ (s : State) (g : Nat) (rest : List Nat), resetLow s = false → s.cxm.job = none → s.cxm.queue = g :: rest →
      s.glb.mode ≠ .doze → s.glb.mode ≠ .lockout → s.fab.pair.partner = none → (∀ n ∈ groupLines g, wholeSource s n = true ∨
        lineHeld s n = false) →
      ∃ t, exec .reprimeStart s = .next t ∧ t.cxm.queue = rest ∧
        t.cxm.job = some { group := g, asking := false, lows := [], written := true } ∧ s.cxm.topCtr < t.cxm.topCtr ∧
          sameBut [.cxm, .out, .evt, .tel, .cnt] s t) ∧
  (∀ (s : State) (g a : Nat) (rest : List Nat), resetLow s = false → s.cxm.job = none → s.cxm.queue = g :: rest →
      s.glb.mode ≠ .doze → s.glb.mode ≠ .lockout → s.fab.pair.partner = some a → s.fab.pair.formed = true →
        s.fab.pair.live = true → groupRx s g ≠ [] → canReach s a = true →
      ∃ t, exec .reprimeStart s = .next t ∧ sentOn (peerOf s a).nextPort a (.mirrorQuery (groupRx s g)) s t ∧
        t.cxm = { s.cxm with queue := rest, job := some { group := g, asking := true, lows := [], written := false } }) ∧
  (∀ (s : State), resetLow s = false → s.cxm.job.isSome = true ∨ s.cxm.queue = [] ∨ s.glb.mode = .doze ∨ s.glb.mode = .lockout →
      ∃ t, exec .reprimeStart s = .next t ∧ settled s t) ∧
  (∀ (s : State) (g : Nat) (lows : List MirRx), resetLow s = false →
      s.cxm.job = some { group := g, asking := true, lows := lows, written := false } → (∀ n ∈ groupLines g,
        wholeSource s n = true ∨ lineHeld s n = false) →
      ∃ t, exec .mirrorQueryTimeout s = .next t ∧
        t.cxm.job = some { group := g, asking := false, lows := lows, written := true } ∧ s.cxm.topCtr < t.cxm.topCtr ∧
          sameBut [.cxm, .out, .evt, .tel, .cnt] s t ∧ t.cxm.queue = s.cxm.queue) ∧
  (∀ (s : State), resetLow s = false → s.cxm.job.all (fun j => !j.asking) = true →
      ∃ t, exec .mirrorQueryTimeout s = .next t ∧ settled s t) ∧
  (∀ (s : State) (j : Reprime), resetLow s = false → s.cxm.job = some j → j.written = true → groupWriting j.group s = false →
      s.glb.mode ≠ .doze →
      ∃ t, exec .reprimeDone s = .next t ∧ j.group ∉ t.cxm.quar ∧ t.cxm.job = none ∧ counted 0x53 1 s t ∧ eventSet t .cxm 7 ∧
        ∀ r ∈ t.mci.running, r.wait ≠ .rebuild (some j.group)) ∧
  (∀ (s : State), resetLow s = false → s.cxm.job.all (fun j => !j.written || groupWriting j.group s) = true ∨ s.glb.mode = .doze →
      ∃ t, exec .reprimeDone s = .next t ∧ settled s t) ∧
  (∀ (s : State), resetLow s = false → s.cxm.rebuild = true → s.cxm.job = none → s.cxm.queue = [] → (s.glb.mode = .cold ∨
      s.glb.mode = .provision → cxmWriting s = false) →
      ∃ t, exec .regionBuildDone s = .next t ∧ t.cxm.rebuild = false ∧
        t.cxm.oos = (s.cxm.oos && !s.mci.running.any (fun r => r.wait == .rebuild none)) ∧
        ∀ r ∈ t.mci.running, r.wait ≠ .rebuild none) ∧
  (∀ (s : State), resetLow s = false → s.cxm.rebuild = false ∨ s.cxm.job.isSome = true ∨ s.cxm.queue ≠ [] ∨
      ((s.glb.mode = .cold ∨ s.glb.mode = .provision) ∧ cxmWriting s = true) →
      ∃ t, exec .regionBuildDone s = .next t ∧ settled s t) ∧
  (∀ (s : State), resetLow s = false → s.cxm.sweepOn = true → s.cxm.sweepRead = false → s.glb.mode ≠ .doze →
      s.cxm.sweepPtr < 73728 → isQuar s s.cxm.sweepPtr = false → s.cxm.oos = false → isResident s s.cxm.sweepPtr = true →
      ∃ t, exec .sweepStep s = .next t ∧ t.cxm.sweepPtr = s.cxm.sweepPtr + 1 ∧ t.cxm.sweepOn = true ∧ t.cxm.gen = s.cxm.gen ∧
        (cline t s.cxm.sweepPtr).map (·.dirty) = some false ∧ t.vlt = s.vlt ∧ t.tx = s.tx ∧ t.rx = s.rx ∧ t.secys = s.secys) ∧
  (∀ (s : State), resetLow s = false → s.cxm.sweepOn = true → s.cxm.sweepRead = false → s.glb.mode ≠ .doze →
      s.cxm.sweepPtr < 73728 → isQuar s s.cxm.sweepPtr = false → s.cxm.oos = false → isResident s s.cxm.sweepPtr = false →
        inWb s s.cxm.sweepPtr = true →
      ∃ t, exec .sweepStep s = .next t ∧ t.cxm.sweepPtr = s.cxm.sweepPtr + 1 ∧ t.cxm.sweepOn = true ∧ t.cxm.gen = s.cxm.gen ∧
        t.cis = s.cis ∧ t.vlt = s.vlt ∧ t.tx = s.tx ∧ t.rx = s.rx ∧ t.secys = s.secys) ∧
  (∀ (s : State), resetLow s = false → s.cxm.sweepOn = true → s.cxm.sweepRead = false → s.glb.mode ≠ .doze →
      s.cxm.sweepPtr < 73728 → isQuar s s.cxm.sweepPtr = false → s.cxm.oos = false → isResident s s.cxm.sweepPtr = false →
        inWb s s.cxm.sweepPtr = false →
      ∃ t, exec .sweepStep s = .next t ∧ t.cxm.sweepPtr = s.cxm.sweepPtr ∧ t.cxm.sweepRead = true ∧
        (fillOf t s.cxm.sweepPtr).isSome = true ∧ t.tx = s.tx ∧ t.rx = s.rx ∧ t.secys = s.secys) ∧
  (∀ (s : State), resetLow s = false → s.cxm.sweepOn = true → s.cxm.sweepRead = false → s.glb.mode ≠ .doze →
      s.cxm.sweepPtr < 73728 → isQuar s s.cxm.sweepPtr = true →
      ∃ t, exec .sweepStep s = .next t ∧ settled { s with cxm := { s.cxm with sweepPtr := 64 * (s.cxm.sweepPtr / 64 + 1) } } t) ∧
  (∀ (s : State), resetLow s = false → s.cxm.sweepOn = true → s.cxm.sweepRead = false → s.glb.mode ≠ .doze →
      73728 ≤ s.cxm.sweepPtr →
      ∃ t, exec .sweepStep s = .next t ∧ t.cxm.sweepOn = false ∧ t.cxm.gen = (s.cxm.gen + 1) % 2 ^ 32 ∧ eventSet t .cxm 11 ∧
        (vslot t mixKeySlot).shareA ^^^ (vslot t mixKeySlot).shareB = key256 (keyAt s mixNextSlot) ∧ ∀ r ∈ t.mci.running,
          r.wait ≠ .sweep) ∧
  (∀ (s : State), resetLow s = false → s.cxm.sweepOn = false ∨ s.cxm.sweepRead = true ∨ s.glb.mode = .doze →
      ∃ t, exec .sweepStep s = .next t ∧ settled s t)

/-- O44. For every record of a defined TYPE without reserved cell kinds, whose count, SEQ and payload fit their fields,
and for every key and slot: the 64 bytes written to the slot read back as a valid record of that slot with every field
as written. (The CMAC behind the tag is uninterpreted, log 1.) (Model's choices that it rests on: log 1.) -/
def Obligations.JournalRecordRoundTrip : Prop :=
  ∀ (key : List Byte) (slot : Nat) (r : JRec), recTypeOk r = true → r.wcnt < 2 ^ 32 → r.seq < 2 ^ 64 → r.payload.length = 40 →
    (recBytes key slot r).length = 64 ∧ readRec key slot (recBytes key slot r) = some r

/-- O45. A beat of a journal read of the resolution adds its eight bytes, the first in its low bits; the eighth gives the
slot the valid record that its 64 bytes hold, or none with an event where they are not blank. A read with an error or
a time-out is counted and leaves the slot without a record, with an event. A confirmed write that no work waits for
leaves its record in its slot, durable. A failed or late write is counted, raises its event, and the same record goes
out again with the next SEQ; where the fault is permanent the port is out of service with its event and the journal is
READ_ONLY, stated where no work waits. With no write outstanding a confirmation or a time-out changes nothing.
(Model's choices that it rests on: log 13, 95, 130, 156.) -/
def Obligations.JournalPort : Prop :=
  (∀ (s : State) (tag : Nat) (data : W64) (e : Bool), resetLow s = false → s.jnl.reads.find? (fun x => x.tag == tag) = none →
      ∃ t, exec (.jnlReadBeat tag data e) s = .next t ∧ settled s t) ∧
  (∀ (s : State) (tag : Nat) (data : W64) (r : JRead), resetLow s = false →
      s.jnl.reads.find? (fun x => x.tag == tag) = some r → r.bytes.length + 8 < 64 →
      ∃ t, exec (.jnlReadBeat tag data false) s = .next t ∧
        settled { s with jnl := { s.jnl with reads := replaceFirst (fun x => x.tag == tag) (fun _ => { r with bytes := r.bytes ++ leBytes 8 data.toNat }) s.jnl.reads } } t) ∧
  (∀ (s : State) (tag : Nat) (data : W64) (r : JRead), resetLow s = false →
      s.jnl.reads.find? (fun x => x.tag == tag) = some r → r.chk = none → r.bytes.length = 56 → r.err = false →
      ∃ t, exec (.jnlReadBeat tag data false) s = .next t ∧ (let bs := r.bytes ++ leBytes 8 data.toNat
          let v := readRec (keyAt s jnlKeySlot) r.slot bs
          jslot t r.slot = { JSlot.reset with wcnt := v.map (·.wcnt), record := v, blank := isBlank bs } ∧ (v = none →
            isBlank bs = false → eventSet t .jnl 7)) ∧
        t.jnl.readDone = s.jnl.readDone + 1 ∧ (∀ j, j ≠ r.slot → jslot t j = jslot s j)) ∧
  (∀ (s : State) (tag : Nat) (data : W64) (r : JRead), resetLow s = false →
      s.jnl.reads.find? (fun x => x.tag == tag) = some r → r.chk = none → r.bytes.length = 56 → r.err = false →
      ∃ t, exec (.jnlReadBeat tag data true) s = .next t ∧ jslot t r.slot = { JSlot.reset with blank := false } ∧
        t.jnl.readDone = s.jnl.readDone + 1 ∧ t.jnl.errCnt = satAdd 16 s.jnl.errCnt 1 ∧ eventSet t .jnl 7) ∧
  (∀ (s : State) (tag : Nat) (r : JRead), resetLow s = false → s.jnl.reads.find? (fun x => x.tag == tag) = some r → r.chk = none →
      ∃ t, exec (.jnlReadTimeout tag) s = .next t ∧ jslot t r.slot = { JSlot.reset with blank := false } ∧
        t.jnl.readDone = s.jnl.readDone + 1 ∧ t.jnl.tmoCnt = satAdd 16 s.jnl.tmoCnt 1 ∧ eventSet t .jnl 7) ∧
  (∀ (s : State) (tag : Nat), resetLow s = false → s.jnl.reads.find? (fun x => x.tag == tag) = none →
      ∃ t, exec (.jnlReadTimeout tag) s = .next t ∧ settled s t) ∧
  (∀ (s : State) (w : JWrite), resetLow s = false → s.jnl.wr = some w → w.works = [] → readOnly (recordKept w s) = false →
      ∃ t, exec (.jnlWriteDone false) s = .next t ∧
        jslot t w.slot = { wcnt := some w.record.wcnt, record := some w.record, retired := w.record.typ == 8, skip := none, blank := false } ∧
        (∀ j, j ≠ w.slot → jslot t j = jslot s j) ∧ t.secys = s.secys ∧ t.rx = s.rx ∧ t.vlt = s.vlt) ∧
  (∀ (s : State) (w : JWrite), resetLow s = false → s.jnl.wr = some w → w.record.typ ≠ 8 → readOnly s = false →
      2 < endurance s → s.jnl.slots.all (fun e => decide (e.2.wcnt.getD 0 + 2 < endurance s)) = true →
        isPermanent s.jnl.retryCfg (stampAdd s.jnl.wrStamps (now s)) = false →
      ∃ t, exec (.jnlWriteDone true) s = .next t ∧ (∃ x, t.jnl.wr = some x ∧ x.works = w.works ∧ x.record.typ = w.record.typ ∧
        x.record.obj = w.record.obj ∧ x.record.payload = slice w.record.payload 0 40 ∧
          x.record.seq = s.jnl.seq ∧ t.out = s.out ++ [.jnlWrite x.slot (recBytes (keyAt s jnlKeySlot) x.slot x.record)]) ∧
            t.jnl.seq = s.jnl.seq + 1 ∧
        t.jnl.errCnt = satAdd 16 s.jnl.errCnt 1 ∧ eventSet t .jnl 5 ∧ (jslot t w.slot).record = none ∧
          (jslot t w.slot).wcnt = some (slotWrites s w.slot + 1)) ∧
  (∀ (s : State) (w : JWrite), resetLow s = false → s.jnl.wr = some w → w.record.typ ≠ 8 → readOnly s = false →
      2 < endurance s → s.jnl.slots.all (fun e => decide (e.2.wcnt.getD 0 + 2 < endurance s)) = true →
        isPermanent s.jnl.retryCfg (stampAdd s.jnl.wrStamps (now s)) = false →
      ∃ t, exec .jnlWriteTimeout s = .next t ∧ (∃ x, t.jnl.wr = some x ∧ x.works = w.works ∧ x.record.typ = w.record.typ ∧
        x.record.obj = w.record.obj ∧ x.record.payload = slice w.record.payload 0 40 ∧
          x.record.seq = s.jnl.seq ∧ t.out = s.out ++ [.jnlWrite x.slot (recBytes (keyAt s jnlKeySlot) x.slot x.record)]) ∧
            t.jnl.seq = s.jnl.seq + 1 ∧
        t.jnl.tmoCnt = satAdd 16 s.jnl.tmoCnt 1 ∧ eventSet t .jnl 5 ∧ (jslot t w.slot).record = none ∧
          (jslot t w.slot).wcnt = some (slotWrites s w.slot + 1)) ∧
  (∀ (s : State) (w : JWrite), resetLow s = false → s.jnl.wr = some w →
      isPermanent s.jnl.retryCfg (stampAdd s.jnl.wrStamps (now s)) = true → w.works = [] → s.jnl.work = [] → s.jnl.asks = [] →
        quietLease s = true →
      ∃ t, exec .jnlWriteTimeout s = .next t ∧ t.jnl.portOos = true ∧ t.glb.deg.getLsbD 6 = true ∧ eventSet t .jnl 6 ∧
        eventSet t .jnl 5 ∧ readOnly t = true ∧ t.jnl.wr = none) ∧
  (∀ (s : State) (b : Bool), resetLow s = false → s.jnl.wr = none →
      ∃ t, exec (.jnlWriteDone b) s = .next t ∧ settled s t) ∧
  (∀ (s : State), resetLow s = false → s.jnl.wr = none →
      ∃ t, exec .jnlWriteTimeout s = .next t ∧ settled s t)

/-- O46. JOURNAL_RESOLUTION after all 4,096 slots have been read, with the DRBG on, in COLD: with no record the journal is
resolved with SEQ 1, without marks, floors or image, and start-up ends without resume: RESUME 0, BOOT_STAGE 6; with an
image a resume begins (RESUME 1, BOOT_STAGE 5), or after a LOCKOUT none does (RESUME 4, BOOT_STAGE 6). Outside COLD no
resume begins. Before all slots are read, in LOCKOUT or a second time, it changes nothing. RESUME_COMPLETE of a
running resume puts the image in place and builds the region, or fails: RESUME 3, BOOT_STAGE 6, the journal event and
the mode as it was, and no SYS_SET_MODE waits any more; an image whose digest fails takes that way. Once the region's
writes are confirmed it ends the resume with RESUME 2, BOOT_STAGE 6 in PROTECT or DEGRADED. (Model's choices that it
rests on: log 12, 15, 35, 62, 65, 147, 157.) -/
def Obligations.ResolutionAndResume : Prop :=
  (∀ (s : State), resetLow s = false → s.jnl.resolved = false → s.jnl.readDone = 4096 → s.glb.mode ≠ .lockout →
      s.glb.mode = .cold → drbgOn s = true → s.jnl.slots.all (fun e => e.2.record.isNone) = true →
      ∃ t, exec .journalResolution s = .next t ∧ t.jnl.resolved = true ∧ t.jnl.seq = 1 ∧ t.jnl.hw = [] ∧ t.jnl.pmark = [] ∧
        t.jnl.floors = [] ∧ t.jnl.image = none ∧ t.glb.resume = 0 ∧ t.glb.bootStage = 6 ∧ t.glb.mode = s.glb.mode) ∧
  (∀ (s : State), resetLow s = false → s.jnl.resolved = false → s.jnl.readDone = 4096 → s.glb.mode ≠ .lockout →
      s.glb.mode = .cold → drbgOn s = true → (resolveJournal s).jnl.image.isSome = true →
      ∃ t, exec .journalResolution s = .next t ∧ t.jnl.resolved = true ∧ t.glb.mode = .cold ∧
        (if s.aon.lastMode = 5 then t.glb.resume = 4 ∧ t.glb.bootStage = 6
          else t.glb.resume = 1 ∧ t.glb.bootStage = 5 ∧ t.glb.change = some { kind := .resume, cmd := none })) ∧
  (∀ (s : State), resetLow s = false → s.jnl.resolved = false → s.jnl.readDone = 4096 → s.glb.mode ≠ .lockout →
      s.glb.mode ≠ .cold → drbgOn s = true →
      ∃ t, exec .journalResolution s = .next t ∧ t.jnl.resolved = true ∧ t.glb.resume = s.glb.resume ∧ t.glb.bootStage = 6 ∧
        t.glb.change = s.glb.change) ∧
  (∀ (s : State), resetLow s = false → s.jnl.resolved = true ∨ s.jnl.readDone ≠ 4096 ∨ s.glb.mode = .lockout →
      ∃ t, exec .journalResolution s = .next t ∧ settled s t) ∧
  (∀ (s : State), resetLow s = false → s.glb.change.any (fun c => c.kind == .resume) = true → drbgFull s = false →
      imageSound s = false →
      ∃ t, exec .resumeComplete s = .next t ∧ (t.glb.change = none ∧ t.glb.bootStage = 6 ∧ t.glb.resume = 3 ∧
        t.glb.mode = s.glb.mode ∧ eventSet t .jnl 0 ∧ ∀ r ∈ t.mci.running, r.wait ≠ .mode)) ∧
  (∀ (s : State), resetLow s = false → s.glb.change.any (fun c => c.kind == .resume) = true → drbgFull s = false →
      ∃ t, exec .resumeComplete s = .next t ∧ (t.glb.change = none ∧ t.glb.bootStage = 6 ∧ t.glb.resume = 3 ∧
        t.glb.mode = s.glb.mode ∧ eventSet t .jnl 0 ∧ ∀ r ∈ t.mci.running, r.wait ≠ .mode) ∨
        (t.glb.change.any (fun c => c.kind == .built) = true ∧ t.glb.resume = s.glb.resume ∧ t.glb.mode = s.glb.mode ∧
          t.cxm.rebuild = true ∧ t.cxm.trusted = true)) ∧
  (∀ (s : State), resetLow s = false → s.glb.change.any (fun c => c.kind == .built) = true → cxmWriting s = false →
      ∃ t, exec .resumeComplete s = .next t ∧ t.glb.change = none ∧ t.glb.bootStage = 6 ∧ t.glb.resume = 2 ∧
        (t.glb.mode = .protect ∨ t.glb.mode = .degraded) ∧
        ∀ r ∈ t.mci.running, r.wait ≠ .mode) ∧
  (∀ (s : State), resetLow s = false → s.glb.change.all (fun c => c.kind != .resume && c.kind != .built) = true ∨
      (s.glb.change.any (fun c => c.kind == .resume) = true ∧ drbgFull s = true) ∨
        (s.glb.change.any (fun c => c.kind == .built) = true ∧ cxmWriting s = true) →
      ∃ t, exec .resumeComplete s = .next t ∧ settled s t)

/-- O47. A write to a free command slot of a host queue stores the word and is answered OKAY; one to a slot that is not
free is BLOCKED, without privilege on a privileged queue PRIV, past word 64 NOMAP, and changes nothing. Before
command-ready every access is BLOCKED, and one to no queue NOMAP. A doorbell on a free slot posts it and runs the
packet that the slot holds, exactly as the row of its command does; on another slot it only raises the doorbell event.
A release clears the replies of the DONE slots named, and raises the event for any other. A forwarded command is sent
again under the same tag, ends with TIMEOUT and its event at the time-out, or with the status and words of its REPLY.
A peer's command is refused with PRIV_DENIED where CMD_EN is 0, is left alone with its event while the peers' share of
the command queue is full, and SYS_NOP of a MEMBER is answered with OK. (Model's choices that it rests on: log 34, 68,
69, 118.) -/
def Obligations.CommandSlots : Prop :=
  (∀ (s : State) (q k slot : Nat) (data : W64) (priv : Bool), resetLow s = false → s.glb.testMode = false → pdIsOn s 1 = true →
      s.mci.ready = true → q < 4 → slot < 8 → (priv = true ∨ privOnly s q = false) → (hostSlot s q slot).st = .free → k ≤ 64 →
      ∃ t, exec (.commandSlotWrite q slot k data priv) s = .next t ∧
        settled (emit (.csr 0 0) (setHostSlot q slot { hostSlot s q slot with cmd := smSet 0 (hostSlot s q slot).cmd k data } s)) t) ∧
  (∀ (s : State) (q k slot : Nat) (data : W64) (priv : Bool), resetLow s = false → s.glb.testMode = false → pdIsOn s 1 = true →
      s.mci.ready = true → q < 4 → slot < 8 → (priv = true ∨ privOnly s q = false) → (hostSlot s q slot).st ≠ .free →
      ∃ t, exec (.commandSlotWrite q slot k data priv) s = .next t ∧ settled (emit (.csr 3 0) s) t) ∧
  (∀ (s : State) (q k slot : Nat) (data : W64) (priv : Bool), resetLow s = false → s.glb.testMode = false → pdIsOn s 1 = true →
      s.mci.ready = true → q < 4 → slot < 8 → priv = false → privOnly s q = true →
      ∃ t, exec (.commandSlotWrite q slot k data priv) s = .next t ∧ settled (emit (.csr 1 0) s) t) ∧
  (∀ (s : State) (q k slot : Nat) (data : W64) (priv : Bool), resetLow s = false → s.glb.testMode = false → pdIsOn s 1 = true →
      s.mci.ready = true → q < 4 → slot < 8 → (priv = true ∨ privOnly s q = false) → (hostSlot s q slot).st = .free → 64 < k →
      ∃ t, exec (.commandSlotWrite q slot k data priv) s = .next t ∧ settled (emit (.csr 2 0) s) t) ∧
  (∀ (s : State) (q slot : Nat) (priv : Bool) (i : Instr) (op : Nat) (p : Pkt), resetLow s = false → s.glb.testMode = false →
      pdIsOn s 1 = true → s.mci.ready = true → q < 4 → slot < 8 → (priv = true ∨ privOnly s q = false) →
        (hostSlot s q slot).st = .free → mciOf i = some (op, p) →
          slotPacket q slot priv (hostSlot s q slot) = (BitVec.ofNat 8 op, p) →
      ∃ t, exec (.doorbell q slot priv) s = .next t ∧
        exec i (setHostSlot q slot { hostSlot s q slot with st := .posted } (emit (.csr 0 0) s)) = .next t) ∧
  (∀ (s : State) (q slot : Nat) (priv : Bool), resetLow s = false → s.glb.testMode = false → pdIsOn s 1 = true →
      s.mci.ready = true → q < 4 → slot < 8 → (priv = true ∨ privOnly s q = false) → (hostSlot s q slot).st ≠ .free →
      ∃ t, exec (.doorbell q slot priv) s = .next t ∧ eventSet t .mci 4 ∧ t.mci = s.mci ∧ t.out = s.out ++ [.csr 0 0] ∧
        sameBut [.evt, .tel, .out] s t) ∧
  (∀ (s : State) (q : Nat) (mask : Byte) (priv : Bool), resetLow s = false → s.glb.testMode = false → pdIsOn s 1 = true →
      s.mci.ready = true → q < 4 → (priv = true ∨ privOnly s q = false) →
        (List.range 8).all (fun k => !mask.getLsbD k || (hostSlot s q k).st == .done) = true →
      ∃ t, exec (.replyRelease q mask priv) s = .next t ∧ (∀ k, k < 8 →
        hostSlot t q k = if mask.getLsbD k then { hostSlot s q k with st := .free, rep := [] } else hostSlot s q k) ∧
          sameBut [.mci, .evt, .out] s t) ∧
  (∀ (s : State) (q : Nat) (mask : Byte) (priv : Bool), resetLow s = false → s.glb.testMode = false → pdIsOn s 1 = true →
      s.mci.ready = true → q < 4 → (priv = true ∨ privOnly s q = false) →
        (List.range 8).any (fun k => mask.getLsbD k && (hostSlot s q k).st != .done) = true →
      ∃ t, exec (.replyRelease q mask priv) s = .next t ∧ eventSet t .mci 4) ∧
  (∀ (s : State) (q k slot : Nat) (data : W64) (priv : Bool) (mask : Byte), resetLow s = false → s.glb.testMode = false →
      pdIsOn s 1 = true → s.mci.ready = false ∨ 4 ≤ q →
      ∃ t, exec (.commandSlotWrite q slot k data priv) s = .next t ∧ (slot < 8 ∨ 4 ≤ q →
        settled (emit (.csr (if q < 4 then 3 else 2) 0) s) t) ∧
        (∃ u, exec (.replyRelease q mask priv) s = .next u ∧ settled (emit (.csr (if q < 4 then 3 else 2) 0) s) u) ∧
        (slot < 8 ∨ 4 ≤ q → ∃ u, exec (.doorbell q slot priv) s = .next u ∧
          settled (emit (.csr (if q < 4 then 3 else 2) 0) s) u)) ∧
  (∀ (s : State) (dst tag : Nat), resetLow s = false → forwarded s dst tag = none →
      ∃ t, exec (.fwdResend dst tag) s = .next t ∧ settled s t ∧ exec (.fwdTimeout dst tag) s = .next t) ∧
  (∀ (s : State) (dst tag : Nat) (q : QCmd), resetLow s = false → forwarded s dst tag = some q → canReach s dst = true →
      ∃ t, exec (.fwdResend dst tag) s = .next t ∧
        sentOn (peerOf s dst).nextPort dst (.cmd (cmdHeader q.opcode.toNat (bn (pktFence q.pkt)) q.pkt.words.length tag) q.pkt.words) s t ∧ t.mci = s.mci) ∧
  (∀ (s : State) (dst tag : Nat) (q : QCmd) (n : Nat), resetLow s = false → forwarded s dst tag = some q → q.pkt.req = .hq n →
      n < 4 →
      ∃ t, exec (.fwdTimeout dst tag) s = .next t ∧ (hostSlot t n q.pkt.slot).rep = [repHeader q 0x1F 0 0 0] ∧
        (hostSlot t n q.pkt.slot).st = .done ∧
        eventSet t .mci 7 ∧ eventSet t .mci n ∧ ∀ r ∈ t.mci.running, r.cmd.id ≠ q.id) ∧
  (∀ (s : State) (h : MsgHdr) (header : W64) (ws : List W64) (a n : Nat) (q : QCmd), resetLow s = false →
      heardFrom s h (.reply header ws) a → forwarded s a (fld header 24 16) = some q → q.pkt.req = .hq n → n < 4 →
        fld header 48 8 ≠ 0x02 →
      ∃ t, exec (.reply h header ws) s = .next t ∧
        (hostSlot t n q.pkt.slot).rep = repHeader q (fld header 48 8) ws.length 0 (fld header 0 8) :: ws ∧
          (hostSlot t n q.pkt.slot).st = .done ∧
        eventSet t .mci n ∧ ∀ r ∈ t.mci.running, r.cmd.id ≠ q.id) ∧
  (∀ (s : State) (h : MsgHdr) (header : W64) (ws : List W64) (a : Nat), resetLow s = false → heardFrom s h (.cmd header ws) a →
      canReach s a = true → cfgCmdEn s = false →
      ∃ t, exec (.cmd h header ws) s = .next t ∧ t.mci = s.mci ∧
        ∃ q : QCmd, q.pkt = peerPacket a header ws ∧ sentOn (peerOf s a).nextPort a (.reply (repHeader q 0x20 0 0 0) []) s t) ∧
  (∀ (s : State) (h : MsgHdr) (header : W64) (ws : List W64) (a : Nat), resetLow s = false → heardFrom s h (.cmd header ws) a →
      cfgCmdEn s = true → 16 ≤ fabWaiting s →
      ∃ t, exec (.cmd h header ws) s = .next t ∧ t.mci = s.mci ∧ eventSet t .mci 6 ∧ t.out = s.out) ∧
  (∀ (s : State) (h : MsgHdr) (header : W64) (tag a : Nat), resetLow s = false → heardFrom s h (.cmd header []) a →
      canReach s a = true → cfgCmdEn s = true → header = put 1 56 8 ||| put tag 24 16 → tag < 65536 → s.mci.running = [] →
        s.mci.cmdq = [] → s.mci.dups = [] → s.glb.mode = .protect → s.glb.change = none → s.glb.resume ≠ 1 →
          s.svc.stopped = false → s.cxm.quar = [] →
      ∃ t, exec (.cmd h header []) s = .next t ∧ sentOn (peerOf s a).nextPort a (.reply (repHeader ⟨s.mci.nextId, 0x01,
        peerPacket a header []⟩ 0 0 0 0) []) s t ∧ t.mci.running = [] ∧ t.mci.cmdq = [] ∧ t.glb = s.glb)

/-- O48. LEASE_REQ at the home, with nothing pending for the SA: a request already granted gets the same grant again; one
for an SA of which this engine is not the home NOT_HOME; from a later pair epoch its own refusal; with a READ_ONLY
journal READ_ONLY; for an SA whose mark was dropped FULL; at the end of the PN space EXHAUSTED; otherwise a lease of
one grain from the mark, cut at the end, is pending and no message leaves before its mark is durable. LEASE_GRANT that
answers the outstanding request gives a waiting SA its first lease and PN, with the threshold event where that PN
reaches it, a prefetching one its next lease, and EXHAUSTED ends the wait; one that nothing asked for, or from an
engine that was not asked, is dropped and counted. LEASE_RESEND sends the waiting SA's request again with the same
RID. LEASE_SYNC of a mark already held is acknowledged; a new one is journaled first, and with a READ_ONLY journal
nothing happens. LEASE_SYNC_ACK of the mark that a durable grant waits for raises the mark and gives the grant.
(Model's choices that it rests on: log 24, 25, 43, 63, 96, 97, 151, 154, 155.) -/
def Obligations.Leases : Prop :=
  (∀ (s : State) (h : MsgHdr) (m : LeaseReq) (a : Nat), resetLow s = false → heardFrom s h (.leaseReq m) a →
      keyNamed s m.home m.sa = none → canReach s m.req = true →
      ∃ t, exec (.leaseReq h m) s = .next t ∧
        sentOn (peerOf s m.req).nextPort m.req (.leaseGrant { home := m.home, sa := m.sa, req := m.req, rid := m.rid, status := 3, start := 0, stop := 0 }) s t ∧ t.jnl.pend = s.jnl.pend ∧ t.jnl.last = s.jnl.last ∧ t.tx = s.tx) ∧
  (∀ (s : State) (h : MsgHdr) (m : LeaseReq) (a k : Nat) (g : LastGrant), resetLow s = false → heardFrom s h (.leaseReq m) a →
      keyNamed s m.home m.sa = some k → quietLease s = true → s.jnl.pend.any (fun p => p.ask.sa == k) = false →
        bulkWaits s k = false → s.jnl.last.find? (fun g => g.req == some m.req && g.sa == k && g.rid == m.rid) = some g →
          m.sa < 4096 → k = m.sa → s.fab.addr = some m.home → canReach s m.req = true →
      ∃ t, exec (.leaseReq h m) s = .next t ∧
        sentOn (peerOf s m.req).nextPort m.req (.leaseGrant { home := m.home, sa := m.sa, req := m.req, rid := m.rid, status := 0, start := g.start, stop := g.stop % 2 ^ 64 }) s t ∧ t.jnl.pend = s.jnl.pend ∧ t.jnl.last = s.jnl.last ∧ t.tx = s.tx) ∧
  (∀ (s : State) (h : MsgHdr) (m : LeaseReq) (a k : Nat), resetLow s = false → heardFrom s h (.leaseReq m) a →
      keyNamed s m.home m.sa = some k → quietLease s = true → s.jnl.pend.any (fun p => p.ask.sa == k) = false →
        s.jnl.last.find? (fun g => g.req == some m.req && g.sa == k && g.rid == m.rid) = none → homeGrants s = true →
          pairWaits s k = false → bulkWaits s k = false → m.sa < 4096 → k = m.sa → s.fab.addr = some m.home →
            canReach s m.req = true → isHome s k = false →
      ∃ t, exec (.leaseReq h m) s = .next t ∧
        sentOn (peerOf s m.req).nextPort m.req (.leaseGrant { home := m.home, sa := m.sa, req := m.req, rid := m.rid, status := 3, start := 0, stop := 0 }) s t ∧ t.jnl.pend = s.jnl.pend ∧ t.jnl.last = s.jnl.last ∧ t.tx = s.tx) ∧
  (∀ (s : State) (h : MsgHdr) (m : LeaseReq) (a k : Nat), resetLow s = false → heardFrom s h (.leaseReq m) a →
      keyNamed s m.home m.sa = some k → quietLease s = true → s.jnl.pend.any (fun p => p.ask.sa == k) = false →
        s.jnl.last.find? (fun g => g.req == some m.req && g.sa == k && g.rid == m.rid) = none → homeGrants s = true →
          pairWaits s k = false → bulkWaits s k = false → m.sa < 4096 → k = m.sa → s.fab.addr = some m.home →
            canReach s m.req = true → isHome s k = true → epochAbove m.epoch s.fab.pair.epoch = true →
      ∃ t, exec (.leaseReq h m) s = .next t ∧
        sentOn (peerOf s m.req).nextPort m.req (.leaseGrant { home := m.home, sa := m.sa, req := m.req, rid := m.rid, status := 5, start := 0, stop := 0 }) s t ∧ t.jnl.pend = s.jnl.pend ∧ t.jnl.last = s.jnl.last ∧ t.tx = s.tx) ∧
  (∀ (s : State) (h : MsgHdr) (m : LeaseReq) (a k : Nat), resetLow s = false → heardFrom s h (.leaseReq m) a →
      keyNamed s m.home m.sa = some k → quietLease s = true → s.jnl.pend.any (fun p => p.ask.sa == k) = false →
        s.jnl.last.find? (fun g => g.req == some m.req && g.sa == k && g.rid == m.rid) = none → homeGrants s = true →
          pairWaits s k = false → bulkWaits s k = false → m.sa < 4096 → k = m.sa → s.fab.addr = some m.home →
            canReach s m.req = true → isHome s k = true → epochAbove m.epoch s.fab.pair.epoch = false → readOnly s = false →
              s.jnl.dropped.contains k = true →
      ∃ t, exec (.leaseReq h m) s = .next t ∧
        sentOn (peerOf s m.req).nextPort m.req (.leaseGrant { home := m.home, sa := m.sa, req := m.req, rid := m.rid, status := 4, start := 0, stop := 0 }) s t ∧ t.jnl.pend = s.jnl.pend ∧ t.jnl.last = s.jnl.last ∧ t.tx = s.tx) ∧
  (∀ (s : State) (h : MsgHdr) (m : LeaseReq) (a k : Nat), resetLow s = false → heardFrom s h (.leaseReq m) a →
      keyNamed s m.home m.sa = some k → quietLease s = true → s.jnl.pend.any (fun p => p.ask.sa == k) = false →
        s.jnl.last.find? (fun g => g.req == some m.req && g.sa == k && g.rid == m.rid) = none → homeGrants s = true →
          pairWaits s k = false → bulkWaits s k = false → m.sa < 4096 → k = m.sa → s.fab.addr = some m.home →
            canReach s m.req = true → isHome s k = true → epochAbove m.epoch s.fab.pair.epoch = false → readOnly s = true →
      ∃ t, exec (.leaseReq h m) s = .next t ∧
        sentOn (peerOf s m.req).nextPort m.req (.leaseGrant { home := m.home, sa := m.sa, req := m.req, rid := m.rid, status := 2, start := 0, stop := 0 }) s t ∧ t.jnl.pend = s.jnl.pend ∧ t.jnl.last = s.jnl.last ∧ t.tx = s.tx) ∧
  (∀ (s : State) (h : MsgHdr) (m : LeaseReq) (a k : Nat), resetLow s = false → heardFrom s h (.leaseReq m) a →
      keyNamed s m.home m.sa = some k → quietLease s = true → s.jnl.pend.any (fun p => p.ask.sa == k) = false →
        s.jnl.last.find? (fun g => g.req == some m.req && g.sa == k && g.rid == m.rid) = none → homeGrants s = true →
          pairWaits s k = false → bulkWaits s k = false → m.sa < 4096 → k = m.sa → s.fab.addr = some m.home →
            canReach s m.req = true → isHome s k = true → epochAbove m.epoch s.fab.pair.epoch = false → readOnly s = false →
              s.jnl.dropped.contains k = false → grantEnd s k ≤ markOf s k →
      ∃ t, exec (.leaseReq h m) s = .next t ∧
        sentOn (peerOf s m.req).nextPort m.req (.leaseGrant { home := m.home, sa := m.sa, req := m.req, rid := m.rid, status := 1, start := 0, stop := 0 }) s t ∧ t.jnl.pend = s.jnl.pend ∧ t.jnl.last = s.jnl.last ∧ t.tx = s.tx) ∧
  (∀ (s : State) (h : MsgHdr) (m : LeaseReq) (a k : Nat), resetLow s = false → heardFrom s h (.leaseReq m) a →
      keyNamed s m.home m.sa = some k → quietLease s = true → s.jnl.pend.any (fun p => p.ask.sa == k) = false →
        s.jnl.last.find? (fun g => g.req == some m.req && g.sa == k && g.rid == m.rid) = none → homeGrants s = true →
          pairWaits s k = false → bulkWaits s k = false → m.sa < 4096 → k = m.sa → s.fab.addr = some m.home →
            canReach s m.req = true → isHome s k = true → epochAbove m.epoch s.fab.pair.epoch = false → readOnly s = false →
              s.jnl.dropped.contains k = false → markOf s k < grantEnd s k →
      ∃ t, exec (.leaseReq h m) s = .next t ∧
        t.jnl.pend = s.jnl.pend ++ [⟨{ req := some m.req, sa := k, rid := m.rid, epoch := m.epoch }, markOf s k,
          Nat.min (markOf s k + 2 ^ keyGrain s k) (grantEnd s k), false, false⟩] ∧ noMessage s t = true ∧
            t.jnl.last = s.jnl.last ∧ t.tx = s.tx) ∧
  (∀ (s : State) (h : MsgHdr) (m : LeaseGrant) (a i : Nat) (x : Sa), resetLow s = false → heardFrom s h (.leaseGrant m) a →
      quietLease s = true → grantFor s m = some i → txOf s i = some x → leaseTo s i x = .there a m.home m.sa →
        s.fab.addr = some m.req → m.status = 0 → x.lease = .wait →
      ∃ t, exec (.leaseGrant h m) s = .next t ∧ (let thr := !x.thr && decide (pnThreshold s x.suite ≤ m.start)
         txOf t i = some { x with lease := .one, pn := m.start, cur := ⟨m.start, leaseStop m x⟩, thr := x.thr || thr } ∧
           (thr = true → eventSet t .jnl 1)) ∧
        (∀ j, j ≠ i → txOf t j = txOf s j) ∧ sameBut [.tx, .cis, .cxm, .que, .tel, .evt] s t) ∧
  (∀ (s : State) (h : MsgHdr) (m : LeaseGrant) (a i : Nat) (x : Sa), resetLow s = false → heardFrom s h (.leaseGrant m) a →
      quietLease s = true → grantFor s m = some i → txOf s i = some x → leaseTo s i x = .there a m.home m.sa →
        s.fab.addr = some m.req → m.status = 0 → x.lease = .fetch →
      ∃ t, exec (.leaseGrant h m) s = .next t ∧ txOf t i = some { x with lease := .two, nxt := ⟨m.start, leaseStop m x⟩ } ∧
        (∀ j, j ≠ i → txOf t j = txOf s j) ∧ sameBut [.tx, .cis, .cxm, .que, .tel, .evt] s t) ∧
  (∀ (s : State) (h : MsgHdr) (m : LeaseGrant) (a i : Nat) (x : Sa), resetLow s = false → heardFrom s h (.leaseGrant m) a →
      quietLease s = true → grantFor s m = some i → txOf s i = some x → leaseTo s i x = .there a m.home m.sa →
        s.fab.addr = some m.req → m.status = 1 → x.lease = .wait →
      ∃ t, exec (.leaseGrant h m) s = .next t ∧ txOf t i = some { x with lease := .none, exhausted := true } ∧ (∀ j, j ≠ i →
        txOf t j = txOf s j)) ∧
  (∀ (s : State) (h : MsgHdr) (m : LeaseGrant) (a : Nat), resetLow s = false → heardFrom s h (.leaseGrant m) a →
      grantFor s m = none →
      ∃ t, exec (.leaseGrant h m) s = .next t ∧ t.tx = s.tx ∧ countedOnly 0x60 1 s t ∧ sameBut [.cnt, .que, .tel, .evt] s t) ∧
  (∀ (s : State) (h : MsgHdr) (m : LeaseGrant) (a i : Nat) (x : Sa) (e : Nat), resetLow s = false →
      heardFrom s h (.leaseGrant m) a → grantFor s m = some i → txOf s i = some x → leaseTo s i x = .there e m.home m.sa → e ≠ a →
      ∃ t, exec (.leaseGrant h m) s = .next t ∧ t.tx = s.tx ∧ countedOnly 0x60 1 s t ∧ sameBut [.cnt, .que, .tel, .evt] s t) ∧
  (∀ (s : State) (i e home sa : Nat) (x : Sa), resetLow s = false → txOf s i = some x → x.lease = .wait ∨ x.lease = .fetch →
      smGet 0 s.jnl.rid i % 2 = 0 → leaseTo s i x = .there e home sa → pairHolds s i x = false → s.jnl.pend = [] →
        quietLease s = true → canReach s e = true →
      ∃ t, exec (.leaseResend i) s = .next t ∧ (let ep := if inPairSet s (saLink i) = true ∨ (x.shared = true ∧
        some x.home = s.fab.pair.partner) then
              (if epochAbove s.fab.pair.peerEpoch s.fab.pair.epoch = true then s.fab.pair.peerEpoch else s.fab.pair.epoch) else 0
         sentOn (peerOf s e).nextPort e (.leaseReq { home := home, sa := sa, req := s.fab.addr.getD 0, rid := smGet 0 s.jnl.rid i / 2, epoch := ep }) s t) ∧ t.tx = s.tx ∧ t.jnl = s.jnl) ∧
  (∀ (s : State) (h : MsgHdr) (m : LeaseSync) (a k : Nat), resetLow s = false → heardPartner s h (.leaseSync m) a →
      keyNamed s m.home m.sa = some k → 4096 ≤ k → toldMark m.mark ≤ smGet 0 s.jnl.pmark (k % 4096) → canReach s a = true →
      ∃ t, exec (.leaseSync h m) s = .next t ∧
        sentOn (peerOf s a).nextPort a (.leaseSyncAck { home := a, sa := k % 4096, epoch := s.fab.pair.epoch, mark := toldMark m.mark % 2 ^ 64 }) s t ∧ t.jnl = s.jnl) ∧
  (∀ (s : State) (h : MsgHdr) (m : LeaseSync) (a k : Nat), resetLow s = false → heardPartner s h (.leaseSync m) a →
      keyNamed s m.home m.sa = some k → smGet 0 s.jnl.pmark (k % 4096) < toldMark m.mark → readOnly s = false →
      ∃ t, exec (.leaseSync h m) s = .next t ∧ workPending t (fun d => d == .syncAck k (toldMark m.mark)) = true ∧
        noMessage s t = true) ∧
  (∀ (s : State) (h : MsgHdr) (m : LeaseSync) (a k : Nat), resetLow s = false → heardPartner s h (.leaseSync m) a →
      keyNamed s m.home m.sa = some k → smGet 0 s.jnl.pmark (k % 4096) < toldMark m.mark → readOnly s = true →
      ∃ t, exec (.leaseSync h m) s = .next t ∧ sameBut [.que, .tel, .evt] s t) ∧
  (∀ (s : State) (h : MsgHdr) (m : LeaseSync) (a k r : Nat) (p : PendGrant), resetLow s = false →
      heardPartner s h (.leaseSyncAck m) a → keyNamed s m.home m.sa = some k → k < 4096 →
        s.jnl.pend.find? (fun p => p.ask.sa == k && p.durable && p.stop % 2 ^ 64 == m.mark) = some p → p.ask.req = some r →
          s.jnl.asks.any (fun x => x.sa == k) = false → quietLease s = true → canReach s r = true →
      ∃ t, exec (.leaseSyncAck h m) s = .next t ∧
        sentOn (peerOf s r).nextPort r (.leaseGrant { home := s.fab.addr.getD 0, sa := k, req := r, rid := p.ask.rid, status := 0, start := p.start, stop := p.stop % 2 ^ 64 }) s t ∧
        markOf t k = Nat.max (markOf s k) p.stop ∧ (∀ x ∈ t.jnl.pend, x.ask.sa ≠ k) ∧ t.jnl.last.contains ⟨some r, k,
          p.ask.rid, p.start, p.stop⟩ = true)

/-- O49. CUT_TAKEN of an armed cut, or of a timed one whose instant has come, outside DOZE: the current AN is the cut's,
no cut is pending, the old SA's stop and the new SA's start are this instant, no command waits for the cut any more,
and the old SA of an MKA SecY without frames is gone; a cut not due changes nothing. ARM_TIMEOUT of an ON SecY whose
stand-in holds no lease ends the cut and the command with TIMEOUT, and the journal is untouched. CUT_SCHEDULE_DEADLINE
of a schedule that is not complete ends every cut of its links and the command, with TIMEOUT where an own COMMIT is
missing and ABORTED where only acknowledges are, raises its event and counts it; so does that of a service's offer,
which ends with its cut; one before its instant changes nothing. CUT_OFFER for an SA that nothing here sends on is
answered NOT_FOUND, from an engine other than the home PRIV_DENIED, at a stand-in or cut that is there WRONG_STATE, in
UNSYNC TIME_UNSYNC, with a READ_ONLY journal JNL_WORN, without an unwrap engine NO_RESOURCE; otherwise a key that does
not unwrap is AUTH_FAIL, one that is no ENC_ONLY traffic key ATTR_DENIED, and one that does leads to an INTENT under
way. The last CUT_ACK ends a service's offer, and completes a scheduled command whose cuts all stand; one with an
error ends the offer and the home's own cut. CUT_ABORT from the home ends the shared cut; from another engine it
changes nothing. (Model's choices that it rests on: log 26, 37, 38, 39, 40, 78, 112.) -/
def Obligations.Cuts : Prop :=
  (∀ (s : State) (l : Nat) (y : Secy), resetLow s = false → secyOf s l = some y → (y.cut = .armed ∨ (y.cut = .timed ∧
      y.cutTime ≤ now s)) → s.glb.mode ≠ .doze → y.cutAn ≠ y.curAn →
      ∃ t, exec (.cutTaken l) s = .next t ∧ (∃ y', secyOf t l = some y' ∧ y'.curAn = y.cutAn ∧ y'.cut = .none ∧
        y'.txp = y.txp) ∧ (∀ r ∈ t.mci.running, r.wait ≠ .cut l) ∧
        txOf t (4 * l + y.cutAn) = (txOf s (4 * l + y.cutAn)).map (fun a => { a with tStart := now s, tStop := 0 }) ∧
        (linkMka s l = false → txOf t (4 * l + y.curAn) = (txOf s (4 * l + y.curAn)).map (fun a => { a with tStop := now s })) ∧
        (linkMka s l = true → saBusy s .egr (4 * l + y.curAn) = false → txOf t (4 * l + y.curAn) = none)) ∧
  (∀ (s : State) (l : Nat) (y : Secy), resetLow s = false → secyOf s l = some y → y.cut = .none ∨ y.cut = .arming ∨
      (y.cut = .timed ∧ now s < y.cutTime) ∨ s.glb.mode = .doze →
      ∃ t, exec (.cutTaken l) s = .next t ∧ settled s t) ∧
  (∀ (s : State) (l : Nat) (y : Secy) (q : QCmd) (n : Nat), resetLow s = false → secyOf s l = some y → y.cut = .arming →
      y.st = .on → leaseHeld s (4 * l + y.cutAn) = false → commitPending s l = false → s.mci.running = [⟨q, .cut l⟩] →
        q.pkt.req = .hq n → n < 4 →
      ∃ t, exec (.armTimeout l) s = .next t ∧ secyOf t l = some y.noCut ∧
        (hostSlot t n q.pkt.slot).rep = [repHeader q 0x1F 0 0 0] ∧ t.mci.running = [] ∧ t.jnl = s.jnl ∧ t.tx = s.tx) ∧
  (∀ (s : State) (links : List Nat) (q : QCmd) (n : Nat), resetLow s = false → s.mci.running = [⟨q, .timed links⟩] →
      (q.w 1).toNat ≤ now s + 1000000 → q.pkt.req = .hq n → n < 4 → (∃ l ∈ links, ∀ y, secyOf s l = some y → y.cut ≠ .timed) →
      ∃ t, exec (.cutScheduleDeadline links) s = .next t ∧ (∀ l ∈ links, ∀ y, secyOf t l = some y → y.cut = .none) ∧
        (hostSlot t n q.pkt.slot).rep = [repHeader q 0x1F 0 0 0] ∧ t.mci.running = [] ∧
          t.ecfg.abandoned = satAdd 16 s.ecfg.abandoned 1 ∧ eventSet t .egr 5 ∧ (∀ o ∈ t.fab.offers, o.cmd ≠ some q.id)) ∧
  (∀ (s : State) (links : List Nat) (q : QCmd) (n : Nat), resetLow s = false → s.mci.running = [⟨q, .timed links⟩] →
      (q.w 1).toNat ≤ now s + 1000000 → q.pkt.req = .hq n → n < 4 → ∀ l ∈ links, ∃ y, secyOf s l = some y ∧ y.cut = .timed →
      ∃ t, exec (.cutScheduleDeadline links) s = .next t ∧ (∀ l ∈ links, ∀ y, secyOf t l = some y → y.cut = .none) ∧
        (hostSlot t n q.pkt.slot).rep = [repHeader q 0x21 0 0 0] ∧ t.mci.running = [] ∧
          t.ecfg.abandoned = satAdd 16 s.ecfg.abandoned 1 ∧ eventSet t .egr 5 ∧ (∀ o ∈ t.fab.offers, o.cmd ≠ some q.id)) ∧
  (∀ (s : State) (links : List Nat) (q : QCmd), resetLow s = false → s.mci.running = [⟨q, .timed links⟩] →
      now s + 1000000 < (q.w 1).toNat →
      ∃ t, exec (.cutScheduleDeadline links) s = .next t ∧ settled s t) ∧
  (∀ (s : State) (links : List Nat) (o : Offer) (y : Secy), resetLow s = false → s.mci.running = [] →
      s.fab.offers.find? (fun o => o.cmd.isNone && o.links == links && decide (o.t ≤ now s + 1000000)) = some o →
        secyOf s o.link = some y →
      ∃ t, exec (.cutScheduleDeadline links) s = .next t ∧ t.fab.offers = s.fab.offers.filter (· != o) ∧
        (secyOf t o.link).map (·.cut) = some .none ∧ t.ecfg.abandoned = satAdd 16 s.ecfg.abandoned 1 ∧ eventSet t .egr 5) ∧
  (∀ (s : State) (h : MsgHdr) (m : CutMsg) (a : Nat), resetLow s = false → heardFrom s h (.cutOffer m) a →
      offerLink s m = none → canReach s m.home = true →
      ∃ t, exec (.cutOffer h m) s = .next t ∧ sentOn (peerOf s m.home).nextPort m.home (.cutAck ⟨m.home, m.sa, m.an, m.t, [],
        0x14⟩) s t ∧ t.jnl = s.jnl ∧ t.secys = s.secys) ∧
  (∀ (s : State) (h : MsgHdr) (m : CutMsg) (a : Nat) (l k : Nat) (y : Secy), resetLow s = false →
      heardFrom s h (.cutOffer m) a → offerLink s m = some l → secyOf s l = some y → pairKeySlot s m.home = some k →
        canReach s m.home = true → a ≠ m.home →
      ∃ t, exec (.cutOffer h m) s = .next t ∧ sentOn (peerOf s m.home).nextPort m.home (.cutAck ⟨m.home, m.sa, m.an, m.t, [],
        0x20⟩) s t ∧ t.jnl = s.jnl ∧ t.secys = s.secys) ∧
  (∀ (s : State) (h : MsgHdr) (m : CutMsg) (a : Nat) (l k : Nat) (y : Secy), resetLow s = false →
      heardFrom s h (.cutOffer m) a → offerLink s m = some l → secyOf s l = some y → pairKeySlot s m.home = some k →
        canReach s m.home = true → a = m.home → (txOf s (4 * l + m.an)).isSome = true ∨ y.curAn = m.an ∨ y.cut ≠ .none →
      ∃ t, exec (.cutOffer h m) s = .next t ∧ sentOn (peerOf s m.home).nextPort m.home (.cutAck ⟨m.home, m.sa, m.an, m.t, [],
        0x15⟩) s t ∧ t.jnl = s.jnl ∧ t.secys = s.secys) ∧
  (∀ (s : State) (h : MsgHdr) (m : CutMsg) (a : Nat) (l k : Nat) (y : Secy), resetLow s = false →
      heardFrom s h (.cutOffer m) a → offerLink s m = some l → secyOf s l = some y → pairKeySlot s m.home = some k →
        canReach s m.home = true → a = m.home → txOf s (4 * l + m.an) = none → y.curAn ≠ m.an → y.cut = .none →
          s.fab.unsync = true →
      ∃ t, exec (.cutOffer h m) s = .next t ∧ sentOn (peerOf s m.home).nextPort m.home (.cutAck ⟨m.home, m.sa, m.an, m.t, [],
        0x1C⟩) s t ∧ t.jnl = s.jnl ∧ t.secys = s.secys) ∧
  (∀ (s : State) (h : MsgHdr) (m : CutMsg) (a : Nat) (l k : Nat) (y : Secy), resetLow s = false →
      heardFrom s h (.cutOffer m) a → offerLink s m = some l → secyOf s l = some y → pairKeySlot s m.home = some k →
        canReach s m.home = true → a = m.home → txOf s (4 * l + m.an) = none → y.curAn ≠ m.an → y.cut = .none →
          s.fab.unsync = false → readOnly s = true →
      ∃ t, exec (.cutOffer h m) s = .next t ∧ sentOn (peerOf s m.home).nextPort m.home (.cutAck ⟨m.home, m.sa, m.an, m.t, [],
        0x1D⟩) s t ∧ t.jnl = s.jnl ∧ t.secys = s.secys) ∧
  (∀ (s : State) (h : MsgHdr) (m : CutMsg) (a : Nat) (l k : Nat) (y : Secy), resetLow s = false →
      heardFrom s h (.cutOffer m) a → offerLink s m = some l → secyOf s l = some y → pairKeySlot s m.home = some k →
        canReach s m.home = true → a = m.home → txOf s (4 * l + m.an) = none → y.curAn ≠ m.an → y.cut = .none →
          s.fab.unsync = false → readOnly s = false → unwInSvc s = 0 →
      ∃ t, exec (.cutOffer h m) s = .next t ∧ sentOn (peerOf s m.home).nextPort m.home (.cutAck ⟨m.home, m.sa, m.an, m.t, [],
        0x13⟩) s t ∧ t.jnl = s.jnl ∧ t.secys = s.secys) ∧
  (∀ (s : State) (h : MsgHdr) (m : CutMsg) (a : Nat) (l k : Nat) (y : Secy), resetLow s = false →
      heardFrom s h (.cutOffer m) a → offerLink s m = some l → secyOf s l = some y → pairKeySlot s m.home = some k →
        canReach s m.home = true → a = m.home → txOf s (4 * l + m.an) = none → y.curAn ≠ m.an → y.cut = .none →
          s.fab.unsync = false → readOnly s = false → unwInSvc s ≠ 0 → usedSlots s isTraffic < 8192 →
      ∃ t, exec (.cutOffer h m) s = .next t ∧ ((Config.unwrap (keyAt s k) m.key).bind parseHost = none →
        sentOn (peerOf s m.home).nextPort m.home (.cutAck ⟨m.home, m.sa, m.an, m.t, [], 0x18⟩) s t ∧ t.jnl = s.jnl ∧
          t.secys = s.secys) ∧
        (∀ k256 attr role exp key, (Config.unwrap (keyAt s k) m.key).bind parseHost = some (k256, attr, role, exp, key) →
          attr ≠ 0 ∨ role ≠ 0 → sentOn (peerOf s m.home).nextPort m.home (.cutAck ⟨m.home, m.sa, m.an, m.t, [], 0x17⟩) s t ∧
            t.jnl = s.jnl ∧ t.secys = s.secys) ∧
        (∀ k256 exp key, (Config.unwrap (keyAt s k) m.key).bind parseHost = some (k256, 0, 0, exp, key) →
          workPending t (fun d => match d with
            | .intent i _ none (some (home, at_)) => i == 4 * l + m.an && home == m.home && at_ == m.t | _ => false) = true ∧
              noMessage s t = true)) ∧
  (∀ (s : State) (h : MsgHdr) (m : CutMsg) (a : Nat) (o : Offer), resetLow s = false → heardFrom s h (.cutAck m) a →
      m.status = 0 → s.fab.offers.find? (fun o => o.sa == m.sa && o.an == m.an && o.waiting.contains a) = some o →
        o.cmd = none → ∀ x ∈ o.waiting, x = a ∨ x ∈ o.acked → s.mci.running = [] →
      ∃ t, exec (.cutAck h m) s = .next t ∧ t.fab.offers = s.fab.offers.filter (· != o) ∧ t.secys = s.secys ∧
        noMessage s t = true) ∧
  (∀ (s : State) (h : MsgHdr) (m : CutMsg) (a : Nat) (o : Offer) (q : QCmd) (n : Nat) (ls : List Nat), resetLow s = false →
      heardFrom s h (.cutAck m) a → m.status = 0 → s.fab.offers = [o] → o.sa = m.sa → o.an = m.an → a ∈ o.waiting →
        o.cmd = some q.id → s.mci.running = [⟨q, .timed ls⟩] → ∀ x ∈ o.waiting, x = a ∨ x ∈ o.acked → ∀ l ∈ ls, ∃ y,
          secyOf s l = some y ∧ y.cut = .timed → q.pkt.req = .hq n → n < 4 →
      ∃ t, exec (.cutAck h m) s = .next t ∧ t.fab.offers = [] ∧ t.secys = s.secys ∧
        (hostSlot t n q.pkt.slot).rep = [repHeader q 0 0 0 0] ∧ t.mci.running = []) ∧
  (∀ (s : State) (h : MsgHdr) (m : CutMsg) (a : Nat) (o : Offer) (y : Secy), resetLow s = false → heardFrom s h (.cutAck m) a →
      m.status ≠ 0 → s.fab.offers.find? (fun o => o.sa == m.sa && o.an == m.an && o.waiting.contains a) = some o →
        o.cmd = none → s.mci.running = [] → secyOf s o.link = some y →
      ∃ t, exec (.cutAck h m) s = .next t ∧ t.fab.offers = s.fab.offers.filter (· != o) ∧
        (secyOf t o.link).map (·.cut) = some .none) ∧
  (∀ (s : State) (h : MsgHdr) (m : CutMsg) (a : Nat) (l : Nat) (y : Secy), resetLow s = false → heardFrom s h (.cutAbort m) a →
      a = m.home → offerLink s m = some l → secyOf s l = some y → y.cutShared = true → y.cutAn = m.an →
      ∃ t, exec (.cutAbort h m) s = .next t ∧ (secyOf t l).map (·.cut) = some .none ∧ (secyOf t l).map (·.curAn) = some y.curAn) ∧
  (∀ (s : State) (h : MsgHdr) (m : CutMsg) (a : Nat), resetLow s = false → heardFrom s h (.cutAbort m) a → a ≠ m.home →
      ∃ t, exec (.cutAbort h m) s = .next t ∧ sameBut [.que, .tel, .evt] s t)

/-- O50. Outside service MKPDU_RECEIVED changes nothing; with no item waiting it only drains markers. An MKPDU whose ICV
fails raises its event; one of an unknown CAK, or of a version that is none of 1 to 3, is dropped; each takes its
item. A participant's first MKPDU from a peer records the peer; where the peer lists this engine it is live and by
priority and SCI elected key server. MKA_HELLO_TIMER queues one MKPDU of the link, under the next message number.
MKA_LIFE_TIME of the last live peer, or of a CA without one, ends the agreement of the CA: its event is raised, no
peer, SAK or key server is left, and the link's transmit SAs retire. REKEY_INTERVAL at the key server: a new SAK with
the next key number under the next AN is distributed, and the transmit SA's INTENT is under way; elsewhere nothing
happens. OVERLAP_END removes an old receive SA without frames and disables one with them; the SA of the SAK in use
stays. FIRST_PARTICIPANT_END after a CAK change leaves the second participant as the only one, and its keys alone in
the pool. (Model's choices that it rests on: log 18, 20, 47, 48, 49, 138, 164, 165.) -/
def Obligations.KeyAgreement : Prop :=
  (∀ (s : State) (m : Mkpdu), resetLow s = false → svcRuns s = false →
      ∃ t, exec (.mkpduReceived m) s = .next t ∧ settled s t) ∧
  (∀ (s : State) (m : Mkpdu) (v : Que), resetLow s = false → svcRuns s = true → queTake (queOf s 4) = (none, v) →
      ∃ t, exec (.mkpduReceived m) s = .next t ∧ queOf t 4 = v ∧ sameBut [.que, .evt] s t) ∧
  (∀ (s : State) (m : Mkpdu) (it : QItem) (v : Que), resetLow s = false → svcRuns s = true → queTake (queOf s 4) = (some it,
      v) → m.bad = true →
      ∃ t, exec (.mkpduReceived m) s = .next t ∧ queOf t 4 = v ∧ eventSet t .svc 3 ∧ sameBut [.que, .evt, .tel] s t) ∧
  (∀ (s : State) (m : Mkpdu) (it : QItem) (v : Que), resetLow s = false → svcRuns s = true → queTake (queOf s 4) = (some it,
      v) → m.bad = false → ∀ p ∈ caParts (caOf s it.link), p.ckn ≠ m.ckn →
      ∃ t, exec (.mkpduReceived m) s = .next t ∧ queOf t 4 = v ∧ sameBut [.que, .evt] s t) ∧
  (∀ (s : State) (m : Mkpdu) (it : QItem) (v : Que), resetLow s = false → svcRuns s = true → queTake (queOf s 4) = (some it,
      v) → m.bad = false → m.version = 0 ∨ 3 < m.version →
      ∃ t, exec (.mkpduReceived m) s = .next t ∧ queOf t 4 = v ∧ sameBut [.que, .evt] s t) ∧
  (∀ (s : State) (m : Mkpdu) (it : QItem) (v : Que) (p : MkPart), resetLow s = false → svcRuns s = true →
      queTake (queOf s 4) = (some it, v) → m.bad = false → 1 ≤ m.version → m.version ≤ 3 → (caOf s it.link).enabled = true →
        (caOf s it.link).first = some p → p.ckn = m.ckn → (caOf s it.link).second = none → p.peers = [] → m.dist = none →
          p.rxKid = none → p.phase = .none → m.listsUs = false → peersInUse s < 4096 →
      ∃ t, exec (.mkpduReceived m) s = .next t ∧
        caOf t it.link = { caOf s it.link with first := some { p with peers := [peerFrom m none], ks := none } } ∧
          t.sct = s.sct ∧ queOf t 4 = v) ∧
  (∀ (s : State) (m : Mkpdu) (it : QItem) (v : Que) (p : MkPart), resetLow s = false → svcRuns s = true →
      queTake (queOf s 4) = (some it, v) → m.bad = false → 1 ≤ m.version → m.version ≤ 3 → (caOf s it.link).enabled = true →
        (caOf s it.link).first = some p → p.ckn = m.ckn → (caOf s it.link).second = none → p.peers = [] → m.dist = none →
          p.rxKid = none → p.phase = .none → m.listsUs = true → peersInUse s < 4096 → m.prio ≠ 255 → ksBefore (m.prio,
            m.sci) ((caOf s it.link).prio, ownSci s it.link) = true → m.sci ≠ ownSci s it.link →
      ∃ t, exec (.mkpduReceived m) s = .next t ∧ ∃ sc,
        caOf t it.link = { caOf s it.link with first := some { p with peers := [peerFrom m sc], ks := some m.sci } } ∧
          queOf t 4 = v) ∧
  (∀ (s : State) (l : Nat) (p : MkPart) (y : Secy) (body : List Byte), resetLow s = false → (caOf s l).enabled = true →
      (caOf s l).first = some p → svcRuns s = true → p.phase = .none → p.want = false → (caOf s l).second = none →
        secyOf s l = some y → bitAt s.glb.prt (txpPport y.txp) = true → s.glb.mode ≠ .doze →
          (mkaPdu l { p with mn := (p.mn + 1) % 2 ^ 32 } s).1 = some body → queFits 5 (queOf s 5) (itemUnits body) = true →
      ∃ t, exec (.mkaHelloTimer l) s = .next t ∧
        (queOf t 5).items = (queOf s 5).items ++ [bodyItem (itemUnits body) (txpPport y.txp) l (now s) body] ∧
        caOf t l = { caOf s l with first := some { p with mn := (p.mn + 1) % 2 ^ 32 } } ∧ t.tx = s.tx ∧ t.rx = s.rx ∧
          t.secys = s.secys ∧ t.jnl = s.jnl) ∧
  (∀ (s : State) (l : Nat) (p : MkPart) (x : MkPeer), resetLow s = false → (caOf s l).enabled = true →
      (caOf s l).first = some p → svcRuns s = true → (caOf s l).second = none → p.peers = [x] → x.live = true →
      ∃ t, exec (.mkaLifeTime l (some x.sci)) s = .next t ∧
        caOf t l = { caOf s l with first := some { p with peers := [], ks := none, phase := .none, txKid := none, rxKid := none, want := false }, bounded := false, oldAn := none } ∧ eventSet t .svc 2 ∧
        (∀ i, i / 4 = l → ∀ a, txOf t i = some a → a.retiring = true)) ∧
  (∀ (s : State) (l : Nat) (p : MkPart), resetLow s = false → (caOf s l).enabled = true → (caOf s l).first = some p →
      svcRuns s = true → (caOf s l).second = none → p.peers = [] →
      ∃ t, exec (.mkaLifeTime l none) s = .next t ∧
        caOf t l = { caOf s l with first := some { p with peers := [], ks := none, phase := .none, txKid := none, rxKid := none, want := false }, bounded := false, oldAn := none } ∧
        eventSet t .svc 2 ∧
        (∀ i, i / 4 = l → ∀ a, txOf t i = some a → a.retiring = true)) ∧
  (∀ (s : State) (l : Nat) (p : MkPart) (y : Secy), resetLow s = false → (caOf s l).enabled = true →
      (caOf s l).first = some p → svcRuns s = true → linkKs s l = true → (caOf s l).ending = false → (caOf s l).rekeyS ≠ 0 →
        secyOf s l = some y → drbgOn s = true → drbgFull s = false → unwInSvc s ≠ 0 → s.glb.deg.getLsbD 7 = false →
          anBusy s l ((p.an + 1) % 4) = false → readOnly s = false → usedSlots s isTraffic ≤ 8190 →
      ∃ t, exec (.rekeyInterval l) s = .next t ∧ (∃ p', (caOf t l).first = some p' ∧ p'.phase = .distributing ∧
        p'.kn = p.kn + 1 ∧ p'.an = (p.an + 1) % 4 ∧ p'.peers = p.peers ∧ p'.ks = p.ks ∧ p'.txKid.isSome = true ∧
          p'.rxKid.isSome = true) ∧
        workPending t (fun d => match d with | .intent i _ none none => i == 4 * l + (p.an + 1) % 4 | _ => false) = true ∧
          t.svc.sakGen = (s.svc.sakGen + 1) % 65536) ∧
  (∀ (s : State) (l : Nat), resetLow s = false → linkKs s l = false ∨ svcRuns s = false ∨ (caOf s l).rekeyS = 0 →
      ∃ t, exec (.rekeyInterval l) s = .next t ∧ settled s t) ∧
  (∀ (s : State) (l sc an : Nat) (c : Sc), resetLow s = false → scOf s sc = some c → c.link = l → ∀ p ∈ caParts (caOf s l),
      p.an ≠ an ∨ p.phase = .none → linkMka s l = true → svcRuns s = true → (rxOf s (4 * sc + an)).isSome = true →
        saBusy s .ing (4 * sc + an) = false →
      ∃ t, exec (.overlapEnd l sc an) s = .next t ∧ rxOf t (4 * sc + an) = none ∧ (∀ j, j ≠ 4 * sc + an → rxOf t j = rxOf s j)) ∧
  (∀ (s : State) (l sc an : Nat) (c : Sc) (a : Sa), resetLow s = false → scOf s sc = some c → c.link = l →
      ∀ p ∈ caParts (caOf s l), p.an ≠ an ∨ p.phase = .none → linkMka s l = true → svcRuns s = true →
        rxOf s (4 * sc + an) = some a → saBusy s .ing (4 * sc + an) = true →
      ∃ t, exec (.overlapEnd l sc an) s = .next t ∧ rxOf t (4 * sc + an) = some { a with retiring := true, enabled := false } ∧
        (∀ j, j ≠ 4 * sc + an → rxOf t j = rxOf s j)) ∧
  (∀ (s : State) (l sc an : Nat) (p : MkPart), resetLow s = false → p ∈ caParts (caOf s l) → p.an = an → p.phase ≠ .none →
      ∃ t, exec (.overlapEnd l sc an) s = .next t ∧ settled s t) ∧
  (∀ (s : State) (l : Nat), resetLow s = false → (caOf s l).ending = true →
      ∃ t, exec (.firstParticipantEnd l) s = .next t ∧
        caOf t l = { caOf s l with first := (caOf s l).second, second := none, ending := false } ∧ (∀ k ∈ t.svc.pool,
          k.link = l → ((caOf s l).second.map (·.ckn)) = some k.ckn) ∧ sameBut [.svc, .vlt, .evt] s t) ∧
  (∀ (s : State) (l : Nat), resetLow s = false → (caOf s l).ending = false →
      ∃ t, exec (.firstParticipantEnd l) s = .next t ∧ settled s t)

/-- O51. DOZE_HELD_TIMEOUT in DOZE entry discards every whole frame held and counts it; outside an entry it changes
nothing. DOZE_ENTRY_COMPLETE with frames left, or writes on their way, changes nothing; it writes dirty lines first,
then dirty leaves, then the interior nodes; with none left MODE reads DOZE with the previous mode, the domains that
DOZE gates are off, the cistern holds no line, keys and leases are as before, no command waits for the change, and a
cause latched meanwhile begins the wake. WAKE_CAUSE, and TIMED_WAKE once its instant or 100 µs before a timed cut has
come, begin a wake in DOZE, are latched during entry, and change nothing in another mode. WAKE_COMPLETE, with no
domain or line to wait for, leads to PROTECT, or DEGRADED where a cause is set, with cause 5. WAKE_LATE raises its
event during a wake. COLD_DRAIN_COMPLETE with every SecY OFF: MODE reads COLD, no SecY, SA or receive SC is left, the
traffic slots and the pool are EMPTY, the bypass rules, the pair and every CA are gone, RWL fields hold their reset
values, and the journal's marks are as before. (Model's choices that it rests on: log 77, 99, 100, 171.) -/
def Obligations.DozeAndWake : Prop :=
  (∀ (s : State) (c : Option Nat), resetLow s = false → s.glb.change = some ⟨.toDoze, c⟩ → ∀ f ∈ s.egr.frames ++ s.ing.frames,
      f.ended = true →
      ∃ t, exec .dozeHeldTimeout s = .next t ∧ t.egr.frames = [] ∧ t.ing.frames = [] ∧ t.glb.mode = s.glb.mode ∧
        t.vlt = s.vlt ∧ t.secys = s.secys ∧ t.tx = s.tx ∧ t.out = s.out) ∧
  (∀ (s : State) (c : Option Nat) (f : Frame), resetLow s = false → s.glb.change = some ⟨.toDoze, c⟩ → s.egr.frames = [f] →
      s.ing.frames = [] → f.ended = true → f.started = false → f.fate ≠ .discard →
      ∃ t, exec .dozeHeldTimeout s = .next t ∧ t.egr.frames = [] ∧ countedOnly 5 1 s t ∧ t.out = s.out) ∧
  (∀ (s : State), resetLow s = false → s.glb.change.all (fun c => c.kind != .toDoze) = true →
      ∃ t, exec .dozeHeldTimeout s = .next t ∧ settled s t) ∧
  (∀ (s : State), resetLow s = false → s.glb.change.all (fun c => c.kind != .toDoze) = true ∨ pathsEmpty s = false ∨
      (dirtyLines s = [] ∧ cxmBusy s = true) →
      ∃ t, exec .dozeEntryComplete s = .next t ∧ settled s t) ∧
  (∀ (s : State) (c : Option Nat), resetLow s = false → s.glb.change = some ⟨.toDoze, c⟩ → pathsEmpty s = true →
      dirtyLines s ≠ [] →
      ∃ t, exec .dozeEntryComplete s = .next t ∧ (∀ n, ∀ c, cline t n = some c → c.dirty = true → isQuar s n = true) ∧
        t.glb = s.glb ∧ t.tx = s.tx ∧ t.mci = s.mci) ∧
  (∀ (s : State) (c : Option Nat), resetLow s = false → s.glb.change = some ⟨.toDoze, c⟩ → pathsEmpty s = true →
      dirtyLines s = [] → cxmBusy s = false → leavesDirty s = true →
      ∃ t, exec .dozeEntryComplete s = .next t ∧ (∀ j, ∀ l, leafOf t j = some l → l.dirty = false) ∧ t.glb = s.glb ∧
        t.tx = s.tx ∧ t.mci = s.mci) ∧
  (∀ (s : State) (c : Option Nat), resetLow s = false → s.glb.change = some ⟨.toDoze, c⟩ → pathsEmpty s = true →
      dirtyLines s = [] → cxmBusy s = false → leavesDirty s = false → s.cxm.trusted = false ∨ s.cxm.nodesOut = true →
      ∃ t, exec .dozeEntryComplete s = .next t ∧ t.glb.mode = .doze ∧ t.glb.prev = s.glb.mode ∧ t.glb.cause = 1 ∧
        (∀ n ∈ dozeDomains, pdIsOn t n = false) ∧ (∀ n, cline t n = none) ∧ t.vlt = s.vlt ∧
        t.tx = s.tx ∧ t.rx = s.rx ∧ t.secys = s.secys ∧ (∀ r ∈ t.mci.running, r.wait ≠ .mode) ∧
        t.glb.change = (if s.aon.wakeLatched then some ⟨.waking, none⟩ else none)) ∧
  (∀ (s : State) (c : Option Nat), resetLow s = false → s.glb.change = some ⟨.toDoze, c⟩ → pathsEmpty s = true →
      dirtyLines s = [] → cxmBusy s = false → leavesDirty s = false → s.cxm.trusted = true → s.cxm.nodesOut = false →
      ∃ t, exec .dozeEntryComplete s = .next t ∧ t.cxm.nodesOut = true ∧ t.cxm.writes ≠ [] ∧ t.glb = s.glb ∧ t.tx = s.tx ∧
        t.mci = s.mci) ∧
  (∀ (s : State), resetLow s = false → s.glb.mode = .doze → s.glb.change = none →
      ∃ t, exec .wakeCause s = .next t ∧
        t.glb = { s.glb with change := some ⟨.waking, none⟩, ramping := s.glb.ramping.filter (fun n => decide (52 ≤ n)) ++ wakeDomains s } ∧
        t.aon = { s.aon with wakeLatched := true } ∧ sameBut [.glb, .aon, .evt] s t) ∧
  (∀ (s : State), resetLow s = false → s.glb.mode = .doze ∨ s.glb.change.any (fun c => c.kind == .toDoze) = true →
      s.glb.mode ≠ .doze ∨ s.glb.change ≠ none →
      ∃ t, exec .wakeCause s = .next t ∧ settled { s with aon := { s.aon with wakeLatched := true } } t) ∧
  (∀ (s : State), resetLow s = false → s.glb.mode ≠ .doze → s.glb.change.all (fun c => c.kind != .toDoze) = true →
      ∃ t, exec .wakeCause s = .next t ∧ settled s t) ∧
  (∀ (s : State), resetLow s = false → s.glb.mode = .doze → s.glb.change = none → (bitAt s.aon.wakeCfg 2 = true ∧
      s.aon.wakeTime.toNat ≤ now s) ∨ (∃ l, ∃ y, secyOf s l = some y ∧ y.cut = .timed ∧ y.cutTime < 2 ^ 64 - 1 ∧
        y.cutTime ≤ now s + 100000) →
      ∃ t, exec .timedWake s = .next t ∧
        t.glb = { s.glb with change := some ⟨.waking, none⟩, ramping := s.glb.ramping.filter (fun n => decide (52 ≤ n)) ++ wakeDomains s } ∧
        t.aon = { s.aon with wakeLatched := true } ∧ sameBut [.glb, .aon, .evt] s t) ∧
  (∀ (s : State), resetLow s = false → bitAt s.aon.wakeCfg 2 = false ∨ now s < s.aon.wakeTime.toNat → now s + 100000 < nextCut s →
      ∃ t, exec .timedWake s = .next t ∧ settled s t) ∧
  (∀ (s : State) (c : Option Nat), resetLow s = false → s.glb.change = some ⟨.waking, c⟩ → wakeWaits s = false →
      s.vlt.drbgStop = false → ∀ r ∈ s.mci.running, r.wait ≠ .wake →
      ∃ t, exec .wakeComplete s = .next t ∧
        t.glb = { s.glb with change := none, mode := if s.glb.deg = 0 then .protect else .degraded, prev := s.glb.mode, cause := 5, locked := true } ∧
        t.aon = { s.aon with wakeLatched := false } ∧ (∀ r ∈ t.mci.running, r.wait ≠ .mode) ∧ t.tx = s.tx ∧ t.vlt = s.vlt ∧
          t.secys = s.secys) ∧
  (∀ (s : State), resetLow s = false → s.glb.change.all (fun c => c.kind != .waking) = true ∨ wakeWaits s = true →
      ∃ t, exec .wakeComplete s = .next t ∧ settled s t) ∧
  (∀ (s : State) (c : Option Nat), resetLow s = false → s.glb.change = some ⟨.waking, c⟩ →
      ∃ t, exec .wakeLate s = .next t ∧ settledWith .aon 8 s t) ∧
  (∀ (s : State), resetLow s = false → s.glb.change.all (fun c => c.kind != .waking) = true →
      ∃ t, exec .wakeLate s = .next t ∧ settled s t) ∧
  (∀ (s : State) (c : Option Nat), resetLow s = false → s.glb.change = some ⟨.toCold, c⟩ → allOff s = true →
      ∃ t, exec .coldDrainComplete s = .next t ∧ t.glb.mode = .cold ∧ t.glb.prev = s.glb.mode ∧ t.glb.cause = 1 ∧
        t.glb.change = none ∧ (∀ l, secyOf t l = none) ∧ (∀ i, txOf t i = none) ∧ (∀ i, rxOf t i = none) ∧
        t.sct.scs = [] ∧ (∀ n, isTraffic n = true ∨ isPool n = true → (vslot t n).st = .empty) ∧
          t.egr.rules = Path.reset.rules ∧ t.ing.rules = Path.reset.rules ∧ t.svc.cas = [] ∧
        t.fab.pair.partner = none ∧ t.fab.cfg = Fab.reset.cfg ∧ t.mci.cfg = Mci.reset.cfg ∧ t.jnl.hw = s.jnl.hw ∧
          t.jnl.slots = s.jnl.slots ∧
        (∀ r ∈ t.mci.running, r.wait ≠ .mode)) ∧
  (∀ (s : State), resetLow s = false → s.glb.change.all (fun c => c.kind != .toCold) = true ∨ allOff s = false →
      ∃ t, exec .coldDrainComplete s = .next t ∧ settled s t)

/-- O52. FAB_LANE_READY and PORT_SIGNAL_DETECT are kept, and an enabled port in DETECT with no backoff or hold trains once
a configured lane shows ready, signal and CDR lock. CDR_LOCK_LOSS of a lane in use, HELLO_LOSS and the 16th bad sync
header within 64 blocks lose lock: the port is in DETECT, or trains again where a lane shows a partner; an ACTIVE port
raises LINK, and the fault that reaches the limit holds the port. What the receive bus of a present lane carries is
taken, of an absent one nothing. A block that is a leader counts as a good header; in TRAIN it teaches its lane, and
the last lane needed leads to LOCK; with the lanes aligned the 16th in a run of leaders that show lock and alignment
leads to CAPS; a bad header on a lane without lock ends the run of good ones and in TRAIN slips the boundary, at most
once in four fc. A CAPS of another width or rate fails the attempt; one received and one sent with PEER_CAPS_RCVD make
the port ACTIVE. PHASE_TIMEOUT leads a spine port to a narrower width whose lanes are known, or fails the attempt:
back in DETECT with a backoff, ABSENT with its event at the limit, ABSENT at once for a probe. BACKOFF_END and
PORT_HOLD_END let the port try again; ABSENT_PROBE sends a leader and trains where a lane shows a partner. A dropped
message or an invalid block of a lane with lock is counted as a symbol error, and ERR_THR of them within ERR_WIN
retrain an ACTIVE port. RETURN_WIN_EXPIRY withdraws the adjacency of a port below ACTIVE. PORT_SHUTDOWN_COMPLETE
leaves the port OFF, or enabled where an enable waits. (Model's choices that it rests on: log 44, 77, 101, 102, 172,
174.) -/
def Obligations.PortBringUp : Prop :=
  (∀ (s : State) (n p : Nat) (up : Bool), resetLow s = false → n < 32 → p = n / 4 → (portOf s p).st ≠ .detect →
      ∃ t, exec (.fabLaneReady n up) s = .next t ∧
        settled (setPort p ({ portOf s p with rdy := setLaneBit (portOf s p).rdy (n % 4) up }) s) t) ∧
  (∀ (s : State) (n p : Nat) (up : Bool), resetLow s = false → n < 32 → p = n / 4 → (portOf s p).st = .detect →
      (portOf s p).en = true → (portOf s p).down = false → (portOf s p).test = false → (portOf s p).backoff = false →
        (portOf s p).held = false →
      ∃ t, exec (.fabLaneReady n up) s = .next t ∧
        settled (setPort p (let q := { portOf s p with rdy := setLaneBit (portOf s p).rdy (n % 4) up }; if laneSeen q then q.toTrain else q) s) t) ∧
  (∀ (s : State) (n p : Nat) (sig : Bool), resetLow s = false → n < 32 → p = n / 4 → (portOf s p).st ≠ .detect →
      ∃ t, exec (.portSignalDetect n sig true) s = .next t ∧
        settled (setPort p ({ portOf s p with sig := setLaneBit (portOf s p).sig (n % 4) sig, cdr := setLaneBit (portOf s p).cdr (n % 4) true }) s) t) ∧
  (∀ (s : State) (n p : Nat) (sig : Bool), resetLow s = false → n < 32 → p = n / 4 → (portOf s p).st = .detect →
      (portOf s p).en = true → (portOf s p).down = false → (portOf s p).test = false → (portOf s p).backoff = false →
        (portOf s p).held = false →
      ∃ t, exec (.portSignalDetect n sig true) s = .next t ∧
        settled (setPort p (let q := { portOf s p with sig := setLaneBit (portOf s p).sig (n % 4) sig, cdr := setLaneBit (portOf s p).cdr (n % 4) true }; if laneSeen q then q.toTrain else q) s) t) ∧
  (∀ (s : State) (n p : Nat) (sig : Bool), resetLow s = false → n < 32 → p = n / 4 → laneInUse (portOf s p) (n % 4) = false →
      ∃ t, exec (.portSignalDetect n sig false) s = .next t ∧
        settled (setPort p ({ portOf s p with sig := setLaneBit (portOf s p).sig (n % 4) sig, cdr := setLaneBit (portOf s p).cdr (n % 4) false }) s) t) ∧
  (∀ (s : State) (n p : Nat), resetLow s = false → n < 32 → p = n / 4 → laneInUse (portOf s p) (n % 4) = false →
      ∃ t, exec (.cdrLockLoss n) s = .next t ∧
        settled (setPort p ({ portOf s p with cdr := setLaneBit (portOf s p).cdr (n % 4) false }) s) t) ∧
  (∀ (s : State) (n p : Nat), resetLow s = false → n < 32 → p = n / 4 → (portOf s p).en = true → (portOf s p).down = false →
      (portOf s p).test = false → (portOf s p).backoff = false → (portOf s p).held = false →
        laneInUse (portOf s p) (n % 4) = true → (portOf s p).probing = false →
          isPermanent s.fab.retryCfg (stampAdd (portOf s p).stamps (now s)) = false →
      ∃ t, exec (.cdrLockLoss n) s = .next t ∧
        (portOf t p).st = (if laneSeen ({ portOf s p with cdr := setLaneBit (portOf s p).cdr (n % 4) false }) then .train else .detect) ∧ ((portOf s p).st = .active → eventSet t .fab (4 * p)) ∧ (portOf t p).cdr = setLaneBit (portOf s p).cdr (n % 4) false) ∧
  (∀ (s : State) (n p : Nat), resetLow s = false → n < 32 → p = n / 4 → laneInUse (portOf s p) (n % 4) = true →
      (portOf s p).probing = false → isPermanent s.fab.retryCfg (stampAdd (portOf s p).stamps (now s)) = true →
      ∃ t, exec (.cdrLockLoss n) s = .next t ∧ (portOf t p).st = .detect ∧ (portOf t p).held = true ∧ eventSet t .fab (4 * p)) ∧
  (∀ (s : State) (p l n : Nat) (bus : BitVec 132), resetLow s = false → 8 ≤ p ∨ lanePresent (portOf s p) l = false →
      ∃ t, exec (.leaderReceived p l ⟨n, bus⟩) s = .next t ∧ settled s t) ∧
  (∀ (s : State) (p l : Nat) (bus : BitVec 132), resetLow s = false → p < 8 → lanePresent (portOf s p) l = true →
      ∃ t, exec (.leaderReceived p l ⟨0, bus⟩) s = .next t ∧
        settled (setPort p ({ portOf s p with rxBlk := smSet 0 (portOf s p).rxBlk l bus, rxCnt := smSet 0 (portOf s p).rxCnt l 0 }) s) t) ∧
  (∀ (s : State) (p l : Nat) (bus : BitVec 132), resetLow s = false → p < 8 → lanePresent (portOf s p) l = true →
      syncOk (straight (portOf s p) l (bus.extractLsb' 0 66)) = false → (portOf s p).locked.getLsbD l = false →
      ∃ t, exec (.leaderReceived p l ⟨1, bus⟩) s = .next t ∧
        settled (setPort p (let q := { portOf s p with rxBlk := smSet 0 (portOf s p).rxBlk l bus, rxCnt := smSet 0 (portOf s p).rxCnt l 1, hdrs := smErase (portOf s p).hdrs l }; if (portOf s p).st = .train ∧ slipFree s (portOf s p) l = true then { q with slip := q.slip ||| laneBit l, slipAt := smSet 0 q.slipAt l (now s + 1) } else q) s) t) ∧
  (∀ (s : State) (p l : Nat) (bus : BitVec 132) (m : Leader), resetLow s = false → leads s p l bus m →
      (portOf s p).st = .active ∨ (portOf s p).st = .caps ∨ (portOf s p).st = .detect ∨ (portOf s p).st = .absent ∨
        (portOf s p).st = .off →
      ∃ t, exec (.leaderReceived p l ⟨1, bus⟩) s = .next t ∧ settled (setPort p (portHears l bus (portOf s p)) s) t) ∧
  (∀ (s : State) (p l : Nat) (bus : BitVec 132) (m : Leader), resetLow s = false → leads s p l bus m →
      (portOf s p).st = .train →
        lanesReady (learnLane l m { portHears l bus (portOf s p) with rseq := smSet 0 (portOf s p).rseq l (m.tseq + 1) }) (laneCount (portOf s p).widthUse) = true →
      ∃ t, exec (.leaderReceived p l ⟨1, bus⟩) s = .next t ∧
        settled (setPort p ({ learnLane l m { portHears l bus (portOf s p) with rseq := smSet 0 (portOf s p).rseq l (m.tseq + 1) } with st := .lock, lockRun := 0 }) s) t) ∧
  (∀ (s : State) (p l : Nat) (bus : BitVec 132) (m : Leader), resetLow s = false → leads s p l bus m →
      (portOf s p).st = .train →
        lanesReady (learnLane l m { portHears l bus (portOf s p) with rseq := smSet 0 (portOf s p).rseq l (m.tseq + 1) }) (laneCount (portOf s p).widthUse) = false →
      ∃ t, exec (.leaderReceived p l ⟨1, bus⟩) s = .next t ∧
        settled (setPort p (learnLane l m { portHears l bus (portOf s p) with rseq := smSet 0 (portOf s p).rseq l (m.tseq + 1) }) s) t) ∧
  (∀ (s : State) (p l : Nat) (bus : BitVec 132) (m : Leader), resetLow s = false → leads s p l bus m →
      (portOf s p).st = .lock →
        deskewed { portHears l bus (portOf s p) with rseq := smSet 0 (portOf s p).rseq l (m.tseq + 1) } = true →
          m.rxLocked = true → m.deskewed = true → m.width = (portOf s p).widthUse → m.lane = 0 → (portOf s p).lockRun < 15 →
      ∃ t, exec (.leaderReceived p l ⟨1, bus⟩) s = .next t ∧
        settled (setPort p ({ portHears l bus (portOf s p) with rseq := smSet 0 (portOf s p).rseq l (m.tseq + 1), lockRun := (portOf s p).lockRun + 1 }) s) t) ∧
  (∀ (s : State) (p l : Nat) (bus : BitVec 132) (m : Leader), resetLow s = false → leads s p l bus m →
      (portOf s p).st = .lock →
        deskewed { portHears l bus (portOf s p) with rseq := smSet 0 (portOf s p).rseq l (m.tseq + 1) } = true →
          m.rxLocked = true → m.deskewed = true → m.width = (portOf s p).widthUse → m.lane = 0 → 15 ≤ (portOf s p).lockRun →
      ∃ t, exec (.leaderReceived p l ⟨1, bus⟩) s = .next t ∧
        settled (setPort p ({ portHears l bus (portOf s p) with rseq := smSet 0 (portOf s p).rseq l (m.tseq + 1), st := .caps, lockRun := 0 }) s) t) ∧
  (∀ (s : State) (p l : Nat) (bus : BitVec 132) (m : Leader), resetLow s = false → leads s p l bus m →
      (portOf s p).st = .lock →
        deskewed { portHears l bus (portOf s p) with rseq := smSet 0 (portOf s p).rseq l (m.tseq + 1) } = true →
          m.rxLocked = true → m.deskewed = true → m.width = (portOf s p).widthUse → m.lane ≠ 0 → (portOf s p).lockRun < 16 →
      ∃ t, exec (.leaderReceived p l ⟨1, bus⟩) s = .next t ∧
        settled (setPort p ({ portHears l bus (portOf s p) with rseq := smSet 0 (portOf s p).rseq l (m.tseq + 1) }) s) t) ∧
  (∀ (s : State) (p l : Nat) (bus : BitVec 132) (m : Leader), resetLow s = false → leads s p l bus m →
      (portOf s p).st = .lock →
        deskewed { portHears l bus (portOf s p) with rseq := smSet 0 (portOf s p).rseq l (m.tseq + 1) } = false ∨
          m.rxLocked = false ∨ m.deskewed = false ∨ m.width ≠ (portOf s p).widthUse →
      ∃ t, exec (.leaderReceived p l ⟨1, bus⟩) s = .next t ∧
        settled (setPort p ({ portHears l bus (portOf s p) with rseq := smSet 0 (portOf s p).rseq l (m.tseq + 1), lockRun := 0 }) s) t) ∧
  (∀ (s : State) (h : MsgHdr) (m : Caps) (p : Nat), resetLow s = false → p = h.port → (portOf s p).st = .caps →
      m.width = (portOf s p).widthUse → m.rate = (portOf s p).rate → (portOf s p).capsSent = false →
      ∃ t, exec (.caps h m) s = .next t ∧
        portOf t p = { learnPeer s m (portOf s p) with capsGot := true, capsAck := (portOf s p).capsAck || m.rcvd }) ∧
  (∀ (s : State) (h : MsgHdr) (m : Caps) (p : Nat), resetLow s = false → p = h.port → (portOf s p).st = .caps →
      m.width = (portOf s p).widthUse → m.rate = (portOf s p).rate → (portOf s p).capsSent = true → m.rcvd = true →
      ∃ t, exec (.caps h m) s = .next t ∧ (portOf t p).st = .active ∧ (portOf t p).adj = true ∧ (portOf t p).fails = 0 ∧
        (portOf t p).peerId = m.id ∧ (portOf t p).peerClass = m.cls) ∧
  (∀ (s : State) (h : MsgHdr) (m : Caps) (p : Nat), resetLow s = false → p = h.port → (portOf s p).st = .caps →
      m.width ≠ (portOf s p).widthUse ∨ m.rate ≠ (portOf s p).rate → (portOf s p).probing = false →
        (portOf s p).fails + 1 < failLimit s →
      ∃ t, exec (.caps h m) s = .next t ∧ (portOf t p).st = .detect ∧ (portOf t p).backoff = true ∧
        (portOf t p).fails = (portOf s p).fails + 1 ∧ t.out = s.out ++ [.leader p 0]) ∧
  (∀ (s : State) (h : MsgHdr) (m : Caps) (p : Nat), resetLow s = false → p = h.port → (portOf s p).st = .active →
      ∃ t, exec (.caps h m) s = .next t ∧ sameBut [.que, .tel, .evt] s t) ∧
  (∀ (s : State) (p : Nat), resetLow s = false → (portOf s p).st = .caps → (portOf s p).capsAck = false →
      ∃ t, exec (.capsSend p) s = .next t ∧ sentOn p 0 (.caps (ownCaps s p)) s t ∧
        (portOf t p).capsSent = ((portOf s p).capsSent || (portOf s p).capsGot) ∧ (portOf t p).st = .caps) ∧
  (∀ (s : State) (p : Nat), resetLow s = false → (portOf s p).st = .caps → (portOf s p).capsAck = true →
      (portOf s p).capsGot = true →
      ∃ t, exec (.capsSend p) s = .next t ∧ (portOf t p).st = .active ∧ (portOf t p).adj = true) ∧
  (∀ (s : State) (p : Nat), resetLow s = false → (portOf s p).st ≠ .caps →
      ∃ t, exec (.capsSend p) s = .next t ∧ settled s t) ∧
  (∀ (s : State) (p w : Nat), resetLow s = false → (portOf s p).st = .train → fallback p (portOf s p) = some w →
      ∃ t, exec (.phaseTimeout p) s = .next t ∧ w < (portOf s p).widthUse ∧ p < 2 ∧
        settled (setPort p ({ portOf s p with st := .lock, widthUse := w, lockRun := 0 }) s) t) ∧
  (∀ (s : State) (p : Nat), resetLow s = false → ((portOf s p).st = .train ∧ fallback p (portOf s p) = none) ∨
      (portOf s p).st = .lock ∨ (portOf s p).st = .caps → (portOf s p).probing = false → (portOf s p).fails + 1 < failLimit s →
      ∃ t, exec (.phaseTimeout p) s = .next t ∧ (portOf t p).st = .detect ∧ (portOf t p).backoff = true ∧
        (portOf t p).fails = (portOf s p).fails + 1 ∧ t.out = s.out ++ [.leader p 0]) ∧
  (∀ (s : State) (p : Nat), resetLow s = false → ((portOf s p).st = .train ∧ fallback p (portOf s p) = none) ∨
      (portOf s p).st = .lock ∨ (portOf s p).st = .caps → (portOf s p).probing = false → failLimit s ≤ (portOf s p).fails + 1 →
      ∃ t, exec (.phaseTimeout p) s = .next t ∧ (portOf t p).st = .absent ∧ eventSet t .fab (4 * p + 1) ∧ t.out = s.out) ∧
  (∀ (s : State) (p : Nat), resetLow s = false → ((portOf s p).st = .train ∧ fallback p (portOf s p) = none) ∨
      (portOf s p).st = .lock ∨ (portOf s p).st = .caps → (portOf s p).probing = true →
      ∃ t, exec (.phaseTimeout p) s = .next t ∧ (portOf t p).st = .absent ∧ (portOf t p).probing = false ∧
        (portOf t p).fails = (portOf s p).fails ∧ t.out = s.out) ∧
  (∀ (s : State) (p : Nat), resetLow s = false → (portOf s p).st = .off ∨ (portOf s p).st = .detect ∨
      (portOf s p).st = .active ∨ (portOf s p).st = .idle ∨ (portOf s p).st = .absent →
      ∃ t, exec (.phaseTimeout p) s = .next t ∧ settled s t) ∧
  (∀ (s : State) (p : Nat), resetLow s = false → (portOf s p).backoff = true → (portOf s p).st = .detect →
      (portOf s p).en = true → (portOf s p).down = false → (portOf s p).test = false → (portOf s p).held = false →
      ∃ t, exec (.backoffEnd p) s = .next t ∧
        settled (setPort p (let q := { portOf s p with backoff := false }; if laneSeen q then q.toTrain else q) s) t) ∧
  (∀ (s : State) (p : Nat), resetLow s = false → (portOf s p).backoff = false →
      ∃ t, exec (.backoffEnd p) s = .next t ∧ settled s t) ∧
  (∀ (s : State) (p : Nat), resetLow s = false → (portOf s p).st = .absent → (portOf s p).en = true → (portOf s p).down = false →
      ∃ t, exec (.absentProbe p) s = .next t ∧ (portOf t p).st = (if laneSeen (portOf s p) then .train else .absent) ∧
        (portOf t p).probing = (laneSeen (portOf s p) || (portOf s p).probing) ∧ t.out = s.out ++ [.leader p 0] ∧
          sameBut [.fab, .out, .evt] s t) ∧
  (∀ (s : State) (p : Nat), resetLow s = false → (portOf s p).st ≠ .absent ∨ (portOf s p).en = false ∨ (portOf s p).down = true →
      ∃ t, exec (.absentProbe p) s = .next t ∧ settled s t) ∧
  (∀ (s : State) (p : Nat), resetLow s = false → (portOf s p).held = true → (portOf s p).st = .detect →
      (portOf s p).en = true → (portOf s p).down = false → (portOf s p).test = false →
      ∃ t, exec (.portHoldEnd p) s = .next t ∧
        settled (setPort p (let q := { portOf s p with held := false, fails := 0, backoff := false }; if laneSeen q then q.toTrain else q) s) t) ∧
  (∀ (s : State) (p : Nat), resetLow s = false → (portOf s p).held = false →
      ∃ t, exec (.portHoldEnd p) s = .next t ∧ settled s t) ∧
  (∀ (s : State) (p : Nat), resetLow s = false → (portOf s p).st = .active ∨ (portOf s p).st = .caps →
      (portOf s p).st = .caps ∨
        (List.length (((portOf s p).errAt ++ [now s]).filter (fun x => decide (now s - x ≤ errWin s)))) < errThr s →
      ∃ t, exec (.fabricMessageDrop p) s = .next t ∧ (portOf t p).symErr = satAdd 16 (portOf s p).symErr 1 ∧
        (portOf t p).st = (portOf s p).st ∧ sameBut [.fab, .evt] s t) ∧
  (∀ (s : State) (p : Nat), resetLow s = false → (portOf s p).st = .active →
      errThr s ≤ (List.length (((portOf s p).errAt ++ [now s]).filter (fun x => decide (now s - x ≤ errWin s)))) →
        isPermanent s.fab.retryCfg (stampAdd (portOf s p).stamps (now s)) = false →
      ∃ t, exec (.fabricMessageDrop p) s = .next t ∧ (portOf t p).st = .train ∧
        (portOf t p).retrains = satAdd 8 (portOf s p).retrains 1 ∧ eventSet t .fab (4 * p + 2) ∧ eventSet t .fab (4 * p)) ∧
  (∀ (s : State) (p : Nat), resetLow s = false → (portOf s p).st ≠ .active → (portOf s p).st ≠ .caps →
      ∃ t, exec (.fabricMessageDrop p) s = .next t ∧ settled s t) ∧
  (∀ (s : State) (p l : Nat) (b : BitVec 66), resetLow s = false → p < 8 → lanePresent (portOf s p) l = true →
      bringUp (portOf s p) = true → (portOf s p).locked.getLsbD l = true → (portOf s p).st ≠ .active ∨
        (List.length (((portOf s p).errAt ++ [now s]).filter (fun x => decide (now s - x ≤ errWin s)))) < errThr s →
          blockErr b = some .controlType →
      ∃ t, exec (.invalidBlock p l b) s = .next t ∧ (portOf t p).symErr = satAdd 16 (portOf s p).symErr 1 ∧
        (portOf t p).st = (portOf s p).st ∧ sameBut [.fab, .evt] s t) ∧
  (∀ (s : State) (p l : Nat) (b : BitVec 66), resetLow s = false → p < 8 → lanePresent (portOf s p) l = true →
      (portOf s p).en = true → (portOf s p).down = false → (portOf s p).test = false → (portOf s p).backoff = false →
        (portOf s p).held = false → bringUp (portOf s p) = true → (portOf s p).st ≠ .active →
          (portOf s p).locked.getLsbD l = true → (portOf s p).probing = false →
            isPermanent s.fab.retryCfg (stampAdd (portOf s p).stamps (now s)) = false → blockErr b = some .syncHeader →
              15 ≤ ((smGet [] (portOf s p).badHdr l).filter (fun x => decide (now s - x ≤ blocks64 (portOf s p)))).length →
      ∃ t, exec (.invalidBlock p l b) s = .next t ∧ (portOf t p).st = (if laneSeen (portOf s p) then .train else .detect)) ∧
  (∀ (s : State) (p l : Nat) (b : BitVec 66), resetLow s = false → bringUp (portOf s p) = false ∨
      (portOf s p).locked.getLsbD l = false → blockErr b = some .controlType →
      ∃ t, exec (.invalidBlock p l b) s = .next t ∧ settled s t) ∧
  (∀ (s : State) (p l : Nat) (b : BitVec 66), resetLow s = false → 8 ≤ p ∨ lanePresent (portOf s p) l = false ∨
      blockErr b = none →
      ∃ t, exec (.invalidBlock p l b) s = .next t ∧ settled s t) ∧
  (∀ (s : State) (p : Nat), resetLow s = false → (portOf s p).en = true → (portOf s p).down = false →
      (portOf s p).test = false → (portOf s p).backoff = false → (portOf s p).held = false → (portOf s p).st = .active →
        (portOf s p).probing = false → isPermanent s.fab.retryCfg (stampAdd (portOf s p).stamps (now s)) = false →
      ∃ t, exec (.helloLoss p) s = .next t ∧ (portOf t p).st = (if laneSeen (portOf s p) then .train else .detect) ∧
        eventSet t .fab (4 * p)) ∧
  (∀ (s : State) (p : Nat), resetLow s = false → (portOf s p).st ≠ .active →
      ∃ t, exec (.helloLoss p) s = .next t ∧ settled s t) ∧
  (∀ (s : State) (p : Nat), resetLow s = false → (portOf s p).adj = true → (portOf s p).st = .detect ∨
      (portOf s p).st = .train ∨ (portOf s p).st = .lock ∨ (portOf s p).st = .caps → s.fab.engineId ≠ 0 →
      ∃ t, exec (.returnWinExpiry p) s = .next t ∧ (portOf t p).adj = false ∧ (portOf t p).st = (portOf s p).st ∧
        t.fab.lsaSeq = (s.fab.lsaSeq + 1) % 2 ^ 32) ∧
  (∀ (s : State) (p : Nat), resetLow s = false → (portOf s p).adj = false ∨ (portOf s p).st = .active ∨
      ((portOf s p).st = .idle ∧ (portOf s p).exiting = false) →
      ∃ t, exec (.returnWinExpiry p) s = .next t ∧ settled s t) ∧
  (∀ (s : State) (p : Nat), resetLow s = false → (portOf s p).down = true → (portOf s p).deferred = none →
      ∃ t, exec (.portShutdownComplete p) s = .next t ∧ (portOf t p).st = .off ∧ (portOf t p).en = false ∧
        (portOf t p).down = false ∧ (portOf t p).adj = false ∧ (portOf t p).symErr = (portOf s p).symErr) ∧
  (∀ (s : State) (p : Nat) (w : Nat) (r : Bool), resetLow s = false → (portOf s p).down = true →
      (portOf s p).deferred = some (w, r) → portGated s p = false →
      ∃ t, exec (.portShutdownComplete p) s = .next t ∧ (portOf t p).en = true ∧ (portOf t p).width = w ∧
        (portOf t p).rate = r ∧ ((portOf t p).st = .detect ∨ (portOf t p).st = .train)) ∧
  (∀ (s : State) (p : Nat), resetLow s = false → (portOf s p).down = false →
      ∃ t, exec (.portShutdownComplete p) s = .next t ∧ settled s t)

/-- O53. REFRESH_TIMER of an ACTIVE port sends a leader run of phase 4. IDLE_REQ of an ACTIVE port is answered with
IDLE_ACK and IDLE_ACK enters IDLE too, and the FAB_PORT_CTL that waits for the port ends; below ACTIVE both change
nothing. A leader of phase 5 makes an IDLE port leave, and one that is leaving counts the partner's leaders with lock.
IDLE_EXIT of a port that is not leaving starts to leave where no path reaches the neighbour, one that is leaving with
the partner's lock is ACTIVE, and without it trains anew and ends the command with TIMEOUT. PRBS_INJECT inverts one
bit on the lanes selected while INJ is 1 in TEST, and INJ then reads 0. A checker locks after 1,024 bits without an
error, counts errors while locked, and loses lock at 64 errors within 1,024 bits. In each fc of the engine without an
edge of tst_tck a port whose domain is on sends what its SerDes takes; OFF or ABSENT it is in electrical idle and
nothing is taken, and otherwise its enabled lanes are not. (Model's choices that it rests on: log 41, 103, 104, 149,
150, 173.) -/
def Obligations.PortIdleAndTest : Prop :=
  (∀ (s : State) (p : Nat), resetLow s = false → (portOf s p).st = .active →
      ∃ t, exec (.refreshTimer p) s = .next t ∧ settled (emit (.leader p 4) (modPort p (pushRun 4) s)) t) ∧
  (∀ (s : State) (p : Nat), resetLow s = false → (portOf s p).st ≠ .active →
      ∃ t, exec (.refreshTimer p) s = .next t ∧ settled s t) ∧
  (∀ (s : State) (p : Nat), resetLow s = false → (portOf s p).st = .active →
      ∃ t, exec (.idleReq p) s = .next t ∧ (portOf t p).st = .idle ∧ (portOf t p).exiting = false ∧
        t.out.take (s.out.length + 1) = s.out ++ [.idleAck p] ∧ (∀ r ∈ t.mci.running, r.wait ≠ .port p)) ∧
  (∀ (s : State) (p : Nat), resetLow s = false → (portOf s p).st = .active →
      ∃ t, exec (.idleAck p) s = .next t ∧ (portOf t p).st = .idle ∧ (portOf t p).exiting = false ∧ (∀ r ∈ t.mci.running,
        r.wait ≠ .port p)) ∧
  (∀ (s : State) (p : Nat), resetLow s = false → (portOf s p).st ≠ .active →
      ∃ t, exec (.idleReq p) s = .next t ∧ settled s t) ∧
  (∀ (s : State) (p : Nat), resetLow s = false → (portOf s p).st ≠ .active →
      ∃ t, exec (.idleAck p) s = .next t ∧ settled s t) ∧
  (∀ (s : State) (p l : Nat) (bus : BitVec 132) (m : Leader), resetLow s = false → leads s p l bus m →
      (portOf s p).st = .idle → (portOf s p).exiting = false → m.phase = 5 →
      ∃ t, exec (.leaderReceived p l ⟨1, bus⟩) s = .next t ∧ (portOf t p).exiting = true ∧ (portOf t p).st = .idle ∧
        t.out = s.out ++ [.leader p 5]) ∧
  (∀ (s : State) (p l : Nat) (bus : BitVec 132) (m : Leader), resetLow s = false → leads s p l bus m →
      (portOf s p).st = .idle → (portOf s p).exiting = false → m.phase ≠ 5 →
      ∃ t, exec (.leaderReceived p l ⟨1, bus⟩) s = .next t ∧ settled (setPort p (portHears l bus (portOf s p)) s) t) ∧
  (∀ (s : State) (p l : Nat) (bus : BitVec 132) (m : Leader), resetLow s = false → leads s p l bus m →
      (portOf s p).st = .idle → (portOf s p).exiting = true →
      ∃ t, exec (.leaderReceived p l ⟨1, bus⟩) s = .next t ∧
        settled (setPort p ({ portHears l bus (portOf s p) with lockRun := if m.rxLocked then (portOf s p).lockRun + 1 else 0 }) s) t) ∧
  (∀ (s : State) (p : Nat) (a : Nat), resetLow s = false → (portOf s p).st = .idle → (portOf s p).exiting = false →
      (portOf s p).peerAddr = some a → (peerOf s a).reach = true →
      ∃ t, exec (.idleExit p) s = .next t ∧ settled s t) ∧
  (∀ (s : State) (p : Nat) (a : Nat), resetLow s = false → (portOf s p).st = .idle → (portOf s p).exiting = false →
      (portOf s p).peerAddr = some a → (peerOf s a).reach = false →
      ∃ t, exec (.idleExit p) s = .next t ∧
        settled (emit (.leader p 5) (setPort p { portOf s p with exiting := true, lockRun := 0 } s)) t) ∧
  (∀ (s : State) (p : Nat), resetLow s = false → (portOf s p).st = .idle → (portOf s p).exiting = true →
      (portOf s p).lockRun ≠ 0 →
      ∃ t, exec (.idleExit p) s = .next t ∧ (portOf t p).st = .active ∧ (portOf t p).exiting = false ∧ (∀ r ∈ t.mci.running,
        r.wait ≠ .port p)) ∧
  (∀ (s : State) (p : Nat), resetLow s = false → (portOf s p).st = .idle → (portOf s p).exiting = true →
      (portOf s p).lockRun = 0 →
      ∃ t, exec (.idleExit p) s = .next t ∧ (portOf t p).st = .train ∧ (portOf t p).exiting = false ∧ (∀ r ∈ t.mci.running,
        r.wait ≠ .port p)) ∧
  (∀ (s : State) (p : Nat), resetLow s = false → (portOf s p).st ≠ .idle →
      ∃ t, exec (.idleExit p) s = .next t ∧ settled s t) ∧
  (∀ (s : State) (p : Nat), resetLow s = false → (portOf s p).test = true → bitAt (portOf s p).prbsCtl 7 = true →
      ∃ t, exec (.prbsInject p) s = .next t ∧ (let r := pickFree s
         let inv := ((List.range 4).filter (fun l => bitAt (portOf s p).prbsCtl (8 + l))).map (fun l => (l, r.1))
         settled (emit (.prbsError p (BitVec.ofNat 4 (fld (portOf s p).prbsCtl 8 4)))
           (setPort p { portOf s p with prbsCtl := setFld (portOf s p).prbsCtl 4 1 0, inj := inv } r.2)) t)) ∧
  (∀ (s : State) (p : Nat), resetLow s = false → (portOf s p).test = false ∨ bitAt (portOf s p).prbsCtl 7 = false →
      ∃ t, exec (.prbsInject p) s = .next t ∧ settled s t) ∧
  (∀ (s : State) (p l bits errs : Nat), resetLow s = false → (portOf s p).test = true → bitAt (portOf s p).prbsCtl 6 = true →
      l < laneCount (portOf s p).width → (smGet .reset (portOf s p).prbs l).lock = false → errs = 0 →
        1024 ≤ (smGet .reset (portOf s p).prbs l).run + bits →
      ∃ t, exec (.prbsChecker p l bits errs) s = .next t ∧
        settled (setPort p { portOf s p with prbs := smMod .reset (portOf s p).prbs l (fun c => { c with lock := true, run := 0, bits := 0, bad := 0 }) } s) t) ∧
  (∀ (s : State) (p l bits errs : Nat), resetLow s = false → (portOf s p).test = true → bitAt (portOf s p).prbsCtl 6 = true →
      l < laneCount (portOf s p).width → (smGet .reset (portOf s p).prbs l).lock = false → errs ≠ 0 →
      ∃ t, exec (.prbsChecker p l bits errs) s = .next t ∧
        settled (setPort p { portOf s p with prbs := smMod .reset (portOf s p).prbs l (fun c => { c with run := 0 }) } s) t) ∧
  (∀ (s : State) (p l bits errs : Nat), resetLow s = false → (portOf s p).test = true → bitAt (portOf s p).prbsCtl 6 = true →
      l < laneCount (portOf s p).width → (smGet .reset (portOf s p).prbs l).lock = false → errs = 0 →
        (smGet .reset (portOf s p).prbs l).run + bits < 1024 →
      ∃ t, exec (.prbsChecker p l bits errs) s = .next t ∧
        settled (setPort p { portOf s p with prbs := smMod .reset (portOf s p).prbs l (fun c => { c with run := c.run + bits }) } s) t) ∧
  (∀ (s : State) (p l bits errs : Nat), resetLow s = false → (portOf s p).test = true → bitAt (portOf s p).prbsCtl 6 = true →
      l < laneCount (portOf s p).width → (smGet .reset (portOf s p).prbs l).lock = true →
        (smGet .reset (portOf s p).prbs l).bad + errs < 64 → (smGet .reset (portOf s p).prbs l).bits + bits < 1024 →
      ∃ t, exec (.prbsChecker p l bits errs) s = .next t ∧
        settled (setPort p { portOf s p with prbs := smMod .reset (portOf s p).prbs l (fun c => { c with errs := Nat.min 32767 (c.errs + errs), bits := c.bits + bits, bad := c.bad + errs }) } s) t) ∧
  (∀ (s : State) (p l bits errs : Nat), resetLow s = false → (portOf s p).test = true → bitAt (portOf s p).prbsCtl 6 = true →
      l < laneCount (portOf s p).width → (smGet .reset (portOf s p).prbs l).lock = true →
        64 ≤ (smGet .reset (portOf s p).prbs l).bad + errs →
      ∃ t, exec (.prbsChecker p l bits errs) s = .next t ∧
        settled (setPort p { portOf s p with prbs := smMod .reset (portOf s p).prbs l (fun c => { c with errs := Nat.min 32767 (c.errs + errs), lock := false, run := 0, bits := 0, bad := 0 }) } s) t) ∧
  (∀ (s : State) (p l bits errs : Nat), resetLow s = false → (portOf s p).test = true → bitAt (portOf s p).prbsCtl 6 = true →
      l < laneCount (portOf s p).width → (smGet .reset (portOf s p).prbs l).lock = true →
        (smGet .reset (portOf s p).prbs l).bad + errs < 64 → 1024 ≤ (smGet .reset (portOf s p).prbs l).bits + bits →
      ∃ t, exec (.prbsChecker p l bits errs) s = .next t ∧
        settled (setPort p { portOf s p with prbs := smMod .reset (portOf s p).prbs l (fun c => { c with errs := Nat.min 32767 (c.errs + errs), bits := 0, bad := 0 }) } s) t) ∧
  (∀ (s : State) (p l bits errs : Nat), resetLow s = false → (portOf s p).test = false ∨ bitAt (portOf s p).prbsCtl 6 = false ∨
      laneCount (portOf s p).width ≤ l →
      ∃ t, exec (.prbsChecker p l bits errs) s = .next t ∧ settled s t) ∧
  (∀ (s : State) (p : Nat), s.pending = [] → s.aon.porLow = false → s.tst.tck = s.tst.tckWas → p < 8 →
      pdIsOn s (portDomain p) = true →
      ∃ t, step s = .next t ∧ portOf t p = portTx p (portOf s p)) ∧
  (∀ (p : Nat) (x : Port), x.st = .off ∨ x.st = .absent → x.test = false → (portTx p x).eidle = 0xF ∧ (portTx p x).take = 0) ∧
  (∀ (p : Nat) (x : Port), quiet x = false → x.rdy &&& laneEn x ≠ 0 → (portTx p x).eidle = ~~~laneEn x ∧
      (portTx p x).tx.length = laneCount x.width ∧
      (portTx p x).take = (x.txAcc + (if x.rate then 125 else 50)) / 64)

/-- O54. HELLO_SEND on an ACTIVE port sends this engine's HELLO. A HELLO of the neighbour known tells its identity and
changes no route; one with another address originates an LSA. A newer LSA is held, and no other one is touched; an
older one, or the own, is dropped; a message with a wrong MAC is dropped and counted. An LSA that claims this engine's
address under a lower ENGINE_ID makes it claim another, with its PEER event. LSA_REFRESH originates the LSA under the
next sequence number, LSA_AGE_OUT forgets one. ADDRESS_CLAIM takes the preferred address where it is free, or the
lowest free one. TIME_SYNC_TIMER stamps and sends TIME_REQ toward the master; TIME_REQ is answered with both stamps
and the own offset. TIME_RESP gives the offset to the master: within 500 ns the servo runs within 400 ppm, beyond it
the engine is UNSYNC with its event and steps forward or slews back, and the fourth good sync in a row ends that.
SYNC_LOSS_TIMEOUT makes an engine that is not the master UNSYNC. MESSAGE_FORWARD sends a routed message on with its
originator and a TTL reduced by one, and drops and counts it without a route or at the end of its TTL. (Model's
choices that it rests on: log 9, 105, 106, 107, 108, 109.) -/
def Obligations.FabricNetwork : Prop :=
  (∀ (s : State) (p : Nat), resetLow s = false → (portOf s p).st = .active →
      ∃ t, exec (.helloSend p) s = .next t ∧ sentOn p 0 (.hello (ownHello s p)) s t ∧ t.fab.peers = s.fab.peers) ∧
  (∀ (s : State) (p : Nat), resetLow s = false → (portOf s p).st ≠ .active →
      ∃ t, exec (.helloSend p) s = .next t ∧ settled s t) ∧
  (∀ (s : State) (h : MsgHdr) (m : Sys2Proof.Hello) (p : Nat), resetLow s = false → p = h.port → heard s h (.hello m) →
      m.addr = (portOf s p).peerAddr → m.cls = (portOf s p).peerClass →
      ∃ t, exec (.hello h m) s = .next t ∧
        portOf t p = { portOf s p with peerAddr := m.addr, peerId := m.id, peerClass := m.cls, peerUnsync := m.unsync } ∧
          t.fab.peers = s.fab.peers ∧ sameBut [.fab, .que, .tel, .evt] s t) ∧
  (∀ (s : State) (h : MsgHdr) (m : Sys2Proof.Hello) (p : Nat), resetLow s = false → p = h.port → heard s h (.hello m) →
      m.addr ≠ (portOf s p).peerAddr → s.fab.engineId ≠ 0 →
      ∃ t, exec (.hello h m) s = .next t ∧ (portOf t p).peerAddr = m.addr ∧ (portOf t p).peerId = m.id ∧
        t.fab.lsaSeq = (s.fab.lsaSeq + 1) % 2 ^ 32) ∧
  (∀ (s : State) (h : MsgHdr) (m : Sys2Proof.Lsa), resetLow s = false → heard s h (.lsa m) → m.id ≠ s.fab.engineId → (∀ l,
      lsaOf s m.id = some l → l.seq < m.seq) →
      ∃ t, exec (.lsa h m) s = .next t ∧ lsaOf t m.id = some m ∧ (∀ id, id ≠ m.id → lsaOf t id = lsaOf s id)) ∧
  (∀ (s : State) (h : MsgHdr) (m : Sys2Proof.Lsa) (l : Lsa), resetLow s = false → heard s h (.lsa m) → lsaOf s m.id = some l →
      m.seq ≤ l.seq →
      ∃ t, exec (.lsa h m) s = .next t ∧ sameBut [.que, .tel, .evt] s t) ∧
  (∀ (s : State) (h : MsgHdr) (m : Sys2Proof.Lsa), resetLow s = false → (portOf s h.port).st = .active →
      h.mac ≠ msgMac s h (.lsa m) →
      ∃ t, exec (.lsa h m) s = .next t ∧ countedOnly 0x61 1 s t ∧ t.fab = s.fab ∧ t.out = s.out) ∧
  (∀ (s : State) (h : MsgHdr) (m : Sys2Proof.Lsa) (a : Nat), resetLow s = false → heard s h (.lsa m) →
      m.id.toNat < s.fab.engineId.toNat → (∀ l, lsaOf s m.id = some l → l.seq < m.seq) → s.fab.addr = some a →
        m.addr = some a → keepsAddr s = false →
      ∃ t, exec (.lsa h m) s = .next t ∧ t.fab.addr ≠ some a ∧ eventSet t .fab 3) ∧
  (∀ (s : State), resetLow s = false → s.fab.engineId ≠ 0 →
      ∃ t, exec .lsaRefresh s = .next t ∧ t.fab.lsaSeq = (s.fab.lsaSeq + 1) % 2 ^ 32 ∧
        said s t = (activePorts s).map (fun _ => .lsa { ownLsa s with seq := (s.fab.lsaSeq + 1) % 2 ^ 32 })) ∧
  (∀ (s : State) (id : W64), resetLow s = false → (lsaOf s id).isSome = true →
      ∃ t, exec (.lsaAgeOut id) s = .next t ∧ lsaOf t id = none ∧ (∀ id, id ≠ id → lsaOf t id = lsaOf s id)) ∧
  (∀ (s : State), resetLow s = false → s.fab.claiming = true → s.fab.auto = false → s.fab.addr = none →
      s.fab.lsdb.any (fun l => l.addr == some s.fab.pref) = false →
        (List.range 8).any (fun p => (portOf s p).st == .active && (portOf s p).peerAddr == some s.fab.pref) = false →
      ∃ t, exec .addressClaim s = .next t ∧ t.fab.addr = some s.fab.pref ∧ t.fab.claiming = false ∧ eventSet t .fab 3) ∧
  (∀ (s : State) (a : Nat), resetLow s = false → s.fab.claiming = true → s.fab.auto = true → s.fab.addr = none → a < 64 →
      s.fab.lsdb.any (fun l => l.addr == some a) = false →
        (List.range 8).any (fun p => (portOf s p).st == .active && (portOf s p).peerAddr == some a) = false → (∀ b, b < a →
          s.fab.lsdb.any (fun l => l.addr == some b) = true) →
      ∃ t, exec .addressClaim s = .next t ∧ t.fab.addr = some a ∧ t.fab.claiming = false ∧ eventSet t .fab 3) ∧
  (∀ (s : State), resetLow s = false → s.fab.claiming = false →
      ∃ t, exec .addressClaim s = .next t ∧ settled s t) ∧
  (∀ (s : State) (p : Nat), resetLow s = false → masterPort s = some p → (portOf s p).st = .active →
      ∃ t, exec .timeSyncTimer s = .next t ∧ sentOn p 0 .timeReq s t ∧ (portOf t p).t1 = some (now s)) ∧
  (∀ (s : State), resetLow s = false → masterPort s = none →
      ∃ t, exec .timeSyncTimer s = .next t ∧ settled s t) ∧
  (∀ (s : State) (h : MsgHdr) (t2 t3 : Nat), resetLow s = false → heard s h .timeReq →
      ∃ t, exec (.timeReq h t2 t3) s = .next t ∧ sentOn h.port 0 (.timeResp t2 t3 s.fab.offset) s t ∧ t.time = s.time ∧
        t.servo = s.servo) ∧
  (∀ (s : State) (h : MsgHdr) (t2 t3 t4 t1 p : Nat) (offset o : Int), resetLow s = false → p = h.port →
      heard s h (.timeResp t2 t3 offset) → (portOf s p).t1 = some t1 → masterPort s = some p →
        o = (((t2 : Int) - t1) - ((t4 : Int) - t3)) / 2 + offset → s.fab.unsync = false → -500 ≤ o → o ≤ 500 →
      ∃ t, exec (.timeResp h t2 t3 offset t4) s = .next t ∧ t.fab.offset = o ∧ t.fab.unsync = false ∧ -servoMax ≤ t.servo ∧
        t.servo ≤ servoMax ∧ t.time = s.time ∧ t.fab.syncs = (s.fab.syncs + 1) % 2 ^ 32 ∧ (portOf t p).t1 = none) ∧
  (∀ (s : State) (h : MsgHdr) (t2 t3 t4 t1 p : Nat) (offset o : Int), resetLow s = false → p = h.port →
      heard s h (.timeResp t2 t3 offset) → (portOf s p).t1 = some t1 → masterPort s = some p →
        o = (((t2 : Int) - t1) - ((t4 : Int) - t3)) / 2 + offset → s.fab.unsync = false → 500 < o →
      ∃ t, exec (.timeResp h t2 t3 offset t4) s = .next t ∧ t.fab.unsync = true ∧ t.time = s.time + BitVec.ofNat 64 o.toNat ∧
        t.fab.offset = 0 ∧ eventSet t .fab (4 * p + 3) ∧ t.fab.syncs = (s.fab.syncs + 1) % 2 ^ 32 ∧ (portOf t p).t1 = none) ∧
  (∀ (s : State) (h : MsgHdr) (t2 t3 t4 t1 p : Nat) (offset o : Int), resetLow s = false → p = h.port →
      heard s h (.timeResp t2 t3 offset) → (portOf s p).t1 = some t1 → masterPort s = some p →
        o = (((t2 : Int) - t1) - ((t4 : Int) - t3)) / 2 + offset → s.fab.unsync = false → o < -500 →
      ∃ t, exec (.timeResp h t2 t3 offset t4) s = .next t ∧ t.fab.unsync = true ∧ t.time = s.time ∧ t.servo = -servoMax ∧
        t.fab.offset = o ∧ eventSet t .fab (4 * p + 3) ∧ t.fab.syncs = (s.fab.syncs + 1) % 2 ^ 32 ∧ (portOf t p).t1 = none) ∧
  (∀ (s : State) (h : MsgHdr) (t2 t3 t4 t1 p : Nat) (offset o : Int), resetLow s = false → p = h.port →
      heard s h (.timeResp t2 t3 offset) → (portOf s p).t1 = some t1 → masterPort s = some p →
        o = (((t2 : Int) - t1) - ((t4 : Int) - t3)) / 2 + offset → s.fab.unsync = true → s.fab.good = 3 → -500 ≤ o → o ≤ 500 →
      ∃ t, exec (.timeResp h t2 t3 offset t4) s = .next t ∧ t.fab.unsync = false ∧ t.fab.offset = o ∧ t.time = s.time ∧
        t.fab.syncs = (s.fab.syncs + 1) % 2 ^ 32 ∧ (portOf t p).t1 = none) ∧
  (∀ (s : State) (h : MsgHdr) (t2 t3 t4 p : Nat) (offset : Int), resetLow s = false → p = h.port →
      heard s h (.timeResp t2 t3 offset) → (portOf s p).t1 = none ∨ masterPort s ≠ some p →
      ∃ t, exec (.timeResp h t2 t3 offset t4) s = .next t ∧ sameBut [.que, .tel, .evt] s t) ∧
  (∀ (s : State), resetLow s = false → s.fab.unsync = false → s.fab.master = false →
      ∃ t, exec .syncLossTimeout s = .next t ∧ t.fab.unsync = true ∧ eventSet t .fab (4 * peerPort s s.fab.masterAddr + 3) ∧
        t.fab.ports = s.fab.ports ∧ t.time = s.time) ∧
  (∀ (s : State), resetLow s = false → s.fab.unsync = true ∨ s.fab.master = true →
      ∃ t, exec .syncLossTimeout s = .next t ∧ settled s t) ∧
  (∀ (s : State) (h : MsgHdr) (m : FabMsg) (p : Nat), resetLow s = false → (portOf s h.port).st = .active →
      msgIsHop m = false → h.hop = false → s.fab.addr ≠ some h.dst → (msgHasMac m = true → h.mac = msgMac s h m) →
        fromQuarantine s h = false → p = (peerOf s h.dst).nextPort → 1 < h.ttl → isMember s h.dst = true →
          (portOf s p).st = .active →
      ∃ t, exec (.messageForward h m) s = .next t ∧ ∃ g, t.out = s.out ++ [.fab g m] ∧ g.port = p ∧ g.src = h.src ∧
        g.hop = false ∧ g.dst = h.dst ∧ g.ttl = h.ttl - 1 ∧ g.lseq = (portOf s p).lseq % 65536 ∧
          g.mac = msgMac s { g with mac := 0 } m) ∧
  (∀ (s : State) (h : MsgHdr) (m : FabMsg) (p : Nat), resetLow s = false → (portOf s h.port).st = .active →
      msgIsHop m = false → h.hop = false → s.fab.addr ≠ some h.dst → (msgHasMac m = true → h.mac = msgMac s h m) →
        fromQuarantine s h = false → p = (peerOf s h.dst).nextPort → h.ttl ≤ 1 ∨ isMember s h.dst = false ∨
          (portOf s p).st ≠ .active →
      ∃ t, exec (.messageForward h m) s = .next t ∧ countedOnly 0x60 1 s t ∧ t.out = s.out ∧ t.fab = s.fab)

/-- O55. PAIR_HELLO forms the pair: at equal epochs the lower address is home, else the engine of the greater epoch, and
the epochs' difference starts a merge; in a pair that stands with the same home it only tells epoch and digest.
PAIR_HB tells epoch, digest, degraded causes and batch. PAIR_HB_SEND sends PAIR_HB and PAIR_HELLO to the partner.
PARTNER_LOST at the home jumps each mark half way to the end of its space; at the other engine it raises the epoch and
starts a takeover, unless the pair is SPLIT or the journal READ_ONLY; both raise the PEER event. DIGEST_MISMATCH_TIMER
makes the pair SPLIT with its event, or ends that. MIRROR_SEND sends the transmit records under the next batch number
and with every tenth the receive records. MIRROR_TX and MIRROR_RX keep what they tell, MIRROR_QUERY is answered with
the records held, MIRROR_REPLY answers the query that waits, and its group's writes are assembled. MARK_MERGE raises a
mark to the greater value, and at the home the last one's record is under way before MERGE_ACK; MERGE_ACK ends the
merge at the other engine. YIELD_NOTE changes nothing. (Model's choices that it rests on: log 9, 24, 92, 93, 94, 110.) -/
def Obligations.Pairs : Prop :=
  (∀ (s : State) (h : MsgHdr) (m : PairHello) (a : Nat), resetLow s = false → heardPartner s h (.pairHello m) a →
      s.fab.pair.formed = true → s.fab.pair.live = true → s.fab.pair.home = homeBy s m.epoch →
      ∃ t, exec (.pairHello h m) s = .next t ∧
        t.fab.pair = { s.fab.pair with peerEpoch := m.epoch, peerDigest := BitVec.ofNat 64 (beNat (slice m.digest 0 8)) } ∧
          sameBut [.fab, .que, .tel, .evt] s t) ∧
  (∀ (s : State) (h : MsgHdr) (m : PairHello) (a : Nat) (x : Nat), resetLow s = false → heardPartner s h (.pairHello m) a →
      s.fab.pair.formed = false → s.fab.pair.epoch = m.epoch → s.fab.addr = some x → canReach s a = true →
      ∃ t, exec (.pairHello h m) s = .next t ∧ t.fab.pair.formed = true ∧ t.fab.pair.live = true ∧
        t.fab.pair.unsettled = false ∧ t.fab.pair.takenOver = false ∧ t.fab.pair.home = decide (x < a) ∧
          t.fab.pair.merging = false ∧ (said s t).head? = some (.pairHello { epoch := m.epoch, digest := pairDigest s })) ∧
  (∀ (s : State) (h : MsgHdr) (m : PairHello) (a : Nat), resetLow s = false → heardPartner s h (.pairHello m) a →
      s.fab.pair.formed = false → epochAbove m.epoch s.fab.pair.epoch = true → epochAbove s.fab.pair.epoch m.epoch = false →
      ∃ t, exec (.pairHello h m) s = .next t ∧ t.fab.pair.formed = true ∧ t.fab.pair.live = true ∧
        t.fab.pair.unsettled = false ∧ t.fab.pair.takenOver = false ∧ t.fab.pair.home = false ∧ t.fab.pair.merging = true) ∧
  (∀ (s : State) (h : MsgHdr) (m : PairHb) (a : Nat), resetLow s = false → heardPartner s h (.pairHb m) a →
      ∃ t, exec (.pairHb h m) s = .next t ∧
        t.fab.pair = { s.fab.pair with peerEpoch := m.epoch, peerDigest := m.digest, peerDeg := m.deg, peerBatch := m.batch, mismatch := m.digest != digestPrefix s } ∧
        (peerOf t a).unsync = m.unsync ∧ sameBut [.fab, .que, .tel, .evt] s t) ∧
  (∀ (s : State) (a : Nat), resetLow s = false → s.fab.pair.partner = some a → canReach s a = true →
      ∃ t, exec .pairHbSend s = .next t ∧ said s t = [.pairHb (ownHb s),
        .pairHello { epoch := s.fab.pair.epoch, digest := pairDigest s }] ∧ t.fab.pair = s.fab.pair) ∧
  (∀ (s : State), resetLow s = false → s.fab.pair.partner = none →
      ∃ t, exec .pairHbSend s = .next t ∧ settled s t) ∧
  (∀ (s : State), resetLow s = false → s.fab.pair.formed = false ∨ s.fab.pair.live = false →
      ∃ t, exec .partnerLost s = .next t ∧ settled s t) ∧
  (∀ (s : State) (k : Nat), resetLow s = false → s.fab.pair.formed = true → s.fab.pair.live = true → s.fab.pair.home = true →
      pairKeys s = [k] → markOf s k ≠ 0 → s.jnl.pend = [] → quietLease s = true →
      ∃ t, exec .partnerLost s = .next t ∧ t.fab.pair = { s.fab.pair with live := false } ∧
        markOf t k = markOf s k + (keyEnd s k - markOf s k) / 2 ∧ eventSet t .fab (4 * peerPort s s.fab.pair.partner + 3) ∧
          fld t.fab.peerLog 60 4 = 6) ∧
  (∀ (s : State) (a : Nat), resetLow s = false → s.fab.pair.formed = true → s.fab.pair.live = true → s.fab.pair.home = false →
      s.fab.pair.partner = some a → s.fab.pair.split = false → readOnly s = false →
      ∃ t, exec .partnerLost s = .next t ∧
        t.fab.pair = { s.fab.pair with live := false, epoch := (s.fab.pair.epoch + 1) % 65536 } ∧
          workPending t (fun d => d == .takeover (2 ^ effGrain s s.jnl.grainPn) (2 ^ effGrain s s.jnl.grainXpn)) = true ∧
        eventSet t .fab (4 * peerPort s s.fab.pair.partner + 3) ∧ fld t.fab.peerLog 60 4 = 6) ∧
  (∀ (s : State), resetLow s = false → s.fab.pair.formed = true → s.fab.pair.live = true → s.fab.pair.home = false →
      s.fab.pair.split = true ∨ readOnly s = true →
      ∃ t, exec .partnerLost s = .next t ∧ t.fab.pair = { s.fab.pair with live := false } ∧ t.jnl = s.jnl ∧
        eventSet t .fab (4 * peerPort s s.fab.pair.partner + 3)) ∧
  (∀ (s : State) (a : Nat), resetLow s = false → s.fab.pair.partner = some a → s.fab.pair.formed = true →
      s.fab.pair.split = false → digestPrefix s ≠ s.fab.pair.peerDigest →
      ∃ t, exec .digestMismatchTimer s = .next t ∧ t.fab.pair = { s.fab.pair with split := true, mismatch := true } ∧
        eventSet t .fab (4 * peerPort s s.fab.pair.partner + 3) ∧ fld t.fab.peerLog 60 4 = 4) ∧
  (∀ (s : State) (a : Nat), resetLow s = false → s.fab.pair.partner = some a → s.fab.pair.formed = true →
      s.fab.pair.split = true → digestPrefix s = s.fab.pair.peerDigest →
      ∃ t, exec .digestMismatchTimer s = .next t ∧
        settled { s with fab := { s.fab with pair := { s.fab.pair with split := false, mismatch := false } } } t) ∧
  (∀ (s : State), resetLow s = false → s.fab.pair.formed = false ∨ s.fab.pair.partner = none →
      ∃ t, exec .digestMismatchTimer s = .next t ∧ settled s t) ∧
  (∀ (s : State) (a n : Nat) (u : State), resetLow s = false → s.fab.pair.partner = some a → canReach s a = true →
      n = (s.fab.pair.batch + 1) % 2 ^ 32 → u = { s with fab := { s.fab with pair := { s.fab.pair with batch := n } } } →
      ∃ t, exec .mirrorSend s = .next t ∧ t.fab.pair = u.fab.pair ∧ t.svc = s.svc ∧
        said s t = (chunks 127 33 (mirTxRecs u)).map .mirrorTx ++ (if n % 10 = 0 then (chunks 101 21 (mirRxRecs u)).map .mirrorRx else [])) ∧
  (∀ (s : State), resetLow s = false → s.fab.pair.partner = none →
      ∃ t, exec .mirrorSend s = .next t ∧ settled s t) ∧
  (∀ (s : State) (h : MsgHdr) (r : MirTx) (last : Bool) (a : Nat), resetLow s = false → heardPartner s h (.mirrorTx [r]) a →
      ∃ t, exec (.mirrorTx h [r] last) s = .next t ∧ smGet 0 t.svc.mirTx (r.sa % 4096) = (if r.valid then r.pn else 0) ∧ (∀ k,
        k ≠ r.sa % 4096 → smGet 0 t.svc.mirTx k = smGet 0 s.svc.mirTx k) ∧
        t.fab.pair = (if last then { s.fab.pair with mirAge := 0, peerBatch := r.batch } else s.fab.pair)) ∧
  (∀ (s : State) (h : MsgHdr) (r : MirRx) (a : Nat), resetLow s = false → heardPartner s h (.mirrorRx [r]) a →
      ∃ t, exec (.mirrorRx h [r]) s = .next t ∧ smGet 0 t.svc.mirRx (mirKey r) = r.low ∧ (∀ k, k ≠ mirKey r →
        smGet 0 t.svc.mirRx k = smGet 0 s.svc.mirRx k) ∧ t.fab = s.fab) ∧
  (∀ (s : State) (h : MsgHdr) (rs : List MirRx) (a : Nat), resetLow s = false → heardPartner s h (.mirrorQuery rs) a →
      canReach s a = true →
      ∃ t, exec (.mirrorQuery h rs) s = .next t ∧
        sentOn (peerOf s a).nextPort a (.mirrorReply (rs.map (fun r => { r with low := smGet 0 s.svc.mirRx (mirKey r) }))) s t ∧ t.svc = s.svc) ∧
  (∀ (s : State) (h : MsgHdr) (rs : List MirRx) (a : Nat) (j : Reprime), resetLow s = false →
      heardPartner s h (.mirrorReply rs) a → s.cxm.job = some j → j.asking = true →
      ∃ t, exec (.mirrorReply h rs) s = .next t ∧ t.cxm.job = some { j with asking := false, lows := rs, written := true } ∧
        t.fab = s.fab ∧ t.svc = s.svc) ∧
  (∀ (s : State) (h : MsgHdr) (rs : List MirRx) (a : Nat), resetLow s = false → heardPartner s h (.mirrorReply rs) a →
      s.cxm.job.all (fun j => !j.asking) = true →
      ∃ t, exec (.mirrorReply h rs) s = .next t ∧ sameBut [.que, .tel, .evt] s t) ∧
  (∀ (s : State) (h : MsgHdr) (r : MarkRec) (last : Bool) (a k : Nat), resetLow s = false →
      heardPartner s h (.markMerge [r] last) a → s.fab.pair.home = false → r.xpn = false → k = mergeKey s r.sa →
      ∃ t, exec (.markMerge h [r] last) s = .next t ∧ markOf t k = Nat.max (markOf s k) r.mark ∧ t.jnl.work = s.jnl.work ∧
        t.fab = s.fab ∧ noMessage s t = true) ∧
  (∀ (s : State) (h : MsgHdr) (r : MarkRec) (a : Nat), resetLow s = false → heardPartner s h (.markMerge [r] true) a →
      s.fab.pair.home = true → readOnly s = false →
      ∃ t, exec (.markMerge h [r] true) s = .next t ∧ workPending t (fun d => d == .merge true) = true ∧ t.jnl.caps = [] ∧
        t.fab.pair.capped = false ∧ noMessage s t = true) ∧
  (∀ (s : State) (h : MsgHdr) (a : Nat), resetLow s = false → heardPartner s h (.mergeAck) a → s.fab.pair.home = false →
      ∃ t, exec (.mergeAck h) s = .next t ∧ t.fab.pair = { s.fab.pair with merging := false, capped := false } ∧
        t.jnl.caps = []) ∧
  (∀ (s : State) (h : MsgHdr) (a : Nat), resetLow s = false → heardPartner s h (.mergeAck) a → s.fab.pair.home = true →
      ∃ t, exec (.mergeAck h) s = .next t ∧ sameBut [.que, .tel, .evt] s t) ∧
  (∀ (s : State) (h : MsgHdr) (a : Nat), resetLow s = false → heardPartner s h (.yieldNote) a →
      ∃ t, exec (.yieldNote h) s = .next t ∧ sameBut [.que, .tel, .evt] s t)

/-- O56. A CSR write to a refused window is BLOCKED, one where no register is NOMAP, an unprivileged one to a field that
needs privilege PRIV, an unprivileged one to an RWL field after the lock PRIV and counted in DENIED; none of them
changes a register. A write to AON_WAKE_CFG, AON_WAKE_TIME, the re-mask period, the TPIDs, the resend and rekey
settings takes the fields the table gives. A value outside a field's limits is ignored: RAMP_MAX, the sweep interval,
ENDURANCE, SHED_LO not below SHED_HI; CXM_REGION changes in COLD alone, and another base drops the trust. A read of
DENIED, of a port's counters, or of a queue's high-water mark answers with the value and then clears it, the mark to
the queue's count. FORCE sets STAT and not RAW; without privilege it is refused. FIRST clears where VALID is written
1. The tamper latch clears, with privilege in LOCKOUT, where its input is low. TEL_CNT is written whole with OVF
cleared by a 1, and the wrap record ends by a 1 to VALID. (Model's choices that it rests on: log 33, 115, 116, 117,
118, 119, 132.) -/
def Obligations.RegisterAccess : Prop :=
  (∀ (s : State) (addr sp off : Nat) (v : W64) (priv : Bool), resetLow s = false → s.glb.testMode = false → pdIsOn s 1 = true →
      spanOf (addr % 0x400000 / 8 * 8) = (sp, off) → blockedAt s sp off = true →
      ∃ t, exec (.registerWrite addr v priv) s = .next t ∧ settled (emit (.csr 3 0) s) t) ∧
  (∀ (s : State) (addr sp off : Nat) (v : W64) (priv : Bool), resetLow s = false → s.glb.testMode = false → pdIsOn s 1 = true →
      spanOf (addr % 0x400000 / 8 * 8) = (sp, off) → blockedAt s sp off = false → regAt s sp off = none →
      ∃ t, exec (.registerWrite addr v priv) s = .next t ∧ settled (emit (.csr 2 0) s) t) ∧
  (∀ (s : State) (addr sp off : Nat) (v : W64) (priv : Bool), resetLow s = false → s.glb.testMode = false → pdIsOn s 1 = true →
      spanOf (addr % 0x400000 / 8 * 8) = (sp, off) → blockedAt s sp off = false → (regAt s sp off).isSome = true →
        hqAt off = none → writePriv sp off = true → priv = false →
      ∃ t, exec (.registerWrite addr v priv) s = .next t ∧ settled (emit (.csr 1 0) s) t) ∧
  (∀ (s : State) (addr sp off : Nat) (v : W64) (priv : Bool), resetLow s = false → s.glb.testMode = false → pdIsOn s 1 = true →
      spanOf (addr % 0x400000 / 8 * 8) = (sp, off) → blockedAt s sp off = false → (regAt s sp off).isSome = true →
        hqAt off = none → writePriv sp off = false → hasRwl sp off = true → s.glb.locked = true → priv = false →
      ∃ t, exec (.registerWrite addr v priv) s = .next t ∧
        settled (emit (.csr 1 0) { s with glb := { s.glb with denied := satAdd 16 s.glb.denied 1 } }) t) ∧
  (∀ (s : State) (v : W64) (priv : Bool), resetLow s = false → s.glb.testMode = false → pdIsOn s 1 = true →
      ∃ t, exec (.registerWrite 0x10030 v priv) s = .next t ∧
        settled (emit (.csr 0 0) ({ s with aon := { s.aon with wakeCfg := v &&& 7 } })) t) ∧
  (∀ (s : State) (v : W64) (priv : Bool), resetLow s = false → s.glb.testMode = false → pdIsOn s 1 = true →
      ∃ t, exec (.registerWrite 0x10038 v priv) s = .next t ∧
        settled (emit (.csr 0 0) ({ s with aon := { s.aon with wakeTime := v } })) t) ∧
  (∀ (s : State) (v : W64) (priv : Bool), resetLow s = false → s.glb.testMode = false → pdIsOn s 1 = true →
      ∃ t, exec (.registerWrite 0x80018 v priv) s = .next t ∧
        settled (emit (.csr 0 0) ({ s with vlt := { s.vlt with remaskPeriod := v &&& 0xFFFF } })) t) ∧
  (∀ (s : State) (v : W64) (priv : Bool), resetLow s = false → s.glb.testMode = false → pdIsOn s 1 = true → (priv = true ∨
      s.glb.locked = false) →
      ∃ t, exec (.registerWrite 0x100018 v priv) s = .next t ∧
        settled (emit (.csr 0 0) ({ s with ecfg := { s.ecfg with tpid := v &&& 0xFFFFFFFFFFFF } })) t) ∧
  (∀ (s : State) (v : W64) (priv : Bool), resetLow s = false → s.glb.testMode = false → pdIsOn s 1 = true → (priv = true ∨
      s.glb.locked = false) →
      ∃ t, exec (.registerWrite 0x200038 v priv) s = .next t ∧
        settled (emit (.csr 0 0) ({ s with jnl := { s.jnl with rekey := v } })) t) ∧
  (∀ (s : State) (v : W64) (priv : Bool), resetLow s = false → s.glb.testMode = false → pdIsOn s 1 = true →
      ∃ t, exec (.registerWrite 0x110 v priv) s = .next t ∧ settled (emit (.csr 0 0) (if 1 ≤ fld v 0 4 ∧
        fld v 0 4 ≤ 8 then { s with glb := { s.glb with rampMax := fld v 0 4 } } else s)) t) ∧
  (∀ (s : State) (v : W64) (priv : Bool), resetLow s = false → s.glb.testMode = false → pdIsOn s 1 = true →
      ∃ t, exec (.registerWrite 0x1C0030 v priv) s = .next t ∧
        settled (emit (.csr 0 0) (if 8 ≤ fld v 0 16 then { s with cxm := { s.cxm with interval := fld v 0 16 } } else s)) t) ∧
  (∀ (s : State) (v : W64) (priv : Bool), resetLow s = false → s.glb.testMode = false → pdIsOn s 1 = true → (priv = true ∨
      s.glb.locked = false) →
      ∃ t, exec (.registerWrite 0x200020 v priv) s = .next t ∧ settled (emit (.csr 0 0) (if 1024 ≤ fld v 0 33 ∧
        fld v 0 33 ≤ 2 ^ 32 then { s with jnl := { s.jnl with endurance := v &&& ones 0 33 } } else s)) t) ∧
  (∀ (s : State) (v : W64) (priv : Bool), resetLow s = false → s.glb.testMode = false → pdIsOn s 1 = true →
      ∃ t, exec (.registerWrite 0x100020 v priv) s = .next t ∧
        settled (emit (.csr 0 0) (if fld v 0 16 < fld v 16 16 then { s with egr := { s.egr with shedCfg := v &&& 0xFFFFFFFF } } else s)) t) ∧
  (∀ (s : State) (v : W64) (priv : Bool), resetLow s = false → s.glb.testMode = false → pdIsOn s 1 = true → (priv = true ∨
      s.glb.locked = false) → s.glb.mode = .cold →
      ∃ t, exec (.registerWrite 0x1C0020 v priv) s = .next t ∧
        settled (emit (.csr 0 0) ({ s with cxm := { s.cxm with region := v &&& ones 24 16, trusted := s.cxm.trusted && s.cxm.region == (v &&& ones 24 16) } })) t) ∧
  (∀ (s : State) (v : W64) (priv : Bool), resetLow s = false → s.glb.testMode = false → pdIsOn s 1 = true → (priv = true ∨
      s.glb.locked = false) → s.glb.mode ≠ .cold →
      ∃ t, exec (.registerWrite 0x1C0020 v priv) s = .next t ∧ settled (emit (.csr 0 0) (s)) t) ∧
  (∀ (s : State) (priv : Bool), resetLow s = false → s.glb.testMode = false → pdIsOn s 1 = true →
      ∃ t, exec (.readClear 0x40 priv) s = .next t ∧
        t.out = s.out ++ [.csr 0 (BitVec.ofNat 64 (csrRead s 0x40 priv).2.toNat)] ∧
          settled { s with out := t.out, glb := { s.glb with denied := 0 } } t) ∧
  (∀ (s : State) (p : Nat) (priv : Bool), resetLow s = false → s.glb.testMode = false → pdIsOn s 1 = true → p < 8 →
      ∃ t, exec (.readClear (0x240108 + 0x20 * p) priv) s = .next t ∧
        t.out = s.out ++ [.csr 0 (csrRead s (0x240108 + 0x20 * p) priv).2] ∧
          portOf t p = { portOf s p with retrains := 0, symErr := 0 } ∧ (∀ j, j ≠ p → portOf t j = portOf s j) ∧ sameBut [.fab,
            .out, .evt] s t) ∧
  (∀ (s : State) (q : Nat) (priv : Bool), resetLow s = false → s.glb.testMode = false → pdIsOn s 1 = true → q < 24 →
      ∃ t, exec (.readClear (0x301008 + 0x40 * q) priv) s = .next t ∧
        t.out = s.out ++ [.csr 0 (csrRead s (0x301008 + 0x40 * q) priv).2] ∧
          queOf t q = { queOf s q with hw := queCount (queOf s q) } ∧ (∀ j, j ≠ q → queOf t j = queOf s j) ∧ sameBut [.que,
            .out, .evt] s t) ∧
  (∀ (s : State) (addr : Nat) (priv : Bool), resetLow s = false → s.glb.testMode = false → pdIsOn s 1 = true →
      (csrRead s addr priv).1 ≠ 0 →
      ∃ t, exec (.readClear addr priv) s = .next t ∧ settled (emit (.csr (csrRead s addr priv).1 (csrRead s addr priv).2) s) t) ∧
  (∀ (s : State) (u : Sub) (sub w : Nat) (data : W64), resetLow s = false → s.glb.testMode = false → pdIsOn s 1 = true →
      subAt sub = some u → w < 2 →
      ∃ t, exec (.evtForce sub w data true) s = .next t ∧ t.out = s.out ++ [.csr 0 0] ∧ (∀ i, i < 64 → 64 * w + i < 72 →
        data.getLsbD i = true → u.defined.getLsbD (64 * w + i) = true →
          (t.evt.get u).stat.getLsbD (64 * w + i) = true ∧ ((s.evt.get u).pendReal = 0 →
            (levelOf s u).getLsbD (64 * w + i) = false →
            (s.evt.get u).clr = 0 → (t.evt.get u).raw.getLsbD (64 * w + i) = (s.evt.get u).raw.getLsbD (64 * w + i))) ∧
        sameBut [.evt, .out] s t) ∧
  (∀ (s : State) (u : Sub) (sub w : Nat) (data : W64), resetLow s = false → s.glb.testMode = false → pdIsOn s 1 = true →
      subAt sub = some u → w < 2 →
      ∃ t, exec (.evtForce sub w data false) s = .next t ∧ settled (emit (.csr 1 0) s) t) ∧
  (∀ (s : State) (u : Sub) (sub : Nat) (data : W64), resetLow s = false → s.glb.testMode = false → pdIsOn s 1 = true →
      subAt sub = some u → eventsSound s → bitAt data 63 = true →
      ∃ t, exec (.firstClear sub data) s = .next t ∧ (t.evt.get u).first = 0 ∧ t.out = s.out ++ [.csr 0 0] ∧ sameBut [.evt,
        .out] s t) ∧
  (∀ (s : State) (u : Sub) (sub : Nat) (data : W64), resetLow s = false → s.glb.testMode = false → pdIsOn s 1 = true →
      subAt sub = some u → eventsSound s → bitAt data 63 = false →
      ∃ t, exec (.firstClear sub data) s = .next t ∧ (t.evt.get u).first = (s.evt.get u).first ∧ t.out = s.out ++ [.csr 0 0] ∧
        sameBut [.evt, .out] s t) ∧
  (∀ (s : State) (data : W64), resetLow s = false → s.glb.testMode = false → pdIsOn s 1 = true → s.glb.mode = .lockout →
      ∃ t, exec (.tamperLatchClear data true) s = .next t ∧ (∀ i, i < 5 →
        t.aon.tmpLatched.getLsbD i = (s.aon.tmpLatched.getLsbD i && !(data.getLsbD (8 + i) && !(decide (i < 4) && s.aon.tmpLive.getLsbD i)))) ∧
        t.out = s.out ++ [.csr 0 0] ∧ t.glb = s.glb) ∧
  (∀ (s : State) (data : W64), resetLow s = false → s.glb.testMode = false → pdIsOn s 1 = true → s.glb.mode ≠ .lockout →
      ∃ t, exec (.tamperLatchClear data true) s = .next t ∧ settled (emit (.csr 0 0) s) t) ∧
  (∀ (s : State) (data : W64), resetLow s = false → s.glb.testMode = false → pdIsOn s 1 = true →
      ∃ t, exec (.tamperLatchClear data false) s = .next t ∧ settled (emit (.csr 1 0) s) t) ∧
  (∀ (s : State) (i : Nat) (data : W64), resetLow s = false → s.glb.testMode = false → pdIsOn s 1 = true → i < 256 →
      telOn s = true →
      ∃ t, exec (.telCntWrite i data true) s = .next t ∧
        smGet 0 t.tel.cnt i = (put (fld data 0 48) 0 48 ||| putB (bitAt (smGet 0 s.tel.cnt i) 63 && !bitAt data 63) 63) ∧
        (∀ j, j ≠ i → smGet 0 t.tel.cnt j = smGet 0 s.tel.cnt j) ∧ sameBut [.tel, .out, .evt] s t) ∧
  (∀ (s : State) (i : Nat) (data : W64), resetLow s = false → s.glb.testMode = false → pdIsOn s 1 = true → i < 256 →
      ∃ t, exec (.telCntWrite i data false) s = .next t ∧ settled (emit (.csr 1 0) s) t) ∧
  (∀ (s : State) (i : Nat) (data : W64), resetLow s = false → s.glb.testMode = false → pdIsOn s 1 = true → i < 256 →
      telOn s = false →
      ∃ t, exec (.telCntWrite i data true) s = .next t ∧ settled (emit (.csr 0 0) s) t) ∧
  (∀ (s : State) (data : W64), resetLow s = false → s.glb.testMode = false → pdIsOn s 1 = true → telOn s = true →
      bitAt data 63 = true →
      ∃ t, exec (.wrapLogClear data true) s = .next t ∧
        settled (emit (.csr 0 0) ({ s with tel := { s.tel with wrapLog := 0, wrapTime := 0 } })) t) ∧
  (∀ (s : State) (data : W64), resetLow s = false → s.glb.testMode = false → pdIsOn s 1 = true → telOn s = false ∨
      bitAt data 63 = false →
      ∃ t, exec (.wrapLogClear data true) s = .next t ∧ settled (emit (.csr 0 0) (s)) t) ∧
  (∀ (s : State) (data : W64), resetLow s = false → s.glb.testMode = false → pdIsOn s 1 = true →
      ∃ t, exec (.wrapLogClear data false) s = .next t ∧ settled (emit (.csr 1 0) s) t)

/-- O57. ESCALATION_EXPIRY of a running timer applies what the configured actions ask for: LOCKOUT, with cause 7; every
affected SecY that is ON drains; CXM leaves service with its degraded cause; the timer reads fired with LAST, and a
timer that does not run changes nothing. SVC_RAM_UNCORRECTABLE restarts the service: its event, the commands in
progress end ABORTED, the duplicate cache and the mirror are empty, and the third restart within 10 s stops it;
SVC_RESTART_DONE ends a restart unless the service is stopped or the DRBG is due for a reseed; every CA's participant
begins anew. PD_GATE_REQUEST of a domain that is on begins its gating and takes its ports down; PD_GATE_COMPLETE with
no unit at work switches it off, and on again where the request was withdrawn. CHK_JOB_END over the whole range, on
context memory, cistern and journal that of the reads made: no reference, match, mismatch, damaged reference, or
failed access, with CRC, length, count and event. DAILIES_START starts a waiting job and counts a start that a run or
DOZE skips. WRAP_SAMPLE records a wrap, or sets MORE. SCAN_ENTER and MBIST_RUN zeroize the vault and stop traffic, in
test mode; MBIST_COMPLETE ends a group, and after the vault's array zeroizes it. (Model's choices that it rests on:
log 120, 121, 122, 123, 124, 125, 166, 167.) -/
def Obligations.EscalationServiceAndGates : Prop :=
  (∀ (s : State) (u : Sub) (sub : Nat), resetLow s = false → subAt sub = some u → (s.evt.get u).escState = .running →
      s.glb.mode ≠ .lockout → escDue s u = [4] →
      ∃ t, exec (.escalationExpiry sub) s = .next t ∧ t.glb.mode = .lockout ∧ t.glb.cause = 7 ∧ t.glb.prev = s.glb.mode ∧
        (t.evt.get u).escState = .fired ∧ fld (t.evt.get u).escAct 16 3 = 4) ∧
  (∀ (s : State) (u : Sub) (sub l : Nat) (y : Secy), resetLow s = false → subAt sub = some u →
      (s.evt.get u).escState = .running → s.glb.mode ≠ .lockout → escDue s u = [2] → l ∈ (s.evt.get u).aff →
        secyOf s l = some y → y.st = .on →
      ∃ t, exec (.escalationExpiry sub) s = .next t ∧ (secyOf t l).map (·.st) = some .draining ∧ t.glb.mode = s.glb.mode ∧
        (t.evt.get u).escState = .fired ∧ fld (t.evt.get u).escAct 16 3 = 2) ∧
  (∀ (s : State) (sub : Nat), resetLow s = false → subAt sub = some .cxm → (s.evt.get .cxm).escState = .running →
      s.glb.mode ≠ .lockout → escDue s .cxm = [3] →
      ∃ t, exec (.escalationExpiry sub) s = .next t ∧ t.cxm.oos = true ∧ t.glb.deg.getLsbD 4 = true ∧
        (t.evt.get .cxm).escState = .fired ∧ fld (t.evt.get .cxm).escAct 16 3 = 3) ∧
  (∀ (s : State) (u : Sub) (sub : Nat), resetLow s = false → subAt sub = some u → (s.evt.get u).escState ≠ .running ∨
      s.glb.mode = .lockout →
      ∃ t, exec (.escalationExpiry sub) s = .next t ∧ settled s t) ∧
  (∀ (s : State) (q : QCmd) (n : Nat) (w : Wait), resetLow s = false → s.mci.running = [⟨q, w⟩] → s.mci.cmdq = [] →
      q.pkt.req = .hq n → n < 4 → pdIsOn s 2 = true → s.svc.stopped = false →
      ∃ t, exec .svcRamUncorrectable s = .next t ∧ (hostSlot t n q.pkt.slot).rep = [repHeader q 0x21 0 0 0] ∧
        t.mci.running = [] ∧ t.mci.dups = [] ∧ t.svc.restarting = true ∧ t.svc.mirTx = [] ∧ t.svc.mirRx = [] ∧
        eventSet t .svc 5 ∧ t.svc.stopped = restartLimit s (stampAdd s.svc.restartStamps (now s)) ∧ t.tx = s.tx ∧ t.rx = s.rx ∧
          t.secys = s.secys) ∧
  (∀ (s : State), resetLow s = false → pdIsOn s 2 = true → s.svc.stopped = true →
      ∃ t, exec .svcRamUncorrectable s = .next t ∧ settledWith .svc 5 s t) ∧
  (∀ (s : State), resetLow s = false → pdIsOn s 2 = false →
      ∃ t, exec .svcRamUncorrectable s = .next t ∧ settled s t) ∧
  (∀ (s : State), resetLow s = false → s.svc.restarting = true → s.svc.stopped = false → drbgFull s = false → s.svc.cas = [] →
      ∃ t, exec .svcRestartDone s = .next t ∧ settled { s with svc := { s.svc with restarting := false } } t) ∧
  (∀ (s : State) (l : Nat) (p : MkPart), resetLow s = false → s.svc.restarting = true → s.svc.stopped = false →
      drbgFull s = false → l ∈ smKeys s.svc.cas → (caOf s l).first = some p →
      ∃ t, exec .svcRestartDone s = .next t ∧ t.svc.restarting = false ∧
        ∃ q, (caOf t l).first = some q ∧ q.ckn = p.ckn ∧ q.cak = p.cak ∧ q.peers = [] ∧ q.ks = none ∧ q.txKid = none ∧
          q.rxKid = none ∧ q.phase = .none) ∧
  (∀ (s : State), resetLow s = false → s.svc.restarting = false ∨ s.svc.stopped = true ∨ drbgFull s = true →
      ∃ t, exec .svcRestartDone s = .next t ∧ settled s t) ∧
  (∀ (s : State) (i : Nat), resetLow s = false → s.glb.testMode = false → pdIsOn s 1 = true → i < 4 → s.glb.pdReq = 0 →
      s.glb.gating = 0 → pdIsOn s (52 + i) = true →
      ∃ t, exec (.pdGateRequest (BitVec.ofNat 64 (2 ^ i))) s = .next t ∧ t.glb.pdReq = BitVec.ofNat 4 (2 ^ i) ∧
        t.glb.gating = BitVec.ofNat 4 (2 ^ i) ∧ (∀ p ∈ domainPorts i, (portOf s p).st ≠ .off → (portOf t p).down = true ∧
          (portOf t p).en = false)) ∧
  (∀ (s : State) (i : Nat), resetLow s = false → s.glb.testMode = false → pdIsOn s 1 = true → i < 4 →
      s.glb.pdReq = BitVec.ofNat 4 (2 ^ i) → s.glb.gating = 0 → pdIsOn s (52 + i) = false → s.glb.ramping = [] →
        s.glb.fwOk = true →
      ∃ t, exec (.pdGateRequest 0) s = .next t ∧ t.glb = { s.glb with pdReq := 0, ramping := [52 + i] } ∧
        t.out = s.out ++ [.csr 0 0] ∧ sameBut [.glb, .out, .evt] s t) ∧
  (∀ (s : State) (i : Nat), resetLow s = false → i < 4 → s.glb.gating.getLsbD i = true → domainIdle i s = true →
      s.glb.pdReq.getLsbD i = true →
      ∃ t, exec (.pdGateComplete (52 + i)) s = .next t ∧ pdIsOn t (52 + i) = false ∧ t.glb.gating.getLsbD i = false ∧
        (52 + i) ∉ t.glb.ramping ∧ (∀ n, n ≠ 52 + i → pdIsOn t n = pdIsOn s n)) ∧
  (∀ (s : State) (i : Nat), resetLow s = false → i < 4 → s.glb.gating.getLsbD i = true → domainIdle i s = true →
      s.glb.pdReq.getLsbD i = false →
      ∃ t, exec (.pdGateComplete (52 + i)) s = .next t ∧ pdIsOn t (52 + i) = false ∧ t.glb.gating.getLsbD i = false ∧
        (52 + i) ∈ t.glb.ramping ∧ (∀ n, n ≠ 52 + i → pdIsOn t n = pdIsOn s n)) ∧
  (∀ (s : State) (n : Nat), resetLow s = false → n < 52 ∨ 56 ≤ n ∨ s.glb.gating.getLsbD (n - 52) = false ∨
      domainIdle (n - 52) s = false →
      ∃ t, exec (.pdGateComplete n) s = .next t ∧ settled s t) ∧
  (∀ (s : State) (k : Nat) (data : List Byte) (p : ChkProg) (fail rd : Bool), resetLow s = false → k < 4 →
      (chkOf s k).prog = some p → (chkOf s k).st = .running → (chkOf s k).paused = false → s.glb.gating = 0 →
        (jobBytes s k p data).length = p.len → jobBad s k p fail = false → p.useRef = false →
      ∃ t, exec (.chkJobEnd k data fail rd) s = .next t ∧ (chkOf t k).outcome = 0 ∧
        (chkOf t k).crc = chkCrc p (jobBytes s k p data) ∧ (chkOf t k).scanned = (jobBytes s k p data).length ∧
          (chkOf t k).alive = ((chkOf s k).alive + 1) % 65536 ∧
        eventSet t .chk (k + 4 * 0) ∧ (∀ j, j ≠ k → chkOf t j = chkOf s j)) ∧
  (∀ (s : State) (k : Nat) (data : List Byte) (p : ChkProg) (fail rd : Bool), resetLow s = false → k < 4 →
      (chkOf s k).prog = some p → (chkOf s k).st = .running → (chkOf s k).paused = false → s.glb.gating = 0 →
        (jobBytes s k p data).length = p.len → jobBad s k p fail = false → p.useRef = true → rd = false →
          chkCrc p (jobBytes s k p data) = p.reference →
      ∃ t, exec (.chkJobEnd k data fail rd) s = .next t ∧ (chkOf t k).outcome = 1 ∧
        (chkOf t k).crc = chkCrc p (jobBytes s k p data) ∧ (chkOf t k).scanned = (jobBytes s k p data).length ∧
          (chkOf t k).alive = ((chkOf s k).alive + 1) % 65536 ∧
        eventSet t .chk (k + 4 * 0) ∧ (∀ j, j ≠ k → chkOf t j = chkOf s j)) ∧
  (∀ (s : State) (k : Nat) (data : List Byte) (p : ChkProg) (fail rd : Bool), resetLow s = false → k < 4 →
      (chkOf s k).prog = some p → (chkOf s k).st = .running → (chkOf s k).paused = false → s.glb.gating = 0 →
        (jobBytes s k p data).length = p.len → jobBad s k p fail = false → p.useRef = true → rd = false →
          chkCrc p (jobBytes s k p data) ≠ p.reference →
      ∃ t, exec (.chkJobEnd k data fail rd) s = .next t ∧ (chkOf t k).outcome = 2 ∧
        (chkOf t k).crc = chkCrc p (jobBytes s k p data) ∧ (chkOf t k).scanned = (jobBytes s k p data).length ∧
          (chkOf t k).alive = ((chkOf s k).alive + 1) % 65536 ∧
        eventSet t .chk (k + 4 * 1) ∧ (∀ j, j ≠ k → chkOf t j = chkOf s j)) ∧
  (∀ (s : State) (k : Nat) (data : List Byte) (p : ChkProg) (fail rd : Bool), resetLow s = false → k < 4 →
      (chkOf s k).prog = some p → (chkOf s k).st = .running → (chkOf s k).paused = false → s.glb.gating = 0 →
        (jobBytes s k p data).length = p.len → jobBad s k p fail = false → p.useRef = true → rd = true →
      ∃ t, exec (.chkJobEnd k data fail rd) s = .next t ∧ (chkOf t k).outcome = 3 ∧
        (chkOf t k).crc = chkCrc p (jobBytes s k p data) ∧ (chkOf t k).scanned = (jobBytes s k p data).length ∧
          (chkOf t k).alive = ((chkOf s k).alive + 1) % 65536 ∧
        eventSet t .chk (k + 4 * 2) ∧ (∀ j, j ≠ k → chkOf t j = chkOf s j)) ∧
  (∀ (s : State) (k : Nat) (data : List Byte) (p : ChkProg) (fail rd : Bool), resetLow s = false → k < 4 →
      (chkOf s k).prog = some p → (chkOf s k).st = .running → (chkOf s k).paused = false → s.glb.gating = 0 →
        jobBad s k p fail = true → (jobBytes s k p data).length ≤ p.len →
      ∃ t, exec (.chkJobEnd k data fail rd) s = .next t ∧ (chkOf t k).outcome = 4 ∧
        (chkOf t k).crc = chkCrc p (jobBytes s k p data) ∧ (chkOf t k).scanned = (jobBytes s k p data).length ∧
          (chkOf t k).alive = ((chkOf s k).alive + 1) % 65536 ∧
        eventSet t .chk (k + 4 * 3) ∧ (∀ j, j ≠ k → chkOf t j = chkOf s j)) ∧
  (∀ (s : State) (k : Nat) (data : List Byte) (p : ChkProg) (fail rd : Bool), resetLow s = false → k < 4 →
      (chkOf s k).prog = some p → (chkOf s k).st = .running → (chkOf s k).paused = false → s.glb.gating = 0 →
        (jobBytes s k p data).length = p.len → jobBad s k p fail = false → p.dailies = true →
      ∃ t, exec (.chkJobEnd k data fail rd) s = .next t ∧ (chkOf t k).st = .waiting ∧ (chkOf t k).prog = some p) ∧
  (∀ (s : State) (k : Nat) (data : List Byte) (p : ChkProg) (fail rd : Bool), resetLow s = false → k < 4 →
      (chkOf s k).prog = some p → (chkOf s k).st = .running → (chkOf s k).paused = false → s.glb.gating = 0 →
        jobBad s k p fail = false → (jobBytes s k p data).length ≠ p.len →
      ∃ t, exec (.chkJobEnd k data fail rd) s = .next t ∧ settled s t) ∧
  (∀ (s : State) (k : Nat) (p : ChkProg), resetLow s = false → k < 4 → (chkOf s k).prog = some p → p.dailies = true →
      (chkOf s k).st = .waiting → s.glb.mode ≠ .doze ∨ 2 ≤ p.region →
      ∃ t, exec (.dailiesStart k) s = .next t ∧ settled (setChk k (chkGo p (chkOf s k)) s) t) ∧
  (∀ (s : State) (k : Nat) (p : ChkProg), resetLow s = false → k < 4 → (chkOf s k).prog = some p → p.dailies = true →
      (chkOf s k).st = .running ∨ ((chkOf s k).st = .waiting ∧ s.glb.mode = .doze ∧ p.region < 2) →
      ∃ t, exec (.dailiesStart k) s = .next t ∧
        settled (setChk k { chkOf s k with skipped := satAdd 16 (chkOf s k).skipped 1 } s) t) ∧
  (∀ (s : State) (k : Nat), resetLow s = false → 4 ≤ k ∨ (chkOf s k).prog = none →
      ∃ t, exec (.dailiesStart k) s = .next t ∧ settled s t) ∧
  (∀ (s : State) (i l : Nat), resetLow s = false → telOn s = true → s.tel.wrapPend.contains i = true →
      bitAt s.tel.wrapLog 63 = false → i < 256 →
      ∃ t, exec (.wrapSample i l) s = .next t ∧ eventSet t .tel 0 ∧ t.tel.wrapTime = s.time ∧ bitAt t.tel.wrapLog 63 = true ∧
        fld t.tel.wrapLog 0 8 = i ∧
        bitAt t.tel.wrapLog 62 = linkBound (fld (smGet 0 s.tel.cfg i) 0 9) ∧
          (linkBound (fld (smGet 0 s.tel.cfg i) 0 9) = true → fld t.tel.wrapLog 16 10 = l % 1024)) ∧
  (∀ (s : State) (i l : Nat), resetLow s = false → telOn s = true → s.tel.wrapPend.contains i = true →
      bitAt s.tel.wrapLog 63 = true →
      ∃ t, exec (.wrapSample i l) s = .next t ∧ eventSet t .tel 0 ∧ t.tel.wrapLog = s.tel.wrapLog ||| putB true 61 ∧
        t.tel.wrapTime = s.tel.wrapTime) ∧
  (∀ (s : State) (i l : Nat), resetLow s = false → telOn s = false ∨ s.tel.wrapPend.contains i = false →
      ∃ t, exec (.wrapSample i l) s = .next t ∧ settled s t) ∧
  (∀ (s : State), resetLow s = false → s.glb.testMode = false →
      ∃ t, exec .scanEnter s = .next t ∧ t.glb.testMode = true ∧ t.glb.mode = .lockout ∧ (∀ n, (vslot t n).st = .empty) ∧
        t.egr.frames = [] ∧ t.ing.frames = [] ∧ t.mci.running = [] ∧ t.mci.cmdq = []) ∧
  (∀ (s : State) (mask : BitVec 8), resetLow s = false → s.glb.testMode = false →
      ∃ t, exec (.mbistRun mask) s = .next t ∧ t.glb.testMode = true ∧ t.glb.mode = .lockout ∧ (∀ n, (vslot t n).st = .empty) ∧
        t.glb.mbistRun = s.glb.mbistRun ||| mask ∧ t.glb.mbistDone = s.glb.mbistDone &&& ~~~mask) ∧
  (∀ (s : State) (g : Nat) (pass : Bool), resetLow s = false → g < 8 → g ≠ 2 → s.glb.mbistRun.getLsbD g = true →
      ∃ t, exec (.mbistComplete g pass) s = .next t ∧ t.glb.mbistDone.getLsbD g = true ∧ t.glb.mbistRun.getLsbD g = false ∧
        t.glb.mbistFail.getLsbD g = (!pass || s.glb.mbistFail.getLsbD g) ∧ sameBut [.glb, .evt] s t) ∧
  (∀ (s : State) (pass : Bool), resetLow s = false → s.glb.mbistRun.getLsbD 2 = true →
      ∃ t, exec (.mbistComplete 2 pass) s = .next t ∧ t.glb.mbistDone.getLsbD 2 = true ∧ (∀ n, (vslot t n).st = .empty) ∧
        t.glb.zeroTest = t.vlt.zeroOk) ∧
  (∀ (s : State) (g : Nat) (pass : Bool), resetLow s = false → s.glb.mbistRun.getLsbD g = false →
      ∃ t, exec (.mbistComplete g pass) s = .next t ∧ settled s t)

/-- O58. At the end of every meaning, for every source: a real cause, be it an occurrence or a level condition that holds,
sets STAT and RAW, a forced cause sets STAT; without a cause and without a clear both bits are as before; without a
cause a clear leaves both 0. A cleared bit with a cause in the same cycle stays set, and where every cause finds its
bit set nothing has risen: FIRST and its OVF are as they were. EVT_STAT_CLEAR is such a clear of the bits written 1,
refused where a level condition still holds. -/
def Obligations.StatusBitsSetAndClear : Prop :=
  (∀ (x t : State) (u : Sub) (i : Nat), i < 72 → u.defined.getLsbD i = true → done x = .next t →
      let e := x.evt.get u
      let real := e.pendReal.getLsbD i || (levelOf x u).getLsbD i
      let cause := real || e.pendForced.getLsbD i
      (cause = true → (t.evt.get u).stat.getLsbD i = true) ∧
      (real = true → (t.evt.get u).raw.getLsbD i = true) ∧
      (cause = false → e.clr.getLsbD i = false →
        (t.evt.get u).stat.getLsbD i = e.stat.getLsbD i ∧ (t.evt.get u).raw.getLsbD i = e.raw.getLsbD i) ∧
      (cause = false → e.clr.getLsbD i = true → (t.evt.get u).stat.getLsbD i = false ∧ (t.evt.get u).raw.getLsbD i = false)) ∧
  (∀ (x t : State) (u : Sub), done x = .next t →
      (((x.evt.get u).pendReal ||| levelOf x u ||| (x.evt.get u).pendForced) &&& u.defined) &&& ~~~(x.evt.get u).stat = 0 →
      (x.evt.get u).clrFirst = false → (t.evt.get u).first = (x.evt.get u).first) ∧
  (∀ (s : State) (u : Sub) (sub w : Nat) (data : W64), resetLow s = false → s.glb.testMode = false → pdIsOn s 1 = true →
      subAt sub = some u → w < 2 → eventsSound s →
      ∃ t, exec (.evtStatClear sub w data) s = .next t ∧ (∀ i, i < 64 → 64 * w + i < 72 →
          (t.evt.get u).stat.getLsbD (64 * w + i) =
            ((s.evt.get u).stat.getLsbD (64 * w + i) && !(data.getLsbD i && !((levelOf s u).getLsbD (64 * w + i) && u.defined.getLsbD (64 * w + i)))) ∧
          (t.evt.get u).raw.getLsbD (64 * w + i) =
            ((s.evt.get u).raw.getLsbD (64 * w + i) && !(data.getLsbD i && !((levelOf s u).getLsbD (64 * w + i) && u.defined.getLsbD (64 * w + i))))) ∧
        (t.evt.get u).first = (s.evt.get u).first ∧ t.out = s.out ++ [.csr 0 0] ∧ sameBut [.evt, .out] s t)

/-- O59. With LINK_EN = 1 a counter takes an occurrence of its type that belongs to a frame whose link is LINK and to no
other; the link-bound types are 0x000 to 0x03E, 0x1C1 to 0x1C8 and 0x1CD; of any other type nothing is counted. A cut,
type 0x1CD, belongs to its SecY: CUT_TAKEN is counted by a counter whose LINK is that of the SecY and by no other. -/
def Obligations.LinkFilter : Prop :=
  (∀ c : Nat, linkBound c = true ↔ c ≤ 0x03E ∨ (0x1C1 ≤ c ∧ c ≤ 0x1C8) ∨ c = 0x1CD) ∧
  (∀ (s : State) (i n l : Nat) (w : W64), telOn s = true → (s.tel.cfg.map (·.1)).Nodup → (i, w) ∈ s.tel.cfg →
      bitAt w 63 = true → bitAt w 61 = true →
      let c := fld w 0 9
      let before := smGet 0 s.tel.cnt i
      (linkBound c = true → l = fld w 16 10 → smGet 0 (telBump c n (some l) s).tel.cnt i = telAdd before n) ∧
      (linkBound c = true → l ≠ fld w 16 10 → smGet 0 (telBump c n (some l) s).tel.cnt i = before) ∧
      (linkBound c = true → smGet 0 (telBump c n none s).tel.cnt i = before) ∧
      (linkBound c = false → ∀ k, smGet 0 (telBump c n k s).tel.cnt i = before)) ∧
  (∀ (s : State) (l i : Nat) (w : W64) (y : Secy), resetLow s = false → secyOf s l = some y → y.cut = .armed →
      s.glb.mode ≠ .doze → telOn s = true → s.tel.cfg = [(i, w)] → bitAt w 63 = true → bitAt w 61 = true → fld w 0 9 = 0x1CD →
      ∃ t, exec (.cutTaken l) s = .next t ∧
        smGet 0 t.tel.cnt i = (if fld w 16 10 = l then telAdd (smGet 0 s.tel.cnt i) 1 else smGet 0 s.tel.cnt i))

/-- O60. A frame with a SecTAG has the SCI that the SecTAG carries where SC = 1; with SC = 0 and ES = 1 its source address
followed by the port identifier 0x0001; with both 0 the SCI of the only receive SC of its SecY where it has exactly
one, and no known SCI otherwise. -/
def Obligations.FrameSci : Prop :=
  (∀ (s : State) (l : Nat) (bs : List Byte) (clear : Nat) (xpn : Bool) (t : Tag), tagOf s bs clear xpn = some t → t.bit 5 = true →
      sciOf s l bs t = some (BitVec.ofNat 64 (beNat (slice bs (12 + 4 * vlanTags s bs clear + 8) 8)))) ∧
  (∀ (s : State) (l : Nat) (bs : List Byte) (clear : Nat) (xpn : Bool) (t : Tag), tagOf s bs clear xpn = some t →
      t.bit 5 = false →
      t.bit 6 = true → 12 ≤ bs.length →
      ∃ z, sciOf s l bs t = some z ∧ (beBytes 8 z.toNat).take 6 = slice bs 6 6 ∧ z.toNat % 65536 = 1) ∧
  (∀ (s : State) (l : Nat) (bs : List Byte) (clear : Nat) (xpn : Bool) (t : Tag) (c : Nat) (z : Sc),
      tagOf s bs clear xpn = some t →
      t.bit 5 = false → t.bit 6 = false → scsOfLink s l = [c] → scOf s c = some z → sciOf s l bs t = some z.sci) ∧
  (∀ (s : State) (l : Nat) (bs : List Byte) (clear : Nat) (xpn : Bool) (t : Tag), tagOf s bs clear xpn = some t →
      t.bit 5 = false → t.bit 6 = false → (scsOfLink s l).length ≠ 1 → sciOf s l bs t = none)
end

