-- ==== Sys2Proof/Laws/Tables.lean ====
section
/-!
SUPPORT. Laws of the sparse tables: a read after a write gives the value written, a write leaves every other key alone, and a
write keeps the canonical form.
-/
namespace Sys2Proof.Machine

theorem smGet_smErase {α : Type} (d : α) (m : SMap α) (k j : Nat) :
    smGet d (smErase m k) j = if j = k then d else smGet d m j := by
  induction m with
  | nil => simp [smErase, smGet]
  | cons e m ih =>
    obtain ⟨i, w⟩ := e
    simp only [smErase]; split
    · rename_i h; subst h; rw [ih]; simp only [smGet]; split <;> rfl
    · rename_i h; simp only [smGet]; split
      · rename_i hj; subst hj; rw [if_neg (fun e => h e.symm)]
      · exact ih

theorem mem_smErase {α : Type} (m : SMap α) (k : Nat) (e : Nat × α) (h : e ∈ smErase m k) : e ∈ m ∧ e.1 ≠ k := by
  induction m with
  | nil => simp [smErase] at h
  | cons x m ih =>
    obtain ⟨i, w⟩ := x
    simp only [smErase] at h
    split at h
    · exact ⟨by simp [(ih h).1], (ih h).2⟩
    · rcases List.mem_cons.1 h with rfl | h
      · rename_i hne; exact ⟨by simp, by simpa using fun hh => hne hh.symm⟩
      · exact ⟨by simp [(ih h).1], (ih h).2⟩

theorem smGet_smInsert {α : Type} (d : α) (m : SMap α) (k : Nat) (v : α) (j : Nat) :
    smGet d (smInsert k v (smErase m k)) j = if j = k then v else smGet d m j := by
  rw [show (if j = k then v else smGet d m j) = if j = k then v else smGet d (smErase m k) j by
    rw [smGet_smErase]; split <;> rfl]
  have hn : ∀ e ∈ smErase m k, e.1 ≠ k := fun e he => (mem_smErase m k e he).2
  generalize smErase m k = n at hn
  induction n with
  | nil => simp [smInsert, smGet]
  | cons e n ih =>
    obtain ⟨i, w⟩ := e
    have hki : i ≠ k := hn (i, w) (by simp)
    replace ih := ih (fun e he => hn e (by simp [he]))
    simp only [smInsert]
    split
    · simp [smGet]
    · rename_i hlt
      simp only [smGet, ih]
      by_cases h1 : j = i
      · subst h1; simp only [if_true]; split
        · rename_i h2; subst h2; exact absurd rfl hki
        · rfl
      · simp only [if_neg h1]

/-- A read after a write. -/
@[simp] theorem smGet_smSet {α : Type} [DecidableEq α] (d : α) (m : SMap α) (k : Nat) (v : α) (j : Nat) :
    smGet d (smSet d m k v) j = if j = k then v else smGet d m j := by
  unfold smSet; split
  · rw [smGet_smErase]; simp_all
  · exact smGet_smInsert d m k v j

/-- A read after a change. -/
@[simp] theorem smGet_smMod {α : Type} [DecidableEq α] (d : α) (m : SMap α) (k : Nat) (f : α → α) (j : Nat) :
    smGet d (smMod d m k f) j = if j = k then f (smGet d m k) else smGet d m j := by
  simp [smMod]

theorem smSorted_weaken {α : Type} (a b : Nat) (m : SMap α) (h : smSorted (some b) m = true) (hab : a < b) :
    smSorted (some a) m = true := by
  cases m with
  | nil => rfl
  | cons e m => obtain ⟨i, w⟩ := e; simp [smSorted] at *; exact ⟨by omega, h.2⟩

theorem smSorted_erase {α : Type} (b : Option Nat) (m : SMap α) (k : Nat) (h : smSorted b m = true) :
    smSorted b (smErase m k) = true := by
  induction m generalizing b with
  | nil => rfl
  | cons e m ih =>
    obtain ⟨i, w⟩ := e
    simp only [smSorted, Bool.and_eq_true] at h
    simp only [smErase]; split
    · cases b with
      | none =>
        have := ih (some i) h.2
        cases hm : smErase m k with
        | nil => rfl
        | cons e' m' => obtain ⟨i', w'⟩ := e'; rw [hm] at this; simp [smSorted] at *; exact this.2
      | some a => exact smSorted_weaken a i _ (ih _ h.2) (by simpa using h.1)
    · simp only [smSorted, Bool.and_eq_true]; exact ⟨h.1, ih _ h.2⟩

theorem smSorted_insert {α : Type} (b : Option Nat) (m : SMap α) (k : Nat) (v : α) (h : smSorted b m = true)
    (hb : ∀ a, b = some a → a < k) (hk : ∀ e ∈ m, e.1 ≠ k) : smSorted b (smInsert k v m) = true := by
  induction m generalizing b with
  | nil => cases b <;> simp_all [smInsert, smSorted]
  | cons e m ih =>
    obtain ⟨i, w⟩ := e
    simp only [smSorted, Bool.and_eq_true] at h
    have hne : i ≠ k := hk (i, w) (by simp)
    simp only [smInsert]; split
    · rename_i hlt
      simp only [smSorted, Bool.and_eq_true]
      refine ⟨?_, by simpa using hlt, h.2⟩
      cases b with
      | none => rfl
      | some a => simpa using hb a rfl
    · simp only [smSorted, Bool.and_eq_true]
      exact ⟨h.1, ih (some i) h.2 (by intro a ha; cases ha; omega) (fun e he => hk e (by simp [he]))⟩

theorem mem_smInsert {α : Type} (m : SMap α) (k : Nat) (v : α) (e : Nat × α) (h : e ∈ smInsert k v m) :
    e = (k, v) ∨ e ∈ m := by
  induction m with
  | nil => simp [smInsert] at h; exact Or.inl h
  | cons x m ih =>
    obtain ⟨i, w⟩ := x
    simp only [smInsert] at h
    split at h
    · simpa using h
    · rcases List.mem_cons.1 h with rfl | h
      · simp
      · rcases ih h with h | h
        · exact Or.inl h
        · exact Or.inr (by simp [h])

/-- A write keeps the canonical form. -/
theorem smWf_smSet {α : Type} [DecidableEq α] (d : α) (m : SMap α) (k : Nat) (v : α) (h : smWf d m = true) :
    smWf d (smSet d m k v) = true := by
  simp only [smWf, Bool.and_eq_true, List.all_eq_true, decide_eq_true_eq] at *
  unfold smSet; split
  · exact ⟨smSorted_erase _ _ _ h.1, fun e he => h.2 e (mem_smErase m k e he).1⟩
  · rename_i hv
    refine ⟨smSorted_insert _ _ _ _ (smSorted_erase _ _ _ h.1) (by simp) (fun e he => (mem_smErase m k e he).2), ?_⟩
    intro e he
    rcases mem_smInsert _ _ _ _ he with rfl | he
    · exact hv
    · exact h.2 e (mem_smErase m k e he).1

/-- A change keeps the canonical form. -/
theorem smWf_smMod {α : Type} [DecidableEq α] (d : α) (m : SMap α) (k : Nat) (f : α → α) (h : smWf d m = true) :
    smWf d (smMod d m k f) = true := smWf_smSet d m k _ h

/-- An empty table has the canonical form. -/
theorem smWf_nil {α : Type} [DecidableEq α] (d : α) : smWf d ([] : SMap α) = true := rfl

/-- Writing what the table holds changes no read. -/
theorem smGet_smSet_same {α : Type} [DecidableEq α] (d : α) (m : SMap α) (k : Nat) (j : Nat) :
    smGet d (smSet d m k (smGet d m k)) j = smGet d m j := by
  simp only [smGet_smSet]; split
  · simp_all
  · rfl

end Sys2Proof.Machine
end

