-- ==== Sys2Proof/Laws/State.lean ====
section
/-!
SUPPORT. What each named update of State leaves alone, one line for each field, and what it makes of the field it writes: later
proofs unfold no record update.
-/
namespace Sys2Proof.Machine

/-- settle writes evt alone. -/
@[simp] theorem settle_frame (s : State) :
    (settle s).pending = s.pending ∧ (settle s).out = s.out ∧ (settle s).rng = s.rng ∧ (settle s).time = s.time ∧ (settle
      s).frac = s.frac ∧ (settle s).servo = s.servo ∧ (settle s).aon = s.aon ∧ (settle s).glb = s.glb ∧ (settle s).mci = s.mci
      ∧ (settle s).svc = s.svc ∧ (settle s).vlt = s.vlt ∧ (settle s).cis = s.cis ∧ (settle s).cxm = s.cxm ∧ (settle s).egr =
      s.egr ∧ (settle s).ing = s.ing ∧ (settle s).ecfg = s.ecfg ∧ (settle s).sct = s.sct ∧ (settle s).secys = s.secys ∧ (settle
      s).tx = s.tx ∧ (settle s).rx = s.rx ∧ (settle s).lne = s.lne ∧ (settle s).jnl = s.jnl ∧ (settle s).fab = s.fab ∧ (settle
      s).chkCfg = s.chkCfg ∧ (settle s).chk = s.chk ∧ (settle s).tel = s.tel ∧ (settle s).que = s.que ∧ (settle s).cnt = s.cnt
      ∧ (settle s).tst = s.tst :=
  ⟨rfl, rfl, rfl, rfl, rfl, rfl, rfl, rfl, rfl, rfl, rfl, rfl, rfl, rfl, rfl, rfl, rfl, rfl, rfl, rfl, rfl, rfl, rfl, rfl, rfl,
      rfl, rfl, rfl, rfl⟩

/-- emit writes out alone. -/
@[simp] theorem emit_frame (o : Out) (s : State) :
    (emit o s).pending = s.pending ∧ (emit o s).rng = s.rng ∧ (emit o s).time = s.time ∧ (emit o s).frac = s.frac ∧ (emit o
      s).servo = s.servo ∧ (emit o s).aon = s.aon ∧ (emit o s).glb = s.glb ∧ (emit o s).evt = s.evt ∧ (emit o s).mci = s.mci ∧
      (emit o s).svc = s.svc ∧ (emit o s).vlt = s.vlt ∧ (emit o s).cis = s.cis ∧ (emit o s).cxm = s.cxm ∧ (emit o s).egr =
      s.egr ∧ (emit o s).ing = s.ing ∧ (emit o s).ecfg = s.ecfg ∧ (emit o s).sct = s.sct ∧ (emit o s).secys = s.secys ∧ (emit o
      s).tx = s.tx ∧ (emit o s).rx = s.rx ∧ (emit o s).lne = s.lne ∧ (emit o s).jnl = s.jnl ∧ (emit o s).fab = s.fab ∧ (emit o
      s).chkCfg = s.chkCfg ∧ (emit o s).chk = s.chk ∧ (emit o s).tel = s.tel ∧ (emit o s).que = s.que ∧ (emit o s).cnt = s.cnt
      ∧ (emit o s).tst = s.tst :=
  ⟨rfl, rfl, rfl, rfl, rfl, rfl, rfl, rfl, rfl, rfl, rfl, rfl, rfl, rfl, rfl, rfl, rfl, rfl, rfl, rfl, rfl, rfl, rfl, rfl, rfl,
      rfl, rfl, rfl, rfl⟩

/-- setSecy writes secys alone. -/
@[simp] theorem setSecy_frame (l : Nat) (y : Option Secy) (s : State) :
    (setSecy l y s).pending = s.pending ∧ (setSecy l y s).out = s.out ∧ (setSecy l y s).rng = s.rng ∧ (setSecy l y s).time =
      s.time ∧ (setSecy l y s).frac = s.frac ∧ (setSecy l y s).servo = s.servo ∧ (setSecy l y s).aon = s.aon ∧ (setSecy l y
      s).glb = s.glb ∧ (setSecy l y s).evt = s.evt ∧ (setSecy l y s).mci = s.mci ∧ (setSecy l y s).svc = s.svc ∧ (setSecy l y
      s).vlt = s.vlt ∧ (setSecy l y s).cis = s.cis ∧ (setSecy l y s).cxm = s.cxm ∧ (setSecy l y s).egr = s.egr ∧ (setSecy l y
      s).ing = s.ing ∧ (setSecy l y s).ecfg = s.ecfg ∧ (setSecy l y s).sct = s.sct ∧ (setSecy l y s).tx = s.tx ∧ (setSecy l y
      s).rx = s.rx ∧ (setSecy l y s).lne = s.lne ∧ (setSecy l y s).jnl = s.jnl ∧ (setSecy l y s).fab = s.fab ∧ (setSecy l y
      s).chkCfg = s.chkCfg ∧ (setSecy l y s).chk = s.chk ∧ (setSecy l y s).tel = s.tel ∧ (setSecy l y s).que = s.que ∧ (setSecy
      l y s).cnt = s.cnt ∧ (setSecy l y s).tst = s.tst :=
  ⟨rfl, rfl, rfl, rfl, rfl, rfl, rfl, rfl, rfl, rfl, rfl, rfl, rfl, rfl, rfl, rfl, rfl, rfl, rfl, rfl, rfl, rfl, rfl, rfl, rfl,
      rfl, rfl, rfl, rfl⟩

/-- setTx writes tx alone. -/
@[simp] theorem setTx_frame (i : Nat) (a : Option Sa) (s : State) :
    (setTx i a s).pending = s.pending ∧ (setTx i a s).out = s.out ∧ (setTx i a s).rng = s.rng ∧ (setTx i a s).time = s.time ∧
      (setTx i a s).frac = s.frac ∧ (setTx i a s).servo = s.servo ∧ (setTx i a s).aon = s.aon ∧ (setTx i a s).glb = s.glb ∧
      (setTx i a s).evt = s.evt ∧ (setTx i a s).mci = s.mci ∧ (setTx i a s).svc = s.svc ∧ (setTx i a s).vlt = s.vlt ∧ (setTx i
      a s).cis = s.cis ∧ (setTx i a s).cxm = s.cxm ∧ (setTx i a s).egr = s.egr ∧ (setTx i a s).ing = s.ing ∧ (setTx i a s).ecfg
      = s.ecfg ∧ (setTx i a s).sct = s.sct ∧ (setTx i a s).secys = s.secys ∧ (setTx i a s).rx = s.rx ∧ (setTx i a s).lne =
      s.lne ∧ (setTx i a s).jnl = s.jnl ∧ (setTx i a s).fab = s.fab ∧ (setTx i a s).chkCfg = s.chkCfg ∧ (setTx i a s).chk =
      s.chk ∧ (setTx i a s).tel = s.tel ∧ (setTx i a s).que = s.que ∧ (setTx i a s).cnt = s.cnt ∧ (setTx i a s).tst = s.tst :=
  ⟨rfl, rfl, rfl, rfl, rfl, rfl, rfl, rfl, rfl, rfl, rfl, rfl, rfl, rfl, rfl, rfl, rfl, rfl, rfl, rfl, rfl, rfl, rfl, rfl, rfl,
      rfl, rfl, rfl, rfl⟩

/-- setRx writes rx alone. -/
@[simp] theorem setRx_frame (i : Nat) (a : Option Sa) (s : State) :
    (setRx i a s).pending = s.pending ∧ (setRx i a s).out = s.out ∧ (setRx i a s).rng = s.rng ∧ (setRx i a s).time = s.time ∧
      (setRx i a s).frac = s.frac ∧ (setRx i a s).servo = s.servo ∧ (setRx i a s).aon = s.aon ∧ (setRx i a s).glb = s.glb ∧
      (setRx i a s).evt = s.evt ∧ (setRx i a s).mci = s.mci ∧ (setRx i a s).svc = s.svc ∧ (setRx i a s).vlt = s.vlt ∧ (setRx i
      a s).cis = s.cis ∧ (setRx i a s).cxm = s.cxm ∧ (setRx i a s).egr = s.egr ∧ (setRx i a s).ing = s.ing ∧ (setRx i a s).ecfg
      = s.ecfg ∧ (setRx i a s).sct = s.sct ∧ (setRx i a s).secys = s.secys ∧ (setRx i a s).tx = s.tx ∧ (setRx i a s).lne =
      s.lne ∧ (setRx i a s).jnl = s.jnl ∧ (setRx i a s).fab = s.fab ∧ (setRx i a s).chkCfg = s.chkCfg ∧ (setRx i a s).chk =
      s.chk ∧ (setRx i a s).tel = s.tel ∧ (setRx i a s).que = s.que ∧ (setRx i a s).cnt = s.cnt ∧ (setRx i a s).tst = s.tst :=
  ⟨rfl, rfl, rfl, rfl, rfl, rfl, rfl, rfl, rfl, rfl, rfl, rfl, rfl, rfl, rfl, rfl, rfl, rfl, rfl, rfl, rfl, rfl, rfl, rfl, rfl,
      rfl, rfl, rfl, rfl⟩

/-- setMode writes glb alone. -/
@[simp] theorem setMode_frame (m : Mode) (c : Nat) (s : State) :
    (setMode m c s).pending = s.pending ∧ (setMode m c s).out = s.out ∧ (setMode m c s).rng = s.rng ∧ (setMode m c s).time =
      s.time ∧ (setMode m c s).frac = s.frac ∧ (setMode m c s).servo = s.servo ∧ (setMode m c s).aon = s.aon ∧ (setMode m c
      s).evt = s.evt ∧ (setMode m c s).mci = s.mci ∧ (setMode m c s).svc = s.svc ∧ (setMode m c s).vlt = s.vlt ∧ (setMode m c
      s).cis = s.cis ∧ (setMode m c s).cxm = s.cxm ∧ (setMode m c s).egr = s.egr ∧ (setMode m c s).ing = s.ing ∧ (setMode m c
      s).ecfg = s.ecfg ∧ (setMode m c s).sct = s.sct ∧ (setMode m c s).secys = s.secys ∧ (setMode m c s).tx = s.tx ∧ (setMode m
      c s).rx = s.rx ∧ (setMode m c s).lne = s.lne ∧ (setMode m c s).jnl = s.jnl ∧ (setMode m c s).fab = s.fab ∧ (setMode m c
      s).chkCfg = s.chkCfg ∧ (setMode m c s).chk = s.chk ∧ (setMode m c s).tel = s.tel ∧ (setMode m c s).que = s.que ∧ (setMode
      m c s).cnt = s.cnt ∧ (setMode m c s).tst = s.tst :=
  ⟨rfl, rfl, rfl, rfl, rfl, rfl, rfl, rfl, rfl, rfl, rfl, rfl, rfl, rfl, rfl, rfl, rfl, rfl, rfl, rfl, rfl, rfl, rfl, rfl, rfl,
      rfl, rfl, rfl, rfl⟩

/-- pdSet writes glb alone. -/
@[simp] theorem pdSet_frame (n : Nat) (s : State) :
    (pdSet n s).pending = s.pending ∧ (pdSet n s).out = s.out ∧ (pdSet n s).rng = s.rng ∧ (pdSet n s).time = s.time ∧ (pdSet n
      s).frac = s.frac ∧ (pdSet n s).servo = s.servo ∧ (pdSet n s).aon = s.aon ∧ (pdSet n s).evt = s.evt ∧ (pdSet n s).mci =
      s.mci ∧ (pdSet n s).svc = s.svc ∧ (pdSet n s).vlt = s.vlt ∧ (pdSet n s).cis = s.cis ∧ (pdSet n s).cxm = s.cxm ∧ (pdSet n
      s).egr = s.egr ∧ (pdSet n s).ing = s.ing ∧ (pdSet n s).ecfg = s.ecfg ∧ (pdSet n s).sct = s.sct ∧ (pdSet n s).secys =
      s.secys ∧ (pdSet n s).tx = s.tx ∧ (pdSet n s).rx = s.rx ∧ (pdSet n s).lne = s.lne ∧ (pdSet n s).jnl = s.jnl ∧ (pdSet n
      s).fab = s.fab ∧ (pdSet n s).chkCfg = s.chkCfg ∧ (pdSet n s).chk = s.chk ∧ (pdSet n s).tel = s.tel ∧ (pdSet n s).que =
      s.que ∧ (pdSet n s).cnt = s.cnt ∧ (pdSet n s).tst = s.tst :=
  ⟨rfl, rfl, rfl, rfl, rfl, rfl, rfl, rfl, rfl, rfl, rfl, rfl, rfl, rfl, rfl, rfl, rfl, rfl, rfl, rfl, rfl, rfl, rfl, rfl, rfl,
      rfl, rfl, rfl, rfl⟩

/-- pdClear writes glb alone. -/
@[simp] theorem pdClear_frame (n : Nat) (s : State) :
    (pdClear n s).pending = s.pending ∧ (pdClear n s).out = s.out ∧ (pdClear n s).rng = s.rng ∧ (pdClear n s).time = s.time ∧
      (pdClear n s).frac = s.frac ∧ (pdClear n s).servo = s.servo ∧ (pdClear n s).aon = s.aon ∧ (pdClear n s).evt = s.evt ∧
      (pdClear n s).mci = s.mci ∧ (pdClear n s).svc = s.svc ∧ (pdClear n s).vlt = s.vlt ∧ (pdClear n s).cis = s.cis ∧ (pdClear
      n s).cxm = s.cxm ∧ (pdClear n s).egr = s.egr ∧ (pdClear n s).ing = s.ing ∧ (pdClear n s).ecfg = s.ecfg ∧ (pdClear n
      s).sct = s.sct ∧ (pdClear n s).secys = s.secys ∧ (pdClear n s).tx = s.tx ∧ (pdClear n s).rx = s.rx ∧ (pdClear n s).lne =
      s.lne ∧ (pdClear n s).jnl = s.jnl ∧ (pdClear n s).fab = s.fab ∧ (pdClear n s).chkCfg = s.chkCfg ∧ (pdClear n s).chk =
      s.chk ∧ (pdClear n s).tel = s.tel ∧ (pdClear n s).que = s.que ∧ (pdClear n s).cnt = s.cnt ∧ (pdClear n s).tst = s.tst :=
  ⟨rfl, rfl, rfl, rfl, rfl, rfl, rfl, rfl, rfl, rfl, rfl, rfl, rfl, rfl, rfl, rfl, rfl, rfl, rfl, rfl, rfl, rfl, rfl, rfl, rfl,
      rfl, rfl, rfl, rfl⟩

/-- setStage writes glb alone. -/
@[simp] theorem setStage_frame (v : Nat) (s : State) :
    (setStage v s).pending = s.pending ∧ (setStage v s).out = s.out ∧ (setStage v s).rng = s.rng ∧ (setStage v s).time = s.time
      ∧ (setStage v s).frac = s.frac ∧ (setStage v s).servo = s.servo ∧ (setStage v s).aon = s.aon ∧ (setStage v s).evt = s.evt
      ∧ (setStage v s).mci = s.mci ∧ (setStage v s).svc = s.svc ∧ (setStage v s).vlt = s.vlt ∧ (setStage v s).cis = s.cis ∧
      (setStage v s).cxm = s.cxm ∧ (setStage v s).egr = s.egr ∧ (setStage v s).ing = s.ing ∧ (setStage v s).ecfg = s.ecfg ∧
      (setStage v s).sct = s.sct ∧ (setStage v s).secys = s.secys ∧ (setStage v s).tx = s.tx ∧ (setStage v s).rx = s.rx ∧
      (setStage v s).lne = s.lne ∧ (setStage v s).jnl = s.jnl ∧ (setStage v s).fab = s.fab ∧ (setStage v s).chkCfg = s.chkCfg ∧
      (setStage v s).chk = s.chk ∧ (setStage v s).tel = s.tel ∧ (setStage v s).que = s.que ∧ (setStage v s).cnt = s.cnt ∧
      (setStage v s).tst = s.tst :=
  ⟨rfl, rfl, rfl, rfl, rfl, rfl, rfl, rfl, rfl, rfl, rfl, rfl, rfl, rfl, rfl, rfl, rfl, rfl, rfl, rfl, rfl, rfl, rfl, rfl, rfl,
      rfl, rfl, rfl, rfl⟩

/-- setResume writes glb alone. -/
@[simp] theorem setResume_frame (v : Nat) (s : State) :
    (setResume v s).pending = s.pending ∧ (setResume v s).out = s.out ∧ (setResume v s).rng = s.rng ∧ (setResume v s).time =
      s.time ∧ (setResume v s).frac = s.frac ∧ (setResume v s).servo = s.servo ∧ (setResume v s).aon = s.aon ∧ (setResume v
      s).evt = s.evt ∧ (setResume v s).mci = s.mci ∧ (setResume v s).svc = s.svc ∧ (setResume v s).vlt = s.vlt ∧ (setResume v
      s).cis = s.cis ∧ (setResume v s).cxm = s.cxm ∧ (setResume v s).egr = s.egr ∧ (setResume v s).ing = s.ing ∧ (setResume v
      s).ecfg = s.ecfg ∧ (setResume v s).sct = s.sct ∧ (setResume v s).secys = s.secys ∧ (setResume v s).tx = s.tx ∧ (setResume
      v s).rx = s.rx ∧ (setResume v s).lne = s.lne ∧ (setResume v s).jnl = s.jnl ∧ (setResume v s).fab = s.fab ∧ (setResume v
      s).chkCfg = s.chkCfg ∧ (setResume v s).chk = s.chk ∧ (setResume v s).tel = s.tel ∧ (setResume v s).que = s.que ∧
      (setResume v s).cnt = s.cnt ∧ (setResume v s).tst = s.tst :=
  ⟨rfl, rfl, rfl, rfl, rfl, rfl, rfl, rfl, rfl, rfl, rfl, rfl, rfl, rfl, rfl, rfl, rfl, rfl, rfl, rfl, rfl, rfl, rfl, rfl, rfl,
      rfl, rfl, rfl, rfl⟩

/-- setVslot writes vlt alone. -/
@[simp] theorem setVslot_frame (n : Nat) (v : VSlot) (s : State) :
    (setVslot n v s).pending = s.pending ∧ (setVslot n v s).out = s.out ∧ (setVslot n v s).rng = s.rng ∧ (setVslot n v s).time
      = s.time ∧ (setVslot n v s).frac = s.frac ∧ (setVslot n v s).servo = s.servo ∧ (setVslot n v s).aon = s.aon ∧ (setVslot n
      v s).glb = s.glb ∧ (setVslot n v s).evt = s.evt ∧ (setVslot n v s).mci = s.mci ∧ (setVslot n v s).svc = s.svc ∧ (setVslot
      n v s).cis = s.cis ∧ (setVslot n v s).cxm = s.cxm ∧ (setVslot n v s).egr = s.egr ∧ (setVslot n v s).ing = s.ing ∧
      (setVslot n v s).ecfg = s.ecfg ∧ (setVslot n v s).sct = s.sct ∧ (setVslot n v s).secys = s.secys ∧ (setVslot n v s).tx =
      s.tx ∧ (setVslot n v s).rx = s.rx ∧ (setVslot n v s).lne = s.lne ∧ (setVslot n v s).jnl = s.jnl ∧ (setVslot n v s).fab =
      s.fab ∧ (setVslot n v s).chkCfg = s.chkCfg ∧ (setVslot n v s).chk = s.chk ∧ (setVslot n v s).tel = s.tel ∧ (setVslot n v
      s).que = s.que ∧ (setVslot n v s).cnt = s.cnt ∧ (setVslot n v s).tst = s.tst :=
  ⟨rfl, rfl, rfl, rfl, rfl, rfl, rfl, rfl, rfl, rfl, rfl, rfl, rfl, rfl, rfl, rfl, rfl, rfl, rfl, rfl, rfl, rfl, rfl, rfl, rfl,
      rfl, rfl, rfl, rfl⟩

/-- setQue writes que alone. -/
@[simp] theorem setQue_frame (n : Nat) (v : Que) (s : State) :
    (setQue n v s).pending = s.pending ∧ (setQue n v s).out = s.out ∧ (setQue n v s).rng = s.rng ∧ (setQue n v s).time = s.time
      ∧ (setQue n v s).frac = s.frac ∧ (setQue n v s).servo = s.servo ∧ (setQue n v s).aon = s.aon ∧ (setQue n v s).glb = s.glb
      ∧ (setQue n v s).evt = s.evt ∧ (setQue n v s).mci = s.mci ∧ (setQue n v s).svc = s.svc ∧ (setQue n v s).vlt = s.vlt ∧
      (setQue n v s).cis = s.cis ∧ (setQue n v s).cxm = s.cxm ∧ (setQue n v s).egr = s.egr ∧ (setQue n v s).ing = s.ing ∧
      (setQue n v s).ecfg = s.ecfg ∧ (setQue n v s).sct = s.sct ∧ (setQue n v s).secys = s.secys ∧ (setQue n v s).tx = s.tx ∧
      (setQue n v s).rx = s.rx ∧ (setQue n v s).lne = s.lne ∧ (setQue n v s).jnl = s.jnl ∧ (setQue n v s).fab = s.fab ∧ (setQue
      n v s).chkCfg = s.chkCfg ∧ (setQue n v s).chk = s.chk ∧ (setQue n v s).tel = s.tel ∧ (setQue n v s).cnt = s.cnt ∧ (setQue
      n v s).tst = s.tst :=
  ⟨rfl, rfl, rfl, rfl, rfl, rfl, rfl, rfl, rfl, rfl, rfl, rfl, rfl, rfl, rfl, rfl, rfl, rfl, rfl, rfl, rfl, rfl, rfl, rfl, rfl,
      rfl, rfl, rfl, rfl⟩

/-- modQue writes que alone. -/
@[simp] theorem modQue_frame (n : Nat) (f : Que → Que) (s : State) :
    (modQue n f s).pending = s.pending ∧ (modQue n f s).out = s.out ∧ (modQue n f s).rng = s.rng ∧ (modQue n f s).time = s.time
      ∧ (modQue n f s).frac = s.frac ∧ (modQue n f s).servo = s.servo ∧ (modQue n f s).aon = s.aon ∧ (modQue n f s).glb = s.glb
      ∧ (modQue n f s).evt = s.evt ∧ (modQue n f s).mci = s.mci ∧ (modQue n f s).svc = s.svc ∧ (modQue n f s).vlt = s.vlt ∧
      (modQue n f s).cis = s.cis ∧ (modQue n f s).cxm = s.cxm ∧ (modQue n f s).egr = s.egr ∧ (modQue n f s).ing = s.ing ∧
      (modQue n f s).ecfg = s.ecfg ∧ (modQue n f s).sct = s.sct ∧ (modQue n f s).secys = s.secys ∧ (modQue n f s).tx = s.tx ∧
      (modQue n f s).rx = s.rx ∧ (modQue n f s).lne = s.lne ∧ (modQue n f s).jnl = s.jnl ∧ (modQue n f s).fab = s.fab ∧ (modQue
      n f s).chkCfg = s.chkCfg ∧ (modQue n f s).chk = s.chk ∧ (modQue n f s).tel = s.tel ∧ (modQue n f s).cnt = s.cnt ∧ (modQue
      n f s).tst = s.tst :=
  ⟨rfl, rfl, rfl, rfl, rfl, rfl, rfl, rfl, rfl, rfl, rfl, rfl, rfl, rfl, rfl, rfl, rfl, rfl, rfl, rfl, rfl, rfl, rfl, rfl, rfl,
      rfl, rfl, rfl, rfl⟩

/-- quePass writes que alone. -/
@[simp] theorem quePass_frame (q n : Nat) (s : State) :
    (quePass q n s).pending = s.pending ∧ (quePass q n s).out = s.out ∧ (quePass q n s).rng = s.rng ∧ (quePass q n s).time =
      s.time ∧ (quePass q n s).frac = s.frac ∧ (quePass q n s).servo = s.servo ∧ (quePass q n s).aon = s.aon ∧ (quePass q n
      s).glb = s.glb ∧ (quePass q n s).evt = s.evt ∧ (quePass q n s).mci = s.mci ∧ (quePass q n s).svc = s.svc ∧ (quePass q n
      s).vlt = s.vlt ∧ (quePass q n s).cis = s.cis ∧ (quePass q n s).cxm = s.cxm ∧ (quePass q n s).egr = s.egr ∧ (quePass q n
      s).ing = s.ing ∧ (quePass q n s).ecfg = s.ecfg ∧ (quePass q n s).sct = s.sct ∧ (quePass q n s).secys = s.secys ∧ (quePass
      q n s).tx = s.tx ∧ (quePass q n s).rx = s.rx ∧ (quePass q n s).lne = s.lne ∧ (quePass q n s).jnl = s.jnl ∧ (quePass q n
      s).fab = s.fab ∧ (quePass q n s).chkCfg = s.chkCfg ∧ (quePass q n s).chk = s.chk ∧ (quePass q n s).tel = s.tel ∧ (quePass
      q n s).cnt = s.cnt ∧ (quePass q n s).tst = s.tst :=
  ⟨rfl, rfl, rfl, rfl, rfl, rfl, rfl, rfl, rfl, rfl, rfl, rfl, rfl, rfl, rfl, rfl, rfl, rfl, rfl, rfl, rfl, rfl, rfl, rfl, rfl,
      rfl, rfl, rfl, rfl⟩

/-- setHostSlot writes mci alone. -/
@[simp] theorem setHostSlot_frame (n k : Nat) (v : HostSlot) (s : State) :
    (setHostSlot n k v s).pending = s.pending ∧ (setHostSlot n k v s).out = s.out ∧ (setHostSlot n k v s).rng = s.rng ∧
      (setHostSlot n k v s).time = s.time ∧ (setHostSlot n k v s).frac = s.frac ∧ (setHostSlot n k v s).servo = s.servo ∧
      (setHostSlot n k v s).aon = s.aon ∧ (setHostSlot n k v s).glb = s.glb ∧ (setHostSlot n k v s).evt = s.evt ∧ (setHostSlot
      n k v s).svc = s.svc ∧ (setHostSlot n k v s).vlt = s.vlt ∧ (setHostSlot n k v s).cis = s.cis ∧ (setHostSlot n k v s).cxm
      = s.cxm ∧ (setHostSlot n k v s).egr = s.egr ∧ (setHostSlot n k v s).ing = s.ing ∧ (setHostSlot n k v s).ecfg = s.ecfg ∧
      (setHostSlot n k v s).sct = s.sct ∧ (setHostSlot n k v s).secys = s.secys ∧ (setHostSlot n k v s).tx = s.tx ∧
      (setHostSlot n k v s).rx = s.rx ∧ (setHostSlot n k v s).lne = s.lne ∧ (setHostSlot n k v s).jnl = s.jnl ∧ (setHostSlot n
      k v s).fab = s.fab ∧ (setHostSlot n k v s).chkCfg = s.chkCfg ∧ (setHostSlot n k v s).chk = s.chk ∧ (setHostSlot n k v
      s).tel = s.tel ∧ (setHostSlot n k v s).que = s.que ∧ (setHostSlot n k v s).cnt = s.cnt ∧ (setHostSlot n k v s).tst =
      s.tst :=
  ⟨rfl, rfl, rfl, rfl, rfl, rfl, rfl, rfl, rfl, rfl, rfl, rfl, rfl, rfl, rfl, rfl, rfl, rfl, rfl, rfl, rfl, rfl, rfl, rfl, rfl,
      rfl, rfl, rfl, rfl⟩

/-- waitFor writes mci alone. -/
@[simp] theorem waitFor_frame (q : QCmd) (w : Wait) (s : State) :
    (waitFor q w s).pending = s.pending ∧ (waitFor q w s).out = s.out ∧ (waitFor q w s).rng = s.rng ∧ (waitFor q w s).time =
      s.time ∧ (waitFor q w s).frac = s.frac ∧ (waitFor q w s).servo = s.servo ∧ (waitFor q w s).aon = s.aon ∧ (waitFor q w
      s).glb = s.glb ∧ (waitFor q w s).evt = s.evt ∧ (waitFor q w s).svc = s.svc ∧ (waitFor q w s).vlt = s.vlt ∧ (waitFor q w
      s).cis = s.cis ∧ (waitFor q w s).cxm = s.cxm ∧ (waitFor q w s).egr = s.egr ∧ (waitFor q w s).ing = s.ing ∧ (waitFor q w
      s).ecfg = s.ecfg ∧ (waitFor q w s).sct = s.sct ∧ (waitFor q w s).secys = s.secys ∧ (waitFor q w s).tx = s.tx ∧ (waitFor q
      w s).rx = s.rx ∧ (waitFor q w s).lne = s.lne ∧ (waitFor q w s).jnl = s.jnl ∧ (waitFor q w s).fab = s.fab ∧ (waitFor q w
      s).chkCfg = s.chkCfg ∧ (waitFor q w s).chk = s.chk ∧ (waitFor q w s).tel = s.tel ∧ (waitFor q w s).que = s.que ∧ (waitFor
      q w s).cnt = s.cnt ∧ (waitFor q w s).tst = s.tst :=
  ⟨rfl, rfl, rfl, rfl, rfl, rfl, rfl, rfl, rfl, rfl, rfl, rfl, rfl, rfl, rfl, rfl, rfl, rfl, rfl, rfl, rfl, rfl, rfl, rfl, rfl,
      rfl, rfl, rfl, rfl⟩

/-- setJslot writes jnl alone. -/
@[simp] theorem setJslot_frame (n : Nat) (v : JSlot) (s : State) :
    (setJslot n v s).pending = s.pending ∧ (setJslot n v s).out = s.out ∧ (setJslot n v s).rng = s.rng ∧ (setJslot n v s).time
      = s.time ∧ (setJslot n v s).frac = s.frac ∧ (setJslot n v s).servo = s.servo ∧ (setJslot n v s).aon = s.aon ∧ (setJslot n
      v s).glb = s.glb ∧ (setJslot n v s).evt = s.evt ∧ (setJslot n v s).mci = s.mci ∧ (setJslot n v s).svc = s.svc ∧ (setJslot
      n v s).vlt = s.vlt ∧ (setJslot n v s).cis = s.cis ∧ (setJslot n v s).cxm = s.cxm ∧ (setJslot n v s).egr = s.egr ∧
      (setJslot n v s).ing = s.ing ∧ (setJslot n v s).ecfg = s.ecfg ∧ (setJslot n v s).sct = s.sct ∧ (setJslot n v s).secys =
      s.secys ∧ (setJslot n v s).tx = s.tx ∧ (setJslot n v s).rx = s.rx ∧ (setJslot n v s).lne = s.lne ∧ (setJslot n v s).fab =
      s.fab ∧ (setJslot n v s).chkCfg = s.chkCfg ∧ (setJslot n v s).chk = s.chk ∧ (setJslot n v s).tel = s.tel ∧ (setJslot n v
      s).que = s.que ∧ (setJslot n v s).cnt = s.cnt ∧ (setJslot n v s).tst = s.tst :=
  ⟨rfl, rfl, rfl, rfl, rfl, rfl, rfl, rfl, rfl, rfl, rfl, rfl, rfl, rfl, rfl, rfl, rfl, rfl, rfl, rfl, rfl, rfl, rfl, rfl, rfl,
      rfl, rfl, rfl, rfl⟩

/-- setHw writes jnl alone. -/
@[simp] theorem setHw_frame (i v : Nat) (s : State) :
    (setHw i v s).pending = s.pending ∧ (setHw i v s).out = s.out ∧ (setHw i v s).rng = s.rng ∧ (setHw i v s).time = s.time ∧
      (setHw i v s).frac = s.frac ∧ (setHw i v s).servo = s.servo ∧ (setHw i v s).aon = s.aon ∧ (setHw i v s).glb = s.glb ∧
      (setHw i v s).evt = s.evt ∧ (setHw i v s).mci = s.mci ∧ (setHw i v s).svc = s.svc ∧ (setHw i v s).vlt = s.vlt ∧ (setHw i
      v s).cis = s.cis ∧ (setHw i v s).cxm = s.cxm ∧ (setHw i v s).egr = s.egr ∧ (setHw i v s).ing = s.ing ∧ (setHw i v s).ecfg
      = s.ecfg ∧ (setHw i v s).sct = s.sct ∧ (setHw i v s).secys = s.secys ∧ (setHw i v s).tx = s.tx ∧ (setHw i v s).rx = s.rx
      ∧ (setHw i v s).lne = s.lne ∧ (setHw i v s).fab = s.fab ∧ (setHw i v s).chkCfg = s.chkCfg ∧ (setHw i v s).chk = s.chk ∧
      (setHw i v s).tel = s.tel ∧ (setHw i v s).que = s.que ∧ (setHw i v s).cnt = s.cnt ∧ (setHw i v s).tst = s.tst :=
  ⟨rfl, rfl, rfl, rfl, rfl, rfl, rfl, rfl, rfl, rfl, rfl, rfl, rfl, rfl, rfl, rfl, rfl, rfl, rfl, rfl, rfl, rfl, rfl, rfl, rfl,
      rfl, rfl, rfl, rfl⟩

/-- setPort writes fab alone. -/
@[simp] theorem setPort_frame (n : Nat) (p : Port) (s : State) :
    (setPort n p s).pending = s.pending ∧ (setPort n p s).out = s.out ∧ (setPort n p s).rng = s.rng ∧ (setPort n p s).time =
      s.time ∧ (setPort n p s).frac = s.frac ∧ (setPort n p s).servo = s.servo ∧ (setPort n p s).aon = s.aon ∧ (setPort n p
      s).glb = s.glb ∧ (setPort n p s).evt = s.evt ∧ (setPort n p s).mci = s.mci ∧ (setPort n p s).svc = s.svc ∧ (setPort n p
      s).vlt = s.vlt ∧ (setPort n p s).cis = s.cis ∧ (setPort n p s).cxm = s.cxm ∧ (setPort n p s).egr = s.egr ∧ (setPort n p
      s).ing = s.ing ∧ (setPort n p s).ecfg = s.ecfg ∧ (setPort n p s).sct = s.sct ∧ (setPort n p s).secys = s.secys ∧ (setPort
      n p s).tx = s.tx ∧ (setPort n p s).rx = s.rx ∧ (setPort n p s).lne = s.lne ∧ (setPort n p s).jnl = s.jnl ∧ (setPort n p
      s).chkCfg = s.chkCfg ∧ (setPort n p s).chk = s.chk ∧ (setPort n p s).tel = s.tel ∧ (setPort n p s).que = s.que ∧ (setPort
      n p s).cnt = s.cnt ∧ (setPort n p s).tst = s.tst :=
  ⟨rfl, rfl, rfl, rfl, rfl, rfl, rfl, rfl, rfl, rfl, rfl, rfl, rfl, rfl, rfl, rfl, rfl, rfl, rfl, rfl, rfl, rfl, rfl, rfl, rfl,
      rfl, rfl, rfl, rfl⟩

/-- modPort writes fab alone. -/
@[simp] theorem modPort_frame (n : Nat) (f : Port → Port) (s : State) :
    (modPort n f s).pending = s.pending ∧ (modPort n f s).out = s.out ∧ (modPort n f s).rng = s.rng ∧ (modPort n f s).time =
      s.time ∧ (modPort n f s).frac = s.frac ∧ (modPort n f s).servo = s.servo ∧ (modPort n f s).aon = s.aon ∧ (modPort n f
      s).glb = s.glb ∧ (modPort n f s).evt = s.evt ∧ (modPort n f s).mci = s.mci ∧ (modPort n f s).svc = s.svc ∧ (modPort n f
      s).vlt = s.vlt ∧ (modPort n f s).cis = s.cis ∧ (modPort n f s).cxm = s.cxm ∧ (modPort n f s).egr = s.egr ∧ (modPort n f
      s).ing = s.ing ∧ (modPort n f s).ecfg = s.ecfg ∧ (modPort n f s).sct = s.sct ∧ (modPort n f s).secys = s.secys ∧ (modPort
      n f s).tx = s.tx ∧ (modPort n f s).rx = s.rx ∧ (modPort n f s).lne = s.lne ∧ (modPort n f s).jnl = s.jnl ∧ (modPort n f
      s).chkCfg = s.chkCfg ∧ (modPort n f s).chk = s.chk ∧ (modPort n f s).tel = s.tel ∧ (modPort n f s).que = s.que ∧ (modPort
      n f s).cnt = s.cnt ∧ (modPort n f s).tst = s.tst :=
  ⟨rfl, rfl, rfl, rfl, rfl, rfl, rfl, rfl, rfl, rfl, rfl, rfl, rfl, rfl, rfl, rfl, rfl, rfl, rfl, rfl, rfl, rfl, rfl, rfl, rfl,
      rfl, rfl, rfl, rfl⟩

/-- modPair writes fab alone. -/
@[simp] theorem modPair_frame (f : Pair → Pair) (s : State) :
    (modPair f s).pending = s.pending ∧ (modPair f s).out = s.out ∧ (modPair f s).rng = s.rng ∧ (modPair f s).time = s.time ∧
      (modPair f s).frac = s.frac ∧ (modPair f s).servo = s.servo ∧ (modPair f s).aon = s.aon ∧ (modPair f s).glb = s.glb ∧
      (modPair f s).evt = s.evt ∧ (modPair f s).mci = s.mci ∧ (modPair f s).svc = s.svc ∧ (modPair f s).vlt = s.vlt ∧ (modPair
      f s).cis = s.cis ∧ (modPair f s).cxm = s.cxm ∧ (modPair f s).egr = s.egr ∧ (modPair f s).ing = s.ing ∧ (modPair f s).ecfg
      = s.ecfg ∧ (modPair f s).sct = s.sct ∧ (modPair f s).secys = s.secys ∧ (modPair f s).tx = s.tx ∧ (modPair f s).rx = s.rx
      ∧ (modPair f s).lne = s.lne ∧ (modPair f s).jnl = s.jnl ∧ (modPair f s).chkCfg = s.chkCfg ∧ (modPair f s).chk = s.chk ∧
      (modPair f s).tel = s.tel ∧ (modPair f s).que = s.que ∧ (modPair f s).cnt = s.cnt ∧ (modPair f s).tst = s.tst :=
  ⟨rfl, rfl, rfl, rfl, rfl, rfl, rfl, rfl, rfl, rfl, rfl, rfl, rfl, rfl, rfl, rfl, rfl, rfl, rfl, rfl, rfl, rfl, rfl, rfl, rfl,
      rfl, rfl, rfl, rfl⟩

/-- setLane writes lne alone. -/
@[simp] theorem setLane_frame (i : Nat) (v : Lane) (s : State) :
    (setLane i v s).pending = s.pending ∧ (setLane i v s).out = s.out ∧ (setLane i v s).rng = s.rng ∧ (setLane i v s).time =
      s.time ∧ (setLane i v s).frac = s.frac ∧ (setLane i v s).servo = s.servo ∧ (setLane i v s).aon = s.aon ∧ (setLane i v
      s).glb = s.glb ∧ (setLane i v s).evt = s.evt ∧ (setLane i v s).mci = s.mci ∧ (setLane i v s).svc = s.svc ∧ (setLane i v
      s).vlt = s.vlt ∧ (setLane i v s).cis = s.cis ∧ (setLane i v s).cxm = s.cxm ∧ (setLane i v s).egr = s.egr ∧ (setLane i v
      s).ing = s.ing ∧ (setLane i v s).ecfg = s.ecfg ∧ (setLane i v s).sct = s.sct ∧ (setLane i v s).secys = s.secys ∧ (setLane
      i v s).tx = s.tx ∧ (setLane i v s).rx = s.rx ∧ (setLane i v s).jnl = s.jnl ∧ (setLane i v s).fab = s.fab ∧ (setLane i v
      s).chkCfg = s.chkCfg ∧ (setLane i v s).chk = s.chk ∧ (setLane i v s).tel = s.tel ∧ (setLane i v s).que = s.que ∧ (setLane
      i v s).cnt = s.cnt ∧ (setLane i v s).tst = s.tst :=
  ⟨rfl, rfl, rfl, rfl, rfl, rfl, rfl, rfl, rfl, rfl, rfl, rfl, rfl, rfl, rfl, rfl, rfl, rfl, rfl, rfl, rfl, rfl, rfl, rfl, rfl,
      rfl, rfl, rfl, rfl⟩

/-- setCa writes svc alone. -/
@[simp] theorem setCa_frame (l : Nat) (c : MkCa) (s : State) :
    (setCa l c s).pending = s.pending ∧ (setCa l c s).out = s.out ∧ (setCa l c s).rng = s.rng ∧ (setCa l c s).time = s.time ∧
      (setCa l c s).frac = s.frac ∧ (setCa l c s).servo = s.servo ∧ (setCa l c s).aon = s.aon ∧ (setCa l c s).glb = s.glb ∧
      (setCa l c s).evt = s.evt ∧ (setCa l c s).mci = s.mci ∧ (setCa l c s).vlt = s.vlt ∧ (setCa l c s).cis = s.cis ∧ (setCa l
      c s).cxm = s.cxm ∧ (setCa l c s).egr = s.egr ∧ (setCa l c s).ing = s.ing ∧ (setCa l c s).ecfg = s.ecfg ∧ (setCa l c
      s).sct = s.sct ∧ (setCa l c s).secys = s.secys ∧ (setCa l c s).tx = s.tx ∧ (setCa l c s).rx = s.rx ∧ (setCa l c s).lne =
      s.lne ∧ (setCa l c s).jnl = s.jnl ∧ (setCa l c s).fab = s.fab ∧ (setCa l c s).chkCfg = s.chkCfg ∧ (setCa l c s).chk =
      s.chk ∧ (setCa l c s).tel = s.tel ∧ (setCa l c s).que = s.que ∧ (setCa l c s).cnt = s.cnt ∧ (setCa l c s).tst = s.tst :=
  ⟨rfl, rfl, rfl, rfl, rfl, rfl, rfl, rfl, rfl, rfl, rfl, rfl, rfl, rfl, rfl, rfl, rfl, rfl, rfl, rfl, rfl, rfl, rfl, rfl, rfl,
      rfl, rfl, rfl, rfl⟩

/-- modCa writes svc alone. -/
@[simp] theorem modCa_frame (l : Nat) (f : MkCa → MkCa) (s : State) :
    (modCa l f s).pending = s.pending ∧ (modCa l f s).out = s.out ∧ (modCa l f s).rng = s.rng ∧ (modCa l f s).time = s.time ∧
      (modCa l f s).frac = s.frac ∧ (modCa l f s).servo = s.servo ∧ (modCa l f s).aon = s.aon ∧ (modCa l f s).glb = s.glb ∧
      (modCa l f s).evt = s.evt ∧ (modCa l f s).mci = s.mci ∧ (modCa l f s).vlt = s.vlt ∧ (modCa l f s).cis = s.cis ∧ (modCa l
      f s).cxm = s.cxm ∧ (modCa l f s).egr = s.egr ∧ (modCa l f s).ing = s.ing ∧ (modCa l f s).ecfg = s.ecfg ∧ (modCa l f
      s).sct = s.sct ∧ (modCa l f s).secys = s.secys ∧ (modCa l f s).tx = s.tx ∧ (modCa l f s).rx = s.rx ∧ (modCa l f s).lne =
      s.lne ∧ (modCa l f s).jnl = s.jnl ∧ (modCa l f s).fab = s.fab ∧ (modCa l f s).chkCfg = s.chkCfg ∧ (modCa l f s).chk =
      s.chk ∧ (modCa l f s).tel = s.tel ∧ (modCa l f s).que = s.que ∧ (modCa l f s).cnt = s.cnt ∧ (modCa l f s).tst = s.tst :=
  ⟨rfl, rfl, rfl, rfl, rfl, rfl, rfl, rfl, rfl, rfl, rfl, rfl, rfl, rfl, rfl, rfl, rfl, rfl, rfl, rfl, rfl, rfl, rfl, rfl, rfl,
      rfl, rfl, rfl, rfl⟩

/-- setChk writes chk alone. -/
@[simp] theorem setChk_frame (k : Nat) (c : Chk) (s : State) :
    (setChk k c s).pending = s.pending ∧ (setChk k c s).out = s.out ∧ (setChk k c s).rng = s.rng ∧ (setChk k c s).time = s.time
      ∧ (setChk k c s).frac = s.frac ∧ (setChk k c s).servo = s.servo ∧ (setChk k c s).aon = s.aon ∧ (setChk k c s).glb = s.glb
      ∧ (setChk k c s).evt = s.evt ∧ (setChk k c s).mci = s.mci ∧ (setChk k c s).svc = s.svc ∧ (setChk k c s).vlt = s.vlt ∧
      (setChk k c s).cis = s.cis ∧ (setChk k c s).cxm = s.cxm ∧ (setChk k c s).egr = s.egr ∧ (setChk k c s).ing = s.ing ∧
      (setChk k c s).ecfg = s.ecfg ∧ (setChk k c s).sct = s.sct ∧ (setChk k c s).secys = s.secys ∧ (setChk k c s).tx = s.tx ∧
      (setChk k c s).rx = s.rx ∧ (setChk k c s).lne = s.lne ∧ (setChk k c s).jnl = s.jnl ∧ (setChk k c s).fab = s.fab ∧ (setChk
      k c s).chkCfg = s.chkCfg ∧ (setChk k c s).tel = s.tel ∧ (setChk k c s).que = s.que ∧ (setChk k c s).cnt = s.cnt ∧ (setChk
      k c s).tst = s.tst :=
  ⟨rfl, rfl, rfl, rfl, rfl, rfl, rfl, rfl, rfl, rfl, rfl, rfl, rfl, rfl, rfl, rfl, rfl, rfl, rfl, rfl, rfl, rfl, rfl, rfl, rfl,
      rfl, rfl, rfl, rfl⟩

/-- modEvt writes evt alone. -/
@[simp] theorem modEvt_frame (u : Sub) (f : EvSet → EvSet) (s : State) :
    (modEvt u f s).pending = s.pending ∧ (modEvt u f s).out = s.out ∧ (modEvt u f s).rng = s.rng ∧ (modEvt u f s).time = s.time
      ∧ (modEvt u f s).frac = s.frac ∧ (modEvt u f s).servo = s.servo ∧ (modEvt u f s).aon = s.aon ∧ (modEvt u f s).glb = s.glb
      ∧ (modEvt u f s).mci = s.mci ∧ (modEvt u f s).svc = s.svc ∧ (modEvt u f s).vlt = s.vlt ∧ (modEvt u f s).cis = s.cis ∧
      (modEvt u f s).cxm = s.cxm ∧ (modEvt u f s).egr = s.egr ∧ (modEvt u f s).ing = s.ing ∧ (modEvt u f s).ecfg = s.ecfg ∧
      (modEvt u f s).sct = s.sct ∧ (modEvt u f s).secys = s.secys ∧ (modEvt u f s).tx = s.tx ∧ (modEvt u f s).rx = s.rx ∧
      (modEvt u f s).lne = s.lne ∧ (modEvt u f s).jnl = s.jnl ∧ (modEvt u f s).fab = s.fab ∧ (modEvt u f s).chkCfg = s.chkCfg ∧
      (modEvt u f s).chk = s.chk ∧ (modEvt u f s).tel = s.tel ∧ (modEvt u f s).que = s.que ∧ (modEvt u f s).cnt = s.cnt ∧
      (modEvt u f s).tst = s.tst :=
  ⟨rfl, rfl, rfl, rfl, rfl, rfl, rfl, rfl, rfl, rfl, rfl, rfl, rfl, rfl, rfl, rfl, rfl, rfl, rfl, rfl, rfl, rfl, rfl, rfl, rfl,
      rfl, rfl, rfl, rfl⟩

/-! The written field. -/

@[simp] theorem secyOf_setSecy (l : Nat) (y : Option Secy) (s : State) (j : Nat) :
    secyOf (setSecy l y s) j = if j = l then y else secyOf s j := by simp [secyOf, setSecy]
@[simp] theorem txOf_setTx (i : Nat) (a : Option Sa) (s : State) (j : Nat) :
    txOf (setTx i a s) j = if j = i then a else txOf s j := by simp [txOf, setTx]
@[simp] theorem rxOf_setRx (i : Nat) (a : Option Sa) (s : State) (j : Nat) :
    rxOf (setRx i a s) j = if j = i then a else rxOf s j := by simp [rxOf, setRx]
@[simp] theorem vslot_setVslot (n : Nat) (v : VSlot) (s : State) (j : Nat) :
    vslot (setVslot n v s) j = if j = n then v else vslot s j := by simp [vslot, setVslot]
@[simp] theorem queOf_setQue (n : Nat) (v : Que) (s : State) (j : Nat) :
    queOf (setQue n v s) j = if j = n then v else queOf s j := by simp [queOf, setQue]
@[simp] theorem queOf_modQue (n : Nat) (f : Que → Que) (s : State) (j : Nat) :
    queOf (modQue n f s) j = if j = n then f (queOf s n) else queOf s j := by simp [modQue]
@[simp] theorem hostSlot_setHostSlot (n k : Nat) (v : HostSlot) (s : State) (m j : Nat) :
    hostSlot (setHostSlot n k v s) m j = if 8 * m + j = 8 * n + k then v else hostSlot s m j := by
  simp [hostSlot, setHostSlot]
@[simp] theorem portOf_setPort (n : Nat) (p : Port) (s : State) (j : Nat) :
    portOf (setPort n p s) j = if j = n then p else portOf s j := by simp [portOf, setPort]
@[simp] theorem laneOf_setLane (i : Nat) (v : Lane) (s : State) (j : Nat) :
    laneOf (setLane i v s) j = if j = i then v else laneOf s j := by simp [laneOf, setLane]
@[simp] theorem caOf_setCa (l : Nat) (c : MkCa) (s : State) (j : Nat) :
    caOf (setCa l c s) j = if j = l then c else caOf s j := by simp [caOf, setCa]
@[simp] theorem chkOf_setChk (k : Nat) (c : Chk) (s : State) (j : Nat) :
    chkOf (setChk k c s) j = if j = k then c else chkOf s j := by simp [chkOf, setChk]
@[simp] theorem hwOf_setHw (i v : Nat) (s : State) (j : Nat) :
    hwOf (setHw i v s) j = if j = i then v else hwOf s j := by simp [hwOf, setHw]

@[simp] theorem setMode_mode (m : Mode) (c : Nat) (s : State) : (setMode m c s).glb.mode = m := rfl
@[simp] theorem setMode_prev (m : Mode) (c : Nat) (s : State) : (setMode m c s).glb.prev = s.glb.mode := rfl
@[simp] theorem setMode_cause (m : Mode) (c : Nat) (s : State) : (setMode m c s).glb.cause = BitVec.ofNat 8 c := rfl
@[simp] theorem setMode_deg (m : Mode) (c : Nat) (s : State) : (setMode m c s).glb.deg = s.glb.deg := rfl
@[simp] theorem emit_out (o : Out) (s : State) : (emit o s).out = s.out ++ [o] := rfl
@[simp] theorem waitFor_running (q : QCmd) (w : Wait) (s : State) :
    (waitFor q w s).mci.running = s.mci.running ++ [{ cmd := q, wait := w }] := rfl

/-! Event sets. -/

@[simp] theorem get_put (e : Evts) (u v : Sub) (x : EvSet) : (e.put u x).get v = if v = u then x else e.get v := by
  cases u <;> cases v <;> rfl

/-- What a step's end makes of each set. -/
@[simp] theorem settle_evt (s : State) (u : Sub) :
    (settle s).evt.get u = (s.evt.get u).cycle u (levelOf s u) s.time.toNat := by cases u <;> rfl

/-- The level conditions do not rest on the event sets. -/
theorem levelOf_evt (s : State) (e : Evts) (u : Sub) : levelOf { s with evt := e } u = levelOf s u := by cases u <;> rfl

@[simp] theorem levelOf_settle (s : State) (u : Sub) : levelOf (settle s) u = levelOf s u := by cases u <;> rfl

/-- The escalation timer's step writes its own fields alone. -/
@[simp] theorem escStep_frame (u : Sub) (e : EvSet) :
    (e.escStep u).stat = e.stat ∧ (e.escStep u).raw = e.raw ∧ (e.escStep u).forced = e.forced ∧ (e.escStep u).mask = e.mask ∧
      (e.escStep u).sev = e.sev ∧ (e.escStep u).first = e.first ∧ (e.escStep u).escTime = e.escTime ∧
      (e.escStep u).links = e.links ∧ (e.escStep u).escAct = e.escAct ∧ (e.escStep u).pendReal = e.pendReal ∧
      (e.escStep u).pendForced = e.pendForced ∧ (e.escStep u).clr = e.clr ∧ (e.escStep u).clrFirst = e.clrFirst := by
  unfold EvSet.escStep; split
  · split <;> exact ⟨rfl, rfl, rfl, rfl, rfl, rfl, rfl, rfl, rfl, rfl, rfl, rfl, rfl⟩
  · exact ⟨rfl, rfl, rfl, rfl, rfl, rfl, rfl, rfl, rfl, rfl, rfl, rfl, rfl⟩

/-- An event set as a cycle leaves it has taken every cause. -/
theorem cycle_empty (u : Sub) (l : BitVec 72) (n : Nat) (e : EvSet) :
    (e.cycle u l n).pendReal = 0 ∧ (e.cycle u l n).pendForced = 0 ∧ (e.cycle u l n).clr = 0 ∧ (e.cycle u l n).clrFirst = false := by
  simp [EvSet.cycle]

/-- STAT, RAW and the forced bits after a cycle. -/
theorem cycle_bits (u : Sub) (l : BitVec 72) (n : Nat) (e : EvSet) :
    let real := (e.pendReal ||| l) &&& u.defined
    let cause := real ||| (e.pendForced &&& u.defined)
    let gone := e.clr &&& ~~~cause
    (e.cycle u l n).stat = (e.stat &&& ~~~gone) ||| cause ∧ (e.cycle u l n).raw = (e.raw &&& ~~~gone) ||| real ∧
      (e.cycle u l n).forced = (e.forced &&& ~~~gone) ||| (e.pendForced &&& u.defined) ∧ (e.cycle u l n).mask = e.mask ∧
      (e.cycle u l n).sev = e.sev ∧ (e.cycle u l n).escTime = e.escTime ∧ (e.cycle u l n).escAct = e.escAct := by
  simp [EvSet.cycle]

/-! Telemetry and counters. -/

/-- Counting writes telemetry counters and nothing else. -/
theorem telBump_eq (c n : Nat) (l : Option Nat) (s : State) :
    telBump c n l s = { s with tel := { s.tel with cnt := (telBump c n l s).tel.cnt, wrapPend := (telBump c n l s).tel.wrapPend } } := by
  unfold telBump; split <;> rfl

/-- telBump writes tel alone. -/
@[simp] theorem telBump_frame (c n : Nat) (l : Option Nat) (s : State) :
    (telBump c n l s).pending = s.pending ∧ (telBump c n l s).out = s.out ∧ (telBump c n l s).rng = s.rng ∧ (telBump c n l
      s).time = s.time ∧ (telBump c n l s).frac = s.frac ∧ (telBump c n l s).servo = s.servo ∧ (telBump c n l s).aon = s.aon ∧
      (telBump c n l s).glb = s.glb ∧ (telBump c n l s).evt = s.evt ∧ (telBump c n l s).mci = s.mci ∧ (telBump c n l s).svc =
      s.svc ∧ (telBump c n l s).vlt = s.vlt ∧ (telBump c n l s).cis = s.cis ∧ (telBump c n l s).cxm = s.cxm ∧ (telBump c n l
      s).egr = s.egr ∧ (telBump c n l s).ing = s.ing ∧ (telBump c n l s).ecfg = s.ecfg ∧ (telBump c n l s).sct = s.sct ∧
      (telBump c n l s).secys = s.secys ∧ (telBump c n l s).tx = s.tx ∧ (telBump c n l s).rx = s.rx ∧ (telBump c n l s).lne =
      s.lne ∧ (telBump c n l s).jnl = s.jnl ∧ (telBump c n l s).fab = s.fab ∧ (telBump c n l s).chkCfg = s.chkCfg ∧ (telBump c
      n l s).chk = s.chk ∧ (telBump c n l s).que = s.que ∧ (telBump c n l s).cnt = s.cnt ∧ (telBump c n l s).tst = s.tst := by
  unfold telBump; split <;> exact ⟨rfl, rfl, rfl, rfl, rfl, rfl, rfl, rfl, rfl, rfl, rfl, rfl, rfl, rfl, rfl, rfl, rfl, rfl, rfl,
      rfl, rfl, rfl, rfl, rfl, rfl, rfl, rfl, rfl, rfl⟩

/-- bumpN writes tel and cnt alone. -/
@[simp] theorem bumpN_frame (c n : Nat) (l : Option Nat) (s : State) :
    (bumpN c n l s).pending = s.pending ∧ (bumpN c n l s).out = s.out ∧ (bumpN c n l s).rng = s.rng ∧ (bumpN c n l s).time =
      s.time ∧ (bumpN c n l s).frac = s.frac ∧ (bumpN c n l s).servo = s.servo ∧ (bumpN c n l s).aon = s.aon ∧ (bumpN c n l
      s).glb = s.glb ∧ (bumpN c n l s).evt = s.evt ∧ (bumpN c n l s).mci = s.mci ∧ (bumpN c n l s).svc = s.svc ∧ (bumpN c n l
      s).vlt = s.vlt ∧ (bumpN c n l s).cis = s.cis ∧ (bumpN c n l s).cxm = s.cxm ∧ (bumpN c n l s).egr = s.egr ∧ (bumpN c n l
      s).ing = s.ing ∧ (bumpN c n l s).ecfg = s.ecfg ∧ (bumpN c n l s).sct = s.sct ∧ (bumpN c n l s).secys = s.secys ∧ (bumpN c
      n l s).tx = s.tx ∧ (bumpN c n l s).rx = s.rx ∧ (bumpN c n l s).lne = s.lne ∧ (bumpN c n l s).jnl = s.jnl ∧ (bumpN c n l
      s).fab = s.fab ∧ (bumpN c n l s).chkCfg = s.chkCfg ∧ (bumpN c n l s).chk = s.chk ∧ (bumpN c n l s).que = s.que ∧
      (bumpN c n l s).tst = s.tst := by
  simp only [bumpN, telBump_frame, and_self]

/-- bump writes tel and cnt alone. -/
@[simp] theorem bump_frame (c : Nat) (l : Option Nat) (s : State) :
    (bump c l s).pending = s.pending ∧ (bump c l s).out = s.out ∧ (bump c l s).rng = s.rng ∧ (bump c l s).time = s.time ∧ (bump
      c l s).frac = s.frac ∧ (bump c l s).servo = s.servo ∧ (bump c l s).aon = s.aon ∧ (bump c l s).glb = s.glb ∧ (bump c l
      s).evt = s.evt ∧ (bump c l s).mci = s.mci ∧ (bump c l s).svc = s.svc ∧ (bump c l s).vlt = s.vlt ∧ (bump c l s).cis =
      s.cis ∧ (bump c l s).cxm = s.cxm ∧ (bump c l s).egr = s.egr ∧ (bump c l s).ing = s.ing ∧ (bump c l s).ecfg = s.ecfg ∧
      (bump c l s).sct = s.sct ∧ (bump c l s).secys = s.secys ∧ (bump c l s).tx = s.tx ∧ (bump c l s).rx = s.rx ∧ (bump c l
      s).lne = s.lne ∧ (bump c l s).jnl = s.jnl ∧ (bump c l s).fab = s.fab ∧ (bump c l s).chkCfg = s.chkCfg ∧ (bump c l s).chk
      = s.chk ∧ (bump c l s).que = s.que ∧ (bump c l s).tst = s.tst := by
  simp only [bump, bumpN_frame, and_self]

/-- raiseL writes evt and tel alone. -/
@[simp] theorem raiseL_frame (u : Sub) (n : Nat) (ls : List Nat) (s : State) :
    (raiseL u n ls s).pending = s.pending ∧ (raiseL u n ls s).out = s.out ∧ (raiseL u n ls s).rng = s.rng ∧ (raiseL u n ls
      s).time = s.time ∧ (raiseL u n ls s).frac = s.frac ∧ (raiseL u n ls s).servo = s.servo ∧ (raiseL u n ls s).aon = s.aon ∧
      (raiseL u n ls s).glb = s.glb ∧ (raiseL u n ls s).mci = s.mci ∧ (raiseL u n ls s).svc = s.svc ∧ (raiseL u n ls s).vlt =
      s.vlt ∧ (raiseL u n ls s).cis = s.cis ∧ (raiseL u n ls s).cxm = s.cxm ∧ (raiseL u n ls s).egr = s.egr ∧ (raiseL u n ls
      s).ing = s.ing ∧ (raiseL u n ls s).ecfg = s.ecfg ∧ (raiseL u n ls s).sct = s.sct ∧ (raiseL u n ls s).secys = s.secys ∧
      (raiseL u n ls s).tx = s.tx ∧ (raiseL u n ls s).rx = s.rx ∧ (raiseL u n ls s).lne = s.lne ∧ (raiseL u n ls s).jnl = s.jnl
      ∧ (raiseL u n ls s).fab = s.fab ∧ (raiseL u n ls s).chkCfg = s.chkCfg ∧ (raiseL u n ls s).chk = s.chk ∧ (raiseL u n ls
      s).que = s.que ∧ (raiseL u n ls s).cnt = s.cnt ∧ (raiseL u n ls s).tst = s.tst := by
  unfold raiseL; simp only; split <;> simp only [telBump_frame, and_self]

/-- raise writes evt and tel alone. -/
@[simp] theorem raise_frame (u : Sub) (n : Nat) (s : State) :
    (raise u n s).pending = s.pending ∧ (raise u n s).out = s.out ∧ (raise u n s).rng = s.rng ∧ (raise u n s).time = s.time ∧
      (raise u n s).frac = s.frac ∧ (raise u n s).servo = s.servo ∧ (raise u n s).aon = s.aon ∧ (raise u n s).glb = s.glb ∧
      (raise u n s).mci = s.mci ∧ (raise u n s).svc = s.svc ∧ (raise u n s).vlt = s.vlt ∧ (raise u n s).cis = s.cis ∧ (raise u
      n s).cxm = s.cxm ∧ (raise u n s).egr = s.egr ∧ (raise u n s).ing = s.ing ∧ (raise u n s).ecfg = s.ecfg ∧ (raise u n
      s).sct = s.sct ∧ (raise u n s).secys = s.secys ∧ (raise u n s).tx = s.tx ∧ (raise u n s).rx = s.rx ∧ (raise u n s).lne =
      s.lne ∧ (raise u n s).jnl = s.jnl ∧ (raise u n s).fab = s.fab ∧ (raise u n s).chkCfg = s.chkCfg ∧ (raise u n s).chk =
      s.chk ∧ (raise u n s).que = s.que ∧ (raise u n s).cnt = s.cnt ∧ (raise u n s).tst = s.tst := by
  simp only [raise, raiseL_frame, and_self]

/-- A counter of R122 after a count. -/
@[simp] theorem bumpN_cnt (c n : Nat) (l : Option Nat) (s : State) (j : Nat) :
    smGet 0 (bumpN c n l s).cnt j = if j = c then satAdd 63 (smGet 0 s.cnt c) n else smGet 0 s.cnt j := by
  simp [bumpN]

/-- What raising a cause leaves of the sets. -/
@[simp] theorem raiseL_evt (u : Sub) (n : Nat) (ls : List Nat) (s : State) (v : Sub) :
    (raiseL u n ls s).evt.get v =
      if v = u then { s.evt.get u with pendReal := (s.evt.get u).pendReal ||| (1 <<< n),
                                       links := (s.evt.get u).links ++ ls.map (fun l => (n, l)) }
      else s.evt.get v := by
  unfold raiseL; simp only; split <;> simp

end Sys2Proof.Machine
end

