-- ==== Sys2Proof/Laws/Commands.lean ====
section
/-!
SUPPORT. What a command row does, said once: a command that starts now runs its own effect on the state with the packet
accepted; a completed one leaves its reply.
-/
namespace Sys2Proof.Machine

/-- The state with one more packet accepted and taken from the command queue. -/
def accepted (s : State) : State := quePass 6 1 (telBump 0x1D6 1 none { s with mci := { s.mci with nextId := s.mci.nextId + 1 } })

@[simp] theorem accepted_mci (s : State) : (accepted s).mci = { s.mci with nextId := s.mci.nextId + 1 } := by
  simp [accepted]

/-- Acceptance writes the command interface's number, a queue and telemetry alone. -/
@[simp] theorem accepted_frame (s : State) :
    (accepted s).pending = s.pending ∧ (accepted s).out = s.out ∧ (accepted s).rng = s.rng ∧ (accepted s).time = s.time ∧
      (accepted s).frac = s.frac ∧ (accepted s).servo = s.servo ∧ (accepted s).aon = s.aon ∧ (accepted s).glb = s.glb ∧
      (accepted s).evt = s.evt ∧ (accepted s).svc = s.svc ∧ (accepted s).vlt = s.vlt ∧ (accepted s).cis = s.cis ∧
      (accepted s).cxm = s.cxm ∧ (accepted s).egr = s.egr ∧ (accepted s).ing = s.ing ∧ (accepted s).ecfg = s.ecfg ∧
      (accepted s).sct = s.sct ∧ (accepted s).secys = s.secys ∧ (accepted s).tx = s.tx ∧ (accepted s).rx = s.rx ∧
      (accepted s).lne = s.lne ∧ (accepted s).jnl = s.jnl ∧ (accepted s).fab = s.fab ∧ (accepted s).chkCfg = s.chkCfg ∧
      (accepted s).chk = s.chk ∧ (accepted s).cnt = s.cnt ∧ (accepted s).tst = s.tst := by simp [accepted]

/-- The state with a packet accepted, before it is taken from the command queue. -/
def arrived (s : State) : State := telBump 0x1D6 1 none { s with mci := { s.mci with nextId := s.mci.nextId + 1 } }

theorem accepted_arrived (s : State) : quePass 6 1 (arrived s) = accepted s := rfl

theorem arrived_eq (s : State) :
    arrived s = { s with mci := { s.mci with nextId := s.mci.nextId + 1 }, tel := (arrived s).tel } := by
  unfold arrived telBump; split <;> rfl

/-- A row that starts now is its effect on the accepted state. -/
theorem runRow_now {op n : Nat} {p : Pkt} {s : State} (eff : QCmd → State → State) (h : startsNow op n p s = true) :
    runRow op eff p s = eff (newCmd op p s) (accepted s) := by
  simp only [startsNow, Bool.and_eq_true, decide_eq_true_eq, Bool.not_eq_true', beq_iff_eq, Option.isNone_iff_eq_none] at h
  obtain ⟨⟨⟨⟨⟨⟨⟨⟨⟨⟨hn, hr⟩, hrem⟩, hform⟩, hdup⟩, htag⟩, hheld⟩, hrun⟩, hwake⟩, hlost⟩, _⟩ := h
  have e0 : runRow op eff p s = acceptCmd (fun q t => if heldBack t q then enqueue q t else startCmd eff q (quePass 6 1 t))
      (newCmd op p s) (arrived s) := rfl
  rw [e0]
  have e1 : dupEntry (arrived s) (newCmd op p s) = none := by rw [arrived_eq]; exact hdup
  have e2 : tagBusy (arrived s) (newCmd op p s) = false := by rw [arrived_eq]; exact htag
  have e3 : heldBack (arrived s) (newCmd op p s) = false := by rw [arrived_eq]; exact hheld
  have e4 : checkRun (newCmd op p s) (accepted s) = none := by
    rw [← hrun]; simp [checkRun, lockoutStatus]
  have e5 : cmdLost (accepted s) (newCmd op p s) = false := by
    rw [← hlost]; simp only [accepted, quePass, modQue, setQue]; rw [← arrived, arrived_eq]; rfl
  have hop : (newCmd op p s).opcode = BitVec.ofNat 8 op := rfl
  have hpk : (newCmd op p s).pkt = p := rfl
  simp only [acceptCmd, hform, checkDup, e1, e2, hpk, hr, hrem, e3, Bool.false_eq_true, if_false, accepted_arrived, startCmd, e4,
    e5, accepted_frame]
  simp only [opWakes] at hwake
  split
  · rename_i o ho; rw [ho] at hwake; simp only at hwake; rw [hwake]; rfl
  · rfl

/-- A raised cause shows after the step's end, where the manual defines its source. -/
theorem raised_shows (u : Sub) (n : Nat) (s : State) (hd : u.defined.getLsbD n = true) (hn : n < 72) :
    eventSet (settle (raise u n s)) u n := by
  have hb : (BitVec.ofNat 72 (1 <<< n))[n]'hn = true := by
    rw [← BitVec.getLsbD_eq_getElem, BitVec.getLsbD_ofNat]; simp [hn, Nat.testBit_shiftLeft]
  constructor
  · simp only [settle_evt, (cycle_bits _ _ _ _).1]; simp [raise, hd, hn, hb]
  · simp only [settle_evt, (cycle_bits _ _ _ _).2.1]; simp [raise, hd, hn, hb]

/-- A reply as `deliver` leaves it on a host queue. -/
theorem deliver_host {op n : Nat} {p : Pkt} {s u : State} (hr : p.req = .hq n) (status : Nat) (words : List W64) (o t : Nat) :
    deliver (newCmd op p s) status words o t u =
      raise .mci n (quePass 7 1 (setHostSlot n p.slot
        { hostSlot u n p.slot with st := .done, rep := repHeader (newCmd op p s) status words.length o t :: words } (bump 0x5C none u))) := by
  have hh : hostSlot (bump 0x5C none u) n p.slot = hostSlot u n p.slot := by simp [hostSlot]
  have hq : (newCmd op p s).pkt = p := rfl
  unfold deliver; rw [hq]; simp only [hr, hh]

/-- Telemetry that differs in its counters alone. -/
def telSame (a b : Tel) : Prop := a = { b with cnt := a.cnt, wrapPend := a.wrapPend }

theorem telSame_trans {a b c : Tel} (h : telSame a b) (k : telSame b c) : telSame a c := by
  unfold telSame at *; rw [k] at h; exact h

theorem telBump_telSame (c n : Nat) (l : Option Nat) (s : State) : telSame (telBump c n l s).tel s.tel := by
  unfold telBump; split <;> rfl

theorem bumpN_telSame (c n : Nat) (l : Option Nat) (s : State) : telSame (bumpN c n l s).tel s.tel :=
  telBump_telSame _ _ _ _

theorem raiseL_telSame (u : Sub) (n : Nat) (ls : List Nat) (s : State) : telSame (raiseL u n ls s).tel s.tel := by
  unfold raiseL; simp only; split
  · rfl
  · exact telBump_telSame _ _ _ _

theorem accepted_telSame (s : State) : telSame (accepted s).tel s.tel := telBump_telSame _ _ _ _

/-- A state whose other fields are those of `s` is `s` with the fields that a reply writes. -/
theorem reply_fields {s t : State} (h : t.pending = s.pending ∧ t.out = s.out ∧ t.rng = s.rng ∧ t.time = s.time ∧
    t.frac = s.frac ∧ t.servo = s.servo ∧ t.aon = s.aon ∧ t.glb = s.glb ∧ t.svc = s.svc ∧ t.vlt = s.vlt ∧ t.cis = s.cis ∧ t.cxm = s.cxm ∧ t.egr = s.egr ∧ t.ing = s.ing ∧ t.ecfg = s.ecfg ∧ t.sct = s.sct ∧ t.secys = s.secys ∧ t.tx = s.tx ∧ t.rx = s.rx ∧ t.lne = s.lne ∧ t.jnl = s.jnl ∧ t.fab = s.fab ∧ t.chkCfg = s.chkCfg ∧
    t.chk = s.chk ∧ t.tst = s.tst) :
    t = { s with mci := t.mci, evt := t.evt, tel := t.tel, cnt := t.cnt, que := t.que } := by
  cases s; cases t; simp_all

/-- What completing a command makes of the state that its effect left, when that state is `s` with the packet accepted. -/
theorem complete_answered {op n : Nat} {p : Pkt} {s : State} (hn : n < 4) (hr : p.req = .hq n) (status : Nat) (words : List W64) :
    answered op n p status words s (settle (complete (newCmd op p s) status words (accepted s))) := by
  have hq : (newCmd op p s).pkt = p := rfl
  have hk : reqCode p.req = n := by rw [hr]; rfl
  have hs : isSvc p.req = false := by rw [hr]; rfl
  have hd : Sub.mci.defined.getLsbD n = true := by
    have : n = 0 ∨ n = 1 ∨ n = 2 ∨ n = 3 := by omega
    rcases this with h | h | h | h <;> subst h <;> decide
  have hsh := fun u => raised_shows .mci n u hd (by omega)
  simp only [complete, completeWith, deliver_host hr]
  obtain ⟨Q, hQ, hq6⟩ : ∃ Q : SMap Que, (if (accepted s).mci.cmdq.any (fun c => c.id == (newCmd op p s).id) then
      modQue 6 (fun v => v.take 1) (accepted s) else accepted s) = { accepted s with que := Q } ∧
      ∀ j, j ≠ 6 → smGet .reset Q j = queOf s j := by
    have h6 : ∀ j, j ≠ 6 → queOf (accepted s) j = queOf s j := by
      intro j hj; simp only [accepted, quePass, queOf_modQue, if_neg hj]; simp [queOf]
    split
    · refine ⟨_, rfl, fun j hj => ?_⟩
      rw [← h6 j hj]; simp [queOf, hj]
    · exact ⟨_, rfl, fun j hj => h6 j hj⟩
  rw [hQ]
  refine ⟨⟨?_, hsh _⟩, ?_, ?_, ?_, ?_, ?_, ?_, ?_⟩
  · simp [raise, hostSlot, setHostSlot]
  · apply reply_fields; simp [raise]
  · simp [raise, hostSlot, setHostSlot, hq, hk, hs]
  · intro m j h; simp [raise, hostSlot, setHostSlot, h]
  · exact telSame_trans (raiseL_telSame _ _ _ _) (telSame_trans (bumpN_telSame _ _ _ _) (accepted_telSame s))
  · intro c; simp [raise, bump, bumpN]; split <;> simp_all
  · intro j h6 h7; simp [raise, queOf, quePass, modQue, setQue, h7]; exact hq6 j h6
  · intro u hu
    simp only [List.mem_singleton] at hu
    simp [raise, hu]

/-- With both resets high a meaning ends as it says. -/
theorem run_high {s t : State} (h : resetLow s = false) : run s t = done t := by unfold run; rw [h]; rfl

/-- With a reset low nothing happens. -/
theorem run_low {s t : State} (h : resetLow s = true) : run s t = .next s := by unfold run; rw [h]; rfl

/-- A meaning's end with no new cause. -/
theorem done_settled (s : State) : ∃ t, done s = .next t ∧ settled s t :=
  ⟨settle s, rfl, rfl, fun u _ => by simp⟩

/-- Raising a cause, as an update. -/
theorem raiseL_eq (u : Sub) (n : Nat) (ls : List Nat) (s : State) :
    raiseL u n ls s = { s with evt := (raiseL u n ls s).evt,
                               tel := { s.tel with cnt := (raiseL u n ls s).tel.cnt, wrapPend := (raiseL u n ls s).tel.wrapPend } } := by
  unfold raiseL; simp only; split
  · rfl
  · unfold telBump; split <;> rfl

theorem levelOf_raiseL (u : Sub) (n : Nat) (ls : List Nat) (s : State) (v : Sub) : levelOf (raiseL u n ls s) v = levelOf s v := by
  rw [raiseL_eq]; cases v <;> rfl

/-- A meaning's end with one new cause. -/
theorem done_settledWith (u : Sub) (n : Nat) (s : State) (hd : u.defined.getLsbD n = true) (hn : n < 72) :
    ∃ t, done (raise u n s) = .next t ∧ settledWith u n s t := by
  refine ⟨settle (raise u n s), rfl, ?_, raised_shows u n s hd hn, ?_⟩
  · unfold raise; rw [raiseL_eq]; rfl
  · intro v hv
    simp only [List.mem_singleton] at hv
    simp [raise, hv, levelOf_raiseL]

/-- A level condition that holds shows at a step's end. -/
theorem level_shows {s t : State} {u : Sub} {n : Nat} (h : settled s t) (hl : (levelOf t u).getLsbD n = true)
    (hd : u.defined.getLsbD n = true) : eventSet t u n := by
  have hq := h.2 u (by simp)
  have hn : n < 72 := by
    by_contra hc; rw [BitVec.getLsbD_of_ge _ _ (by omega)] at hd; cases hd
  rw [eventSet, hq, (cycle_bits _ _ _ _).1, (cycle_bits _ _ _ _).2.1]
  constructor <;> simp [hl, hd, hn]

/-- A set without causes, bits or level conditions stays empty. -/
theorem cycle_still (u : Sub) (l : BitVec 72) (n : Nat) (e : EvSet) (hl : l = 0) (hp : e.pendReal = 0) (hf : e.pendForced = 0)
    (hs : e.stat = 0) (hr : e.raw = 0) : (e.cycle u l n).stat = 0 ∧ (e.cycle u l n).raw = 0 := by
  rw [(cycle_bits _ _ _ _).1, (cycle_bits _ _ _ _).2.1, hl, hp, hf, hs, hr]; simp

/-- Every command row runs its effect through `runRow`, with no reset low. -/
theorem exec_mciOf {c : Instr} {op : Nat} {p : Pkt} (h : mciOf c = some (op, p)) (s : State) :
    ∃ eff, exec c s = run s (runRow op eff p s) ∧ op < 256 := by
  cases c <;> simp only [mciOf, Option.some.injEq, Prod.mk.injEq, reduceCtorEq] at h <;> obtain ⟨rfl, rfl⟩ := h <;>
    exact ⟨_, rfl, by omega⟩

/-- A row that the checks of R327 refuse once its turn has come completes with their status. -/
theorem runRow_refused {op n st : Nat} {p : Pkt} {s : State} (eff : QCmd → State → State) (h : reaches op n p s = true)
    (hst : checkRun (newCmd op p s) s = some st) :
    n < 4 ∧ p.req = .hq n ∧ runRow op eff p s = complete (newCmd op p s) st [] (accepted s) := by
  simp only [reaches, Bool.and_eq_true, decide_eq_true_eq, Bool.not_eq_true', beq_iff_eq, Option.isNone_iff_eq_none] at h
  obtain ⟨⟨⟨⟨⟨⟨⟨hn, hr⟩, hrem⟩, hform⟩, hdup⟩, htag⟩, hheld⟩, _⟩ := h
  refine ⟨hn, hr, ?_⟩
  have e0 : runRow op eff p s = acceptCmd (fun q t => if heldBack t q then enqueue q t else startCmd eff q (quePass 6 1 t))
      (newCmd op p s) (arrived s) := rfl
  rw [e0]
  have e1 : dupEntry (arrived s) (newCmd op p s) = none := by rw [arrived_eq]; exact hdup
  have e2 : tagBusy (arrived s) (newCmd op p s) = false := by rw [arrived_eq]; exact htag
  have e3 : heldBack (arrived s) (newCmd op p s) = false := by rw [arrived_eq]; exact hheld
  have e4 : checkRun (newCmd op p s) (accepted s) = some st := by
    rw [← hst]; simp [checkRun, lockoutStatus]
  have hpk : (newCmd op p s).pkt = p := rfl
  simp only [acceptCmd, hform, checkDup, e1, e2, hpk, hr, hrem, e3, Bool.false_eq_true, if_false, accepted_arrived, startCmd, e4]
  rfl

/-- A host's command that starts now: its queue and requester. -/
theorem startsNow_req {op n : Nat} {p : Pkt} {s : State} (h : startsNow op n p s = true) : n < 4 ∧ p.req = .hq n := by
  simp only [startsNow, Bool.and_eq_true, decide_eq_true_eq, beq_iff_eq] at h
  exact ⟨h.1.1.1.1.1.1.1.1.1.1, h.1.1.1.1.1.1.1.1.1.2⟩

/-- A command that starts now meets no reset. -/
theorem startsNow_high {op n : Nat} {p : Pkt} {s : State} (h : startsNow op n p s = true) : resetLow s = false := by
  simp only [startsNow, Bool.and_eq_true, Bool.not_eq_true'] at h; exact h.2

theorem reaches_high {op n : Nat} {p : Pkt} {s : State} (h : reaches op n p s = true) : resetLow s = false := by
  simp only [reaches, Bool.and_eq_true, Bool.not_eq_true'] at h; exact h.2

end Sys2Proof.Machine
end

