-- ==== Sys2Proof/Laws/Frames.lean ====
section
/-!
SUPPORT. Frames: what the shared operations over the context store, the frames in flight and the journal leave alone.
-/
namespace Sys2Proof.Machine

theorem sameBut_refl (ps : List Part) (s : State) : sameBut ps s s := by intro p _; cases p <;> rfl

theorem sameBut_trans {ps : List Part} {s t u : State} (h : sameBut ps s t) (k : sameBut ps t u) : sameBut ps s u := by
  intro p hp
  have a := h p hp
  have b := k p hp
  cases p <;> simp only [Part.same] at * <;> rw [b, a]

theorem sameBut_mono {ps qs : List Part} {s t : State} (h : sameBut ps s t) (hs : ∀ p ∈ ps, p ∈ qs) : sameBut qs s t :=
  fun p hp => h p (fun hq => hp (hs p hq))

/-- A fold of steps that keep a frame keeps it. -/
theorem sameBut_foldl {α : Type} {ps : List Part} (f : State → α → State) (hf : ∀ s a, sameBut ps s (f s a)) (l : List α) (s : State) :
    sameBut ps s (l.foldl f s) := by
  induction l generalizing s with
  | nil => exact sameBut_refl ps s
  | cons a l ih => exact sameBut_trans (hf s a) (ih _)

theorem sameBut_telBump (c n : Nat) (l : Option Nat) (s : State) : sameBut [.tel] s (telBump c n l s) := by
  intro p hp; cases p <;> simp_all [Part.same]

theorem sameBut_bumpN (c n : Nat) (l : Option Nat) (s : State) : sameBut [.tel, .cnt] s (bumpN c n l s) := by
  intro p hp; cases p <;> simp_all [Part.same]

theorem sameBut_bump (c : Nat) (l : Option Nat) (s : State) : sameBut [.tel, .cnt] s (bump c l s) := sameBut_bumpN _ _ _ _

theorem sameBut_emit (o : Out) (s : State) : sameBut [.out] s (emit o s) := by
  intro p hp; cases p <;> simp_all [Part.same]

theorem sameBut_raiseL (u : Sub) (n : Nat) (ls : List Nat) (s : State) : sameBut [.tel, .evt] s (raiseL u n ls s) := by
  intro p hp; cases p <;> simp_all [Part.same]

theorem sameBut_settle (s : State) : sameBut [.evt] s (settle s) := by
  intro p hp; cases p <;> simp_all [Part.same]

/-! The context store: its lines, its DRAM side, its port, and the counts and outputs that go with them. -/

/-- The parts that the context store's operations write. -/
def ctxParts : List Part := [.cis, .cxm, .out, .cnt, .tel]

theorem ctx_cxm (s : State) (c : Cxm) : sameBut ctxParts s { s with cxm := c } := by
  intro p hp; cases p <;> first | rfl | simp [ctxParts] at hp

theorem ctx_cis (s : State) (c : Cis) : sameBut ctxParts s { s with cis := c } := by
  intro p hp; cases p <;> first | rfl | simp [ctxParts] at hp

theorem ctx_bump (c : Nat) (l : Option Nat) (s : State) : sameBut ctxParts s (bump c l s) :=
  sameBut_mono (sameBut_bump c l s) (by decide)

theorem ctx_telBump (c n : Nat) (l : Option Nat) (s : State) : sameBut ctxParts s (telBump c n l s) :=
  sameBut_mono (sameBut_telBump c n l s) (by decide)

theorem ctx_emit (o : Out) (s : State) : sameBut ctxParts s (emit o s) := sameBut_mono (sameBut_emit o s) (by decide)

theorem ctx_pumpWrites (n : Nat) (s : State) : sameBut ctxParts s (pumpWrites n s) := by
  induction n generalizing s with
  | zero => exact sameBut_refl _ _
  | succ n ih =>
    simp only [pumpWrites]; split
    · exact sameBut_refl _ _
    · split
      · exact sameBut_trans (sameBut_trans (sameBut_trans (ctx_cxm s _) (ctx_emit _ _)) (ctx_telBump _ _ _ _)) (ih _)
      · exact sameBut_refl _ _

theorem ctx_cxmPut (o : Nat) (d : List Byte) (l : Option Nat) (s : State) : sameBut ctxParts s (cxmPut o d l s) :=
  sameBut_trans (ctx_cxm s _) (ctx_pumpWrites _ _)

theorem ctx_writeLeaf (j : Nat) (l : Leaf) (s : State) : sameBut ctxParts s (writeLeaf j l s) :=
  sameBut_trans (sameBut_trans (ctx_cxm s _) (ctx_cxm _ _)) (ctx_cxmPut _ _ _ _)

theorem ctx_useLeaf (j : Nat) (s : State) : sameBut ctxParts s (useLeaf j s) := by
  unfold useLeaf; split
  · exact sameBut_trans (ctx_cxm s _) (ctx_cxm _ _)
  · exact sameBut_refl _ _

theorem ctx_writeLineNow (n : Nat) (s : State) : sameBut ctxParts s (writeLineNow n s) := by
  unfold writeLineNow; split
  · exact sameBut_trans (sameBut_trans (ctx_cxm s _) (ctx_cxm _ _)) (ctx_cxmPut _ _ _ _)
  · exact sameBut_refl _ _

theorem ctx_pumpReads (n : Nat) (s : State) : sameBut ctxParts s (pumpReads n s) := by
  induction n generalizing s with
  | zero => exact sameBut_refl _ _
  | succ n ih =>
    simp only [pumpReads]; split
    · exact sameBut_refl _ _
    · split
      · exact sameBut_trans (sameBut_trans (sameBut_trans (ctx_cxm s _) (ctx_emit _ _)) (ctx_telBump _ _ _ _)) (ih _)
      · exact sameBut_refl _ _

/-- A fill starts. -/
theorem ctx_startFill (n : Nat) (s : State) : sameBut ctxParts s (startFill n s) := by
  unfold startFill; split
  · exact sameBut_refl _ _
  · refine sameBut_trans ?_ (sameBut_trans (ctx_cxm _ _) (ctx_pumpReads 2 _))
    split
    · exact sameBut_refl _ _
    · exact sameBut_trans (ctx_useLeaf _ _) (ctx_bump _ _ _)

theorem ctx_keepLine (n : Nat) (s : State) : sameBut ctxParts s (keepLine n s) := ctx_cxm s _

/-- A line with an entry of the write-back buffer is written. -/
theorem ctx_wbWrite (n : Nat) (s : State) : sameBut ctxParts s (wbWrite n s) := by
  unfold wbWrite; dsimp only; split
  · exact ctx_keepLine n s
  · split
    · exact sameBut_trans (sameBut_trans (ctx_useLeaf _ _) (ctx_bump _ _ _)) (ctx_writeLineNow _ _)
    · split
      · exact sameBut_refl _ _
      · exact sameBut_trans (sameBut_trans (ctx_cxm _ _) (ctx_bump _ _ _)) (ctx_pumpReads 2 _)

theorem ctx_pumpWb (k : Nat) (s : State) : sameBut ctxParts s (pumpWb k s) := by
  induction k generalizing s with
  | zero => exact sameBut_refl _ _
  | succ k ih =>
    simp only [pumpWb]; split
    · split
      · exact sameBut_refl _ _
      · exact sameBut_trans (sameBut_trans (ctx_cxm s _) (ctx_wbWrite _ _)) (ih _)
    · exact sameBut_refl _ _

/-- What freed entries, tags and addresses let go on. -/
theorem ctx_pumpCxm (s : State) : sameBut ctxParts s (pumpCxm s) :=
  sameBut_trans (sameBut_trans (ctx_pumpWb 32 s) (ctx_pumpWrites 32 _)) (ctx_pumpReads 128 _)

/-- A line is written to DRAM, or waits for an entry. -/
theorem ctx_writeLine (n : Nat) (s : State) : sameBut ctxParts s (writeLine n s) := by
  unfold writeLine; split
  · exact ctx_wbWrite _ _
  · split
    · exact sameBut_refl _ _
    · exact ctx_cxm s _

theorem ctx_lineChanged (n : Nat) (s : State) : sameBut ctxParts s (lineChanged n s) := by
  unfold lineChanged; split
  · exact ctx_cis s _
  · split
    · exact ctx_cxm s _
    · exact sameBut_refl _ _

/-- A line has changed. -/
theorem ctx_dirtyLine (n : Nat) (s : State) : sameBut ctxParts s (dirtyLine n s) := by
  unfold dirtyLine; dsimp only; split
  · exact ctx_lineChanged _ _
  · exact sameBut_trans (ctx_lineChanged _ _) (ctx_startFill _ _)

theorem ctx_dropLine (n : Nat) (s : State) : sameBut ctxParts s (dropLine n s) := by
  unfold dropLine; split
  · dsimp only; split
    · exact sameBut_trans (ctx_cis s _) (ctx_keepLine _ _)
    · split
      · exact sameBut_trans (ctx_cis s _) (ctx_writeLine _ _)
      · exact ctx_cis s _
  · exact sameBut_refl _ _

theorem ctx_evictLine (n : Nat) (s : State) : sameBut ctxParts s (evictLine n s) := by
  have h : ∀ b : Bool, sameBut ctxParts s (if b = true then bump 0x4B none s else s) := fun b => by
    cases b
    · exact sameBut_refl _ _
    · exact ctx_bump _ _ _
  exact sameBut_trans (h _) (ctx_dropLine n _)

theorem ctx_touchLine (n : Nat) (s : State) : sameBut ctxParts s (touchLine n s) := by
  unfold touchLine; repeat' split
  all_goals first | exact sameBut_refl _ _ | exact ctx_cis s _

theorem ctx_placeLine (n k : Nat) (d : Bool) (s : State) : sameBut ctxParts s (placeLine n k d s) := by
  unfold placeLine; dsimp only
  refine sameBut_trans ?_ (sameBut_trans (sameBut_trans (ctx_cxm _ _) (ctx_cis _ _)) (ctx_touchLine _ _))
  split
  · split
    · exact sameBut_refl _ _
    · exact ctx_evictLine _ _
  · exact sameBut_refl _ _

/-- A line is pinned. -/
theorem ctx_pinLine (n : Nat) (s : State) : sameBut ctxParts s (pinLine n s) := by
  unfold pinLine; split
  · exact ctx_placeLine _ _ _ _
  · exact ctx_dirtyLine _ _

/-- A line is freed. -/
theorem ctx_freeLine (n : Nat) (s : State) : sameBut ctxParts s (freeLine n s) := by
  unfold freeLine; dsimp only; split
  · exact sameBut_trans (sameBut_trans (ctx_cis s _) (ctx_cxm _ _)) (ctx_writeLine _ _)
  · exact sameBut_trans (ctx_cis s _) (ctx_cxm _ _)

/-! The vault. -/

/-- Setting a slot writes the vault alone. -/
theorem vlt_only (s : State) (v : Vlt) : sameBut [.vlt] s { s with vlt := v } := by
  intro p hp; cases p <;> first | rfl | simp at hp

theorem sameBut_zeroSlot (n : Nat) (s : State) : sameBut [.vlt] s (zeroSlot n s) :=
  sameBut_trans (vlt_only s _) (vlt_only _ _)

/-- A zeroized slot is EMPTY with no share, and no other slot changes. -/
theorem vslot_zeroSlot (n : Nat) (s : State) (j : Nat) :
    vslot (zeroSlot n s) j =
      if j = n then { VSlot.reset with gen := if (vslot s n).st = .empty then (vslot s n).gen else (vslot s n).gen + 1 }
      else vslot s j := by
  show vslot (setVslot n _ s) j = _
  rw [vslot_setVslot]

/-- A key's references change in the vault alone. -/
theorem sameBut_addRef (k : Nat) (u : Bool) (s : State) : sameBut [.vlt] s (addRef k u s) := by
  unfold addRef; split
  · exact vlt_only s _
  · exact sameBut_refl _ _

/-- What the reply to a host's command changes. -/
theorem complete_frame {op n st : Nat} {p : Pkt} {s u : State} (hr : p.req = .hq n) (ws : List W64) :
   sameBut [.mci, .evt, .tel, .cnt, .que] u (settle (complete (newCmd op p s) st ws u)) := by
  simp only [complete, completeWith, deliver_host hr]
  intro q hq
  split <;> cases q <;> first | (simp at hq; done) | simp [Part.same, raise]

/-- A reply to a host stands in the slot of its command, and its event shows. -/
theorem complete_reply {op n st : Nat} {p : Pkt} {s u : State} (hn : n < 4) (hr : p.req = .hq n) (ws : List W64) (hs : u.mci.slots = s.mci.slots) :
   replyIn op n p st ws s (settle (complete (newCmd op p s) st ws u)) := by
  have hd : Sub.mci.defined.getLsbD n = true := by
    have : n = 0 ∨ n = 1 ∨ n = 2 ∨ n = 3 := by omega
    rcases this with h | h | h | h <;> subst h <;> decide
  have hsh := fun u => raised_shows .mci n u hd (by omega)
  simp only [complete, completeWith, deliver_host hr]
  refine ⟨?_, hsh _⟩
  split <;> simp [raise, hostSlot, setHostSlot, hs]

end Sys2Proof.Machine
end

