-- ==== Sys2Proof/Laws/PerInstr.lean ====
section
/-!
SUPPORT. The family NoWord of statements, one per command: the opcode table gives its rows no bits, so no word spells a command. They
come in on ports instead, with the operands that `Instr` names.
-/
namespace Sys2Proof.Laws.NoWord

/-- No word of any width decodes to this command. -/
def Statement (i : Instr) : Prop := ∀ nbits w : Nat, decodeTableWord nbits w ≠ some i

theorem none_spelt (i : Instr) : Statement i := fun _ _ h => by simp [decodeTableWord] at h

theorem powerOnReset : Statement Instr.powerOnReset := none_spelt _
theorem systemReset : Statement Instr.systemReset := none_spelt _
theorem resetRelease : Statement Instr.resetRelease := none_spelt _
theorem rootkeyWord (data : BitVec 32) (err : Bool) : Statement (Instr.rootkeyWord data err) := none_spelt _
theorem rootkeyDeadline : Statement Instr.rootkeyDeadline := none_spelt _
theorem firmwareVerified (romOk : Bool) (patch : Option (Option (BitVec 24))) : Statement (Instr.firmwareVerified romOk patch) := none_spelt _
theorem domainRampDone (pd : Nat) (err : BitVec 512) : Statement (Instr.domainRampDone pd err) := none_spelt _
theorem commandReady : Statement Instr.commandReady := none_spelt _
theorem journalResolution : Statement Instr.journalResolution := none_spelt _
theorem resumeComplete : Statement Instr.resumeComplete := none_spelt _
theorem entropySample (byte : Byte) (err : Bool) : Statement (Instr.entropySample byte err) := none_spelt _
theorem drbgInstantiate : Statement Instr.drbgInstantiate := none_spelt _
theorem drbgReseed : Statement Instr.drbgReseed := none_spelt _
theorem entropyRetest : Statement Instr.entropyRetest := none_spelt _
theorem tamperInput (level : BitVec 4) : Statement (Instr.tamperInput level) := none_spelt _
theorem voltageGlitch : Statement Instr.voltageGlitch := none_spelt _
theorem clockFault (bad : Bool) : Statement (Instr.clockFault bad) := none_spelt _
theorem prtUpChange (v : W64) : Statement (Instr.prtUpChange v) := none_spelt _
theorem steerAckRise : Statement Instr.steerAckRise := none_spelt _
theorem steerAckFall : Statement Instr.steerAckFall := none_spelt _
theorem steerLate : Statement Instr.steerLate := none_spelt _
theorem steerAckStuck : Statement Instr.steerAckStuck := none_spelt _
theorem sysNop (p : Pkt) : Statement (Instr.sysNop p) := none_spelt _
theorem sysGetInfo (p : Pkt) : Statement (Instr.sysGetInfo p) := none_spelt _
theorem sysSetMode (p : Pkt) : Statement (Instr.sysSetMode p) := none_spelt _
theorem sysReadState (p : Pkt) : Statement (Instr.sysReadState p) := none_spelt _
theorem sysSetPolicy (p : Pkt) : Statement (Instr.sysSetPolicy p) := none_spelt _
theorem stagingSetTimeout (dir : Dir) : Statement (Instr.stagingSetTimeout dir) := none_spelt _
theorem secyCreate (p : Pkt) : Statement (Instr.secyCreate p) := none_spelt _
theorem secyModify (p : Pkt) : Statement (Instr.secyModify p) := none_spelt _
theorem secyEnable (p : Pkt) : Statement (Instr.secyEnable p) := none_spelt _
theorem secyDisable (p : Pkt) : Statement (Instr.secyDisable p) := none_spelt _
theorem secyDelete (p : Pkt) : Statement (Instr.secyDelete p) := none_spelt _
theorem secyQuery (p : Pkt) : Statement (Instr.secyQuery p) := none_spelt _
theorem secyDrainComplete (link : Nat) : Statement (Instr.secyDrainComplete link) := none_spelt _
theorem secyDrainTimeout (link : Nat) : Statement (Instr.secyDrainTimeout link) := none_spelt _
theorem scAddRx (p : Pkt) : Statement (Instr.scAddRx p) := none_spelt _
theorem scRemoveRx (p : Pkt) : Statement (Instr.scRemoveRx p) := none_spelt _
theorem scQuery (p : Pkt) : Statement (Instr.scQuery p) := none_spelt _
theorem saInstall (p : Pkt) : Statement (Instr.saInstall p) := none_spelt _
theorem saEnableRx (p : Pkt) : Statement (Instr.saEnableRx p) := none_spelt _
theorem saSetTx (p : Pkt) : Statement (Instr.saSetTx p) := none_spelt _
theorem saRetire (p : Pkt) : Statement (Instr.saRetire p) := none_spelt _
theorem saRetireComplete (dir : Dir) (sa : Nat) : Statement (Instr.saRetireComplete dir sa) := none_spelt _
theorem saQuery (p : Pkt) : Statement (Instr.saQuery p) := none_spelt _
theorem saStatsRead (p : Pkt) : Statement (Instr.saStatsRead p) := none_spelt _
theorem keyLoadWrapped (p : Pkt) : Statement (Instr.keyLoadWrapped p) := none_spelt _
theorem keyDerive (p : Pkt) : Statement (Instr.keyDerive p) := none_spelt _
theorem keyWrapExport (p : Pkt) : Statement (Instr.keyWrapExport p) := none_spelt _
theorem keyRetire (p : Pkt) : Statement (Instr.keyRetire p) := none_spelt _
theorem keySlotZeroized (slot : Nat) : Statement (Instr.keySlotZeroized slot) := none_spelt _
theorem keyQuery (p : Pkt) : Statement (Instr.keyQuery p) := none_spelt _
theorem keyGenerate (p : Pkt) : Statement (Instr.keyGenerate p) := none_spelt _
theorem cutSchedule (p : Pkt) : Statement (Instr.cutSchedule p) := none_spelt _
theorem cutCancel (p : Pkt) : Statement (Instr.cutCancel p) := none_spelt _
theorem cutQuery (p : Pkt) : Statement (Instr.cutQuery p) := none_spelt _
theorem mkaEnable (p : Pkt) : Statement (Instr.mkaEnable p) := none_spelt _
theorem mkaDisable (p : Pkt) : Statement (Instr.mkaDisable p) := none_spelt _
theorem mkaSetCak (p : Pkt) : Statement (Instr.mkaSetCak p) := none_spelt _
theorem mkaQuery (p : Pkt) : Statement (Instr.mkaQuery p) := none_spelt _
theorem mkaForceRekey (p : Pkt) : Statement (Instr.mkaForceRekey p) := none_spelt _
theorem leaseQuery (p : Pkt) : Statement (Instr.leaseQuery p) := none_spelt _
theorem leaseSetGrain (p : Pkt) : Statement (Instr.leaseSetGrain p) := none_spelt _
theorem fabQuery (p : Pkt) : Statement (Instr.fabQuery p) := none_spelt _
theorem fabSetRole (p : Pkt) : Statement (Instr.fabSetRole p) := none_spelt _
theorem fabPair (p : Pkt) : Statement (Instr.fabPair p) := none_spelt _
theorem fabUnpair (p : Pkt) : Statement (Instr.fabUnpair p) := none_spelt _
theorem fabPortCtl (p : Pkt) : Statement (Instr.fabPortCtl p) := none_spelt _
theorem jnlCommitImage (p : Pkt) : Statement (Instr.jnlCommitImage p) := none_spelt _
theorem jnlQuery (p : Pkt) : Statement (Instr.jnlQuery p) := none_spelt _
theorem jnlErase (p : Pkt) : Statement (Instr.jnlErase p) := none_spelt _
theorem cxmRekeyScramble (p : Pkt) : Statement (Instr.cxmRekeyScramble p) := none_spelt _
theorem cxmRebuild (p : Pkt) : Statement (Instr.cxmRebuild p) := none_spelt _
theorem chkRun (p : Pkt) : Statement (Instr.chkRun p) := none_spelt _
theorem chkQuery (p : Pkt) : Statement (Instr.chkQuery p) := none_spelt _
theorem telSlate (p : Pkt) : Statement (Instr.telSlate p) := none_spelt _
theorem diagLaneKat (p : Pkt) : Statement (Instr.diagLaneKat p) := none_spelt _
theorem diagVaultKat (p : Pkt) : Statement (Instr.diagVaultKat p) := none_spelt _
theorem commandSlotWrite (q slot k : Nat) (data : W64) (priv : Bool) : Statement (Instr.commandSlotWrite q slot k data priv) := none_spelt _
theorem doorbell (q slot : Nat) (priv : Bool) : Statement (Instr.doorbell q slot priv) := none_spelt _
theorem commandStart : Statement Instr.commandStart := none_spelt _
theorem replyRelease (q : Nat) (mask : Byte) (priv : Bool) : Statement (Instr.replyRelease q mask priv) := none_spelt _
theorem fwdResend (dst tag : Nat) : Statement (Instr.fwdResend dst tag) := none_spelt _
theorem fwdTimeout (dst tag : Nat) : Statement (Instr.fwdTimeout dst tag) := none_spelt _
theorem cliRxFrame (segs : List Seg) (flt : FrameFaults) : Statement (Instr.cliRxFrame segs flt) := none_spelt _
theorem egressRelease (fdBad : Bool) : Statement (Instr.egressRelease fdBad) := none_spelt _
theorem injectedFrame : Statement Instr.injectedFrame := none_spelt _
theorem linRxFrame (segs : List Seg) (flt : FrameFaults) : Statement (Instr.linRxFrame segs flt) := none_spelt _
theorem ingressCommit (link : Nat) (fdBad : Bool) : Statement (Instr.ingressCommit link fdBad) := none_spelt _
theorem ingressRelease (fdBad : Bool) : Statement (Instr.ingressRelease fdBad) := none_spelt _
theorem shedRise (dir : Dir) (blocks : Nat) : Statement (Instr.shedRise dir blocks) := none_spelt _
theorem shedFall (dir : Dir) (blocks : Nat) : Statement (Instr.shedFall dir blocks) := none_spelt _
theorem laneFaultFlag (dir : Dir) (lane stage check : Nat) (link order block : Nat) (copy : Bool) : Statement (Instr.laneFaultFlag dir lane stage check link order block copy) := none_spelt _
theorem spareReady (dir : Dir) (lane : Nat) (err : BitVec 512) : Statement (Instr.spareReady dir lane err) := none_spelt _
theorem cxmReadBeat (tag : Nat) (data : List Byte) (last : Bool) (ecc : BitVec 2) : Statement (Instr.cxmReadBeat tag data last ecc) := none_spelt _
theorem cxmWriteDone (tag : Nat) (err : Bool) : Statement (Instr.cxmWriteDone tag err) := none_spelt _
theorem cxmReadTimeout (tag : Nat) : Statement (Instr.cxmReadTimeout tag) := none_spelt _
theorem cxmWriteTimeout (tag : Nat) : Statement (Instr.cxmWriteTimeout tag) := none_spelt _
theorem fillComplete (line : Nat) : Statement (Instr.fillComplete line) := none_spelt _
theorem reprimeStart : Statement Instr.reprimeStart := none_spelt _
theorem mirrorQueryTimeout : Statement Instr.mirrorQueryTimeout := none_spelt _
theorem reprimeDone : Statement Instr.reprimeDone := none_spelt _
theorem regionBuildDone : Statement Instr.regionBuildDone := none_spelt _
theorem sweepStep : Statement Instr.sweepStep := none_spelt _
theorem jnlReadBeat (tag : Nat) (data : W64) (err : Bool) : Statement (Instr.jnlReadBeat tag data err) := none_spelt _
theorem jnlReadTimeout (tag : Nat) : Statement (Instr.jnlReadTimeout tag) := none_spelt _
theorem jnlWriteDone (err : Bool) : Statement (Instr.jnlWriteDone err) := none_spelt _
theorem jnlWriteTimeout : Statement Instr.jnlWriteTimeout := none_spelt _
theorem leaseReq (hdr : MsgHdr) (m : LeaseReq) : Statement (Instr.leaseReq hdr m) := none_spelt _
theorem leaseGrant (hdr : MsgHdr) (m : LeaseGrant) : Statement (Instr.leaseGrant hdr m) := none_spelt _
theorem leaseResend (sa : Nat) : Statement (Instr.leaseResend sa) := none_spelt _
theorem leaseSync (hdr : MsgHdr) (m : LeaseSync) : Statement (Instr.leaseSync hdr m) := none_spelt _
theorem leaseSyncAck (hdr : MsgHdr) (m : LeaseSync) : Statement (Instr.leaseSyncAck hdr m) := none_spelt _
theorem cutTaken (link : Nat) : Statement (Instr.cutTaken link) := none_spelt _
theorem armTimeout (link : Nat) : Statement (Instr.armTimeout link) := none_spelt _
theorem cutScheduleDeadline (links : List Nat) : Statement (Instr.cutScheduleDeadline links) := none_spelt _
theorem mkpduReceived (m : Mkpdu) : Statement (Instr.mkpduReceived m) := none_spelt _
theorem mkaHelloTimer (link : Nat) : Statement (Instr.mkaHelloTimer link) := none_spelt _
theorem mkaLifeTime (link : Nat) (peer : Option W64) : Statement (Instr.mkaLifeTime link peer) := none_spelt _
theorem rekeyInterval (link : Nat) : Statement (Instr.rekeyInterval link) := none_spelt _
theorem overlapEnd (link sc an : Nat) : Statement (Instr.overlapEnd link sc an) := none_spelt _
theorem dozeHeldTimeout : Statement Instr.dozeHeldTimeout := none_spelt _
theorem dozeEntryComplete : Statement Instr.dozeEntryComplete := none_spelt _
theorem wakeCause : Statement Instr.wakeCause := none_spelt _
theorem timedWake : Statement Instr.timedWake := none_spelt _
theorem wakeComplete : Statement Instr.wakeComplete := none_spelt _
theorem wakeLate : Statement Instr.wakeLate := none_spelt _
theorem coldDrainComplete : Statement Instr.coldDrainComplete := none_spelt _
theorem remaskSweepStart : Statement Instr.remaskSweepStart := none_spelt _
theorem remaskStalled (sameShare : Bool) : Statement (Instr.remaskStalled sameShare) := none_spelt _
theorem unwrapDone (engine : Nat) (parityFault : Bool) : Statement (Instr.unwrapDone engine parityFault) := none_spelt _
theorem fabLaneReady (lane : Nat) (up : Bool) : Statement (Instr.fabLaneReady lane up) := none_spelt _
theorem cdrLockLoss (lane : Nat) : Statement (Instr.cdrLockLoss lane) := none_spelt _
theorem portSignalDetect (lane : Nat) (sig cdr : Bool) : Statement (Instr.portSignalDetect lane sig cdr) := none_spelt _
theorem leaderReceived (port lane : Nat) (m : RxBus) : Statement (Instr.leaderReceived port lane m) := none_spelt _
theorem caps (hdr : MsgHdr) (m : Caps) : Statement (Instr.caps hdr m) := none_spelt _
theorem capsSend (port : Nat) : Statement (Instr.capsSend port) := none_spelt _
theorem phaseTimeout (port : Nat) : Statement (Instr.phaseTimeout port) := none_spelt _
theorem backoffEnd (port : Nat) : Statement (Instr.backoffEnd port) := none_spelt _
theorem absentProbe (port : Nat) : Statement (Instr.absentProbe port) := none_spelt _
theorem fabricMessageDrop (port : Nat) : Statement (Instr.fabricMessageDrop port) := none_spelt _
theorem portHoldEnd (port : Nat) : Statement (Instr.portHoldEnd port) := none_spelt _
theorem returnWinExpiry (port : Nat) : Statement (Instr.returnWinExpiry port) := none_spelt _
theorem refreshTimer (port : Nat) : Statement (Instr.refreshTimer port) := none_spelt _
theorem idleReq (port : Nat) : Statement (Instr.idleReq port) := none_spelt _
theorem idleAck (port : Nat) : Statement (Instr.idleAck port) := none_spelt _
theorem idleExit (port : Nat) : Statement (Instr.idleExit port) := none_spelt _
theorem prbsInject (port : Nat) : Statement (Instr.prbsInject port) := none_spelt _
theorem helloSend (port : Nat) : Statement (Instr.helloSend port) := none_spelt _
theorem hello (hdr : MsgHdr) (m : Sys2Proof.Hello) : Statement (Instr.hello hdr m) := none_spelt _
theorem helloLoss (port : Nat) : Statement (Instr.helloLoss port) := none_spelt _
theorem lsa (hdr : MsgHdr) (m : Sys2Proof.Lsa) : Statement (Instr.lsa hdr m) := none_spelt _
theorem lsaRefresh : Statement Instr.lsaRefresh := none_spelt _
theorem lsaAgeOut (id : W64) : Statement (Instr.lsaAgeOut id) := none_spelt _
theorem addressClaim : Statement Instr.addressClaim := none_spelt _
theorem timeSyncTimer : Statement Instr.timeSyncTimer := none_spelt _
theorem timeReq (hdr : MsgHdr) (t2 t3 : Nat) : Statement (Instr.timeReq hdr t2 t3) := none_spelt _
theorem timeResp (hdr : MsgHdr) (t2 t3 : Nat) (offset : Int) (t4 : Nat) : Statement (Instr.timeResp hdr t2 t3 offset t4) := none_spelt _
theorem syncLossTimeout : Statement Instr.syncLossTimeout := none_spelt _
theorem pairHello (hdr : MsgHdr) (m : PairHello) : Statement (Instr.pairHello hdr m) := none_spelt _
theorem pairHb (hdr : MsgHdr) (m : PairHb) : Statement (Instr.pairHb hdr m) := none_spelt _
theorem pairHbSend : Statement Instr.pairHbSend := none_spelt _
theorem partnerLost : Statement Instr.partnerLost := none_spelt _
theorem digestMismatchTimer : Statement Instr.digestMismatchTimer := none_spelt _
theorem mirrorSend : Statement Instr.mirrorSend := none_spelt _
theorem mirrorTx (hdr : MsgHdr) (rs : List MirTx) (last : Bool) : Statement (Instr.mirrorTx hdr rs last) := none_spelt _
theorem mirrorRx (hdr : MsgHdr) (rs : List MirRx) : Statement (Instr.mirrorRx hdr rs) := none_spelt _
theorem mirrorQuery (hdr : MsgHdr) (rs : List MirRx) : Statement (Instr.mirrorQuery hdr rs) := none_spelt _
theorem mirrorReply (hdr : MsgHdr) (rs : List MirRx) : Statement (Instr.mirrorReply hdr rs) := none_spelt _
theorem markMerge (hdr : MsgHdr) (rs : List MarkRec) (last : Bool) : Statement (Instr.markMerge hdr rs last) := none_spelt _
theorem mergeAck (hdr : MsgHdr) : Statement (Instr.mergeAck hdr) := none_spelt _
theorem yieldNote (hdr : MsgHdr) : Statement (Instr.yieldNote hdr) := none_spelt _
theorem cutOffer (hdr : MsgHdr) (m : CutMsg) : Statement (Instr.cutOffer hdr m) := none_spelt _
theorem cutAck (hdr : MsgHdr) (m : CutMsg) : Statement (Instr.cutAck hdr m) := none_spelt _
theorem cutAbort (hdr : MsgHdr) (m : CutMsg) : Statement (Instr.cutAbort hdr m) := none_spelt _
theorem cmd (hdr : MsgHdr) (header : W64) (words : List W64) : Statement (Instr.cmd hdr header words) := none_spelt _
theorem reply (hdr : MsgHdr) (header : W64) (words : List W64) : Statement (Instr.reply hdr header words) := none_spelt _
theorem queueFlush (q : Nat) : Statement (Instr.queueFlush q) := none_spelt _
theorem pointerMismatch (q : Nat) : Statement (Instr.pointerMismatch q) := none_spelt _
theorem evtStatClear (sub w : Nat) (data : W64) : Statement (Instr.evtStatClear sub w data) := none_spelt _
theorem evtForce (sub w : Nat) (data : W64) (priv : Bool) : Statement (Instr.evtForce sub w data priv) := none_spelt _
theorem firstClear (sub : Nat) (data : W64) : Statement (Instr.firstClear sub data) := none_spelt _
theorem escalationExpiry (sub : Nat) : Statement (Instr.escalationExpiry sub) := none_spelt _
theorem svcRamUncorrectable : Statement Instr.svcRamUncorrectable := none_spelt _
theorem tamperLatchClear (data : W64) (priv : Bool) : Statement (Instr.tamperLatchClear data priv) := none_spelt _
theorem pdGateRequest (data : W64) : Statement (Instr.pdGateRequest data) := none_spelt _
theorem pdGateComplete (pd : Nat) : Statement (Instr.pdGateComplete pd) := none_spelt _
theorem chkJobEnd (k : Nat) (data : List Byte) (fail : Bool) (refDamaged : Bool) : Statement (Instr.chkJobEnd k data fail refDamaged) := none_spelt _
theorem dailiesStart (k : Nat) : Statement (Instr.dailiesStart k) := none_spelt _
theorem telCntWrite (i : Nat) (data : W64) (priv : Bool) : Statement (Instr.telCntWrite i data priv) := none_spelt _
theorem wrapSample (i link : Nat) : Statement (Instr.wrapSample i link) := none_spelt _
theorem wrapLogClear (data : W64) (priv : Bool) : Statement (Instr.wrapLogClear data priv) := none_spelt _
theorem readClear (addr : Nat) (priv : Bool) : Statement (Instr.readClear addr priv) := none_spelt _
theorem registerWrite (addr : Nat) (data : W64) (priv : Bool) : Statement (Instr.registerWrite addr data priv) := none_spelt _
theorem scanEnter : Statement Instr.scanEnter := none_spelt _
theorem mbistRun (mask : BitVec 8) : Statement (Instr.mbistRun mask) := none_spelt _
theorem remaskRowWrite (parBad : Bool) : Statement (Instr.remaskRowWrite parBad) := none_spelt _
theorem invalidBlock (port lane : Nat) (blk : BitVec 66) : Statement (Instr.invalidBlock port lane blk) := none_spelt _
theorem prbsChecker (port lane bits errs : Nat) : Statement (Instr.prbsChecker port lane bits errs) := none_spelt _
theorem messageForward (hdr : MsgHdr) (m : FabMsg) : Statement (Instr.messageForward hdr m) := none_spelt _
theorem portShutdownComplete (port : Nat) : Statement (Instr.portShutdownComplete port) := none_spelt _
theorem firstParticipantEnd (link : Nat) : Statement (Instr.firstParticipantEnd link) := none_spelt _
theorem spareSwitchOff (dir : Dir) (lane : Nat) : Statement (Instr.spareSwitchOff dir lane) := none_spelt _
theorem mbistComplete (group : Nat) (pass : Bool) : Statement (Instr.mbistComplete group pass) := none_spelt _
theorem svcRestartDone : Statement Instr.svcRestartDone := none_spelt _

end Sys2Proof.Laws.NoWord
end

