-- ==== Sys2Proof/WellFormed.lean ====
section
/-!
DEFINITION. Well-formed commands: every operand within the range that its port or field gives it. A command outside them cannot come
in on a port; the meanings are total and take one without effect on the object that it does not name.
-/
namespace Sys2Proof

/-- A link (R9), a fabric port (R284), an SA index of a direction (R266). -/
def wfLink (l : Nat) : Bool := decide (l < 1024)
def wfPort (p : Nat) : Bool := decide (p < 8)
def wfSa (d : Dir) (n : Nat) : Bool := match d with | .egr => decide (n < 4096) | .ing => decide (n < 65536)

/-- A requester (R324). -/
def wfReq : Req → Bool
  | .hq n => decide (n < 4)
  | .svc => true
  | .fab a => decide (a < 64)

/-- A command packet (R322): its fields fit the header; it carries LEN words, 64 at most. -/
def wfPkt (p : Pkt) : Bool :=
  wfReq p.req && decide (p.slot < 8) && decide (p.len < 256) && decide (p.tag < 65536) && decide (p.dst < 64)
    && decide (p.words.length = Nat.min p.len 64)

/-- A segment (R35, R38). -/
def wfSeg (g : Seg) : Bool := decide (g.data.length = 64) && decide (g.empty < 64) && decide (g.link < 1024)

/-- A message header (R286). -/
def wfHdr (h : MsgHdr) : Bool :=
  wfPort h.port && decide (h.dst < 64) && decide (h.ttl < 64) && (match h.src with | some a => decide (a < 64) | none => true)

/-- A well-formed command. -/
def Instr.wf : Instr → Bool
  | .powerOnReset => true
  | .systemReset => true
  | .resetRelease => true
  | .rootkeyWord _ _ => true
  | .rootkeyDeadline => true
  | .firmwareVerified _ _ => true
  | .domainRampDone pd _ => decide (pd < 56)
  | .commandReady => true
  | .journalResolution => true
  | .resumeComplete => true
  | .entropySample _ _ => true
  | .drbgInstantiate => true
  | .drbgReseed => true
  | .entropyRetest => true
  | .tamperInput _ => true
  | .voltageGlitch => true
  | .clockFault _ => true
  | .prtUpChange _ => true
  | .steerAckRise => true
  | .steerAckFall => true
  | .steerLate => true
  | .steerAckStuck => true
  | .sysNop p => wfPkt p
  | .sysGetInfo p => wfPkt p
  | .sysSetMode p => wfPkt p
  | .sysReadState p => wfPkt p
  | .sysSetPolicy p => wfPkt p
  | .stagingSetTimeout _ => true
  | .secyCreate p => wfPkt p
  | .secyModify p => wfPkt p
  | .secyEnable p => wfPkt p
  | .secyDisable p => wfPkt p
  | .secyDelete p => wfPkt p
  | .secyQuery p => wfPkt p
  | .secyDrainComplete link => wfLink link
  | .secyDrainTimeout link => wfLink link
  | .scAddRx p => wfPkt p
  | .scRemoveRx p => wfPkt p
  | .scQuery p => wfPkt p
  | .saInstall p => wfPkt p
  | .saEnableRx p => wfPkt p
  | .saSetTx p => wfPkt p
  | .saRetire p => wfPkt p
  | .saRetireComplete dir sa => wfSa dir sa
  | .saQuery p => wfPkt p
  | .saStatsRead p => wfPkt p
  | .keyLoadWrapped p => wfPkt p
  | .keyDerive p => wfPkt p
  | .keyWrapExport p => wfPkt p
  | .keyRetire p => wfPkt p
  | .keySlotZeroized slot => decide (slot < 8448)
  | .keyQuery p => wfPkt p
  | .keyGenerate p => wfPkt p
  | .cutSchedule p => wfPkt p
  | .cutCancel p => wfPkt p
  | .cutQuery p => wfPkt p
  | .mkaEnable p => wfPkt p
  | .mkaDisable p => wfPkt p
  | .mkaSetCak p => wfPkt p
  | .mkaQuery p => wfPkt p
  | .mkaForceRekey p => wfPkt p
  | .leaseQuery p => wfPkt p
  | .leaseSetGrain p => wfPkt p
  | .fabQuery p => wfPkt p
  | .fabSetRole p => wfPkt p
  | .fabPair p => wfPkt p
  | .fabUnpair p => wfPkt p
  | .fabPortCtl p => wfPkt p
  | .jnlCommitImage p => wfPkt p
  | .jnlQuery p => wfPkt p
  | .jnlErase p => wfPkt p
  | .cxmRekeyScramble p => wfPkt p
  | .cxmRebuild p => wfPkt p
  | .chkRun p => wfPkt p
  | .chkQuery p => wfPkt p
  | .telSlate p => wfPkt p
  | .diagLaneKat p => wfPkt p
  | .diagVaultKat p => wfPkt p
  | .commandSlotWrite q slot k _ _ => decide (q < 4) && decide (slot < 8) && decide (k < 128)
  | .doorbell q slot _ => decide (q < 4) && decide (slot < 8)
  | .commandStart => true
  | .replyRelease q _ _ => decide (q < 4)
  | .fwdResend dst tag => decide (dst < 64) && decide (tag < 65536)
  | .fwdTimeout dst tag => decide (dst < 64) && decide (tag < 65536)
  | .cliRxFrame segs flt => segs.all wfSeg && decide (flt.secyEcc < 3) && decide (flt.cisEcc < 3)
  | .egressRelease _ => true
  | .injectedFrame => true
  | .linRxFrame segs flt => segs.all wfSeg && decide (flt.secyEcc < 3) && decide (flt.cisEcc < 3)
  | .ingressCommit link _ => wfLink link
  | .ingressRelease _ => true
  | .shedRise _ blocks => decide (blocks < 65536)
  | .shedFall _ blocks => decide (blocks < 65536)
  | .laneFaultFlag _ lane stage check link order _ _ => decide (lane < 18) && decide (stage < 18) && decide (check < 6) && wfLink link && decide (order < 4096)
  | .spareReady _ lane _ => decide (lane < 18)
  | .cxmReadBeat tag data _ _ => decide (tag < 128) && decide (data.length = 64)
  | .cxmWriteDone tag _ => decide (tag < 32)
  | .cxmReadTimeout tag => decide (tag < 128)
  | .cxmWriteTimeout tag => decide (tag < 32)
  | .fillComplete line => decide (line < 73728)
  | .reprimeStart => true
  | .mirrorQueryTimeout => true
  | .reprimeDone => true
  | .regionBuildDone => true
  | .sweepStep => true
  | .jnlReadBeat tag _ _ => decide (tag < 8)
  | .jnlReadTimeout tag => decide (tag < 8)
  | .jnlWriteDone _ => true
  | .jnlWriteTimeout => true
  | .leaseReq hdr m => wfHdr hdr && decide (m.sa < 4096) && decide (m.home < 64) && decide (m.req < 64)
  | .leaseGrant hdr m => wfHdr hdr && decide (m.sa < 4096) && decide (m.start < 2 ^ 64) && decide (m.stop < 2 ^ 64)
  | .leaseResend sa => decide (sa < 4096)
  | .leaseSync hdr m => wfHdr hdr && decide (m.sa < 4096)
  | .leaseSyncAck hdr m => wfHdr hdr && decide (m.sa < 4096)
  | .cutTaken link => wfLink link
  | .armTimeout link => wfLink link
  | .cutScheduleDeadline links => links.all wfLink
  | .mkpduReceived m => decide (m.prio < 256) && decide (m.suites < 16)
  | .mkaHelloTimer link => wfLink link
  | .mkaLifeTime link _ => wfLink link
  | .rekeyInterval link => wfLink link
  | .overlapEnd link sc an => wfLink link && decide (sc < 16384) && decide (an < 4)
  | .dozeHeldTimeout => true
  | .dozeEntryComplete => true
  | .wakeCause => true
  | .timedWake => true
  | .wakeComplete => true
  | .wakeLate => true
  | .coldDrainComplete => true
  | .remaskSweepStart => true
  | .remaskStalled _ => true
  | .unwrapDone engine _ => decide (engine < 8)
  | .fabLaneReady lane _ => decide (lane < 32)
  | .cdrLockLoss lane => decide (lane < 32)
  | .portSignalDetect lane _ _ => decide (lane < 32)
  | .leaderReceived port lane m => wfPort port && decide (lane < 4) && decide (m.cnt ≤ 2)
  | .caps hdr m => wfHdr hdr && decide (m.width < 4)
  | .capsSend port => wfPort port
  | .phaseTimeout port => wfPort port
  | .backoffEnd port => wfPort port
  | .absentProbe port => wfPort port
  | .fabricMessageDrop port => wfPort port
  | .portHoldEnd port => wfPort port
  | .returnWinExpiry port => wfPort port
  | .refreshTimer port => wfPort port
  | .idleReq port => wfPort port
  | .idleAck port => wfPort port
  | .idleExit port => wfPort port
  | .prbsInject port => wfPort port
  | .helloSend port => wfPort port
  | .hello hdr m => wfHdr hdr && decide (m.cls < 256)
  | .helloLoss port => wfPort port
  | .lsa hdr m => wfHdr hdr && decide (m.prio < 256)
  | .lsaRefresh => true
  | .lsaAgeOut _ => true
  | .addressClaim => true
  | .timeSyncTimer => true
  | .timeReq hdr _ _ => wfHdr hdr
  | .timeResp hdr _ _ _ _ => wfHdr hdr
  | .syncLossTimeout => true
  | .pairHello hdr m => wfHdr hdr && decide (m.digest.length = 32)
  | .pairHb hdr m => wfHdr hdr && decide (m.epoch < 65536)
  | .pairHbSend => true
  | .partnerLost => true
  | .digestMismatchTimer => true
  | .mirrorSend => true
  | .mirrorTx hdr rs _ => wfHdr hdr && rs.all (fun r => decide (r.sa < 4096))
  | .mirrorRx hdr rs => wfHdr hdr && rs.all (fun r => decide (r.an < 4))
  | .mirrorQuery hdr rs => wfHdr hdr && rs.all (fun r => decide (r.an < 4))
  | .mirrorReply hdr rs => wfHdr hdr && rs.all (fun r => decide (r.an < 4))
  | .markMerge hdr rs _ => wfHdr hdr && rs.all (fun r => decide (r.sa < 4096))
  | .mergeAck hdr => wfHdr hdr
  | .yieldNote hdr => wfHdr hdr
  | .cutOffer hdr m => wfHdr hdr && decide (m.sa < 4096) && decide (m.an < 4)
  | .cutAck hdr m => wfHdr hdr && decide (m.sa < 4096) && decide (m.an < 4)
  | .cutAbort hdr m => wfHdr hdr && decide (m.sa < 4096) && decide (m.an < 4)
  | .cmd hdr _ words => wfHdr hdr && decide (words.length ≤ 64)
  | .reply hdr _ words => wfHdr hdr && decide (words.length ≤ 64)
  | .queueFlush q => decide (q < 24)
  | .pointerMismatch q => decide (q < 24)
  | .evtStatClear sub w _ => decide (sub < 14) && decide (w < 2)
  | .evtForce sub w _ _ => decide (sub < 14) && decide (w < 2)
  | .firstClear sub _ => decide (sub < 14)
  | .escalationExpiry sub => decide (sub < 14)
  | .svcRamUncorrectable => true
  | .tamperLatchClear _ _ => true
  | .pdGateRequest _ => true
  | .pdGateComplete pd => decide (52 ≤ pd) && decide (pd < 56)
  | .chkJobEnd k _ _ _ => decide (k < 4)
  | .dailiesStart k => decide (k < 4)
  | .telCntWrite i _ _ => decide (i < 256)
  | .wrapSample i link => decide (i < 256) && wfLink link
  | .wrapLogClear _ _ => true
  | .readClear addr _ => decide (addr < 2 ^ 22)
  | .registerWrite addr _ _ => decide (addr < 2 ^ 22)
  | .scanEnter => true
  | .mbistRun _ => true
  | .remaskRowWrite _ => true
  | .invalidBlock port lane _ => wfPort port && decide (lane < 4)
  | .prbsChecker port lane bits errs => wfPort port && decide (lane < 4) && decide (errs ≤ bits)
  | .messageForward hdr _ => wfHdr hdr
  | .portShutdownComplete port => wfPort port
  | .firstParticipantEnd link => wfLink link
  | .spareSwitchOff _ lane => decide (lane < 18)
  | .mbistComplete group _ => decide (group < 8)
  | .svcRestartDone => true

end Sys2Proof
end

