-- ==== Sys2Proof/Tests/Slice0.lean ====
section
/-!
SUPPORT. The model's own tests: the spec's worked examples, the checks of well-formedness, and, for every clause of an obligation that
has hypotheses, states and operands that meet all of them together (`test_meets_…`).
-/
namespace Sys2Proof.Tests
open Sys2Proof.Machine
-- each theorem is checked before the next is read
set_option Elab.async false

/-- The engine at work: PROTECT, every domain on, every port up, the command interface open. -/
def w0 : State :=
  { State.reset with
    aon := { Aon.reset with up := true }
    glb := { Glb.reset with mode := .protect, bootStage := 6, pdOn := 0xFFFFFFFFFFFFFF, prt := 0xFFFFFFFFFFFFFFFF, fwOk := true, locked := true }
    mci := { Mci.reset with ready := true }
    vlt := { Vlt.reset with rootOk := true, drbg := true, unwOn := true }
    cis := { Cis.reset with pairs := 0xF } }

/-- A SecY on link 1 with parameters and state given. -/
def y0 (txp rxp : W64) (st : SecySt) : Secy :=
  { sci := 0x0102030405060001, txp := txp, rxp := rxp, st := st, pendEn := false, curAn := 0, cut := .none, cutAn := 0, cutTime := 0,
    cutSeq := 0, cutShared := false, cutBySvc := false, stats := [], sat := 0, reprimed := false, deleting := false }

/-- A frame of 64 bytes: addresses, EtherType 0x0800, zeros. -/
def b64 : List Byte := [1, 2, 3, 4, 5, 6, 1, 2, 3, 4, 5, 6, 8, 0] ++ List.replicate 50 0

/-- PROTECT_FRAMES and CONFIDENTIALITY, PRIORITY 7, port 2. -/
def txp0 : W64 := 0x3002E00000000000

/-- A transmit SA with a lease from PN 5 to 100. -/
def a0 (kid : Nat) : Sa :=
  { kid := kid, suite := 0, enabled := true, shared := false, home := 0, homeSa := 0, fresh := false, offCode := 0, ssci := 0, salt := [],
    pn := 5, pn0 := 1, floor0 := 0, floor := 0, thr := false, exhausted := false, retiring := false, lease := .two,
    cur := { start := 1, stop := 100 }, nxt := { start := 100, stop := 200 }, stats := [], sat := 0, reprimed := false, tInst := 0,
    tStart := 0, tStop := 0, blob := [], intentSeq := 0, intentAt := 0 }

def wy (y : Secy) (s : State) : State := { s with secys := [(1, some y)] }
def wtx (a : Sa) (s : State) : State := { s with tx := [(4, some a)] }
def wrx (a : Sa) (s : State) : State := { s with rx := [(0, some a)], sct := { s.sct with scs := [(0, some { link := 1, sci := 0x0102030405060001 })], buckets := [] } }

/-- Lines resident in the cistern. -/
def wlines (ns : List Nat) (s : State) : State :=
  { s with cis := { s.cis with lines := ns.map (fun n => (n, some { slot := n, dirty := false })) } }

/-- A loaded key in vault slot `k`. -/
def wkey (k : Nat) (attr : Attr) (role : Role) (s : State) : State :=
  { s with vlt := { s.vlt with slots := smSet .reset s.vlt.slots k { VSlot.reset with st := .loaded, attr := attr, role := role, shareA := 1, shareB := 2 } } }

/-- A frame in a path. -/
def f0 (l o : Nat) (fate : Fate) : Frame :=
  { newFrame l o 0 0 with bytes := b64, ended := true, fate := fate, txp := txp0, key := List.replicate 16 7, pn := 5, saIdx := 4 * l, queued := true }
def wegr (fs : List Frame) (s : State) : State := { s with egr := { s.egr with frames := fs } }
def wing (fs : List Frame) (s : State) : State := { s with ing := { s.ing with frames := fs } }
def wmode (m : Mode) (s : State) : State := { s with glb := { s.glb with mode := m } }

/-- A frame of 64 bytes with a SecTAG with an SCI, its first byte after the EtherType and its SL given, PN 9. -/
def btag (tci sl : Byte) : List Byte :=
  [1, 2, 3, 4, 5, 6, 1, 2, 3, 4, 5, 6, 0x88, 0xE5, tci, sl, 0, 0, 0, 9, 1, 2, 3, 4, 5, 6, 0, 1] ++ List.replicate 36 0

/-- The SecTAG of such a frame as read. -/
def tag0 (tci sl : Nat) (good : Bool) : Tag :=
  { off := 12, tci := tci, sl := sl, pn := 9, sci := 0x0102030405060001, len := 16, sd := 16, good := good }

/-- A receive SC on link 1, index 0, found through the stash. -/
def wsc (s : State) : State := { s with sct := { s.sct with scs := [(0, some { link := 1, sci := 0x0102030405060001 })], stash := [0] } }
def g0 (l o : Nat) (fate : Fate) (bs : List Byte) : Frame :=
  { newFrame l o 0 0 with bytes := bs, ended := true, fate := fate, txp := txp0, rxp := 0x8000000000000000, pn := 9, saIdx := 0, pport := 3, queued := true, counted := true }

/-- Lanes of ingress: the first `n` in service, lane 16 as given, 17 off. -/
def wlanes (n : Nat) (spare : LaneSt) (s : State) : State :=
  { s with lne := { s.lne with lanes := (List.range n).map (fun k => (18 + k, { Lane.reset with st := .inService })) ++
      (if spare = .off then [] else [(34, { Lane.reset with st := spare })]) } }
/-- The first block of a frame as the dispatcher keeps it. -/
def k0 (s : State) : Block := (keptBlock s .ing 1 0 2).getD { kind := .x, ctr := [], data := [], kid := 0, k256 := false, pos := 0, link := 1, order := 0, last := true, idx := 3 }
/-- Lane 2 of ingress has had two faults just now; lane 16 ramps; a recomputation is on. -/
def wworn (s : State) : State :=
  { s with lne := { s.lne with lanes := smSet .reset s.lne.lanes 20 { Lane.reset with st := .inService, stamps := [0, 0] } } }
def wramp (r : Option Bool) (s : State) : State :=
  { s with lne := { s.lne with lanes := smSet .reset s.lne.lanes 34 { Lane.reset with ramping := r } }, glb := { s.glb with ramping := [42] } }
def wredo (r : Redo) (s : State) : State := { s with lne := { s.lne with redo := [r] } }
/-- A packet of HQ 0, slot 0, privileged, with its words. -/
def pk (len : Nat) (ws : List W64) : Pkt :=
  { req := .hq 0, slot := 0, priv := true, flags := 0, len := len, tag := 0, rsv := 0, dst := 0, words := ws }

/-- A fabric neighbour: engine 6 at port 3, ACTIVE, a MEMBER; the own address is 2. -/
def wfab (s0 : State) : State :=
  let s := wkey 8300 .deriveOnly .ick s0
  { s with fab := { s.fab with addr := some 2, ickKid := some 8300, engineId := 77, ports := [(3, { Port.reset with en := true, st := .active, peerAddr := some 6, peerClass := 3, peerId := 66, peerKeyOk := true })],
                               peers := [(6, { Peer.reset with reach := true, cls := 3, hops := 1, nextPort := 3, id := 66 })] } }
/-- The header of a message from engine 6, with its MAC. -/
def wmsg (s : State) (m : FabMsg) : MsgHdr :=
  let h : MsgHdr := { port := 3, src := some 6, hop := msgIsHop m, dst := if msgIsHop m then 0 else 2, ttl := 4, lseq := 0, mac := 0 }
  { h with mac := msgMac s h m }
/-- A message whose MAC is wrong, a header with the MAC of its message, and a partner whose digest is the own one or not. -/
def wbad (s : State) (m : FabMsg) : MsgHdr := { wmsg s m with mac := ~~~(wmsg s m).mac }
def wseal (s : State) (m : FabMsg) (h : MsgHdr) : MsgHdr := { h with mac := msgMac s h m }
def wdigest (wrong : Bool) (s : State) : State :=
  { s with fab := { s.fab with pair := { s.fab.pair with peerDigest := if wrong then ~~~digestPrefix s else digestPrefix s } } }
def wslot (v : HostSlot) (s : State) : State := { s with mci := { s.mci with slots := smSet .reset s.mci.slots 0 v } }
def wrun (op : Nat) (p : Pkt) (w : Wait) (s : State) : State :=
  { s with mci := { s.mci with running := [⟨⟨0, BitVec.ofNat 8 op, p⟩, w⟩], nextId := 1 } }
/-- A receive bus with one leader block. -/
def bus0 (m : Leader) : BitVec 132 := (leaderBlk m).setWidth 132


/-! ### Worked examples of the spec -/

/-- The check values of R387, over the ASCII digits 1 to 9. -/
theorem test_check_values :
    crc32c [0x31, 0x32, 0x33, 0x34, 0x35, 0x36, 0x37, 0x38, 0x39] = 0xE3069283 ∧
      crc64 [0x31, 0x32, 0x33, 0x34, 0x35, 0x36, 0x37, 0x38, 0x39] = 0x6C40DF5F0B497347 := by decide +kernel

/-- The frame of station 12, section 4: a tag in clear, 44 bytes of secure data, XPN-256, AN 2. -/
def fStation : Frame :=
  { newFrame 17 0 0 0 with
    bytes := [0x02, 0x1A, 0x4C, 0, 0x22, 5, 0x02, 0x1A, 0x4C, 0, 0x11, 0x28, 0x81, 0, 0, 0xC8, 8, 0] ++ List.replicate 46 0, ended := true,
    txp := put 3 62 2 ||| putB true 61 ||| putB true 60 ||| put 1 54 2 ||| put 5 48 6, sci := 0x021A4C0011280001, ssci := 2,
    salt := List.replicate 12 0, pn := 0x100000007, saIdx := 4 * 17 + 2 }

/-- Line bytes 16 to 31 of that frame, A of 28 bytes, P of 44, the IV before its XOR, 5 blocks. -/
theorem test_station_frame :
    secTag fStation 44 = [0x88, 0xE5, 0x2E, 0x2C, 0, 0, 0, 7, 0x02, 0x1A, 0x4C, 0, 0x11, 0x28, 0, 1] ∧
      (let p := protParts w0 fStation (fStation.bytes.take 60); p.1.length = 16 ∧ p.2.1.length = 28 ∧ p.2.2.1 = [] ∧ p.2.2.2.length = 44) ∧
      ivOf { fStation with suite := 3 } = [0, 0, 0, 2, 0, 0, 0, 1, 0, 0, 0, 7] ∧ (frameBlocks { fStation with suite := 3 } (laneParts .egr w0 fStation).1 (laneParts .egr w0 fStation).2).length = 5 := by decide +kernel

/-- Section 7: the prefetch point of the last lease before the power failed. -/
theorem test_prefetch_point : prefetchPoint { start := 0x30000001, stop := 0x31000001 } = 0x30800001 := by decide

/-- Section 13: 1,200 bytes take 20 words; the third, fourth and fifth of five MKPDUs find 60, 60 and 61 units. -/
theorem test_mkpdu_burst :
    itemUnits (List.replicate 1200 0) = 20 ∧
      (let a : Que := { Que.reset with wr := 60, cmt := 60, items := List.replicate 3 (bodyItem 20 0 0 0 []) }
       let d := (queOffer 4 0 0 0 [] 20 a).1
       let e := (queOffer 4 0 0 0 [] 20 d).1
       queCount a = 60 ∧ queCount d = 61 ∧ queCount e = 61 ∧ e.dropped = 2 ∧ e.splices = 1 ∧
         (e.items.getLast?.map (fun i => (i.splice, i.dropped))) = some (true, 2)) := by decide +kernel

/-- Section 17: the severities of CXM, an address that answers BLOCKED and one that answers NOMAP. -/
theorem test_driver_read :
    csrRead w0 0x1CF040 false = (0, 0x2A254A) ∧ (csrRead w0 0x1C2000 true).1 = 3 ∧
      (csrRead w0 0x1C0008 true).1 = 2 := by decide +kernel

/-- Section 15: word 0 of the estate's CHK_RUN. -/
theorem test_chk_run_word :
    (let p := chkProg ⟨0, 0x71, pk 5 [0x630, 0, 0x90000, 0, 0]⟩; p.region = 3 ∧ p.alg64 = false ∧ p.dailies = true ∧ p.useRef = true) := by
  decide +kernel

/-- The example vectors of FIPS 197, appendices C.1 and C.3: the same block under a 128-bit and a 256-bit key. -/
theorem test_aes_vectors :
    (let k := (List.range 32).map (BitVec.ofNat 8)
     let b := (List.range 16).map (fun i => BitVec.ofNat 8 (17 * i))
     beNat (aes (k.take 16) b) = 0x69C4E0D86A7B0430D8CDB78070B4C55A ∧ beNat (aes k b) = 0x8EA2B7CA516745BFEAFC49904B496089) := by decide +kernel

/-- Test case 2 of the GCM specification: one block of zeros under a key and an IV of zeros. -/
theorem test_gcm_vector :
    (let z := List.replicate 16 0
     beNat (gcmCrypt z (z.take 12) z) = 0x0388DACE60B6A392F328C2B971B2FE78 ∧
       beNat (gcmTag z (z.take 12) [] (gcmCrypt z (z.take 12) z) []) = 0xAB6E47D42CEC13BDF53A67B21257BDDF) := by decide +kernel

/-! ### Well-formedness: an ill-formed term for each check, and terms at the bounds that pass -/

def sg : Seg := { valid := true, sop := true, eop := true, empty := 63, link := 1023, err := false, fd := 0, data := List.replicate 64 0, permitted := true }
def ff (n : Nat) : FrameFaults := { secyEcc := 2 - n, cisEcc := n, vltPar := false }
def fy (n : Nat) : FrameFaults := { secyEcc := n, cisEcc := 0, vltPar := false }
def hd : MsgHdr := { port := 7, src := some 63, hop := false, dst := 63, ttl := 63, lseq := 0, mac := 0 }
def lreq : LeaseReq := { home := 63, sa := 4095, req := 63, rid := 0, epoch := 0 }
def lgr : LeaseGrant := { home := 0, sa := 4095, req := 0, rid := 0, status := 0, start := 2 ^ 64 - 1, stop := 2 ^ 64 - 1 }
def lsy : LeaseSync := { home := 0, sa := 4095, epoch := 0, mark := 0 }
def mk0 : Mkpdu := { bad := false, version := 3, ckn := [], sci := 0, mi := 0, mn := 0, prio := 255, listsUs := false, sends := true, suites := 15, offCap := 0, rxKn := 0, txKn := 0, pnThr := false, dist := none }
def cp0 : Caps := { id := 0, cls := 0, major := 0, minor := 0, addr := none, port := 0, width := 3, rate := false, spine := false, rcvd := false, prio := 0, hasKey := false, unsync := false, paired := false, keyCheck := 0 }
def hl0 : Sys2Proof.Hello := { id := 0, addr := none, cls := 255, port := 0, unsync := false, paired := false }
def ls0 : Sys2Proof.Lsa := { addr := none, id := 0, seq := 0, partner := none, home := none, adjs := [], cls := 0, keyCheck := 0, prio := 255, unsync := false }
def hb0 : PairHb := { epoch := 65535, digest := 0, deg := 0, unsync := false, batch := 0 }
def tx0 : MirTx := { current := false, valid := true, sa := 4095, link := 0, batch := 0, pn := 0 }
def rx0 : MirRx := { an := 3, link := 0, sci := 0, low := 0 }
def cm0 : CutMsg := { home := 0, sa := 4095, an := 3, t := 0, key := [], status := 0 }
def pkMax : Pkt := { req := .fab 63, slot := 7, priv := true, flags := 0, len := 255, tag := 65535, rsv := 0, dst := 63, words := List.replicate 64 0 }

theorem test_wf_accepts_the_bounds :
    ([.sysNop pkMax, .sysNop { pkMax with req := .hq 3 }, .domainRampDone 55 1, .secyDrainComplete 1023, .saRetireComplete .egr 4095,
      .saRetireComplete .ing 65535, .keySlotZeroized 8447, .commandSlotWrite 3 7 127 0 true, .doorbell 3 7 true, .replyRelease 3 0 true,
      .fwdResend 63 65535, .cliRxFrame [sg] (ff 2), .shedRise .egr 65535, .laneFaultFlag .ing 17 17 5 1023 4095 0 true, .spareReady .egr 17 1,
      .cxmReadBeat 127 (List.replicate 64 0) true 0, .cxmWriteDone 31 true, .fillComplete 73727, .jnlReadBeat 7 0 true, .leaseReq hd lreq,
      .leaseGrant hd lgr, .leaseSync hd lsy, .mkpduReceived mk0, .overlapEnd 1023 16383 3, .unwrapDone 7 true, .fabLaneReady 31 true,
      .leaderReceived 7 3 ⟨2, 0⟩, .caps hd cp0, .hello hd hl0, .lsa hd ls0, .pairHb hd hb0, .mirrorTx hd [tx0] true, .mirrorRx hd [rx0],
      .cutOffer hd cm0, .cmd hd 0 (List.replicate 64 0), .queueFlush 23, .evtStatClear 13 1 0, .pdGateComplete 52, .pdGateComplete 55,
      .chkJobEnd 3 [] true true, .wrapSample 255 1023, .registerWrite (2 ^ 22 - 1) 0 true, .prbsChecker 7 3 9 9, .mbistComplete 7 true] : List Instr).all
      Instr.wf = true := by decide +kernel

theorem test_wf_refuses_packets :
    ([{ pkMax with req := .hq 4 }, { pkMax with req := .fab 64 }, { pkMax with slot := 8 }, { pkMax with len := 256 }, { pkMax with tag := 65536 },
      { pkMax with dst := 64 }, { pkMax with words := [] }, { pkMax with len := 0 }] : List Pkt).all
      (fun p => [Instr.sysNop p, .sysGetInfo p, .sysSetMode p, .sysReadState p, .sysSetPolicy p, .secyCreate p, .secyModify p, .secyEnable p,
        .secyDisable p, .secyDelete p, .secyQuery p, .scAddRx p, .scRemoveRx p, .scQuery p, .saInstall p, .saEnableRx p, .saSetTx p, .saRetire p,
        .saQuery p, .saStatsRead p, .keyLoadWrapped p, .keyDerive p, .keyWrapExport p, .keyRetire p, .keyQuery p, .keyGenerate p, .cutSchedule p,
        .cutCancel p, .cutQuery p, .mkaEnable p, .mkaDisable p, .mkaSetCak p, .mkaQuery p, .mkaForceRekey p, .leaseQuery p, .leaseSetGrain p,
        .fabQuery p, .fabSetRole p, .fabPair p, .fabUnpair p, .fabPortCtl p, .jnlCommitImage p, .jnlQuery p, .jnlErase p, .cxmRekeyScramble p,
        .cxmRebuild p, .chkRun p, .chkQuery p, .telSlate p, .diagLaneKat p, .diagVaultKat p].all (fun i => !i.wf)) = true := by decide +kernel

theorem test_wf_refuses_links_and_ports :
    (([.secyDrainComplete 1024, .secyDrainTimeout 1024, .ingressCommit 1024 false, .cutTaken 1024, .armTimeout 1024, .cutScheduleDeadline [0, 1024],
      .mkaHelloTimer 1024, .mkaLifeTime 1024 none, .rekeyInterval 1024, .overlapEnd 1024 0 0, .overlapEnd 0 16384 0, .overlapEnd 0 0 4,
      .firstParticipantEnd 1024, .wrapSample 0 1024, .wrapSample 256 0, .capsSend 8, .phaseTimeout 8, .backoffEnd 8, .absentProbe 8,
      .fabricMessageDrop 8, .portHoldEnd 8, .returnWinExpiry 8, .refreshTimer 8, .idleReq 8, .idleAck 8, .idleExit 8, .prbsInject 8, .helloSend 8,
      .helloLoss 8, .portShutdownComplete 8, .invalidBlock 8 0 0, .invalidBlock 0 4 0, .prbsChecker 8 0 1 0, .prbsChecker 0 4 1 0,
      .prbsChecker 0 0 1 2, .leaderReceived 8 0 ⟨1, 0⟩, .leaderReceived 0 4 ⟨1, 0⟩, .leaderReceived 0 0 ⟨3, 0⟩, .shedRise .ing 65536, .shedFall .egr 65536, .fabLaneReady 32 true,
      .cdrLockLoss 32, .portSignalDetect 32 true true] : List Instr).all (fun i => !i.wf)) = true := by decide +kernel

theorem test_wf_refuses_headers_and_messages :
    (([{ hd with port := 8 }, { hd with dst := 64 }, { hd with ttl := 64 }, { hd with src := some 64 }] : List MsgHdr).all (fun h =>
      [Instr.leaseReq h lreq, .leaseGrant h lgr, .leaseSync h lsy, .leaseSyncAck h lsy, .caps h cp0, .hello h hl0, .lsa h ls0, .timeReq h 0 0,
        .timeResp h 0 0 0 0, .pairHello h { epoch := 0, digest := List.replicate 32 0 }, .pairHb h hb0, .mirrorTx h [] true, .mirrorRx h [],
        .mirrorQuery h [], .mirrorReply h [], .markMerge h [] true, .mergeAck h, .yieldNote h, .cutOffer h cm0, .cutAck h cm0, .cutAbort h cm0,
        .cmd h 0 [], .reply h 0 [], .messageForward h .timeReq].all (fun i => !i.wf))) = true ∧
    (([.leaseReq hd { lreq with sa := 4096 }, .leaseReq hd { lreq with home := 64 }, .leaseReq hd { lreq with req := 64 },
      .leaseGrant hd { lgr with sa := 4096 }, .leaseGrant hd { lgr with start := 2 ^ 64 }, .leaseGrant hd { lgr with stop := 2 ^ 64 },
      .leaseSync hd { lsy with sa := 4096 }, .leaseSyncAck hd { lsy with sa := 4096 }, .caps hd { cp0 with width := 4 },
      .hello hd { hl0 with cls := 256 }, .lsa hd { ls0 with prio := 256 }, .pairHello hd { epoch := 0, digest := [] },
      .pairHb hd { hb0 with epoch := 65536 }, .mirrorTx hd [{ tx0 with sa := 4096 }] true, .mirrorRx hd [{ rx0 with an := 4 }],
      .mirrorQuery hd [{ rx0 with an := 4 }], .mirrorReply hd [{ rx0 with an := 4 }], .markMerge hd [{ sa := 4096, xpn := false, mark := 0 }] true,
      .cutOffer hd { cm0 with sa := 4096 }, .cutOffer hd { cm0 with an := 4 }, .cutAck hd { cm0 with sa := 4096 }, .cutAck hd { cm0 with an := 4 },
      .cutAbort hd { cm0 with sa := 4096 }, .cutAbort hd { cm0 with an := 4 }, .cmd hd 0 (List.replicate 65 0), .reply hd 0 (List.replicate 65 0)]
      : List Instr).all (fun i => !i.wf)) = true := by decide +kernel

theorem test_wf_refuses_the_rest :
    (([.domainRampDone 56 0, .saRetireComplete .egr 4096, .saRetireComplete .ing 65536, .keySlotZeroized 8448, .commandSlotWrite 4 0 0 0 true,
      .commandSlotWrite 0 8 0 0 true, .commandSlotWrite 0 0 128 0 true, .doorbell 4 0 true, .doorbell 0 8 true, .replyRelease 4 0 true,
      .fwdResend 64 0, .fwdResend 0 65536, .fwdTimeout 64 0, .fwdTimeout 0 65536, .cliRxFrame [{ sg with data := [] }] (ff 0),
      .cliRxFrame [{ sg with empty := 64 }] (ff 0), .cliRxFrame [{ sg with link := 1024 }] (ff 0), .cliRxFrame [sg] (ff 3),
      .linRxFrame [{ sg with data := [] }] (ff 0), .linRxFrame [{ sg with empty := 64 }] (ff 0), .linRxFrame [{ sg with link := 1024 }] (ff 0),
      .linRxFrame [sg] (ff 3), .cliRxFrame [sg] (fy 3), .linRxFrame [sg] (fy 3), .laneFaultFlag .egr 18 0 0 0 0 0 true, .laneFaultFlag .egr 0 18 0 0 0 0 true,
      .laneFaultFlag .egr 0 0 6 0 0 0 true, .laneFaultFlag .egr 0 0 0 1024 0 0 true, .laneFaultFlag .egr 0 0 0 0 4096 0 true, .spareReady .egr 18 0,
      .spareSwitchOff .egr 18, .cxmReadBeat 128 (List.replicate 64 0) true 0, .cxmReadBeat 0 [] true 0, .cxmWriteDone 32 true, .cxmReadTimeout 128,
      .cxmWriteTimeout 32, .fillComplete 73728, .jnlReadBeat 8 0 true, .jnlReadTimeout 8, .leaseResend 4096,
      .mkpduReceived { mk0 with prio := 256 }, .mkpduReceived { mk0 with suites := 16 }, .unwrapDone 8 true, .queueFlush 24, .pointerMismatch 24,
      .evtStatClear 14 0 0, .evtStatClear 0 2 0, .evtForce 14 0 0 true, .evtForce 0 2 0 true, .firstClear 14 0, .escalationExpiry 14,
      .pdGateComplete 51, .pdGateComplete 56, .chkJobEnd 4 [] true true, .dailiesStart 4, .telCntWrite 256 0 true, .readClear (2 ^ 22) true,
      .registerWrite (2 ^ 22) 0 true, .mbistComplete 8 true] : List Instr).all (fun i => !i.wf)) = true := by decide +kernel

/-- The opcode table gives no bits, so no word spells a command. -/
theorem test_no_word_spells_a_command : decodeTableWord 64 0 = none ∧ State.withFetchWord State.reset 64 0 = State.reset := ⟨rfl, rfl⟩

/-- `Obligations.EventSetsStaySound`: a sound state, and a step from it. -/
theorem test_meets_EventSetsStaySound :
    let s : State := { w0 with pending := [.sysNop (pk 0 [])] }; eventsSound s ∧ ∃ t, step s = .next t :=
  ⟨by intro u; cases u <;> decide +kernel, _, rfl⟩

/-- What a message of `wmsg` needs to be heard by a machine whose port 3 has engine 6 behind it. -/
def heardBy (s : State) (m : FabMsg) : Bool :=
  !resetLow s && (portOf s 3).st == .active && (msgTyp m == 0x01 || msgTyp m == 0x02 || msgTyp m == 0x0C || !fromQuarantine s (wmsg s m)) &&
    (msgIsHop m || s.fab.addr == some 2)

theorem heard_wmsg (s : State) (m : FabMsg) (h : heardBy s m = true) : heard s (wmsg s m) m := by
  simp only [heardBy, Bool.and_eq_true, Bool.or_eq_true, beq_iff_eq, Bool.not_eq_true'] at h
  obtain ⟨⟨⟨h0, h1⟩, h2⟩, h3⟩ := h
  refine ⟨h0, h1, fun _ => rfl, fun a b c => ?_, fun hop => ?_⟩
  · rcases h2 with ((h2 | h2) | h2) | h2
    · exact absurd h2 a
    · exact absurd h2 b
    · exact absurd h2 c
    · exact h2
  · rcases h3 with h3 | h3
    · simp [hop] at h3
    · exact ⟨hop, by simp [wmsg, hop, h3]⟩

theorem heardFrom_wmsg (s : State) (m : FabMsg) (h : (heardBy s m && isMember s 6) = true) : heardFrom s (wmsg s m) m 6 := by
  simp only [Bool.and_eq_true] at h
  exact ⟨heard_wmsg s m h.1, rfl, h.2⟩

theorem heardPartner_wmsg (s : State) (m : FabMsg)
    (h : ((heardBy s m && isMember s 6) && s.fab.pair.partner == some 6) = true) : heardPartner s (wmsg s m) m 6 := by
  simp only [Bool.and_eq_true, beq_iff_eq] at h
  exact ⟨heardFrom_wmsg s m (by simp [h.1]), h.2⟩

theorem ne_not {n : Nat} (x : BitVec (n + 1)) : ~~~x ≠ x := by
  intro h
  have := congrArg (fun y => y.getLsbD 0) h
  simp at this

theorem wbad_mac (s : State) (m : FabMsg) : (wbad s m).mac ≠ msgMac s (wbad s m) m := ne_not (n := 63) (msgMac s (wbad s m) m)
theorem wseal_mac (s : State) (m : FabMsg) (h : MsgHdr) : msgHasMac m = true → (wseal s m h).mac = msgMac s (wseal s m h) m := fun _ => rfl
theorem digestPrefix_wdigest (b : Bool) (s : State) : digestPrefix (wdigest b s) = digestPrefix s := by
  have h : digestItems (wdigest b s) = digestItems s := by
    have h1 : ∀ l, secyOf (wdigest b s) l = secyOf s l := fun _ => rfl
    have h2 : ∀ k, kidSlot (wdigest b s) k = kidSlot s k := fun _ => rfl
    have h3 : ∀ k, vslot (wdigest b s) k = vslot s k := fun _ => rfl
    have h4 : (wdigest b s).fab.pair.set = s.fab.pair.set ∧ (wdigest b s).fab.pair.kid = s.fab.pair.kid ∧
        (wdigest b s).fab.addr = s.fab.addr ∧ (wdigest b s).tx = s.tx := ⟨rfl, rfl, rfl, rfl⟩
    simp only [digestItems, h1, h2, h3, h4]
  simp only [digestPrefix, pairDigest, h]

theorem wdigest_eq (s : State) : digestPrefix (wdigest false s) = (wdigest false s).fab.pair.peerDigest :=
  digestPrefix_wdigest false s

theorem wdigest_ne (s : State) : digestPrefix (wdigest true s) ≠ (wdigest true s).fab.pair.peerDigest := by
  rw [digestPrefix_wdigest]
  exact fun h => ne_not (n := 63) (digestPrefix s) h.symm

/-- An MKPDU fits an empty injection queue whatever its bytes are. -/
theorem queFits_mkaPdu (l : Nat) (p : MkPart) (s : State) (v : Que) (h : queCount v = 0) :
    queFits 5 v (itemUnits ((mkaPdu l p s).1.getD [])) = true := by
  have : ((mkaPdu l p s).1.getD []).length ≤ 1536 := by
    simp only [mkaPdu]; split <;> simp
  simp only [queFits, itemUnits, queSize, h, decide_eq_true_eq]
  simp; omega

/-- What an option holds, named by its value. -/
theorem some_getD {α : Type} (o : Option α) (d : α) (h : o.isSome = true) : o = some (o.getD d) := by
  cases o with
  | none => cases h
  | some _ => rfl

theorem leads_of (s : State) (p l : Nat) (bus : BitVec 132) (m : Leader)
    (h : (p < 8 ∧ lanePresent (portOf s p) l = true) ∧ leaderOf (straight (portOf s p) l (bus.extractLsb' 0 66)) = some m) :
    leads s p l bus m := ⟨h.1.1, h.1.2, h.2⟩

/-! ### The hypotheses of the obligations, met -/

/-- States and operands that meet the hypotheses of `Obligations.EmptyQueueTicks`, clauses 0 to 2. -/
theorem test_meets_EmptyQueueTicks_c0_2 :
  (let s : State := w0;
    s.pending = []) ∧
  (let s : State := { w0 with tst := { w0.tst with trstN := false, tap := .shiftDr, ir := 3 } };
    s.pending = [] ∧ s.aon.porLow = false ∧ s.tst.trstN = false) ∧
  (let s : State := { w0 with tst := { w0.tst with trstN := true, tck := true, tckWas := false, tap := .shiftDr } };
    s.pending = [] ∧ s.aon.porLow = false ∧ s.tst.trstN = true ∧ s.tst.tck = true ∧ s.tst.tckWas = false) := 
  ⟨by decide +kernel,
   by decide +kernel,
   by decide +kernel⟩

/-- States and operands that meet the hypotheses of `Obligations.Resets`, clauses 1 to 5. -/
theorem test_meets_Resets_c1_5 :
  (let s : State := wkey 9 .encOnly .traffic w0;
    s.aon.porLow = false ∧ s.glb.testMode = false) ∧
  (let s : State := { State.reset with aon := { Aon.reset with porLow := true } };
    s.glb.booting = false ∧ s.glb.bootStage = 0 ∧ s.glb.testMode = false ∧ s.aon.tmpLatched = 0) ∧
  (let s : State := { State.reset with aon := { Aon.reset with sysLow := true, tmpLatched := 3 } };
    s.glb.booting = false ∧ s.glb.bootStage = 0 ∧ s.glb.testMode = false ∧ s.aon.tmpLatched ≠ 0 ∧ s.glb.mode ≠ .lockout) ∧
  (let s : State := { State.reset with aon := { Aon.reset with sysLow := true }, glb := { Glb.reset with testMode := true, mode := .lockout } };
    s.glb.booting = false ∧ s.glb.bootStage = 0 ∧ s.glb.testMode = true) ∧
  (let s : State := w0;
    (s.glb.booting = true ∨ s.glb.bootStage ≠ 0)) := 
  ⟨by decide +kernel,
   by decide +kernel,
   by decide +kernel,
   by decide +kernel,
   by decide +kernel⟩

/-- States and operands that meet the hypotheses of `Obligations.RootSecret`, clauses 0 to 3. -/
theorem test_meets_RootSecret_c0_3 :
  (let s : State := { State.reset with aon := { Aon.reset with rootReq := true, rootWords := [1] }, glb := { Glb.reset with booting := true } };
    resetLow s = false ∧ s.aon.rootReq = true ∧ s.aon.rootWords.length < 7) ∧
  (let s : State := { State.reset with aon := { Aon.reset with rootReq := true, rootWords := [1, 2, 3, 4, 5, 6, 7] }, glb := { Glb.reset with booting := true } };
    let w : BitVec 32 := 8;
    resetLow s = false ∧ s.aon.rootReq = true ∧ s.aon.rootWords.length = 7 ∧ (s.aon.rootWords ++ [w]).any (· != 0) = true ∧ (s.aon.rootWords ++ [w]).any (· != 0xFFFFFFFF) = true) ∧
  (let s : State := { State.reset with aon := { Aon.reset with rootReq := true, rootWords := List.replicate 7 0 }, glb := { Glb.reset with booting := true } };
    let w : BitVec 32 := 0;
    let e : Bool := false;
    resetLow s = false ∧ s.aon.rootReq = true ∧ (e = true ∨ s.aon.rootWords.length = 7 ∧
        ((s.aon.rootWords ++ [w]).all (· == 0) = true ∨ (s.aon.rootWords ++ [w]).all (· == 0xFFFFFFFF) = true))) ∧
  (let s : State := { State.reset with aon := { Aon.reset with rootReq := true, rootWords := [1, 2, 3, 4, 5, 6, 7] }, glb := { Glb.reset with booting := true } };
    resetLow s = false ∧ s.aon.rootReq = true) := 
  ⟨by decide +kernel,
   by decide +kernel,
   by decide +kernel,
   by decide +kernel⟩

/-- States and operands that meet the hypotheses of `Obligations.Startup`, clauses 0 to 7. -/
theorem test_meets_Startup_c0_7 :
  (let s : State := { State.reset with glb := { Glb.reset with booting := true, bootStage := 1, ramping := [1] }, aon := { Aon.reset with up := true } };
    let p : Option (Option (BitVec 24)) := some (some 3);
    resetLow s = false ∧ s.glb.booting = true ∧ s.glb.bootStage = 1 ∧ s.glb.mode ≠ .lockout ∧ p ≠ some none) ∧
  (let s : State := { State.reset with glb := { Glb.reset with booting := true, bootStage := 1, ramping := [1] }, aon := { Aon.reset with up := true } };
    resetLow s = false ∧ s.glb.booting = true ∧ s.glb.bootStage = 1 ∧ s.glb.mode ≠ .lockout) ∧
  (let s : State := { State.reset with glb := { Glb.reset with booting := true, bootStage := 1, ramping := [1] }, aon := { Aon.reset with up := true } };
    resetLow s = false ∧ s.glb.booting = true ∧ s.glb.bootStage = 1 ∧ s.glb.mode ≠ .lockout) ∧
  (let s : State := { State.reset with glb := { Glb.reset with booting := true, bootStage := 2, ramping := [4] }, aon := { Aon.reset with up := true } };
    let pd : Nat := 4;
    let e : BitVec 512 := 0;
    resetLow s = false ∧ pd ∈ s.glb.ramping.take s.glb.rampMax ∧ pd < 56 ∧ katClean e = true) ∧
  (let s : State := { State.reset with glb := { Glb.reset with booting := true, bootStage := 2, ramping := [44] }, aon := { Aon.reset with up := true } };
    let pd : Nat := 44;
    resetLow s = false ∧ pd ∈ s.glb.ramping.take s.glb.rampMax ∧ pd ∈ [1, 2, 3, 44, 45, 46, 47, 50, 52, 53]) ∧
  (let s : State := { State.reset with glb := { Glb.reset with booting := true, bootStage := 3 }, aon := { Aon.reset with up := true, rootAbsent := true } };
    resetLow s = false ∧ s.glb.booting = true ∧ s.glb.bootStage = 3 ∧ s.glb.mode ≠ .lockout ∧ s.aon.rootAbsent = true) ∧
  (let s : State := { State.reset with glb := { Glb.reset with booting := true, bootStage := 3, mode := .lockout }, aon := { Aon.reset with up := true } };
    resetLow s = false ∧ s.glb.booting = true ∧ s.glb.mode = .lockout) ∧
  (let s : State := { State.reset with glb := { Glb.reset with booting := true, bootStage := 3 }, aon := { Aon.reset with up := true } };
    resetLow s = false ∧ s.glb.booting = true ∧ s.glb.bootStage = 3 ∧ s.glb.mode ≠ .lockout ∧ s.aon.rootAbsent = false) := 
  ⟨by decide +kernel,
   by decide +kernel,
   by decide +kernel,
   by decide +kernel,
   by decide +kernel,
   by decide +kernel,
   by decide +kernel,
   by decide +kernel⟩

/-- States and operands that meet the hypotheses of `Obligations.TamperAndClock`, clauses 0 to 4. -/
theorem test_meets_TamperAndClock_c0_4 :
  (let s : State := { State.reset with aon := { Aon.reset with tmpPrev := 3 } };
    let v : BitVec 4 := 2;
    s.aon.porLow = false ∧ (released s = false ∨ s.glb.mode = .lockout ∨ s.aon.tmpLatched ||| (v &&& s.aon.tmpPrev).setWidth 5 = 0)) ∧
  (let s : State := State.reset;
    s.aon.porLow = false ∧ (released s = false ∨ s.glb.mode = .lockout)) ∧
  (let s : State := (fun s : State => { s with aon := { s.aon with tmpPrev := 3 } }) (wkey 9 .encOnly .traffic w0);
    let v : BitVec 4 := 2;
    s.aon.porLow = false ∧ released s = true ∧ s.glb.mode ≠ .lockout ∧ s.aon.tmpLatched ||| (v &&& s.aon.tmpPrev).setWidth 5 ≠ 0) ∧
  (let s : State := wkey 9 .encOnly .traffic w0;
    s.aon.porLow = false ∧ released s = true ∧ s.glb.mode ≠ .lockout) ∧
  (let s : State := w0;
    s.aon.porLow = false) := 
  ⟨by decide +kernel,
   by decide +kernel,
   by decide +kernel,
   by decide +kernel,
   by decide +kernel⟩

/-- States and operands that meet the hypotheses of `Obligations.EntropyAndDrbg`, clauses 0 to 5. -/
theorem test_meets_EntropyAndDrbg_c0_5 :
  (let s : State := (fun s : State => { s with vlt := { s.vlt with ent := { Ent.idle with purpose := some .startup, got := 3 } } }) (w0);
    let b : Byte := 5;
    resetLow s = false ∧ s.vlt.ent.purpose.isSome = true ∧ entBad s (entStep b s.vlt.ent) = false ∧ entReady { s with vlt := { s.vlt with ent := entStep b s.vlt.ent } } .startup = false) ∧
  (let s : State := (fun s : State => { s with vlt := { s.vlt with ent := { Ent.idle with purpose := some .reseed, got := 3 } } }) (w0);
    resetLow s = false ∧ s.vlt.ent.purpose.isSome = true ∧ s.vlt.drbgStop = false ∧ isPermanent s.vlt.retryCfg (stampAdd s.vlt.entStamps (now s)) = false) ∧
  (let s : State := (fun s : State => { s with vlt := { s.vlt with ent := { Ent.idle with purpose := some .instantiate, got := 9999 }, drbg := false } }) (w0);
    resetLow s = false ∧ entReady s .instantiate = true ∧ s.vlt.drbg = false ∧ s.glb.deg.getLsbD 7 = false ∧ s.glb.resume ≠ 6 ∧ s.svc.cas = []) ∧
  (let s : State := (fun s : State => { s with vlt := { s.vlt with ent := { Ent.idle with purpose := some .reseed, got := 9999 } } }) (w0);
    resetLow s = false ∧ entReady s .reseed = true ∧ s.vlt.drbg = true ∧ s.glb.deg.getLsbD 7 = false ∧ s.glb.resume ≠ 6 ∧ s.svc.cas = []) ∧
  (let s : State := (fun s : State => { s with vlt := { s.vlt with ent := Ent.idle, reqSince := 65536 } }) (w0);
    resetLow s = false ∧ s.vlt.drbg = true ∧ s.vlt.drbgStop = false ∧ s.vlt.ent.purpose = none ∧ (65536 ≤ s.vlt.reqSince ∨ s.vlt.lastSeed + 1000000000 ≤ now s)) ∧
  (let s : State := (fun s : State => { s with vlt := { s.vlt with ent := Ent.idle, drbgStop := true } }) (w0);
    resetLow s = false ∧ s.vlt.drbgStop = true ∧ s.vlt.ent.purpose = none) := 
  ⟨by decide +kernel,
   by decide +kernel,
   by decide +kernel,
   by decide +kernel,
   by decide +kernel,
   by decide +kernel⟩

/-- States and operands that meet the hypotheses of `Obligations.Remasking`, clauses 0 to 5. -/
theorem test_meets_Remasking_c0_5 :
  (let s : State := (fun s : State => { s with vlt := { s.vlt with ent := Ent.idle } }) (wkey 9 .encOnly .traffic w0);
    resetLow s = false ∧ s.vlt.sweeping = false ∧ s.vlt.rootOk = true ∧ drbgFull s = false ∧ (drbgOn s = true ∨ s.vlt.bootKey.isSome = true)) ∧
  (let s : State := (fun s : State => { s with vlt := { s.vlt with ent := Ent.idle, sweeping := true, row := 10, remaskRead := some (9, 1) } }) (wkey 9 .encOnly .traffic w0);
    resetLow s = false ∧ s.vlt.sweeping = true ∧ s.vlt.row < 8448) ∧
  (let s : State := (fun s : State => { s with vlt := { s.vlt with ent := Ent.idle, sweeping := true, row := 8448 } }) (w0);
    resetLow s = false ∧ s.vlt.sweeping = true ∧ 8448 ≤ s.vlt.row ∧ s.vlt.remaskRead = none) ∧
  (let s : State := w0;
    resetLow s = false) ∧
  (let s : State := w0;
    resetLow s = false) ∧
  (let s : State := w0;
    let e : Nat := 2;
    resetLow s = false ∧ e < 8 ∧ s.vlt.unwOn = true ∧ e ∉ s.vlt.unwOos ∧ isPermanent s.vlt.retryCfg (stampAdd (smGet [] s.vlt.unwStamps e) (now s)) = false) := 
  ⟨by decide +kernel,
   by decide +kernel,
   by decide +kernel,
   by decide +kernel,
   by decide +kernel,
   by decide +kernel⟩

/-- States and operands that meet the hypotheses of `Obligations.PortsAndSteering`, clauses 0 to 7. -/
theorem test_meets_PortsAndSteering_c0_7 :
  (let s : State := w0;
    resetLow s = false ∧ s.glb.mode ≠ .doze ∧ s.glb.change = none) ∧
  (let s : State := (fun s : State => { s with aon := { s.aon with wakeCfg := 1 } }) (wmode .doze w0);
    let v : W64 := 3;
    resetLow s = false ∧ s.glb.mode = .doze ∧ s.glb.change = none ∧ v ≠ s.glb.prt ∧ s.aon.wakeCfg.getLsbD 0 = true) ∧
  (let s : State := (fun s : State => { s with fab := { s.fab with steer := { s.fab.steer with req := true }, pair := { s.fab.pair with partner := none } } }) (w0);
    resetLow s = false ∧ s.fab.steer.req = true) ∧
  (let s : State := w0;
    resetLow s = false ∧ s.fab.steer.req = false) ∧
  (let s : State := (fun s : State => { s with fab := { s.fab with steer := { s.fab.steer with ack := true }, pair := { s.fab.pair with partner := none } } }) (w0);
    resetLow s = false ∧ s.fab.steer.needTake = false ∧ s.fab.steer.needYield = false) ∧
  (let s : State := (fun s : State => { s with fab := { s.fab with steer := { s.fab.steer with needTake := true }, pair := { s.fab.pair with partner := some 6 } } }) (w0);
    let p : Nat := 6;
    resetLow s = false ∧ s.fab.steer.req = false ∧ s.fab.pair.partner = some p ∧ s.fab.steer.needTake = true ∧ s.glb.mode ≠ .doze ∧ s.glb.mode ≠ .lockout) ∧
  (let s : State := (fun s : State => { s with fab := { s.fab with steer := { s.fab.steer with needYield := true }, pair := { s.fab.pair with partner := some 6 } } }) (w0);
    let p : Nat := 6;
    resetLow s = false ∧ s.fab.steer.req = false ∧ s.fab.pair.partner = some p ∧ s.fab.steer.needTake = false ∧ s.fab.steer.needYield = true ∧ s.glb.mode ≠ .lockout) ∧
  (let s : State := (fun s : State => { s with fab := { s.fab with steer := { s.fab.steer with req := true }, pair := { s.fab.pair with partner := none } } }) (w0);
    resetLow s = false ∧ s.fab.steer.req = true ∧ s.fab.steer.ack = false) := 
  ⟨by decide +kernel,
   by decide +kernel,
   by decide +kernel,
   by decide +kernel,
   by decide +kernel,
   by decide +kernel,
   by decide +kernel,
   by decide +kernel⟩

/-- States and operands that meet the hypotheses of `Obligations.PortsAndSteering`, clause 8. -/
theorem test_meets_PortsAndSteering_c8 :
  (let s : State := (fun s : State => { s with fab := { s.fab with steer := { s.fab.steer with ack := true, draining := true }, pair := { s.fab.pair with partner := none } } }) (w0);
    resetLow s = false ∧ s.fab.steer.ack = true ∧ s.fab.steer.draining = true) := by decide +kernel

/-- States and operands that meet the hypotheses of `Obligations.LockoutReplies`. -/
theorem test_meets_LockoutReplies :
  (let s : State := wmode .lockout w0;
    let p : Pkt := pk 0 [];
    let op : Nat := 1;
    let n : Nat := 0;
    let c : Instr := .sysNop p;
    mciOf c = some (op, p) ∧ reaches op n p s = true ∧ s.glb.mode = .lockout ∧ op ≠ 0x02 ∧ op ≠ 0x04 ∧ (p.priv = true ∨ ∀ o, opInfo op = some o → o.priv = false)) := by decide +kernel

/-- States and operands that meet the hypotheses of `Obligations.PrivilegeAndColdReplies`, clauses 0 to 1. -/
theorem test_meets_PrivilegeAndColdReplies_c0_1 :
  (let s : State := w0;
    let p : Pkt := { pk 1 [2] with priv := false };
    let op : Nat := 3;
    let n : Nat := 0;
    let c : Instr := .sysSetMode p;
    let o : OpInfo := (opInfo 3).get (by decide);
    opInfo op = some o ∧ mciOf c = some (op, p) ∧ reaches op n p s = true ∧ o.priv = true ∧ p.priv = false) ∧
  (let s : State := wmode .cold w0;
    let p : Pkt := pk 1 [1];
    let op : Nat := 0x12;
    let n : Nat := 0;
    let c : Instr := .secyEnable p;
    let o : OpInfo := (opInfo 0x12).get (by decide);
    opInfo op = some o ∧ mciOf c = some (op, p) ∧ reaches op n p s = true ∧ s.glb.mode = .cold ∧ o.cold = false ∧ (o.priv = true → p.priv = true)) := 
  ⟨⟨rfl, by decide +kernel⟩,
   ⟨rfl, by decide +kernel⟩⟩

/-- States and operands that meet the hypotheses of `Obligations.HeaderChecksAndDuplicates`, clauses 0 to 2. -/
theorem test_meets_HeaderChecksAndDuplicates_c0_2 :
  (let s : State := w0;
    let p : Pkt := { pk 0 [] with rsv := 1 };
    let op : Nat := 1;
    let n : Nat := 0;
    let c : Instr := .sysNop p;
    let o : OpInfo := (opInfo 1).get (by decide);
    opInfo op = some o ∧ mciOf c = some (op, p) ∧ reaches op n p s = true ∧ s.glb.mode ≠ .lockout ∧ s.glb.mode ≠ .cold ∧ s.glb.change = none ∧ s.glb.resume ≠ 1 ∧ s.svc.stopped = false ∧ (o.priv = true → p.priv = true) ∧ (p.flags &&& 0xFC ≠ 0 ∨ p.rsv ≠ 0 ∨ p.dst ≠ 0)) ∧
  (let s : State := w0;
    let p : Pkt := pk 3 [1, 2, 3];
    let op : Nat := 1;
    let n : Nat := 0;
    let c : Instr := .sysNop p;
    let o : OpInfo := (opInfo 1).get (by decide);
    opInfo op = some o ∧ mciOf c = some (op, p) ∧ n < 4 ∧ p.req = .hq n ∧ resetLow s = false ∧ (64 < p.len ∨ o.len p.len p.words = false)) ∧
  (let s : State := { w0 with mci := { w0.mci with dups := [{ key := 0, tag := 0, opcode := 0x01, crc := pktCrc (pk 0 []), status := 0, rlen := 0, words := [] }] } };
    let p : Pkt := pk 0 [];
    let op : Nat := 1;
    let n : Nat := 0;
    let c : Instr := .sysNop p;
    let d : Dup := { key := 0, tag := 0, opcode := 0x01, crc := pktCrc (pk 0 []), status := 0, rlen := 0, words := [] };
    mciOf c = some (op, p) ∧ n < 4 ∧ p.req = .hq n ∧ resetLow s = false ∧ checkForm (newCmd op p s) = none ∧ dupEntry s (newCmd op p s) = some d ∧ d.opcode = BitVec.ofNat 8 op ∧ d.crc = pktCrc p) := 
  ⟨⟨rfl, by decide +kernel⟩,
   ⟨rfl, by decide +kernel⟩,
   by decide +kernel⟩

/-- States and operands that meet the hypotheses of `Obligations.CommandsWaitTheirTurn`, clauses 0 to 2. -/
theorem test_meets_CommandsWaitTheirTurn_c0_2 :
  (let s : State := wrun 0x50 (pk 2 [1, 0]) (.cut 1) w0;
    let p : Pkt := { pk 1 [1] with slot := 1, tag := 7, flags := 1 };
    let op : Nat := 0x52;
    let n : Nat := 0;
    let c : Instr := .cutQuery p;
    resetLow s = false ∧ mciOf c = some (op, p) ∧ p.req = .hq n ∧ pktRemote p = false ∧ checkForm (newCmd op p s) = none ∧ dupEntry s (newCmd op p s) = none ∧ tagBusy s (newCmd op p s) = false ∧ heldBack s (newCmd op p s) = true) ∧
  (let s : State := w0;
    resetLow s = false ∧ startable s = none) ∧
  (let s : State := { w0 with mci := { w0.mci with cmdq := [⟨0, 0x01, pk 0 []⟩], nextId := 1 } };
    let q : QCmd := ⟨0, 0x01, pk 0 []⟩;
    let n : Nat := 0;
    resetLow s = false ∧ startable s = some q ∧ q.pkt.req = .hq n ∧ n < 4 ∧ q.opcode = 0x01 ∧ checkRun q s = none) := 
  ⟨by decide +kernel,
   by decide +kernel,
   by decide +kernel⟩

/-- States and operands that meet the hypotheses of `Obligations.SystemReads`, clauses 0 to 3. -/
theorem test_meets_SystemReads_c0_3 :
  (let s : State := w0;
    let p : Pkt := pk 0 [];
    let n : Nat := 0;
    startsNow 0x01 n p s = true) ∧
  (let s : State := w0;
    let p : Pkt := pk 0 [];
    let n : Nat := 0;
    startsNow 0x02 n p s = true) ∧
  (let s : State := w0;
    let p : Pkt := pk 1 [0];
    let n : Nat := 0;
    startsNow 0x04 n p s = true ∧ wordAt p.words 0 = 0) ∧
  (let s : State := w0;
    let p : Pkt := pk 1 [1];
    let n : Nat := 0;
    startsNow 0x04 n p s = true ∧ wordAt p.words 0 = 1) := 
  ⟨by decide +kernel,
   by decide +kernel,
   by decide +kernel,
   by decide +kernel⟩

/-- States and operands that meet the hypotheses of `Obligations.TableReads`, clauses 0 to 7. -/
theorem test_meets_TableReads_c0_7 :
  (let s : State := wy (y0 txp0 0 .on) w0;
    let p : Pkt := pk 1 [1];
    let n : Nat := 0;
    let y : Secy := y0 txp0 0 .on;
    startsNow 0x15 n p s = true ∧ onlyBits 0x3FF (wordAt p.words 0) = true ∧ secyOf s (fld (wordAt p.words 0) 0 10) = some y) ∧
  (let s : State := w0;
    let p : Pkt := pk 1 [1];
    let n : Nat := 0;
    startsNow 0x15 n p s = true ∧ onlyBits 0x3FF (wordAt p.words 0) = true ∧ secyOf s (fld (wordAt p.words 0) 0 10) = none) ∧
  (let s : State := wrx (a0 9) w0;
    let p : Pkt := pk 1 [0];
    let n : Nat := 0;
    let c : Sc := { link := 1, sci := 0x0102030405060001 };
    startsNow 0x22 n p s = true ∧ onlyBits 0x3FFF (wordAt p.words 0) = true ∧ scOf s (fld (wordAt p.words 0) 0 14) = some c) ∧
  (let s : State := w0;
    let p : Pkt := pk 1 [0];
    let n : Nat := 0;
    startsNow 0x22 n p s = true ∧ onlyBits 0x3FFF (wordAt p.words 0) = true ∧ scOf s (fld (wordAt p.words 0) 0 14) = none) ∧
  (let s : State := wtx (a0 9) w0;
    let p : Pkt := pk 1 [4];
    let n : Nat := 0;
    let a : Sa := a0 9;
    startsNow 0x34 n p s = true ∧ saWordOk (wordAt p.words 0) = true ∧ bitAt (wordAt p.words 0) 63 = false ∧ txOf s (fld (wordAt p.words 0) 0 16) = some a) ∧
  (let s : State := wrx (a0 9) (wy (y0 txp0 0 .on) w0);
    let p : Pkt := pk 1 [0x8000000000000000];
    let n : Nat := 0;
    let a : Sa := a0 9;
    startsNow 0x34 n p s = true ∧ saWordOk (wordAt p.words 0) = true ∧ bitAt (wordAt p.words 0) 63 = true ∧ rxOf s (fld (wordAt p.words 0) 0 16) = some a) ∧
  (let s : State := wtx (a0 9) w0;
    let p : Pkt := pk 1 [4];
    let n : Nat := 0;
    let a : Sa := a0 9;
    startsNow 0x35 n p s = true ∧ saWordOk (wordAt p.words 0) = true ∧ (if bitAt (wordAt p.words 0) 63 then rxOf s (fld (wordAt p.words 0) 0 16) else txOf s (fld (wordAt p.words 0) 0 16)) = some a) ∧
  (let s : State := w0;
    let p : Pkt := pk 1 [4];
    let n : Nat := 0;
    startsNow 0x35 n p s = true ∧ saWordOk (wordAt p.words 0) = true ∧ (if bitAt (wordAt p.words 0) 63 then rxOf s (fld (wordAt p.words 0) 0 16) else txOf s (fld (wordAt p.words 0) 0 16)) = none) := 
  ⟨by decide +kernel,
   by decide +kernel,
   by decide +kernel,
   by decide +kernel,
   by decide +kernel,
   by decide +kernel,
   by decide +kernel,
   by decide +kernel⟩

/-- States and operands that meet the hypotheses of `Obligations.TableReads`, clause 8. -/
theorem test_meets_TableReads_c8 :
  (let s : State := wy (y0 txp0 0 .on) w0;
    let p : Pkt := pk 1 [1];
    let n : Nat := 0;
    let y : Secy := y0 txp0 0 .on;
    startsNow 0x52 n p s = true ∧ onlyBits 0x3FF (wordAt p.words 0) = true ∧ secyOf s (fld (wordAt p.words 0) 0 10) = some y) := by decide +kernel

/-- States and operands that meet the hypotheses of `Obligations.ServiceReads`, clauses 0 to 6. -/
theorem test_meets_ServiceReads_c0_6 :
  (let s : State := wkey 9 .encOnly .traffic w0;
    let p : Pkt := pk 1 [9];
    let n : Nat := 0;
    let k : Nat := 9;
    startsNow 0x44 n p s = true ∧ onlyBits 0xFFFF (wordAt p.words 0) = true ∧ rootGone s = false ∧ cmdSlot s (fld (wordAt p.words 0) 0 16) = some k) ∧
  (let s : State := wy (y0 txp0 0 .on) w0;
    let p : Pkt := pk 1 [1];
    let n : Nat := 0;
    startsNow 0x5B n p s = true ∧ onlyBits 0x3FF (wordAt p.words 0) = true ∧ (secyOf s (fld (wordAt p.words 0) 0 10)).isSome = true) ∧
  (let s : State := w0;
    let p : Pkt := pk 1 [4];
    let n : Nat := 0;
    startsNow 0x60 n p s = true ∧ onlyBits 0xFFF (wordAt p.words 0) = true) ∧
  (let s : State := w0;
    let p : Pkt := pk 1 [0];
    let n : Nat := 0;
    startsNow 0x68 n p s = true ∧ wordAt p.words 0 = 0) ∧
  (let s : State := w0;
    let p : Pkt := pk 1 [2];
    let n : Nat := 0;
    startsNow 0x68 n p s = true ∧ wordAt p.words 0 = 2) ∧
  (let s : State := { w0 with jnl := { w0.jnl with resolved := true } };
    let p : Pkt := pk 0 [];
    let n : Nat := 0;
    startsNow 0x71 n p s = true ∧ jnlGate s false = none) ∧
  (let s : State := w0;
    let p : Pkt := pk 1 [1];
    let n : Nat := 0;
    startsNow 0x81 n p s = true ∧ onlyBits 3 (wordAt p.words 0) = true ∧ pdIsOn s 54 = true) := 
  ⟨by decide +kernel,
   by decide +kernel,
   by decide +kernel,
   by decide +kernel,
   by decide +kernel,
   by decide +kernel,
   by decide +kernel⟩

/-- States and operands that meet the hypotheses of `Obligations.ModesAndPolicy`, clauses 0 to 7. -/
theorem test_meets_ModesAndPolicy_c0_7 :
  (let s : State := wmode .provision w0;
    let p : Pkt := pk 1 [2];
    let n : Nat := 0;
    startsNow 0x03 n p s = true ∧ wordAt p.words 0 = 2 ∧ s.glb.mode = .provision ∧ s.vlt.drbgStop = false) ∧
  (let s : State := wmode .cold w0;
    let p : Pkt := pk 1 [1];
    let n : Nat := 0;
    startsNow 0x03 n p s = true ∧ wordAt p.words 0 = 1 ∧ s.glb.mode = .cold) ∧
  (let s : State := { wmode .cold w0 with cxm := { w0.cxm with trusted := true }, cis := { w0.cis with setKey := 1 } };
    let p : Pkt := pk 1 [1];
    let n : Nat := 0;
    startsNow 0x03 n p s = true ∧ wordAt p.words 0 = 1 ∧ s.glb.mode = .cold ∧ s.cxm.trusted = true ∧ s.cis.setKey ≠ 0) ∧
  (let s : State := w0;
    let p : Pkt := pk 1 [4];
    let n : Nat := 0;
    startsNow 0x03 n p s = true ∧ wordAt p.words 0 = 4 ∧ (s.glb.mode = .protect ∨ s.glb.mode = .degraded)) ∧
  (let s : State := w0;
    let p : Pkt := pk 1 [5];
    let n : Nat := 0;
    startsNow 0x03 n p s = true ∧ wordAt p.words 0 = 5) ∧
  (let s : State := w0;
    let p : Pkt := pk 3 [0x10002, 0, 0];
    let n : Nat := 0;
    let d : Dir := .egr;
    startsNow 0x05 n p s = true ∧ onlyBits 0x3F1F07 (wordAt p.words 0) = true ∧ d = (if bitAt (wordAt p.words 0) 0 then .ing else .egr) ∧ fld (wordAt p.words 0) 16 6 ≤ 31 ∧ fld (wordAt p.words 0) 8 5 + fld (wordAt p.words 0) 16 6 ≤ 32 ∧ (partRules p.words (fld (wordAt p.words 0) 16 6)).all ruleOk = true ∧ stageOf s d = none ∧ bitAt (wordAt p.words 0) 1 = true) ∧
  (let s : State := w0;
    let p : Pkt := pk 3 [0x10000, 0, 0];
    let n : Nat := 0;
    let d : Dir := .egr;
    startsNow 0x05 n p s = true ∧ onlyBits 0x3F1F07 (wordAt p.words 0) = true ∧ d = (if bitAt (wordAt p.words 0) 0 then .ing else .egr) ∧ fld (wordAt p.words 0) 16 6 ≤ 31 ∧ fld (wordAt p.words 0) 8 5 + fld (wordAt p.words 0) 16 6 ≤ 32 ∧ (partRules p.words (fld (wordAt p.words 0) 16 6)).all ruleOk = true ∧ stageOf s d = none ∧ bitAt (wordAt p.words 0) 1 = false) ∧
  (let s : State := { w0 with mci := { w0.mci with stageEgr := some ⟨.hq 1, []⟩ } };
    let p : Pkt := pk 3 [0x10002, 0, 0];
    let n : Nat := 0;
    let d : Dir := .egr;
    let g : Staging := ⟨.hq 1, []⟩;
    startsNow 0x05 n p s = true ∧ onlyBits 0x3F1F07 (wordAt p.words 0) = true ∧ d = (if bitAt (wordAt p.words 0) 0 then .ing else .egr) ∧ fld (wordAt p.words 0) 16 6 ≤ 31 ∧ fld (wordAt p.words 0) 8 5 + fld (wordAt p.words 0) 16 6 ≤ 32 ∧ (partRules p.words (fld (wordAt p.words 0) 16 6)).all ruleOk = true ∧ stageOf s d = some g ∧ g.owner ≠ .hq n) := 
  ⟨by decide +kernel,
   by decide +kernel,
   by decide +kernel,
   by decide +kernel,
   by decide +kernel,
   by decide +kernel,
   by decide +kernel,
   by decide +kernel⟩

/-- States and operands that meet the hypotheses of `Obligations.ModesAndPolicy`, clause 8. -/
theorem test_meets_ModesAndPolicy_c8 :
  (let s : State := w0;
    resetLow s = false) := by decide +kernel

/-- States and operands that meet the hypotheses of `Obligations.SecyCommands`, clauses 0 to 7. -/
theorem test_meets_SecyCommands_c0_7 :
  (let s : State := w0;
    let p : Pkt := pk 4 [1, 0x0102030405060001, txp0, 0];
    let n : Nat := 0;
    startsNow 0x10 n p s = true ∧ onlyBits 0x3FF (wordAt p.words 0) = true ∧ txpOk (wordAt p.words 2) = true ∧ rxpOk (wordAt p.words 3) = true ∧ sciOk (wordAt p.words 1) (wordAt p.words 2) = true ∧ secyOf s (fld (wordAt p.words 0) 0 10) = none) ∧
  (let s : State := wy (y0 txp0 0 .on) w0;
    let p : Pkt := pk 4 [1, 0x0102030405060001, txp0, 0];
    let n : Nat := 0;
    startsNow 0x10 n p s = true ∧ onlyBits 0x3FF (wordAt p.words 0) = true ∧ txpOk (wordAt p.words 2) = true ∧ rxpOk (wordAt p.words 3) = true ∧ sciOk (wordAt p.words 1) (wordAt p.words 2) = true ∧ (secyOf s (fld (wordAt p.words 0) 0 10)).isSome = true) ∧
  (let s : State := wy (y0 txp0 0 .off) w0;
    let p : Pkt := pk 4 [0x40001, 0, 0, 0x4000000000000000];
    let n : Nat := 0;
    let y : Secy := y0 txp0 0 .off;
    let z : Secy := { (y0 txp0 0 .off) with rxp := 0x4000000000000000 };
    startsNow 0x11 n p s = true ∧ onlyBits 0x703FF (wordAt p.words 0) = true ∧ secyOf s (fld (wordAt p.words 0) 0 10) = some y ∧ z = { y with
        sci := (if bitAt (wordAt p.words 0) 16 then wordAt p.words 1 else y.sci),
        txp := (if bitAt (wordAt p.words 0) 17 then wordAt p.words 2 else y.txp),
        rxp := (if bitAt (wordAt p.words 0) 18 then wordAt p.words 3 else y.rxp) } ∧ txpOk (wordAt p.words 2) = true ∧ rxpOk (wordAt p.words 3) = true ∧ sciOk z.sci z.txp = true ∧ y.st = .off ∧ txOfLink s (fld (wordAt p.words 0) 0 10) = [] ∧ rxOfLink s (fld (wordAt p.words 0) 0 10) = [] ∧ scsOfLink s (fld (wordAt p.words 0) 0 10) = [] ∧ txpMka z.txp = txpMka y.txp ∧ txpOff z.txp = txpOff y.txp) ∧
  (let s : State := wy (y0 txp0 0 .off) w0;
    let p : Pkt := pk 1 [1];
    let n : Nat := 0;
    let y : Secy := y0 txp0 0 .off;
    startsNow 0x12 n p s = true ∧ onlyBits 0x3FF (wordAt p.words 0) = true ∧ secyOf s (fld (wordAt p.words 0) 0 10) = some y ∧ y.st = .off ∧ txOfLink s (fld (wordAt p.words 0) 0 10) = []) ∧
  (let s : State := wy (y0 txp0 0 .on) w0;
    let p : Pkt := pk 1 [1];
    let n : Nat := 0;
    let y : Secy := y0 txp0 0 .on;
    startsNow 0x12 n p s = true ∧ onlyBits 0x3FF (wordAt p.words 0) = true ∧ secyOf s (fld (wordAt p.words 0) 0 10) = some y ∧ y.st = .on) ∧
  (let s : State := wy (y0 txp0 0 .draining) w0;
    let p : Pkt := pk 1 [1];
    let n : Nat := 0;
    let y : Secy := y0 txp0 0 .draining;
    startsNow 0x12 n p s = true ∧ onlyBits 0x3FF (wordAt p.words 0) = true ∧ secyOf s (fld (wordAt p.words 0) 0 10) = some y ∧ y.st = .draining) ∧
  (let s : State := wy (y0 txp0 0 .on) w0;
    let p : Pkt := pk 1 [1];
    let n : Nat := 0;
    let y : Secy := y0 txp0 0 .on;
    startsNow 0x13 n p s = true ∧ onlyBits 0x3FF (wordAt p.words 0) = true ∧ secyOf s (fld (wordAt p.words 0) 0 10) = some y ∧ y.st = .on ∧ y.cut = .none) ∧
  (let s : State := wy (y0 txp0 0 .draining) w0;
    let p : Pkt := pk 1 [1];
    let n : Nat := 0;
    let y : Secy := y0 txp0 0 .draining;
    startsNow 0x13 n p s = true ∧ onlyBits 0x3FF (wordAt p.words 0) = true ∧ secyOf s (fld (wordAt p.words 0) 0 10) = some y ∧ y.st = .draining) := 
  ⟨by decide +kernel,
   by decide +kernel,
   by decide +kernel,
   by decide +kernel,
   by decide +kernel,
   by decide +kernel,
   by decide +kernel,
   by decide +kernel⟩

/-- States and operands that meet the hypotheses of `Obligations.SecyCommands`, clauses 8 to 9. -/
theorem test_meets_SecyCommands_c8_9 :
  (let s : State := wy (y0 txp0 0 .off) w0;
    let p : Pkt := pk 1 [1];
    let n : Nat := 0;
    let y : Secy := y0 txp0 0 .off;
    startsNow 0x13 n p s = true ∧ onlyBits 0x3FF (wordAt p.words 0) = true ∧ secyOf s (fld (wordAt p.words 0) 0 10) = some y ∧ y.st = .off) ∧
  (let s : State := wy (y0 txp0 0 .off) w0;
    let p : Pkt := pk 1 [1];
    let n : Nat := 0;
    let y : Secy := y0 txp0 0 .off;
    startsNow 0x14 n p s = true ∧ onlyBits 0x3FF (wordAt p.words 0) = true ∧ secyOf s (fld (wordAt p.words 0) 0 10) = some y ∧ y.st = .off ∧ y.cut = .none ∧ txOfLink s (fld (wordAt p.words 0) 0 10) = [] ∧ rxOfLink s (fld (wordAt p.words 0) 0 10) = [] ∧ scsOfLink s (fld (wordAt p.words 0) 0 10) = [] ∧ s.mci.running = [] ∧ s.mci.cmdq = [] ∧ s.jnl.work = [] ∧ s.jnl.wr = none) := 
  ⟨by decide +kernel,
   by decide +kernel⟩

/-- States and operands that meet the hypotheses of `Obligations.DrainingSecys`, clauses 0 to 2. -/
theorem test_meets_DrainingSecys_c0_2 :
  (let s : State := wy (y0 txp0 0 .draining) w0;
    let l : Nat := 1;
    let y : Secy := y0 txp0 0 .draining;
    resetLow s = false ∧ secyOf s l = some y ∧ y.st = .draining ∧ inFlightOf s .egr l = 0 ∧ inFlightOf s .ing l = 0 ∧ txOfLink s l = []) ∧
  (let s : State := wegr [f0 1 0 .crypt] (wy (y0 txp0 0 .draining) w0);
    let l : Nat := 1;
    let y : Secy := y0 txp0 0 .draining;
    resetLow s = false ∧ secyOf s l = some y ∧ y.st = .draining ∧ (inFlightOf s .egr l ≠ 0 ∨ inFlightOf s .ing l ≠ 0)) ∧
  (let s : State := wegr [f0 1 0 .crypt] (wy (y0 txp0 0 .draining) w0);
    let l : Nat := 1;
    let y : Secy := y0 txp0 0 .draining;
    let f : Frame := f0 1 0 .crypt;
    resetLow s = false ∧ secyOf s l = some y ∧ y.st = .draining ∧ s.egr.frames = [f] ∧ s.ing.frames = [] ∧ f.link = l ∧ f.ended = true ∧ f.started = false ∧ isDead f = false) := 
  ⟨by decide +kernel,
   by decide +kernel,
   by decide +kernel⟩

/-- States and operands that meet the hypotheses of `Obligations.ReceiveChannels`, clauses 0 to 3. -/
theorem test_meets_ReceiveChannels_c0_3 :
  (let s : State := wy (y0 txp0 0 .on) w0;
    let p : Pkt := pk 2 [1, 77];
    let n : Nat := 0;
    let y : Secy := y0 txp0 0 .on;
    startsNow 0x20 n p s = true ∧ onlyBits 0x3FF (wordAt p.words 0) = true ∧ secyOf s (fld (wordAt p.words 0) 0 10) = some y ∧ txpMka y.txp = false ∧ findSc s (fld (wordAt p.words 0) 0 10) (wordAt p.words 1) = none) ∧
  (let s : State := wsc (wy (y0 txp0 0 .on) w0);
    let p : Pkt := pk 2 [1, 0x0102030405060001];
    let n : Nat := 0;
    let y : Secy := y0 txp0 0 .on;
    startsNow 0x20 n p s = true ∧ onlyBits 0x3FF (wordAt p.words 0) = true ∧ secyOf s (fld (wordAt p.words 0) 0 10) = some y ∧ (findSc s (fld (wordAt p.words 0) 0 10) (wordAt p.words 1)).isSome = true) ∧
  (let s : State := wsc (wy (y0 txp0 0 .on) w0);
    let p : Pkt := pk 1 [0];
    let n : Nat := 0;
    let c : Sc := { link := 1, sci := 0x0102030405060001 };
    startsNow 0x21 n p s = true ∧ onlyBits 0x3FFF (wordAt p.words 0) = true ∧ scOf s (fld (wordAt p.words 0) 0 14) = some c ∧ (∀ a, a < 4 → rxOf s (4 * fld (wordAt p.words 0) 0 14 + a) = none) ∧ linkMka s c.link = false) ∧
  (let s : State := wrx (a0 9) (wy (y0 txp0 0 .on) w0);
    let p : Pkt := pk 1 [0];
    let n : Nat := 0;
    let c : Sc := { link := 1, sci := 0x0102030405060001 };
    let a : Nat := 0;
    startsNow 0x21 n p s = true ∧ onlyBits 0x3FFF (wordAt p.words 0) = true ∧ scOf s (fld (wordAt p.words 0) 0 14) = some c ∧ a < 4 ∧ (rxOf s (4 * fld (wordAt p.words 0) 0 14 + a)).isSome = true) := 
  ⟨by decide +kernel,
   by decide +kernel,
   by decide +kernel,
   by decide +kernel⟩

/-- States and operands that meet the hypotheses of `Obligations.SaCommands`, clauses 0 to 7. -/
theorem test_meets_SaCommands_c0_7 :
  (let s : State := wkey 9 .decOnly .traffic (wsc (wy (y0 txp0 0 .on) w0));
    let p : Pkt := pk 6 [0x8000000000000000, 9, 0, 5, 0, 0];
    let n : Nat := 0;
    let l : Nat := 1;
    let k : Nat := 9;
    let y : Secy := y0 txp0 0 .on;
    startsNow 0x30 n p s = true ∧ bitAt (wordAt p.words 0) 63 = true ∧ installForm (newCmd 0x30 p s) = true ∧ installOwner s (newCmd 0x30 p s) = some (l, y) ∧ installRange (newCmd 0x30 p s) (txpSuite y.txp) = true ∧ cmdSlot s (fld (wordAt p.words 1) 0 16) = some k ∧ txpMka y.txp = false ∧ rxOf s (4 * fld (wordAt p.words 0) 0 14 + fld (wordAt p.words 0) 56 2) = none ∧ (vslot s k).st ≠ .retiring ∧ (vslot s k).attr = .decOnly ∧ unwInSvc s ≠ 0 ∧ (trafficBlob s k).isSome = true) ∧
  (let s : State := (fun s : State => { s with jnl := { s.jnl with resolved := true } }) (wkey 9 .encOnly .traffic (wy (y0 txp0 0 .on) w0));
    let p : Pkt := pk 6 [0x0100000000000001, 9, 0, 0, 0, 0];
    let n : Nat := 0;
    let l : Nat := 1;
    let k : Nat := 9;
    let y : Secy := y0 txp0 0 .on;
    startsNow 0x30 n p s = true ∧ bitAt (wordAt p.words 0) 63 = false ∧ installForm (newCmd 0x30 p s) = true ∧ installOwner s (newCmd 0x30 p s) = some (l, y) ∧ installRange (newCmd 0x30 p s) (txpSuite y.txp) = true ∧ cmdSlot s (fld (wordAt p.words 1) 0 16) = some k ∧ txpMka y.txp = false ∧ txOf s (4 * fld (wordAt p.words 0) 0 14 + fld (wordAt p.words 0) 56 2) = none ∧ y.curAn ≠ fld (wordAt p.words 0) 56 2 ∧ (vslot s k).st ≠ .retiring ∧ (vslot s k).attr = .encOnly ∧ unwInSvc s ≠ 0 ∧ (trafficBlob s k).isSome = true ∧ readOnly s = false ∧ s.jnl.resolved = true) ∧
  (let s : State := wkey 9 .encOnly .traffic (wsc (wy (y0 txp0 0 .on) w0));
    let p : Pkt := pk 6 [0x8000000000000000, 9, 0, 5, 0, 0];
    let n : Nat := 0;
    let l : Nat := 1;
    let k : Nat := 9;
    let y : Secy := y0 txp0 0 .on;
    startsNow 0x30 n p s = true ∧ bitAt (wordAt p.words 0) 63 = true ∧ installForm (newCmd 0x30 p s) = true ∧ installOwner s (newCmd 0x30 p s) = some (l, y) ∧ installRange (newCmd 0x30 p s) (txpSuite y.txp) = true ∧ cmdSlot s (fld (wordAt p.words 1) 0 16) = some k ∧ txpMka y.txp = false ∧ rxOf s (4 * fld (wordAt p.words 0) 0 14 + fld (wordAt p.words 0) 56 2) = none ∧ (vslot s k).st ≠ .retiring ∧ (vslot s k).attr ≠ .decOnly) ∧
  (let s : State := wrx (a0 9) (wy (y0 txp0 0 .on) w0);
    let p : Pkt := pk 1 [0x8000000000000000];
    let n : Nat := 0;
    let a : Sa := a0 9;
    startsNow 0x31 n p s = true ∧ onlyBits 0x800000000000FFFF (wordAt p.words 0) = true ∧ rxOf s (fld (wordAt p.words 0) 0 16) = some a ∧ a.retiring = false) ∧
  (let s : State := { wy (y0 txp0 0 .on) (w0) with tx := [(4, some (a0 9)), (5, some { a0 10 with lease := .none })], jnl := { w0.jnl with resolved := true } };
    let p : Pkt := pk 1 [0x10001];
    let n : Nat := 0;
    let y : Secy := y0 txp0 0 .on;
    startsNow 0x32 n p s = true ∧ onlyBits 0x303FF (wordAt p.words 0) = true ∧ secyOf s (fld (wordAt p.words 0) 0 10) = some y ∧ cutCheck s (fld (wordAt p.words 0) 0 10) (fld (wordAt p.words 0) 16 2) false = none ∧ y.st = .on ∧ leaseHeld s (4 * fld (wordAt p.words 0) 0 10 + fld (wordAt p.words 0) 16 2) = false) ∧
  (let s : State := wrx (a0 9) (wy (y0 txp0 0 .on) w0);
    let p : Pkt := pk 1 [0x8000000000000000];
    let n : Nat := 0;
    let a : Sa := a0 9;
    startsNow 0x33 n p s = true ∧ saWordOk (wordAt p.words 0) = true ∧ bitAt (wordAt p.words 0) 63 = true ∧ rxOf s (fld (wordAt p.words 0) 0 16) = some a) ∧
  (let s : State := wtx (a0 9) (wy ({ y0 txp0 0 .on with curAn := 1 }) w0);
    let p : Pkt := pk 1 [4];
    let n : Nat := 0;
    let a : Sa := a0 9;
    let y : Secy := { y0 txp0 0 .on with curAn := 1 };
    startsNow 0x33 n p s = true ∧ saWordOk (wordAt p.words 0) = true ∧ bitAt (wordAt p.words 0) 63 = false ∧ txOf s (fld (wordAt p.words 0) 0 16) = some a ∧ secyOf s (saLink (fld (wordAt p.words 0) 0 16)) = some y ∧ y.curAn ≠ fld (wordAt p.words 0) 0 16 % 4 ∧ y.cut = .none) ∧
  (let s : State := wrx { a0 9 with retiring := true } w0;
    let i : Nat := 0;
    let a : Sa := { a0 9 with retiring := true };
    resetLow s = false ∧ rxOf s i = some a ∧ a.retiring = true ∧ saBusy s .ing i = false ∧ secyOf s (rxLink s i) = none ∧ s.mci.running = []) := 
  ⟨by decide +kernel,
   by decide +kernel,
   by decide +kernel,
   by decide +kernel,
   by decide +kernel,
   by decide +kernel,
   by decide +kernel,
   by decide +kernel⟩

/-- States and operands that meet the hypotheses of `Obligations.SaCommands`, clause 8. -/
theorem test_meets_SaCommands_c8 :
  (let s : State := wtx { a0 9 with retiring := true } w0;
    let i : Nat := 4;
    let a : Sa := { a0 9 with retiring := true };
    resetLow s = false ∧ txOf s i = some a ∧ a.retiring = true ∧ saBusy s .egr i = false ∧ secyOf s (saLink i) = none ∧ s.mci.running = []) := by decide +kernel

/-- States and operands that meet the hypotheses of `Obligations.KeyCommands`, clauses 0 to 6. -/
theorem test_meets_KeyCommands_c0_6 :
  (let s : State := { wmode .cold w0 with vlt := { w0.vlt with cfg := 1 } };
    let p : Pkt := pk 5 [0x180020FFFF, 1, 2, 3, 4];
    let n : Nat := 0;
    (∃ k, 8200 ≤ k ∧ k < 8264 ∧ (vslot s k).st = .empty) ∧ startsNow 0x40 n p s = true ∧ fld (wordAt p.words 0) 0 16 = 0xFFFF ∧ (s.glb.mode = .cold ∨ s.glb.mode = .provision) ∧ onlyBits 0xFC00FFFFFF (wordAt p.words 0) = true ∧ fld (wordAt p.words 0) 16 8 = 32 ∧ rootGone s = false ∧ bitAt s.vlt.cfg 0 = true ∧ fld (wordAt p.words 0) 34 2 = 2 ∧ fld (wordAt p.words 0) 36 3 = 1 ∧ keySource s = none) ∧
  (let s : State := wkey 8201 .wrapOnly .hostKek w0;
    let p : Pkt := pk 5 [0x202009, 1, 2, 3, 4];
    let n : Nat := 0;
    let k : Nat := 8201;
    startsNow 0x40 n p s = true ∧ fld (wordAt p.words 0) 0 16 ≠ 0xFFFF ∧ onlyBits 0xFFFFFF (wordAt p.words 0) = true ∧ (fld (wordAt p.words 0) 16 8 = 32 ∨ fld (wordAt p.words 0) 16 8 = 48) ∧ cmdSlot s (fld (wordAt p.words 0) 0 16) = some k ∧ rootGone s = false ∧ (vslot s k).st ≠ .retiring ∧ unwrapsHost k (vslot s k) = true ∧ unwInSvc s ≠ 0 ∧ keySource s = none) ∧
  (let s : State := wkey 8201 .deriveOnly .hostKdk w0;
    let p : Pkt := pk 9 [0x27D00002009, 0, 0, 0, 0, 0, 0, 0, 0];
    let n : Nat := 0;
    let k : Nat := 8201;
    (∃ k, 8200 ≤ k ∧ k < 8264 ∧ (vslot s k).st = .empty) ∧ startsNow 0x41 n p s = true ∧ onlyBits 0x003F3FFD0000FFFF (wordAt p.words 0) = true ∧ 0 < fld (wordAt p.words 0) 40 6 ∧ fld (wordAt p.words 0) 40 6 ≤ 32 ∧ fld (wordAt p.words 0) 48 6 ≤ 32 ∧ ((wordsBytes ((p.words.drop 1).take 4)).drop (fld (wordAt p.words 0) 40 6)).all (· == 0) = true ∧ ((wordsBytes ((p.words.drop 5).take 4)).drop (fld (wordAt p.words 0) 48 6)).all (· == 0) = true ∧ fld (wordAt p.words 0) 36 3 = 7 ∧ fld (wordAt p.words 0) 34 2 = 3 ∧ bitAt (wordAt p.words 0) 32 = true ∧ cmdSlot s (fld (wordAt p.words 0) 0 16) = some k ∧ rootGone s = false ∧ (vslot s k).st ≠ .retiring ∧ (vslot s k).attr = .deriveOnly ∧ ((vslot s k).role = .hostKdk ∨ (vslot s k).role = .cak) ∧ unwInSvc s ≠ 0 ∧ keySource s = none) ∧
  (let s : State := w0;
    let p : Pkt := pk 1 [0x7C00000000];
    let n : Nat := 0;
    (∃ k, 8200 ≤ k ∧ k < 8264 ∧ (vslot s k).st = .empty) ∧ startsNow 0x45 n p s = true ∧ onlyBits 0xFD00000000 (wordAt p.words 0) = true ∧ fld (wordAt p.words 0) 36 3 = 7 ∧ fld (wordAt p.words 0) 34 2 = 3 ∧ bitAt (wordAt p.words 0) 32 = false ∧ rootGone s = false ∧ s.glb.deg.getLsbD 7 = false ∧ s.vlt.drbg = true ∧ s.vlt.drbgStop = false ∧ s.vlt.reqSince < 2 ^ 20) ∧
  (let s : State := (fun s : State => { s with vlt := { s.vlt with slots := smSet .reset s.vlt.slots 8202 { VSlot.reset with st := .loaded, attr := .wrapOnly, role := .hostKek, exp := true } } }) (wkey 8201 .wrapOnly .hostKek w0);
    let p : Pkt := pk 1 [0x2009200A];
    let n : Nat := 0;
    let a : Nat := 8202;
    let b : Nat := 8201;
    startsNow 0x42 n p s = true ∧ onlyBits 0xFFFFFFFF (wordAt p.words 0) = true ∧ cmdSlot s (fld (wordAt p.words 0) 0 16) = some a ∧ cmdSlot s (fld (wordAt p.words 0) 16 16) = some b ∧ rootGone s = false ∧ (vslot s a).st ≠ .retiring ∧ (vslot s b).st ≠ .retiring ∧ isHost a = true ∧ (vslot s a).exp = true ∧ ((vslot s a).attr = .wrapOnly ∨ (vslot s a).attr = .deriveOnly) ∧ (vslot s b).attr = .wrapOnly ∧ (vslot s b).role = .hostKek ∧ unwInSvc s ≠ 0) ∧
  (let s : State := wkey 9 .encOnly .traffic w0;
    let p : Pkt := pk 1 [9];
    let n : Nat := 0;
    let k : Nat := 9;
    startsNow 0x43 n p s = true ∧ onlyBits 0xFFFF (wordAt p.words 0) = true ∧ cmdSlot s (fld (wordAt p.words 0) 0 16) = some k ∧ rootGone s = false ∧ (vslot s k).refs = 0 ∧ (vslot s k).st ≠ .retiring ∧ k ≠ 8198) ∧
  (let s : State := (fun s : State => { s with vlt := { s.vlt with slots := [(9, { VSlot.reset with st := .retiring })] } }) w0;
    let k : Nat := 9;
    resetLow s = false ∧ (vslot s k).st = .retiring ∧ inFlight s (kidOf s k) = false ∧ s.mci.running = []) := 
  ⟨⟨⟨8200, by decide +kernel⟩, by decide +kernel⟩,
   by decide +kernel,
   ⟨⟨8200, by decide +kernel⟩, by decide +kernel⟩,
   ⟨⟨8200, by decide +kernel⟩, by decide +kernel⟩,
   by decide +kernel,
   by decide +kernel,
   by decide +kernel⟩

/-- States and operands that meet the hypotheses of `Obligations.CutCommands`, clauses 0 to 4. -/
theorem test_meets_CutCommands_c0_4 :
  (let s : State := { wy (y0 txp0 0 .on) (w0) with tx := [(4, some (a0 9)), (5, some { a0 10 with lease := .none })], jnl := { w0.jnl with resolved := true } };
    let p : Pkt := pk 50 ([0, 1000000000] ++ linkSetWords [1] ++ [4] ++ List.replicate 31 0);
    let n : Nat := 0;
    let l : Nat := 1;
    let y : Secy := y0 txp0 0 .on;
    startsNow 0x50 n p s = true ∧ linkSet (p.words.drop 2) = [l] ∧ schedForm (newCmd 0x50 p s) [l] = true ∧ now s + cutLead s ≤ (wordAt p.words 1).toNat ∧ secyOf s l = some y ∧ cutCheck s l (schedAn (newCmd 0x50 p s) l) false = none ∧ y.st = .on ∧ leaseHeld s (4 * l + schedAn (newCmd 0x50 p s) l) = false ∧ sharers s (4 * l + y.curAn) = [] ∧ s.fab.unsync = false ∧ readOnly s = false ∧ s.mci.running = [] ∧ s.fab.offers = []) ∧
  (let s : State := (fun s : State => { s with fab := { s.fab with unsync := true } }) ({ wy (y0 txp0 0 .on) (w0) with tx := [(4, some (a0 9)), (5, some { a0 10 with lease := .none })], jnl := { w0.jnl with resolved := true } });
    let p : Pkt := pk 50 ([0, 1000000000] ++ linkSetWords [1] ++ [4] ++ List.replicate 31 0);
    let n : Nat := 0;
    let l : Nat := 1;
    startsNow 0x50 n p s = true ∧ linkSet (p.words.drop 2) = [l] ∧ schedForm (newCmd 0x50 p s) [l] = true ∧ now s + cutLead s ≤ (wordAt p.words 1).toNat ∧ (secyOf s l).isSome = true ∧ (txOf s (4 * l + schedAn (newCmd 0x50 p s) l)).isSome = true ∧ s.fab.unsync = true) ∧
  (let s : State := wy ({ y0 txp0 0 .on with cut := .armed, cutTime := 0, curAn := 0, cutAn := 1 }) w0;
    let p : Pkt := pk 1 [1];
    let n : Nat := 0;
    let y : Secy := { y0 txp0 0 .on with cut := .armed, cutTime := 0, curAn := 0, cutAn := 1 };
    startsNow 0x51 n p s = true ∧ onlyBits 0x3FF (wordAt p.words 0) = true ∧ secyOf s (fld (wordAt p.words 0) 0 10) = some y ∧ txpMka y.txp = false ∧ (y.cut = .armed ∨ y.cut = .timed) ∧ readOnly s = false) ∧
  (let s : State := wy ({ y0 txp0 0 .on with cut := .arming, cutTime := 0, curAn := 0, cutAn := 1 }) w0;
    let p : Pkt := pk 1 [1];
    let n : Nat := 0;
    let y : Secy := { y0 txp0 0 .on with cut := .arming, cutTime := 0, curAn := 0, cutAn := 1 };
    startsNow 0x51 n p s = true ∧ onlyBits 0x3FF (wordAt p.words 0) = true ∧ secyOf s (fld (wordAt p.words 0) 0 10) = some y ∧ txpMka y.txp = false ∧ y.cut = .arming) ∧
  (let s : State := wy ({ y0 txp0 0 .on with cut := .none, cutTime := 0, curAn := 0, cutAn := 1 }) w0;
    let p : Pkt := pk 1 [1];
    let n : Nat := 0;
    let y : Secy := { y0 txp0 0 .on with cut := .none, cutTime := 0, curAn := 0, cutAn := 1 };
    startsNow 0x51 n p s = true ∧ onlyBits 0x3FF (wordAt p.words 0) = true ∧ secyOf s (fld (wordAt p.words 0) 0 10) = some y ∧ txpMka y.txp = false ∧ y.cut = .none) := 
  ⟨by decide +kernel,
   by decide +kernel,
   by decide +kernel,
   by decide +kernel,
   by decide +kernel⟩

/-- States and operands that meet the hypotheses of `Obligations.MkaCommands`, clauses 0 to 3. -/
theorem test_meets_MkaCommands_c0_3 :
  (let s : State := wy (y0 (txp0 ||| 0x80000000000) 0 .on) w0;
    let p : Pkt := pk 2 [1, 0];
    let n : Nat := 0;
    let y : Secy := y0 (txp0 ||| 0x80000000000) 0 .on;
    startsNow 0x58 n p s = true ∧ onlyBits 0x7FFF03FF (wordAt p.words 0) = true ∧ onlyBits 0xFFFFFFFF (wordAt p.words 1) = true ∧ secyOf s (fld (wordAt p.words 0) 0 10) = some y ∧ txpMka y.txp = true ∧ (caOf s (fld (wordAt p.words 0) 0 10)).enabled = false) ∧
  (let s : State := (fun s : State => { s with svc := { s.svc with cas := [(1, { MkCa.reset with enabled := true, prio := 16, suites := 15, offs := 7, rekeyS := 60, first := some { ckn := [1], k256 := false, cak := [], mi := 5, mn := 0, peers := [], ks := none, kn := 0, an := 0, suite := 0, off := 0, txKid := none, rxKid := none, phase := .none, cutT := 0, want := false } })] }, jnl := { s.jnl with resolved := true } }) (wy (y0 (txp0 ||| 0x80000000000) 0 .on) w0);
    let p : Pkt := pk 1 [1];
    let n : Nat := 0;
    let y : Secy := y0 (txp0 ||| 0x80000000000) 0 .on;
    startsNow 0x59 n p s = true ∧ onlyBits 0x3FF (wordAt p.words 0) = true ∧ secyOf s (fld (wordAt p.words 0) 0 10) = some y ∧ txpMka y.txp = true ∧ (caOf s (fld (wordAt p.words 0) 0 10)).enabled = true ∧ y.cut = .none ∧ txOfLink s (fld (wordAt p.words 0) 0 10) = [] ∧ rxOfLink s (fld (wordAt p.words 0) 0 10) = [] ∧ scsOfLink s (fld (wordAt p.words 0) 0 10) = [] ∧ s.mci.running = []) ∧
  (let s : State := wkey 8201 .deriveOnly .cak (wy (y0 (txp0 ||| 0x80000000000) 0 .on) w0);
    let p : Pkt := pk 6 ([0x220090001, 0] ++ [0x0102000000000000, 0, 0, 0]);
    let n : Nat := 0;
    let y : Secy := y0 (txp0 ||| 0x80000000000) 0 .on;
    let k : Nat := 8201;
    startsNow 0x5A n p s = true ∧ onlyBits 0x3FFFFF03FF (wordAt p.words 0) = true ∧ 0 < fld (wordAt p.words 0) 32 6 ∧ fld (wordAt p.words 0) 32 6 ≤ 32 ∧ wordAt p.words 1 = 0 ∧ fld (wordAt p.words 0) 16 16 ≠ 0xFFFF ∧ ((wordsBytes ((p.words.drop 2).take 4)).drop (fld (wordAt p.words 0) 32 6)).all (· == 0) = true ∧ secyOf s (fld (wordAt p.words 0) 0 10) = some y ∧ txpMka y.txp = true ∧ cmdSlot s (fld (wordAt p.words 0) 16 16) = some k ∧ (vslot s k).st ≠ .retiring ∧ isHost k = true ∧ (vslot s k).role = .cak ∧ (vslot s k).attr = .deriveOnly ∧ unwInSvc s ≠ 0 ∧ keySource s = none ∧ drbgFull s = false ∧ caOf s (fld (wordAt p.words 0) 0 10) = .reset) ∧
  (let s : State := (fun s : State => { s with svc := { s.svc with cas := [(1, { MkCa.reset with enabled := true, prio := 16, suites := 15, offs := 7, rekeyS := 60, first := some { ckn := [1], k256 := false, cak := [], mi := 5, mn := 0, peers := [{ sci := 77, mi := 3, mn := 1, prio := 5, live := true, suites := 15, offCap := 2, rxKn := 0, txKn := 0, sends := false, sc := none }], ks := some 0x0102030405060001, kn := 0, an := 0, suite := 0, off := 0, txKid := none, rxKid := none, phase := .done, cutT := 0, want := false } })] }, jnl := { s.jnl with resolved := true } }) (wy (y0 (txp0 ||| 0x80000000000) 0 .on) w0);
    let p : Pkt := pk 18 ([0, 0] ++ linkSetWords [1]);
    let n : Nat := 0;
    let l : Nat := 1;
    let a : Nat := 1;
    let b : Nat := 2;
    let y : Secy := y0 (txp0 ||| 0x80000000000) 0 .on;
    let x : MkPart := { ckn := [1], k256 := false, cak := [], mi := 5, mn := 0, peers := [{ sci := 77, mi := 3, mn := 1, prio := 5, live := true, suites := 15, offCap := 2, rxKn := 0, txKn := 0, sends := false, sc := none }], ks := some 0x0102030405060001, kn := 0, an := 0, suite := 0, off := 0, txKid := none, rxKid := none, phase := .done, cutT := 0, want := false };
    startsNow 0x5C n p s = true ∧ wordAt p.words 0 = 0 ∧ linkSet (p.words.drop 2) = [l] ∧ secyOf s l = some y ∧ linkMka s l = true ∧ linkKs s l = true ∧ (caOf s l).first = some x ∧ (caOf s l).ending = false ∧ unwInSvc s ≠ 0 ∧ s.vlt.reqSince < 2 ^ 20 ∧ s.vlt.drbg = true ∧ s.vlt.drbgStop = false ∧ s.glb.deg.getLsbD 7 = false ∧ usedSlots s isTraffic ≤ 8190 ∧ anBusy s l ((x.an + 1) % 4) = false ∧ readOnly s = false ∧ a < 8192 ∧ b < 8192 ∧ a ≠ b ∧ (vslot s a).st = .empty ∧ (vslot s b).st = .empty) := 
  ⟨by decide +kernel,
   by decide +kernel,
   by decide +kernel,
   by decide +kernel⟩

/-- States and operands that meet the hypotheses of `Obligations.LeaseAndFabricCommands`, clauses 0 to 7. -/
theorem test_meets_LeaseAndFabricCommands_c0_7 :
  (let s : State := w0;
    let p : Pkt := pk 1 [0xe0000000000];
    let n : Nat := 0;
    startsNow 0x61 n p s = true ∧ onlyBits 0xC0003F0000000FFF (wordAt p.words 0) = true ∧ fld (wordAt p.words 0) 62 2 = 0 ∧ 12 ≤ fld (wordAt p.words 0) 40 6 ∧ fld (wordAt p.words 0) 40 6 ≤ 32) ∧
  (let s : State := w0;
    let p : Pkt := pk 1 [0x40000e0000000000];
    let n : Nat := 0;
    startsNow 0x61 n p s = true ∧ onlyBits 0xC0003F0000000FFF (wordAt p.words 0) = true ∧ fld (wordAt p.words 0) 62 2 = 1 ∧ 12 ≤ fld (wordAt p.words 0) 40 6 ∧ fld (wordAt p.words 0) 40 6 ≤ 32) ∧
  (let s : State := w0;
    let p : Pkt := pk 1 [0x80000e0000000005];
    let n : Nat := 0;
    startsNow 0x61 n p s = true ∧ onlyBits 0xC0003F0000000FFF (wordAt p.words 0) = true ∧ fld (wordAt p.words 0) 62 2 = 2 ∧ 12 ≤ fld (wordAt p.words 0) 40 6 ∧ fld (wordAt p.words 0) 40 6 ≤ 32) ∧
  (let s : State := w0;
    let p : Pkt := pk 1 [0xc0000e0000000005];
    let n : Nat := 0;
    startsNow 0x61 n p s = true ∧ onlyBits 0xC0003F0000000FFF (wordAt p.words 0) = true ∧ fld (wordAt p.words 0) 62 2 = 3) ∧
  (let s : State := w0;
    let p : Pkt := pk 2 [0x004509000000FFFF, 0];
    let n : Nat := 0;
    startsNow 0x69 n p s = true ∧ onlyBits 0xF07FFF000000FFFF (wordAt p.words 0) = true ∧ wordAt p.words 1 = 0 ∧ fld (wordAt p.words 0) 60 4 = 0 ∧ fld (wordAt p.words 0) 0 16 = 0xFFFF) ∧
  (let s : State := (fun s : State => { s with fab := { s.fab with pair := { s.fab.pair with partner := some 6 } } }) w0;
    let p : Pkt := pk 2 [0x2000000000000000, 0];
    let n : Nat := 0;
    let a : Nat := 6;
    startsNow 0x69 n p s = true ∧ wordAt p.words 0 = 0x2000000000000000 ∧ wordAt p.words 1 = 0 ∧ s.fab.pair.partner = some a ∧ s.fab.pair.split = false ∧ s.fab.steer.req = false ∧ s.fab.steer.ack = false ∧ s.fab.steer.needTake = false ∧ s.glb.mode ≠ .lockout) ∧
  (let s : State := { w0 with fab := { w0.fab with master := true } };
    let p : Pkt := pk 2 [0x1000000000000000, 1000];
    let n : Nat := 0;
    startsNow 0x69 n p s = true ∧ wordAt p.words 0 = 0x1000000000000000 ∧ now s ≤ (wordAt p.words 1).toNat ∧ s.fab.master = true) ∧
  (let s : State := wkey 8201 .wrapOnly .pair w0;
    let p : Pkt := pk 2 [0x3006000000002009, 0];
    let n : Nat := 0;
    let k : Nat := 8201;
    startsNow 0x69 n p s = true ∧ onlyBits 0xF03F00000000FFFF (wordAt p.words 0) = true ∧ wordAt p.words 1 = 0 ∧ fld (wordAt p.words 0) 60 4 = 3 ∧ s.fab.pair.split = false ∧ cmdSlot s (fld (wordAt p.words 0) 0 16) = some k ∧ (vslot s k).st ≠ .retiring ∧ isHost k = true ∧ (vslot s k).role = .pair ∧ (vslot s k).attr = .wrapOnly) := 
  ⟨by decide +kernel,
   by decide +kernel,
   by decide +kernel,
   by decide +kernel,
   by decide +kernel,
   by decide +kernel,
   by decide +kernel,
   by decide +kernel⟩

/-- States and operands that meet the hypotheses of `Obligations.LeaseAndFabricCommands`, clauses 8 to 15. -/
theorem test_meets_LeaseAndFabricCommands_c8_15 :
  (let s : State := (fun s : State => { s with jnl := { s.jnl with resolved := true } }) (wkey 8201 .wrapOnly .pair (wy (y0 txp0 0 .on) w0));
    let p : Pkt := pk 17 ([0x6000000002009] ++ linkSetWords [1]);
    let n : Nat := 0;
    let k : Nat := 8201;
    startsNow 0x6A n p s = true ∧ onlyBits 0x003F00000000FFFF (wordAt p.words 0) = true ∧ s.fab.addr ≠ some (fld (wordAt p.words 0) 48 6) ∧ cmdSlot s (fld (wordAt p.words 0) 0 16) = some k ∧ (vslot s k).st ≠ .retiring ∧ isHost k = true ∧ (vslot s k).role = .pair ∧ (vslot s k).attr = .wrapOnly ∧ (linkSet (p.words.drop 1)).all (fun l => (secyOf s l).isSome) = true ∧ jnlGate s true = none ∧ s.fab.pair.split = false) ∧
  (let s : State := (fun s : State => { s with jnl := { s.jnl with resolved := true } }) w0;
    let p : Pkt := pk 0 [];
    let n : Nat := 0;
    startsNow 0x6B n p s = true ∧ jnlGate s true = none ∧ pairOnRecord s = none ∧ s.fab.pair.partner = none) ∧
  (let s : State := (fun s : State => { s with jnl := { s.jnl with resolved := true, slots := [(3, { JSlot.reset with record := some { typ := 7, obj := 0, wcnt := 1, seq := 3, payload := pairPayload 6 1 } })] }, fab := { s.fab with pair := { s.fab.pair with partner := some 6, formed := true } } }) w0;
    let p : Pkt := pk 0 [];
    let n : Nat := 0;
    startsNow 0x6B n p s = true ∧ jnlGate s true = none ∧ (pairOnRecord s).isSome = true) ∧
  (let s : State := w0;
    let p : Pkt := pk 1 [0x113];
    let n : Nat := 0;
    startsNow 0x6C n p s = true ∧ onlyBits 0x7F7 (wordAt p.words 0) = true ∧ fld (wordAt p.words 0) 4 4 = 1 ∧ fld (wordAt p.words 0) 8 2 ≠ 3 ∧ portGated s (fld (wordAt p.words 0) 0 3) = false ∧ (portOf s (fld (wordAt p.words 0) 0 3)).st = .off ∧ (portOf s (fld (wordAt p.words 0) 0 3)).down = false) ∧
  (let s : State := w0;
    let p : Pkt := pk 1 [3];
    let n : Nat := 0;
    startsNow 0x6C n p s = true ∧ onlyBits 0x7F7 (wordAt p.words 0) = true ∧ fld (wordAt p.words 0) 4 4 = 0 ∧ fld (wordAt p.words 0) 8 3 = 0 ∧ (portOf s (fld (wordAt p.words 0) 0 3)).st = .off) ∧
  (let s : State := wfab w0;
    let p : Pkt := pk 1 [0x23];
    let n : Nat := 0;
    startsNow 0x6C n p s = true ∧ onlyBits 0x7F7 (wordAt p.words 0) = true ∧ fld (wordAt p.words 0) 4 4 = 2 ∧ fld (wordAt p.words 0) 8 3 = 0 ∧ (portOf s (fld (wordAt p.words 0) 0 3)).st = .active) ∧
  (let s : State := { w0 with fab := { w0.fab with ports := [(3, { Port.reset with en := true, st := .idle })] } };
    let p : Pkt := pk 1 [0x33];
    let n : Nat := 0;
    startsNow 0x6C n p s = true ∧ onlyBits 0x7F7 (wordAt p.words 0) = true ∧ fld (wordAt p.words 0) 4 4 = 3 ∧ fld (wordAt p.words 0) 8 3 = 0 ∧ (portOf s (fld (wordAt p.words 0) 0 3)).st = .idle ∧ (portOf s (fld (wordAt p.words 0) 0 3)).exiting = false) ∧
  (let s : State := { w0 with fab := { w0.fab with ports := [(3, { Port.reset with en := true, st := .detect, test := true })] } };
    let p : Pkt := pk 1 [0x53];
    let n : Nat := 0;
    startsNow 0x6C n p s = true ∧ onlyBits 0x7F7 (wordAt p.words 0) = true ∧ fld (wordAt p.words 0) 4 4 = 5 ∧ fld (wordAt p.words 0) 8 3 = 0 ∧ (portOf s (fld (wordAt p.words 0) 0 3)).test = true) := 
  ⟨by decide +kernel,
   by decide +kernel,
   by decide +kernel,
   by decide +kernel,
   by decide +kernel,
   by decide +kernel,
   by decide +kernel,
   by decide +kernel⟩

/-- States and operands that meet the hypotheses of `Obligations.LeaseAndFabricCommands`, clause 16. -/
theorem test_meets_LeaseAndFabricCommands_c16 :
  (let s : State := { w0 with fab := { w0.fab with ports := [(3, { Port.reset with en := true, st := .detect })] } };
    let p : Pkt := pk 1 [0x43];
    let n : Nat := 0;
    startsNow 0x6C n p s = true ∧ onlyBits 0x7F7 (wordAt p.words 0) = true ∧ fld (wordAt p.words 0) 4 4 = 4 ∧ fld (wordAt p.words 0) 8 3 = 0 ∧ (portOf s (fld (wordAt p.words 0) 0 3)).st = .detect ∧ (portOf s (fld (wordAt p.words 0) 0 3)).down = false) := by decide +kernel

/-- States and operands that meet the hypotheses of `Obligations.StoreCheckAndTestCommands`, clauses 0 to 7. -/
theorem test_meets_StoreCheckAndTestCommands_c0_7 :
  (let s : State := { w0 with jnl := { w0.jnl with resolved := true, imgWr := some ⟨4, [1], 0⟩ } };
    let p : Pkt := pk 0 [];
    let n : Nat := 0;
    let im : Image := ⟨4, [1], 0⟩;
    startsNow 0x70 n p s = true ∧ jnlGate s true = none ∧ s.jnl.imgWr = some im) ∧
  (let s : State := (fun s : State => { s with jnl := { s.jnl with resolved := true } }) w0;
    let p : Pkt := pk 0 [];
    let n : Nat := 0;
    startsNow 0x70 n p s = true ∧ jnlGate s true = none ∧ s.jnl.imgWr = none ∧ s.jnl.image = none ∧ cellsLive s + (buildImage s).length ≤ jnlCap s) ∧
  (let s : State := (fun s : State => { s with jnl := { s.jnl with resolved := true } }) w0;
    let p : Pkt := pk 0 [];
    let n : Nat := 0;
    startsNow 0x72 n p s = true ∧ jnlGate s true = none) ∧
  (let s : State := wkey mixNextSlot .encOnly .system w0;
    let p : Pkt := pk 0 [];
    let n : Nat := 0;
    startsNow 0x78 n p s = true ∧ s.cxm.sweepOn = false ∧ unwInSvc s ≠ 0 ∧ (vslot s mixNextSlot).st = .loaded) ∧
  (let s : State := { w0 with cxm := { w0.cxm with sweepOn := true } };
    let p : Pkt := pk 0 [];
    let n : Nat := 0;
    startsNow 0x78 n p s = true ∧ s.cxm.sweepOn = true) ∧
  (let s : State := w0;
    let p : Pkt := pk 1 [0x8000000000000000];
    let n : Nat := 0;
    startsNow 0x79 n p s = true ∧ onlyBits 0x80000000000007FF (wordAt p.words 0) = true ∧ bitAt (wordAt p.words 0) 63 = true ∧ s.cxm.rebuild = false) ∧
  (let s : State := w0;
    let p : Pkt := pk 1 [7];
    let n : Nat := 0;
    startsNow 0x79 n p s = true ∧ onlyBits 0x7FF (wordAt p.words 0) = true ∧ fld (wordAt p.words 0) 0 11 < 1152 ∧ s.cxm.job = none ∧ fld (wordAt p.words 0) 0 11 ∉ s.cxm.queue) ∧
  (let s : State := w0;
    let p : Pkt := pk 6 [0x11, 64, 128, 0, 0, 0];
    let n : Nat := 0;
    startsNow 0x80 n p s = true ∧ onlyBits 0x8773 (wordAt p.words 0) = true ∧ onlyBits 0xFFFFFFFF (wordAt p.words 3) = true ∧ onlyBits 0xFF (wordAt p.words 5) = true ∧ bitAt (wordAt p.words 0) 15 = false ∧ chkProgOk (chkProg (newCmd 0x80 p s)) = true ∧ pdIsOn s 54 = true ∧ s.glb.gating.getLsbD 2 = false ∧ (chkOf s (fld (wordAt p.words 0) 0 2)).st = .idle) := 
  ⟨by decide +kernel,
   by decide +kernel,
   by decide +kernel,
   by decide +kernel,
   by decide +kernel,
   by decide +kernel,
   by decide +kernel,
   by decide +kernel⟩

/-- States and operands that meet the hypotheses of `Obligations.StoreCheckAndTestCommands`, clauses 8 to 12. -/
theorem test_meets_StoreCheckAndTestCommands_c8_12 :
  (let s : State := { w0 with chk := [(1, { Chk.reset with st := .running })] };
    let p : Pkt := pk 6 [0x8001, 0, 0, 0, 0, 0];
    let n : Nat := 0;
    startsNow 0x80 n p s = true ∧ onlyBits 0x8003 (wordAt p.words 0) = true ∧ bitAt (wordAt p.words 0) 15 = true ∧ (p.words.drop 1).all (· == 0) = true ∧ pdIsOn s 54 = true ∧ s.glb.gating.getLsbD 2 = false ∧ (chkOf s (fld (wordAt p.words 0) 0 2)).st = .running) ∧
  (let s : State := w0;
    let p : Pkt := pk 1 [0];
    let n : Nat := 0;
    startsNow 0x88 n p s = true ∧ wordAt p.words 0 = 0 ∧ s.tel.frozen = false ∧ telOn s = true ∧ s.glb.gating.getLsbD 3 = false) ∧
  (let s : State := w0;
    let p : Pkt := pk 1 [1];
    let n : Nat := 0;
    startsNow 0x88 n p s = true ∧ wordAt p.words 0 = 1) ∧
  (let s : State := w0;
    let p : Pkt := pk 1 [3];
    let n : Nat := 0;
    startsNow 0xF0 n p s = true ∧ onlyBits 0x3F (wordAt p.words 0) = true ∧ fld (wordAt p.words 0) 0 5 < 18 ∧ (laneOf s (laneNo (if bitAt (wordAt p.words 0) 5 then .ing else .egr) (fld (wordAt p.words 0) 0 5))).st ≠ .retired) ∧
  (let s : State := w0;
    let p : Pkt := pk 0 [];
    let n : Nat := 0;
    startsNow 0xF1 n p s = true) := 
  ⟨by decide +kernel,
   by decide +kernel,
   by decide +kernel,
   by decide +kernel,
   by decide +kernel⟩

/-- States and operands that meet the hypotheses of `Obligations.EgressClassification`, clauses 0 to 7. -/
theorem test_meets_EgressClassification_c0_7 :
  (let s : State := wmode .doze w0 |> wmode .protect;
    let l : Nat := 1;
    let bs : List Byte := b64.take 63;
    mayStart s .egr l = true ∧ 0 < bs.length ∧ bs.length < 64) ∧
  (let s : State := wmode .lockout w0;
    let l : Nat := 1;
    let bs : List Byte := b64;
    mayStart s .egr l = true ∧ bs.length = 64 ∧ s.glb.mode = .lockout) ∧
  (let s : State := { w0 with egr := { w0.egr with rules := [(0x0030010203040506, 0xE000000000000000)] } };
    let l : Nat := 1;
    let bs : List Byte := b64;
    mayStart s .egr l = true ∧ bs.length = 64 ∧ s.glb.mode ≠ .lockout ∧ ruleOf s .egr l bs = some true) ∧
  (let s : State := { w0 with egr := { w0.egr with rules := [(0x0030010203040506, 0xA000000000000000)] } };
    let l : Nat := 1;
    let bs : List Byte := b64;
    mayStart s .egr l = true ∧ bs.length = 64 ∧ s.glb.mode ≠ .lockout ∧ ruleOf s .egr l bs = some false) ∧
  (let s : State := wmode .cold w0;
    let l : Nat := 1;
    let bs : List Byte := b64;
    mayStart s .egr l = true ∧ bs.length = 64 ∧ s.glb.mode = .cold ∧ ruleOf s .egr l bs = none) ∧
  (let s : State := w0;
    let l : Nat := 1;
    let bs : List Byte := b64;
    mayStart s .egr l = true ∧ bs.length = 64 ∧ s.glb.mode ≠ .lockout ∧ ruleOf s .egr l bs = none ∧ s.glb.mode ≠ .cold ∧ secyOf s l = none) ∧
  (let s : State := wy (y0 txp0 0 .off) w0;
    let l : Nat := 1;
    let bs : List Byte := b64;
    let y : Secy := y0 txp0 0 .off;
    mayStart s .egr l = true ∧ bs.length = 64 ∧ s.glb.mode ≠ .lockout ∧ ruleOf s .egr l bs = none ∧ s.glb.mode ≠ .cold ∧ secyOf s l = some y ∧ y.st ≠ .on) ∧
  (let s : State := wmode .provision (wy (y0 txp0 0 .on) w0);
    let l : Nat := 1;
    let bs : List Byte := b64;
    let y : Secy := y0 txp0 0 .on;
    mayStart s .egr l = true ∧ bs.length = 64 ∧ s.glb.mode ≠ .lockout ∧ ruleOf s .egr l bs = none ∧ s.glb.mode ≠ .cold ∧ secyOf s l = some y ∧ y.st = .on ∧ s.glb.mode = .provision ∧ txpEarly y.txp = false) := 
  ⟨by decide +kernel,
   by decide +kernel,
   by decide +kernel,
   by decide +kernel,
   by decide +kernel,
   by decide +kernel,
   by decide +kernel,
   by decide +kernel⟩

/-- States and operands that meet the hypotheses of `Obligations.EgressClassification`, clauses 8 to 13. -/
theorem test_meets_EgressClassification_c8_13 :
  (let s : State := { wy (y0 txp0 0 .on) w0 with glb := { w0.glb with prt := 0 } };
    let l : Nat := 1;
    let bs : List Byte := b64;
    let y : Secy := y0 txp0 0 .on;
    mayStart s .egr l = true ∧ bs.length = 64 ∧ s.glb.mode ≠ .lockout ∧ ruleOf s .egr l bs = none ∧ s.glb.mode ≠ .cold ∧ secyOf s l = some y ∧ y.st = .on ∧ (s.glb.mode = .provision → txpEarly y.txp = true) ∧ bitAt s.glb.prt (txpPport y.txp) = false) ∧
  (let s : State := wy (y0 (txp0 ||| 0x80000000000) 0 .on) w0;
    let l : Nat := 1;
    let bs : List Byte := b64.take 12 ++ [0x88, 0x8E] ++ b64.drop 14;
    let y : Secy := y0 (txp0 ||| 0x80000000000) 0 .on;
    mayStart s .egr l = true ∧ bs.length = 64 ∧ s.glb.mode ≠ .lockout ∧ ruleOf s .egr l bs = none ∧ s.glb.mode ≠ .cold ∧ secyOf s l = some y ∧ y.st = .on ∧ (s.glb.mode = .provision → txpEarly y.txp = true) ∧ bitAt s.glb.prt (txpPport y.txp) = true ∧ txpMka y.txp = true ∧ etypeAt s bs 2 = 0x888E) ∧
  (let s : State := wy (y0 txp0 0 .on) w0;
    let l : Nat := 1;
    let fd : BitVec 16 := 1;
    let bs : List Byte := b64;
    let y : Secy := y0 txp0 0 .on;
    mayStart s .egr l = true ∧ bs.length = 64 ∧ s.glb.mode ≠ .lockout ∧ ruleOf s .egr l bs = none ∧ s.glb.mode ≠ .cold ∧ secyOf s l = some y ∧ y.st = .on ∧ (s.glb.mode = .provision → txpEarly y.txp = true) ∧ bitAt s.glb.prt (txpPport y.txp) = true ∧ (txpMka y.txp = true → etypeAt s bs 2 ≠ 0x888E) ∧ fd.getLsbD 0 = true) ∧
  (let s : State := wy (y0 (txp0 &&& 0xDFFFFFFFFFFFFFFF) 0 .on) w0;
    let l : Nat := 1;
    let fd : BitVec 16 := 0;
    let bs : List Byte := b64;
    let y : Secy := y0 (txp0 &&& 0xDFFFFFFFFFFFFFFF) 0 .on;
    mayStart s .egr l = true ∧ bs.length = 64 ∧ s.glb.mode ≠ .lockout ∧ ruleOf s .egr l bs = none ∧ s.glb.mode ≠ .cold ∧ secyOf s l = some y ∧ y.st = .on ∧ (s.glb.mode = .provision → txpEarly y.txp = true) ∧ bitAt s.glb.prt (txpPport y.txp) = true ∧ (txpMka y.txp = true → etypeAt s bs 2 ≠ 0x888E) ∧ fd.getLsbD 0 = false ∧ txpProtect y.txp = false) ∧
  (let s : State := let y := y0 0x3002000000000000 0 .on; { wy y w0 with egr := { w0.egr with shed := 1 } };
    let l : Nat := 1;
    let fd : BitVec 16 := 0;
    let bs : List Byte := b64;
    let y : Secy := y0 0x3002000000000000 0 .on;
    mayStart s .egr l = true ∧ bs.length = 64 ∧ s.glb.mode ≠ .lockout ∧ ruleOf s .egr l bs = none ∧ s.glb.mode ≠ .cold ∧ secyOf s l = some y ∧ y.st = .on ∧ (s.glb.mode = .provision → txpEarly y.txp = true) ∧ bitAt s.glb.prt (txpPport y.txp) = true ∧ (txpMka y.txp = true → etypeAt s bs 2 ≠ 0x888E) ∧ fd.getLsbD 0 = false ∧ txpProtect y.txp = true ∧ txpPrio y.txp < s.egr.shed) ∧
  (let s : State := wegr (List.replicate 2048 (f0 1 4095 .bypass)) w0;
    let l : Nat := 1;
    let bs : List Byte := b64;
    mayEnter s .egr l = true ∧ bs.length = 64 ∧ 2048 ≤ s.egr.frames.countP (fun x => x.link == l)) := 
  ⟨by decide +kernel,
   by decide +kernel,
   by decide +kernel,
   by decide +kernel,
   by decide +kernel,
   by decide +kernel⟩

/-- States and operands that meet the hypotheses of `Obligations.EgressPacketNumbers`, clauses 0 to 7. -/
theorem test_meets_EgressPacketNumbers_c0_7 :
  (let s : State := wy (y0 txp0 0 .on) (wlines [4, 4097] (wkey 9 .encOnly .traffic w0));
    let l : Nat := 1;
    let fd : BitVec 16 := 0;
    let bs : List Byte := b64;
    let flt : FrameFaults := noFaults;
    let y : Secy := y0 txp0 0 .on;
    mayStart s .egr l = true ∧ bs.length = 64 ∧ s.glb.mode ≠ .lockout ∧ ruleOf s .egr l bs = none ∧ s.glb.mode ≠ .cold ∧ secyOf s l = some y ∧ y.st = .on ∧ (s.glb.mode = .provision → txpEarly y.txp = true) ∧ bitAt s.glb.prt (txpPport y.txp) = true ∧ (txpMka y.txp = true → etypeAt s bs 2 ≠ 0x888E) ∧ fd.getLsbD 0 = false ∧ txpProtect y.txp = true ∧ s.egr.shed ≤ txpPrio y.txp ∧ y.cut = .none ∧ isResident s (secyLine l) = true ∧ flt.secyEcc = 0 ∧ txOf s (4 * l + y.curAn) = none) ∧
  (let s : State := wtx { a0 9 with retiring := true } (wy (y0 txp0 0 .on) (wlines [4, 4097] (wkey 9 .encOnly .traffic w0)));
    let l : Nat := 1;
    let fd : BitVec 16 := 0;
    let bs : List Byte := b64;
    let flt : FrameFaults := noFaults;
    let y : Secy := y0 txp0 0 .on;
    let a : Sa := { a0 9 with retiring := true };
    mayStart s .egr l = true ∧ bs.length = 64 ∧ s.glb.mode ≠ .lockout ∧ ruleOf s .egr l bs = none ∧ s.glb.mode ≠ .cold ∧ secyOf s l = some y ∧ y.st = .on ∧ (s.glb.mode = .provision → txpEarly y.txp = true) ∧ bitAt s.glb.prt (txpPport y.txp) = true ∧ (txpMka y.txp = true → etypeAt s bs 2 ≠ 0x888E) ∧ fd.getLsbD 0 = false ∧ txpProtect y.txp = true ∧ s.egr.shed ≤ txpPrio y.txp ∧ y.cut = .none ∧ isResident s (secyLine l) = true ∧ flt.secyEcc = 0 ∧ txOf s (4 * l + y.curAn) = some a ∧ a.retiring = true) ∧
  (let s : State := wtx { a0 9 with exhausted := true } (wy (y0 txp0 0 .on) (wlines [4, 4097] (wkey 9 .encOnly .traffic w0)));
    let l : Nat := 1;
    let fd : BitVec 16 := 0;
    let bs : List Byte := b64;
    let flt : FrameFaults := noFaults;
    let y : Secy := y0 txp0 0 .on;
    let a : Sa := { a0 9 with exhausted := true };
    mayStart s .egr l = true ∧ bs.length = 64 ∧ s.glb.mode ≠ .lockout ∧ ruleOf s .egr l bs = none ∧ s.glb.mode ≠ .cold ∧ secyOf s l = some y ∧ y.st = .on ∧ (s.glb.mode = .provision → txpEarly y.txp = true) ∧ bitAt s.glb.prt (txpPport y.txp) = true ∧ (txpMka y.txp = true → etypeAt s bs 2 ≠ 0x888E) ∧ fd.getLsbD 0 = false ∧ txpProtect y.txp = true ∧ s.egr.shed ≤ txpPrio y.txp ∧ y.cut = .none ∧ isResident s (secyLine l) = true ∧ flt.secyEcc = 0 ∧ txOf s (4 * l + y.curAn) = some a ∧ a.retiring = false ∧ y.curAn < 4 ∧ flt.cisEcc = 0 ∧ isResident s (txLine (4 * l + y.curAn)) = true ∧ a.exhausted = true) ∧
  (let s : State := wtx { a0 9 with lease := .wait } (wy (y0 txp0 0 .on) (wlines [4, 4097] (wkey 9 .encOnly .traffic w0)));
    let l : Nat := 1;
    let fd : BitVec 16 := 0;
    let bs : List Byte := b64;
    let flt : FrameFaults := noFaults;
    let y : Secy := y0 txp0 0 .on;
    let a : Sa := { a0 9 with lease := .wait };
    mayStart s .egr l = true ∧ bs.length = 64 ∧ s.glb.mode ≠ .lockout ∧ ruleOf s .egr l bs = none ∧ s.glb.mode ≠ .cold ∧ secyOf s l = some y ∧ y.st = .on ∧ (s.glb.mode = .provision → txpEarly y.txp = true) ∧ bitAt s.glb.prt (txpPport y.txp) = true ∧ (txpMka y.txp = true → etypeAt s bs 2 ≠ 0x888E) ∧ fd.getLsbD 0 = false ∧ txpProtect y.txp = true ∧ s.egr.shed ≤ txpPrio y.txp ∧ y.cut = .none ∧ isResident s (secyLine l) = true ∧ flt.secyEcc = 0 ∧ txOf s (4 * l + y.curAn) = some a ∧ a.retiring = false ∧ y.curAn < 4 ∧ flt.cisEcc = 0 ∧ isResident s (txLine (4 * l + y.curAn)) = true ∧ a.exhausted = false ∧ leaseValid a = false) ∧
  (let s : State := wtx (a0 9) (wy (y0 txp0 0 .on) (wlines [4, 4097] (wkey 9 .encOnly .traffic w0)));
    let l : Nat := 1;
    let fd : BitVec 16 := 0;
    let bs : List Byte := b64;
    let flt : FrameFaults := noFaults;
    let y : Secy := y0 txp0 0 .on;
    let a : Sa := a0 9;
    let k : Nat := 9;
    mayStart s .egr l = true ∧ bs.length = 64 ∧ s.glb.mode ≠ .lockout ∧ ruleOf s .egr l bs = none ∧ s.glb.mode ≠ .cold ∧ secyOf s l = some y ∧ y.st = .on ∧ (s.glb.mode = .provision → txpEarly y.txp = true) ∧ bitAt s.glb.prt (txpPport y.txp) = true ∧ (txpMka y.txp = true → etypeAt s bs 2 ≠ 0x888E) ∧ fd.getLsbD 0 = false ∧ txpProtect y.txp = true ∧ s.egr.shed ≤ txpPrio y.txp ∧ y.cut = .none ∧ isResident s (secyLine l) = true ∧ flt.secyEcc = 0 ∧ txOf s (4 * l + y.curAn) = some a ∧ a.retiring = false ∧ y.curAn < 4 ∧ flt = noFaults ∧ isResident s (txLine (4 * l + y.curAn)) = true ∧ a.exhausted = false ∧ leaseValid a = true ∧ a.pn + 1 < pnThreshold s a.suite ∧ a.pn + 1 < a.cur.stop ∧ (a.lease = .one → a.pn + 1 < prefetchPoint a.cur) ∧ kidSlot s a.kid = some k ∧ (vslot s k).st = .loaded ∧ (vslot s k).attr = .encOnly) ∧
  (let s : State := wtx { a0 9 with pn := 3221225471, cur := { start := 1, stop := 4000000000 } } (wy (y0 txp0 0 .on) (wlines [4, 4097] (wkey 9 .encOnly .traffic w0)));
    let l : Nat := 1;
    let fd : BitVec 16 := 0;
    let bs : List Byte := b64;
    let flt : FrameFaults := noFaults;
    let y : Secy := y0 txp0 0 .on;
    let a : Sa := { a0 9 with pn := 3221225471, cur := { start := 1, stop := 4000000000 } };
    mayStart s .egr l = true ∧ bs.length = 64 ∧ s.glb.mode ≠ .lockout ∧ ruleOf s .egr l bs = none ∧ s.glb.mode ≠ .cold ∧ secyOf s l = some y ∧ y.st = .on ∧ (s.glb.mode = .provision → txpEarly y.txp = true) ∧ bitAt s.glb.prt (txpPport y.txp) = true ∧ (txpMka y.txp = true → etypeAt s bs 2 ≠ 0x888E) ∧ fd.getLsbD 0 = false ∧ txpProtect y.txp = true ∧ s.egr.shed ≤ txpPrio y.txp ∧ y.cut = .none ∧ isResident s (secyLine l) = true ∧ flt.secyEcc = 0 ∧ txOf s (4 * l + y.curAn) = some a ∧ a.retiring = false ∧ y.curAn < 4 ∧ flt = noFaults ∧ isResident s (txLine (4 * l + y.curAn)) = true ∧ a.exhausted = false ∧ leaseValid a = true ∧ a.thr = false ∧ pnThreshold s a.suite ≤ a.pn + 1 ∧ a.pn + 1 < a.cur.stop ∧ (caOf s l).enabled = false) ∧
  (let s : State := wtx { a0 9 with pn := 99 } (wy (y0 txp0 0 .on) (wlines [4, 4097] (wkey 9 .encOnly .traffic w0)));
    let l : Nat := 1;
    let fd : BitVec 16 := 0;
    let bs : List Byte := b64;
    let flt : FrameFaults := noFaults;
    let y : Secy := y0 txp0 0 .on;
    let a : Sa := { a0 9 with pn := 99 };
    let k : Nat := 9;
    mayStart s .egr l = true ∧ bs.length = 64 ∧ s.glb.mode ≠ .lockout ∧ ruleOf s .egr l bs = none ∧ s.glb.mode ≠ .cold ∧ secyOf s l = some y ∧ y.st = .on ∧ (s.glb.mode = .provision → txpEarly y.txp = true) ∧ bitAt s.glb.prt (txpPport y.txp) = true ∧ (txpMka y.txp = true → etypeAt s bs 2 ≠ 0x888E) ∧ fd.getLsbD 0 = false ∧ txpProtect y.txp = true ∧ s.egr.shed ≤ txpPrio y.txp ∧ y.cut = .none ∧ isResident s (secyLine l) = true ∧ flt.secyEcc = 0 ∧ txOf s (4 * l + y.curAn) = some a ∧ a.retiring = false ∧ y.curAn < 4 ∧ flt = noFaults ∧ isResident s (txLine (4 * l + y.curAn)) = true ∧ a.exhausted = false ∧ leaseValid a = true ∧ a.nxt.start < pnThreshold s a.suite ∧ kidSlot s a.kid = some k ∧ (vslot s k).st = .loaded ∧ (vslot s k).attr = .encOnly ∧ a.lease = .two ∧ a.cur.stop ≤ a.pn + 1) ∧
  (let s : State := wtx { a0 9 with lease := .one, pn := 60 } (wy (y0 txp0 0 .on) (wlines [4, 4097] (wkey 9 .encOnly .traffic w0)));
    let l : Nat := 1;
    let fd : BitVec 16 := 0;
    let bs : List Byte := b64;
    let flt : FrameFaults := noFaults;
    let y : Secy := y0 txp0 0 .on;
    let a : Sa := { a0 9 with lease := .one, pn := 60 };
    let k : Nat := 9;
    mayStart s .egr l = true ∧ bs.length = 64 ∧ s.glb.mode ≠ .lockout ∧ ruleOf s .egr l bs = none ∧ s.glb.mode ≠ .cold ∧ secyOf s l = some y ∧ y.st = .on ∧ (s.glb.mode = .provision → txpEarly y.txp = true) ∧ bitAt s.glb.prt (txpPport y.txp) = true ∧ (txpMka y.txp = true → etypeAt s bs 2 ≠ 0x888E) ∧ fd.getLsbD 0 = false ∧ txpProtect y.txp = true ∧ s.egr.shed ≤ txpPrio y.txp ∧ y.cut = .none ∧ isResident s (secyLine l) = true ∧ flt.secyEcc = 0 ∧ txOf s (4 * l + y.curAn) = some a ∧ a.retiring = false ∧ y.curAn < 4 ∧ flt = noFaults ∧ isResident s (txLine (4 * l + y.curAn)) = true ∧ a.exhausted = false ∧ leaseValid a = true ∧ a.pn + 1 < pnThreshold s a.suite ∧ kidSlot s a.kid = some k ∧ (vslot s k).st = .loaded ∧ (vslot s k).attr = .encOnly ∧ a.lease = .one ∧ prefetchPoint a.cur ≤ a.pn + 1 ∧ a.pn + 1 < a.cur.stop) := 
  ⟨by decide +kernel,
   by decide +kernel,
   by decide +kernel,
   by decide +kernel,
   by decide +kernel,
   by decide +kernel,
   by decide +kernel,
   by decide +kernel⟩

/-- States and operands that meet the hypotheses of `Obligations.EgressPacketNumbers`, clause 8. -/
theorem test_meets_EgressPacketNumbers_c8 :
  (let s : State := wtx (a0 9) (wlines [4097] (wy (y0 txp0 0 .on) (wlines [4, 4097] (wkey 9 .encOnly .traffic w0))));
    let l : Nat := 1;
    let fd : BitVec 16 := 0;
    let bs : List Byte := b64;
    let flt : FrameFaults := noFaults;
    let y : Secy := y0 txp0 0 .on;
    let a : Sa := a0 9;
    mayStart s .egr l = true ∧ bs.length = 64 ∧ s.glb.mode ≠ .lockout ∧ ruleOf s .egr l bs = none ∧ s.glb.mode ≠ .cold ∧ secyOf s l = some y ∧ y.st = .on ∧ (s.glb.mode = .provision → txpEarly y.txp = true) ∧ bitAt s.glb.prt (txpPport y.txp) = true ∧ (txpMka y.txp = true → etypeAt s bs 2 ≠ 0x888E) ∧ fd.getLsbD 0 = false ∧ txpProtect y.txp = true ∧ s.egr.shed ≤ txpPrio y.txp ∧ y.cut = .none ∧ isResident s (secyLine l) = true ∧ flt.secyEcc = 0 ∧ txOf s (4 * l + y.curAn) = some a ∧ a.retiring = false ∧ y.curAn < 4 ∧ isResident s (txLine (4 * l + y.curAn)) = false ∧ s.cxm.oos = false ∧ isQuar s (txLine (4 * l + y.curAn)) = false) := by decide +kernel

/-- States and operands that meet the hypotheses of `Obligations.EgressRelease`, clauses 0 to 7. -/
theorem test_meets_EgressRelease_c0_7 :
  (let s : State := wegr [f0 2 0 (.wait (some 8)), f0 1 0 .discard] (w0);
    let f : Frame := f0 1 0 .discard;
    nextOut s .egr egrDue f = true ∧ f.fate = .discard) ∧
  (let s : State := wegr [f0 2 0 (.wait (some 8)), f0 1 0 .bypass] (w0);
    let f : Frame := f0 1 0 .bypass;
    nextOut s .egr egrDue f = true ∧ f.fate = .bypass ∧ f.ended = true ∧ f.inErr = false ∧ f.abandoned = false) ∧
  (let s : State := wegr [f0 2 0 (.wait (some 8)), f0 1 0 .unmodified] (wy (y0 txp0 0 .on) w0);
    let f : Frame := f0 1 0 .unmodified;
    nextOut s .egr egrDue f = true ∧ (f.fate = .uncontrolled ∨ f.fate = .unmodified) ∧ f.ended = true ∧ f.inErr = false ∧ f.abandoned = false) ∧
  (let s : State := wegr [f0 2 0 (.wait (some 8)), f0 1 0 .crypt] (wtx (a0 9) w0);
    let f : Frame := f0 1 0 .crypt;
    nextOut s .egr egrDue f = true ∧ 64 ≤ f.bytes.length ∧ f.fate = .crypt ∧ f.ended = true ∧ f.inErr = false ∧ f.abandoned = false) ∧
  (let s : State := wegr [f0 2 0 (.wait (some 8)), { f0 1 0 .bypass with inErr := true }] (w0);
    let f : Frame := { f0 1 0 .bypass with inErr := true };
    nextOut s .egr egrDue f = true ∧ f.fate ≠ .discard ∧ f.fate ≠ .crypt ∧ f.ended = true ∧ f.inErr = true) ∧
  (let s : State := wegr [f0 2 0 (.wait (some 8)), { f0 1 0 .crypt with abandoned := true }] (w0);
    let f : Frame := { f0 1 0 .crypt with abandoned := true };
    nextOut s .egr egrDue f = true ∧ f.fate = .crypt ∧ f.ended = true ∧ f.inErr = false ∧ f.abandoned = true) ∧
  (let s : State := wegr [f0 2 0 (.wait (some 8)), f0 1 0 .crypt] (w0);
    let f : Frame := f0 1 0 .crypt;
    nextOut s .egr egrDue f = true ∧ f.fate ≠ .discard ∧ f.ended = true) ∧
  (let s : State := wegr [f0 2 0 (.wait (some 8)), { f0 1 0 .crypt with ended := false, queued := false }] (w0);
    let f : Frame := { f0 1 0 .crypt with ended := false, queued := false };
    nextOut s .egr egrDue f = true ∧ f.fate ≠ .discard ∧ f.ended = false) := 
  ⟨by decide +kernel,
   by decide +kernel,
   by decide +kernel,
   by decide +kernel,
   by decide +kernel,
   by decide +kernel,
   by decide +kernel,
   by decide +kernel⟩

/-- States and operands that meet the hypotheses of `Obligations.EgressRelease`, clauses 8 to 14. -/
theorem test_meets_EgressRelease_c8_14 :
  (let s : State := wegr [f0 2 0 (.wait (some 8)), { f0 1 0 .crypt with ended := false }] (w0);
    let f : Frame := { f0 1 0 .crypt with ended := false };
    nextOut s .egr egrDue f = true ∧ f.fate ≠ .discard ∧ f.ended = false) ∧
  (let s : State := wegr [f0 1 0 .discard, { f0 1 1 (.wait none) with parked := some .bypass }] w0;
    let f : Frame := f0 1 0 .discard;
    let g : Frame := { f0 1 1 (.wait none) with parked := some .bypass };
    let v : Fate := .bypass;
    mayLeave s .egr egrDue f = true ∧ f.fate = .discard ∧ s.egr.frames.find? (awaits .egr f.link) = some g ∧ g.orderTag ≠ f.orderTag ∧ g.parked = some v ∧ v ≠ .crypt ∧ s.egr.frames.countP (fun x => x.link == f.link) ≤ 2048) ∧
  (let s : State := wegr [{ f0 1 0 .crypt with started := true, ended := false }] w0;
    let f : Frame := { f0 1 0 .crypt with started := true, ended := false };
    resetLow s = false ∧ s.egr.frames.find? (·.started) = some f ∧ (f.ended = false ∨ s.egr.txReady = false)) ∧
  (let s : State := wegr [{ f0 1 0 .crypt with started := true }] w0;
    let f : Frame := { f0 1 0 .crypt with started := true };
    resetLow s = false ∧ s.egr.txReady = true ∧ calm s .egr = true ∧ s.egr.frames.find? (·.started) = some f ∧ f.ended = true ∧ s.egr.frames.any (awaits .egr f.link) = false) ∧
  (let s : State := w0;
    resetLow s = false ∧ s.egr.frames.any (·.started) = false ∧ (s.egr.txReady = false ∨ injectDue s = true ∨ s.egr.frames.any egrDue = false)) ∧
  (let s : State := wegr [{ f0 1 0 .crypt with started := true }] w0;
    resetLow s = false ∧ (s.egr.frames.any (·.started) = true ∨ s.glb.mode = .lockout ∨ s.glb.mode = .doze ∨ s.egr.txReady = false)) ∧
  (let s : State := { w0 with que := [(5, { Que.reset with wr := 2, cmt := 2, items := [bodyItem 2 3 1 0 b64] })] };
    let it : Option QItem := some (bodyItem 2 3 1 0 b64);
    let v : Que := { Que.reset with rd := 2, wr := 2, cmt := 2 };
    resetLow s = false ∧ s.egr.frames.any (·.started) = false ∧ s.glb.mode ≠ .lockout ∧ s.glb.mode ≠ .doze ∧ s.egr.txReady = true ∧ queTake (queOf s 5) = (it, v)) := 
  ⟨by decide +kernel,
   by decide +kernel,
   by decide +kernel,
   by decide +kernel,
   by decide +kernel,
   by decide +kernel,
   by decide +kernel⟩

/-- States and operands that meet the hypotheses of `Obligations.IngressClassification`, clauses 0 to 7. -/
theorem test_meets_IngressClassification_c0_7 :
  (let s : State := w0;
    let l : Nat := 1;
    let bs : List Byte := b64.take 60;
    mayStart s .ing l = true ∧ 0 < bs.length ∧ bs.length < 64) ∧
  (let s : State := wmode .lockout w0;
    let l : Nat := 1;
    let bs : List Byte := b64;
    mayStart s .ing l = true ∧ bs.length = 64 ∧ s.glb.mode = .lockout) ∧
  (let s : State := { w0 with ing := { w0.ing with rules := [(0x0030010203040506, 0xE000000000000000)] } };
    let l : Nat := 1;
    let bs : List Byte := b64;
    mayStart s .ing l = true ∧ bs.length = 64 ∧ s.glb.mode ≠ .lockout ∧ ruleOf s .ing l bs = some true) ∧
  (let s : State := { w0 with ing := { w0.ing with rules := [(0x0030010203040506, 0xA000000000000000)] } };
    let l : Nat := 1;
    let bs : List Byte := b64;
    mayStart s .ing l = true ∧ bs.length = 64 ∧ s.glb.mode ≠ .lockout ∧ ruleOf s .ing l bs = some false) ∧
  (let s : State := wmode .cold w0;
    let l : Nat := 1;
    let bs : List Byte := b64;
    mayStart s .ing l = true ∧ bs.length = 64 ∧ s.glb.mode = .cold ∧ ruleOf s .ing l bs = none) ∧
  (let s : State := w0;
    let l : Nat := 1;
    let bs : List Byte := b64;
    mayStart s .ing l = true ∧ bs.length = 64 ∧ s.glb.mode ≠ .lockout ∧ ruleOf s .ing l bs = none ∧ s.glb.mode ≠ .cold ∧ secyOf s l = none) ∧
  (let s : State := wy (y0 txp0 0 .off) (w0);
    let l : Nat := 1;
    let bs : List Byte := btag 0x2C 16;
    let y : Secy := y0 txp0 0 .off;
    mayStart s .ing l = true ∧ bs.length = 64 ∧ s.glb.mode ≠ .lockout ∧ ruleOf s .ing l bs = none ∧ s.glb.mode ≠ .cold ∧ secyOf s l = some y ∧ y.st ≠ .on) ∧
  (let s : State := { wy (y0 txp0 0 .on) w0 with glb := { w0.glb with prt := 0 } };
    let l : Nat := 1;
    let fd : BitVec 16 := 0;
    let bs : List Byte := b64;
    let y : Secy := y0 txp0 0 .on;
    mayStart s .ing l = true ∧ bs.length = 64 ∧ s.glb.mode ≠ .lockout ∧ ruleOf s .ing l bs = none ∧ s.glb.mode ≠ .cold ∧ secyOf s l = some y ∧ y.st = .on ∧ bitAt s.glb.prt (fd.toNat % 64) = false) := 
  ⟨by decide +kernel,
   by decide +kernel,
   by decide +kernel,
   by decide +kernel,
   by decide +kernel,
   by decide +kernel,
   by decide +kernel,
   by decide +kernel⟩

/-- States and operands that meet the hypotheses of `Obligations.IngressClassification`, clauses 8 to 15. -/
theorem test_meets_IngressClassification_c8_15 :
  (let s : State := wy (y0 (txp0 ||| 0x80000000000) 0 .on) (w0);
    let l : Nat := 1;
    let fd : BitVec 16 := 2;
    let bs : List Byte := b64.take 12 ++ [0x88, 0x8E] ++ b64.drop 14;
    let y : Secy := y0 (txp0 ||| 0x80000000000) 0 .on;
    mayStart s .ing l = true ∧ bs.length = 64 ∧ s.glb.mode ≠ .lockout ∧ ruleOf s .ing l bs = none ∧ s.glb.mode ≠ .cold ∧ secyOf s l = some y ∧ y.st = .on ∧ bitAt s.glb.prt (fd.toNat % 64) = true ∧ tagOf s bs (txpClear y.txp) (isXpn (txpSuite y.txp)) = none ∧ txpMka y.txp = true ∧ etypeAt s bs (txpClear y.txp) = 0x888E ∧ queFits 4 (queOf s 4) 2 = true) ∧
  (let s : State := wmode .provision (wy (y0 txp0 0 .on) w0);
    let l : Nat := 1;
    let fd : BitVec 16 := 2;
    let bs : List Byte := b64;
    let y : Secy := y0 txp0 0 .on;
    mayStart s .ing l = true ∧ bs.length = 64 ∧ s.glb.mode ≠ .lockout ∧ ruleOf s .ing l bs = none ∧ s.glb.mode ≠ .cold ∧ secyOf s l = some y ∧ y.st = .on ∧ bitAt s.glb.prt (fd.toNat % 64) = true ∧ tagOf s bs (txpClear y.txp) (isXpn (txpSuite y.txp)) = none ∧ (txpMka y.txp = true → etypeAt s bs (txpClear y.txp) ≠ 0x888E) ∧ s.glb.mode = .provision ∧ txpEarly y.txp = false) ∧
  (let s : State := wy (y0 txp0 0 .on) (w0);
    let l : Nat := 1;
    let fd : BitVec 16 := 2;
    let bs : List Byte := b64;
    let y : Secy := y0 txp0 0 .on;
    mayStart s .ing l = true ∧ bs.length = 64 ∧ s.glb.mode ≠ .lockout ∧ ruleOf s .ing l bs = none ∧ s.glb.mode ≠ .cold ∧ secyOf s l = some y ∧ y.st = .on ∧ bitAt s.glb.prt (fd.toNat % 64) = true ∧ tagOf s bs (txpClear y.txp) (isXpn (txpSuite y.txp)) = none ∧ (txpMka y.txp = true → etypeAt s bs (txpClear y.txp) ≠ 0x888E) ∧ (s.glb.mode = .provision → txpEarly y.txp = true) ∧ rxpVal y.rxp ≠ 2) ∧
  (let s : State := wy (y0 txp0 0x8800000000000000 .on) (w0);
    let l : Nat := 1;
    let fd : BitVec 16 := 2;
    let bs : List Byte := b64;
    let y : Secy := y0 txp0 0x8800000000000000 .on;
    mayStart s .ing l = true ∧ bs.length = 64 ∧ s.glb.mode ≠ .lockout ∧ ruleOf s .ing l bs = none ∧ s.glb.mode ≠ .cold ∧ secyOf s l = some y ∧ y.st = .on ∧ bitAt s.glb.prt (fd.toNat % 64) = true ∧ tagOf s bs (txpClear y.txp) (isXpn (txpSuite y.txp)) = none ∧ (txpMka y.txp = true → etypeAt s bs (txpClear y.txp) ≠ 0x888E) ∧ (s.glb.mode = .provision → txpEarly y.txp = true) ∧ rxpVal y.rxp = 2) ∧
  (let s : State := wy (y0 txp0 0x8000000000000000 .on) (w0);
    let l : Nat := 1;
    let fd : BitVec 16 := 2;
    let bs : List Byte := btag 0xAC 16;
    let y : Secy := y0 txp0 0x8000000000000000 .on;
    let k : Tag := tag0 0xAC 16 false;
    mayStart s .ing l = true ∧ bs.length = 64 ∧ s.glb.mode ≠ .lockout ∧ ruleOf s .ing l bs = none ∧ s.glb.mode ≠ .cold ∧ secyOf s l = some y ∧ y.st = .on ∧ bitAt s.glb.prt (fd.toNat % 64) = true ∧ (s.glb.mode = .provision → txpEarly y.txp = true) ∧ tagOf s bs (txpClear y.txp) (isXpn (txpSuite y.txp)) = some k ∧ k.good = false) ∧
  (let s : State := wy (y0 txp0 0 .on) (w0);
    let l : Nat := 1;
    let fd : BitVec 16 := 2;
    let bs : List Byte := btag 0x2C 16;
    let y : Secy := y0 txp0 0 .on;
    let k : Tag := tag0 0x2C 16 true;
    mayStart s .ing l = true ∧ bs.length = 64 ∧ s.glb.mode ≠ .lockout ∧ ruleOf s .ing l bs = none ∧ s.glb.mode ≠ .cold ∧ secyOf s l = some y ∧ y.st = .on ∧ bitAt s.glb.prt (fd.toNat % 64) = true ∧ (s.glb.mode = .provision → txpEarly y.txp = true) ∧ tagOf s bs (txpClear y.txp) (isXpn (txpSuite y.txp)) = some k ∧ k.good = true ∧ rxpVal y.rxp = 0 ∧ k.bit 2 = true) ∧
  (let s : State := wy (y0 txp0 0 .on) (w0);
    let l : Nat := 1;
    let fd : BitVec 16 := 2;
    let bs : List Byte := btag 0x20 16;
    let y : Secy := y0 txp0 0 .on;
    let k : Tag := tag0 0x20 16 true;
    mayStart s .ing l = true ∧ bs.length = 64 ∧ s.glb.mode ≠ .lockout ∧ ruleOf s .ing l bs = none ∧ s.glb.mode ≠ .cold ∧ secyOf s l = some y ∧ y.st = .on ∧ bitAt s.glb.prt (fd.toNat % 64) = true ∧ (s.glb.mode = .provision → txpEarly y.txp = true) ∧ tagOf s bs (txpClear y.txp) (isXpn (txpSuite y.txp)) = some k ∧ k.good = true ∧ rxpVal y.rxp = 0 ∧ k.bit 2 = false) ∧
  (let s : State := { wy (y0 0x3002000000000000 0x8000000000000000 .on) w0 with ing := { w0.ing with shed := 1 } };
    let l : Nat := 1;
    let fd : BitVec 16 := 2;
    let bs : List Byte := btag 0x2C 16;
    let y : Secy := y0 0x3002000000000000 0x8000000000000000 .on;
    let k : Tag := tag0 0x2C 16 true;
    mayStart s .ing l = true ∧ bs.length = 64 ∧ s.glb.mode ≠ .lockout ∧ ruleOf s .ing l bs = none ∧ s.glb.mode ≠ .cold ∧ secyOf s l = some y ∧ y.st = .on ∧ bitAt s.glb.prt (fd.toNat % 64) = true ∧ (s.glb.mode = .provision → txpEarly y.txp = true) ∧ tagOf s bs (txpClear y.txp) (isXpn (txpSuite y.txp)) = some k ∧ k.good = true ∧ rxpVal y.rxp ≠ 0 ∧ txpPrio y.txp < s.ing.shed) := 
  ⟨by decide +kernel,
   by decide +kernel,
   by decide +kernel,
   by decide +kernel,
   by decide +kernel,
   by decide +kernel,
   by decide +kernel,
   by decide +kernel⟩

/-- States and operands that meet the hypotheses of `Obligations.IngressClassification`, clauses 16 to 23. -/
theorem test_meets_IngressClassification_c16_23 :
  (let s : State := wy (y0 txp0 0x4000000000000000 .on) (wlines [4097] w0);
    let l : Nat := 1;
    let fd : BitVec 16 := 2;
    let bs : List Byte := btag 0x20 16;
    let flt : FrameFaults := noFaults;
    let y : Secy := y0 txp0 0x4000000000000000 .on;
    let k : Tag := tag0 0x20 16 true;
    let sci : W64 := 0x0102030405060001;
    mayStart s .ing l = true ∧ bs.length = 64 ∧ s.glb.mode ≠ .lockout ∧ ruleOf s .ing l bs = none ∧ s.glb.mode ≠ .cold ∧ secyOf s l = some y ∧ y.st = .on ∧ bitAt s.glb.prt (fd.toNat % 64) = true ∧ (s.glb.mode = .provision → txpEarly y.txp = true) ∧ tagOf s bs (txpClear y.txp) (isXpn (txpSuite y.txp)) = some k ∧ k.good = true ∧ isResident s (secyLine l) = true ∧ flt.secyEcc = 0 ∧ rxpVal y.rxp ≠ 0 ∧ s.ing.shed ≤ txpPrio y.txp ∧ sciOf s l bs k = some sci ∧ findSc s l sci = none ∧ rxpVal y.rxp = 1 ∧ k.bit 2 = false) ∧
  (let s : State := wy (y0 txp0 0x4000000000000000 .on) (wlines [4097] w0);
    let l : Nat := 1;
    let fd : BitVec 16 := 2;
    let bs : List Byte := btag 0x2C 16;
    let flt : FrameFaults := noFaults;
    let y : Secy := y0 txp0 0x4000000000000000 .on;
    let k : Tag := tag0 0x2C 16 true;
    let sci : W64 := 0x0102030405060001;
    mayStart s .ing l = true ∧ bs.length = 64 ∧ s.glb.mode ≠ .lockout ∧ ruleOf s .ing l bs = none ∧ s.glb.mode ≠ .cold ∧ secyOf s l = some y ∧ y.st = .on ∧ bitAt s.glb.prt (fd.toNat % 64) = true ∧ (s.glb.mode = .provision → txpEarly y.txp = true) ∧ tagOf s bs (txpClear y.txp) (isXpn (txpSuite y.txp)) = some k ∧ k.good = true ∧ isResident s (secyLine l) = true ∧ flt.secyEcc = 0 ∧ rxpVal y.rxp ≠ 0 ∧ s.ing.shed ≤ txpPrio y.txp ∧ sciOf s l bs k = some sci ∧ findSc s l sci = none ∧ (rxpVal y.rxp = 2 ∨ k.bit 2 = true)) ∧
  (let s : State := wy (y0 txp0 0x4000000000000000 .on) (wsc (wlines [4097] w0));
    let l : Nat := 1;
    let fd : BitVec 16 := 2;
    let bs : List Byte := btag 0x20 16;
    let flt : FrameFaults := noFaults;
    let y : Secy := y0 txp0 0x4000000000000000 .on;
    let k : Tag := tag0 0x20 16 true;
    let sci : W64 := 0x0102030405060001;
    let c : Nat := 0;
    mayStart s .ing l = true ∧ bs.length = 64 ∧ s.glb.mode ≠ .lockout ∧ ruleOf s .ing l bs = none ∧ s.glb.mode ≠ .cold ∧ secyOf s l = some y ∧ y.st = .on ∧ bitAt s.glb.prt (fd.toNat % 64) = true ∧ (s.glb.mode = .provision → txpEarly y.txp = true) ∧ tagOf s bs (txpClear y.txp) (isXpn (txpSuite y.txp)) = some k ∧ k.good = true ∧ isResident s (secyLine l) = true ∧ flt.secyEcc = 0 ∧ rxpVal y.rxp ≠ 0 ∧ s.ing.shed ≤ txpPrio y.txp ∧ sciOf s l bs k = some sci ∧ findSc s l sci = some c ∧ (∀ a, rxOf s (4 * c + k.tci % 4) = some a → a.enabled = false) ∧ rxpVal y.rxp = 1 ∧ k.bit 2 = false) ∧
  (let s : State := wy (y0 txp0 0x8000000000000000 .on) (wsc (wlines [4097] w0));
    let l : Nat := 1;
    let fd : BitVec 16 := 2;
    let bs : List Byte := btag 0x2C 16;
    let flt : FrameFaults := noFaults;
    let y : Secy := y0 txp0 0x8000000000000000 .on;
    let k : Tag := tag0 0x2C 16 true;
    let sci : W64 := 0x0102030405060001;
    let c : Nat := 0;
    mayStart s .ing l = true ∧ bs.length = 64 ∧ s.glb.mode ≠ .lockout ∧ ruleOf s .ing l bs = none ∧ s.glb.mode ≠ .cold ∧ secyOf s l = some y ∧ y.st = .on ∧ bitAt s.glb.prt (fd.toNat % 64) = true ∧ (s.glb.mode = .provision → txpEarly y.txp = true) ∧ tagOf s bs (txpClear y.txp) (isXpn (txpSuite y.txp)) = some k ∧ k.good = true ∧ isResident s (secyLine l) = true ∧ flt.secyEcc = 0 ∧ rxpVal y.rxp ≠ 0 ∧ s.ing.shed ≤ txpPrio y.txp ∧ sciOf s l bs k = some sci ∧ findSc s l sci = some c ∧ (∀ a, rxOf s (4 * c + k.tci % 4) = some a → a.enabled = false) ∧ (rxpVal y.rxp = 2 ∨ k.bit 2 = true)) ∧
  (let s : State := wrx (a0 9) (wlines [4097] (wy (y0 txp0 0x8000000000000000 .on) w0));
    let l : Nat := 1;
    let fd : BitVec 16 := 2;
    let bs : List Byte := btag 0x2C 16;
    let flt : FrameFaults := noFaults;
    let y : Secy := y0 txp0 0x8000000000000000 .on;
    let k : Tag := tag0 0x2C 16 true;
    let sci : W64 := 0x0102030405060001;
    let c : Nat := 0;
    let r : Nat := 0;
    let a : Sa := a0 9;
    mayStart s .ing l = true ∧ bs.length = 64 ∧ s.glb.mode ≠ .lockout ∧ ruleOf s .ing l bs = none ∧ s.glb.mode ≠ .cold ∧ secyOf s l = some y ∧ y.st = .on ∧ bitAt s.glb.prt (fd.toNat % 64) = true ∧ (s.glb.mode = .provision → txpEarly y.txp = true) ∧ tagOf s bs (txpClear y.txp) (isXpn (txpSuite y.txp)) = some k ∧ k.good = true ∧ isResident s (secyLine l) = true ∧ flt.secyEcc = 0 ∧ rxpVal y.rxp ≠ 0 ∧ s.ing.shed ≤ txpPrio y.txp ∧ sciOf s l bs k = some sci ∧ findSc s l sci = some c ∧ r = 4 * c + k.tci % 4 ∧ rxOf s r = some a ∧ a.enabled = true ∧ isResident s (rxLine r) = false ∧ s.cxm.oos = false ∧ isQuar s (rxLine r) = false) ∧
  (let s : State := wrx { a0 9 with pn := 12 } (wlines [4097, 8192] (wy (y0 txp0 0xA000000000000000 .on) w0));
    let l : Nat := 1;
    let fd : BitVec 16 := 2;
    let bs : List Byte := btag 0x2C 16;
    let flt : FrameFaults := noFaults;
    let y : Secy := y0 txp0 0xA000000000000000 .on;
    let k : Tag := tag0 0x2C 16 true;
    let sci : W64 := 0x0102030405060001;
    let c : Nat := 0;
    let r : Nat := 0;
    let a : Sa := { a0 9 with pn := 12 };
    mayStart s .ing l = true ∧ bs.length = 64 ∧ s.glb.mode ≠ .lockout ∧ ruleOf s .ing l bs = none ∧ s.glb.mode ≠ .cold ∧ secyOf s l = some y ∧ y.st = .on ∧ bitAt s.glb.prt (fd.toNat % 64) = true ∧ (s.glb.mode = .provision → txpEarly y.txp = true) ∧ tagOf s bs (txpClear y.txp) (isXpn (txpSuite y.txp)) = some k ∧ k.good = true ∧ isResident s (secyLine l) = true ∧ flt.secyEcc = 0 ∧ rxpVal y.rxp ≠ 0 ∧ s.ing.shed ≤ txpPrio y.txp ∧ sciOf s l bs k = some sci ∧ findSc s l sci = some c ∧ r = 4 * c + k.tci % 4 ∧ rxOf s r = some a ∧ a.enabled = true ∧ isResident s (rxLine r) = true ∧ flt = noFaults ∧ rxpReplay y.rxp = true ∧ recoverPn a.suite (lowPn a (rxpWindow y.rxp)) k.pn < lowPn a (rxpWindow y.rxp)) ∧
  (let s : State := wrx (a0 9) (wlines [4097, 8192] (wkey 9 .decOnly .traffic (wy (y0 txp0 0x8000000000000000 .on) w0)));
    let l : Nat := 1;
    let fd : BitVec 16 := 2;
    let bs : List Byte := btag 0x2C 16;
    let flt : FrameFaults := noFaults;
    let y : Secy := y0 txp0 0x8000000000000000 .on;
    let k : Tag := tag0 0x2C 16 true;
    let sci : W64 := 0x0102030405060001;
    let c : Nat := 0;
    let r : Nat := 0;
    let a : Sa := a0 9;
    let j : Nat := 9;
    mayStart s .ing l = true ∧ bs.length = 64 ∧ s.glb.mode ≠ .lockout ∧ ruleOf s .ing l bs = none ∧ s.glb.mode ≠ .cold ∧ secyOf s l = some y ∧ y.st = .on ∧ bitAt s.glb.prt (fd.toNat % 64) = true ∧ (s.glb.mode = .provision → txpEarly y.txp = true) ∧ tagOf s bs (txpClear y.txp) (isXpn (txpSuite y.txp)) = some k ∧ k.good = true ∧ isResident s (secyLine l) = true ∧ flt.secyEcc = 0 ∧ rxpVal y.rxp ≠ 0 ∧ s.ing.shed ≤ txpPrio y.txp ∧ sciOf s l bs k = some sci ∧ findSc s l sci = some c ∧ r = 4 * c + k.tci % 4 ∧ rxOf s r = some a ∧ a.enabled = true ∧ isResident s (rxLine r) = true ∧ flt = noFaults ∧ (recoverPn a.suite (lowPn a (rxpWindow y.rxp)) k.pn < lowPn a (rxpWindow y.rxp) → rxpReplay y.rxp = false) ∧ kidSlot s a.kid = some j ∧ (vslot s j).st = .loaded ∧ (vslot s j).attr = .decOnly) ∧
  (let s : State := wing (List.replicate 2048 (g0 1 4095 .bypass b64)) w0;
    let l : Nat := 1;
    let bs : List Byte := btag 0x2C 16;
    mayEnter s .ing l = true ∧ bs.length = 64 ∧ 2048 ≤ s.ing.frames.countP (fun x => x.link == l)) := 
  ⟨by decide +kernel,
   by decide +kernel,
   by decide +kernel,
   by decide +kernel,
   by decide +kernel,
   by decide +kernel,
   by decide +kernel,
   by decide +kernel⟩

/-- States and operands that meet the hypotheses of `Obligations.IngressCommit`, clauses 0 to 7. -/
theorem test_meets_IngressCommit_c0_7 :
  (let s : State := wing [g0 2 0 (.wait (some 8)) b64, g0 1 0 .crypt (btag 0x2C 16)] (wsc (wrx (a0 9) (wy (y0 txp0 0x8000000000000000 .on) w0)));
    let l : Nat := 1;
    let f : Frame := g0 1 0 .crypt (btag 0x2C 16);
    let y : Secy := y0 txp0 0x8000000000000000 .on;
    let k : Tag := tag0 0x2C 16 true;
    let a : Sa := a0 9;
    let r : Nat := 0;
    resetLow s = false ∧ calm s .ing = true ∧ commitNext s l = some f ∧ f.link = l ∧ f.fate = .crypt ∧ f.ended = true ∧ secyOf s l = some y ∧ tagOf s f.bytes (txpClear f.txp) (isXpn (txpSuite f.txp)) = some k ∧ f.saIdx = r ∧ rxOf s r = some a ∧ f.started = false ∧ atLimit s .ing f = false) ∧
  (let s : State := wing [g0 2 0 (.wait (some 8)) b64, { g0 1 0 .crypt (btag 0x2C 16) with abandoned := true }] (wsc (wrx (a0 9) (wy (y0 txp0 0x8000000000000000 .on) w0)));
    let l : Nat := 1;
    let f : Frame := { g0 1 0 .crypt (btag 0x2C 16) with abandoned := true };
    let y : Secy := y0 txp0 0x8000000000000000 .on;
    let k : Tag := tag0 0x2C 16 true;
    let a : Sa := a0 9;
    let r : Nat := 0;
    resetLow s = false ∧ calm s .ing = true ∧ commitNext s l = some f ∧ f.link = l ∧ f.fate = .crypt ∧ f.ended = true ∧ secyOf s l = some y ∧ tagOf s f.bytes (txpClear f.txp) (isXpn (txpSuite f.txp)) = some k ∧ f.saIdx = r ∧ rxOf s r = some a ∧ f.started = false ∧ atLimit s .ing f = false ∧ f.abandoned = true ∧ rxpVal y.rxp = 2) ∧
  (let s : State := wing [g0 2 0 (.wait (some 8)) b64, { g0 1 0 .crypt ((btag 0x2C 16).take 44 ++ [139, 132, 232, 250, 215, 227, 235, 45, 140, 70, 177, 221, 96, 142, 219, 114, 0, 0, 0, 0]) with key := List.replicate 16 7, started := true }] (wsc (wrx (a0 9) (wy (y0 txp0 0x8000000000000000 .on) w0)));
    let l : Nat := 1;
    let f : Frame := { g0 1 0 .crypt ((btag 0x2C 16).take 44 ++ [139, 132, 232, 250, 215, 227, 235, 45, 140, 70, 177, 221, 96, 142, 219, 114, 0, 0, 0, 0]) with key := List.replicate 16 7, started := true };
    let y : Secy := y0 txp0 0x8000000000000000 .on;
    let k : Tag := tag0 0x2C 16 true;
    let a : Sa := a0 9;
    let r : Nat := 0;
    resetLow s = false ∧ calm s .ing = true ∧ commitNext s l = some f ∧ f.link = l ∧ f.fate = .crypt ∧ f.ended = true ∧ secyOf s l = some y ∧ tagOf s f.bytes (txpClear f.txp) (isXpn (txpSuite f.txp)) = some k ∧ f.saIdx = r ∧ rxOf s r = some a ∧ f.started = true ∧ f.inErr = false ∧ f.poison = false ∧ s.ing.txReady = true ∧ icvOk ({ f with pn := recoverPn a.suite (lowPn a (rxpWindow y.rxp)) k.pn }) k = true ∧ lowPn a (rxpWindow y.rxp) ≤ recoverPn a.suite (lowPn a (rxpWindow y.rxp)) k.pn) ∧
  (let s : State := wing [g0 2 0 (.wait (some 8)) b64, { g0 1 0 .crypt (btag 0x2C 16) with key := List.replicate 16 7, started := true }] (wsc (wrx (a0 9) (wy (y0 txp0 0x8000000000000000 .on) w0)));
    let l : Nat := 1;
    let f : Frame := { g0 1 0 .crypt (btag 0x2C 16) with key := List.replicate 16 7, started := true };
    let y : Secy := y0 txp0 0x8000000000000000 .on;
    let k : Tag := tag0 0x2C 16 true;
    let a : Sa := a0 9;
    let r : Nat := 0;
    resetLow s = false ∧ calm s .ing = true ∧ commitNext s l = some f ∧ f.link = l ∧ f.fate = .crypt ∧ f.ended = true ∧ secyOf s l = some y ∧ tagOf s f.bytes (txpClear f.txp) (isXpn (txpSuite f.txp)) = some k ∧ f.saIdx = r ∧ rxOf s r = some a ∧ f.started = true ∧ f.inErr = false ∧ f.poison = false ∧ s.ing.txReady = true ∧ icvOk ({ f with pn := recoverPn a.suite (lowPn a (rxpWindow y.rxp)) k.pn }) k = false) ∧
  (let s : State := wing [g0 2 0 (.wait (some 8)) b64, { g0 1 0 .crypt (btag 0x2C 16) with key := List.replicate 16 7, started := true }] (wsc (wrx (a0 9) (wy (y0 txp0 0x8000000000000000 .on) { w0 with ing := { w0.ing with txReady := false } })));
    let l : Nat := 1;
    let f : Frame := { g0 1 0 .crypt (btag 0x2C 16) with key := List.replicate 16 7, started := true };
    let y : Secy := y0 txp0 0x8000000000000000 .on;
    let k : Tag := tag0 0x2C 16 true;
    let a : Sa := a0 9;
    let r : Nat := 0;
    resetLow s = false ∧ calm s .ing = true ∧ commitNext s l = some f ∧ f.link = l ∧ f.fate = .crypt ∧ f.ended = true ∧ secyOf s l = some y ∧ tagOf s f.bytes (txpClear f.txp) (isXpn (txpSuite f.txp)) = some k ∧ f.saIdx = r ∧ rxOf s r = some a ∧ f.started = true ∧ s.ing.txReady = false) ∧
  (let s : State := wing [g0 2 0 (.wait (some 8)) b64, g0 1 0 .crypt (btag 0x2C 16)] (w0);
    let l : Nat := 1;
    let f : Frame := g0 1 0 .crypt (btag 0x2C 16);
    resetLow s = false ∧ calm s .ing = true ∧ commitNext s l = some f ∧ f.link = l ∧ f.fate = .crypt ∧ f.ended = true ∧ f.started = false ∧ atLimit s .ing f = false) ∧
  (let s : State := wing [g0 1 0 .crypt (btag 0x2C 16), { g0 1 1 .discard (btag 0x2C 16) with saIdx := 1, lateSa := some 1 }] (wrx (a0 9) w0 |> fun s => { s with rx := s.rx ++ [(1, some (a0 8))] });
    let l : Nat := 1;
    let r : Nat := 1;
    let f : Frame := g0 1 0 .crypt (btag 0x2C 16);
    let g : Frame := { g0 1 1 .discard (btag 0x2C 16) with saIdx := 1, lateSa := some 1 };
    let a : Sa := a0 8;
    resetLow s = false ∧ s.ing.frames.filter (fun x => x.link == l) = [f, g] ∧ f.orderTag ≠ g.orderTag ∧ s.ing.frames.filter (fun x => x.lateSa.isSome) = [g] ∧ f.fate = .crypt ∧ f.ended = true ∧ f.started = false ∧ g.fate = .discard ∧ g.ended = true ∧ g.lateSa = some r ∧ f.saIdx ≠ r ∧ rxOf s r = some a) ∧
  (let s : State := w0;
    let l : Nat := 1;
    resetLow s = false ∧ (∀ f, commitNext s l = some f → f.fate ≠ .crypt ∨ f.ended = false)) := 
  ⟨by decide +kernel,
   by decide +kernel,
   by decide +kernel,
   by decide +kernel,
   by decide +kernel,
   by decide +kernel,
   by decide +kernel,
   by decide +kernel⟩

/-- States and operands that meet the hypotheses of `Obligations.IngressRelease`, clauses 0 to 7. -/
theorem test_meets_IngressRelease_c0_7 :
  (let s : State := wing [g0 2 0 (.wait (some 8)) b64, g0 1 0 .discard b64] (w0);
    let f : Frame := g0 1 0 .discard b64;
    nextOut s .ing ingDue f = true ∧ (f.fate = .discard ∨ f.fate = .tapped)) ∧
  (let s : State := wing [g0 2 0 (.wait (some 8)) b64, g0 1 0 .bypass b64] (w0);
    let f : Frame := g0 1 0 .bypass b64;
    nextOut s .ing ingDue f = true ∧ f.fate = .bypass) ∧
  (let s : State := wing [g0 2 0 (.wait (some 8)) b64, g0 1 0 .uncontrolled b64] (w0);
    let f : Frame := g0 1 0 .uncontrolled b64;
    nextOut s .ing ingDue f = true ∧ f.fate = .uncontrolled) ∧
  (let s : State := wing [g0 2 0 (.wait (some 8)) b64, g0 1 0 .unmodified b64] (w0);
    let f : Frame := g0 1 0 .unmodified b64;
    nextOut s .ing ingDue f = true ∧ f.fate = .unmodified ∧ tagOf s f.bytes (txpClear f.txp) (isXpn (txpSuite f.txp)) = none) ∧
  (let s : State := wing [g0 2 0 (.wait (some 8)) b64, g0 1 0 .verified (btag 0x2C 16)] (w0);
    let f : Frame := g0 1 0 .verified (btag 0x2C 16);
    let k : Tag := tag0 0x2C 16 true;
    nextOut s .ing ingDue f = true ∧ f.fate = .verified ∧ tagOf s f.bytes (txpClear f.txp) (isXpn (txpSuite f.txp)) = some k) ∧
  (let s : State := wing [g0 2 0 (.wait (some 8)) b64, g0 1 0 .unchecked (btag 0x21 16)] (w0);
    let f : Frame := g0 1 0 .unchecked (btag 0x21 16);
    let k : Tag := tag0 0x21 16 true;
    nextOut s .ing ingDue f = true ∧ f.fate = .unchecked ∧ tagOf s f.bytes (txpClear f.txp) (isXpn (txpSuite f.txp)) = some k) ∧
  (let s : State := wing [g0 2 0 (.wait (some 8)) b64, g0 1 0 .bypass b64] (w0);
    let f : Frame := g0 1 0 .bypass b64;
    nextOut s .ing ingDue f = true ∧ f.fate ≠ .discard ∧ f.fate ≠ .tapped ∧ f.ended = true) ∧
  (let s : State := wing [g0 2 0 (.wait (some 8)) b64, { g0 1 0 .crypt b64 with rxp := 0x9000000000000000, ended := false }] (w0);
    let f : Frame := { g0 1 0 .crypt b64 with rxp := 0x9000000000000000, ended := false };
    nextOut s .ing ingDue f = true ∧ f.fate = .crypt) := 
  ⟨by decide +kernel,
   by decide +kernel,
   by decide +kernel,
   by decide +kernel,
   by decide +kernel,
   by decide +kernel,
   by decide +kernel,
   by decide +kernel⟩

/-- States and operands that meet the hypotheses of `Obligations.IngressRelease`, clauses 8 to 9. -/
theorem test_meets_IngressRelease_c8_9 :
  (let s : State := wing [g0 2 0 (.wait (some 8)) b64, { g0 1 0 .verified (btag 0x2C 16) with started := true }] (w0);
    let f : Frame := { g0 1 0 .verified (btag 0x2C 16) with started := true };
    let k : Tag := tag0 0x2C 16 true;
    resetLow s = false ∧ s.ing.txReady = true ∧ calm s .ing = true ∧ s.ing.frames.find? (·.started) = some f ∧ f.fate = .verified ∧ s.ing.frames.any (awaits .ing f.link) = false ∧ tagOf s f.bytes (txpClear f.txp) (isXpn (txpSuite f.txp)) = some k) ∧
  (let s : State := wing [{ g0 1 0 .crypt b64 with started := true }] w0;
    resetLow s = false ∧ (s.ing.txReady = false ∨ (∃ f, s.ing.frames.find? (·.started) = some f ∧ f.fate ≠ .verified) ∨
        (s.ing.frames.any (·.started) = false ∧ s.ing.frames.any ingDue = false))) := 
  ⟨by decide +kernel,
   by decide +kernel⟩

/-- States and operands that meet the hypotheses of `Obligations.LaneFaults`, clauses 0 to 6. -/
theorem test_meets_LaneFaults_c0_6 :
  (let s : State := wing [g0 1 0 .crypt (btag 0x2C 16)] (wlanes 16 .off w0);
    let d : Dir := .ing;
    let i : Nat := 2;
    let l : Nat := 1;
    let o : Nat := 0;
    let b : Nat := 2;
    let f : Frame := g0 1 0 .crypt (btag 0x2C 16);
    let k : Block := k0 (wing [g0 1 0 .crypt (btag 0x2C 16)] (wlanes 16 .off w0));
    resetLow s = false ∧ i < 18 ∧ frameOf s d l o = some f ∧ f.fate = .crypt ∧ f.abandoned = false ∧ redoOf s d l o b = none ∧ keptBlock s d l o b = some k ∧ isPermanent s.lne.retryCfg (stampAdd (laneOf s (laneNo d i)).stamps (now s)) = false) ∧
  (let s : State := wredo ({ dir := .ing, link := 1, order := 0, block := 2, kept := k0 w0, round := 1, lanes := [20, 21], faulted := [], age := 1 }) (wing [g0 1 0 .crypt (btag 0x2C 16)] (wlanes 16 .off w0));
    let d : Dir := .ing;
    let i : Nat := 2;
    let l : Nat := 1;
    let o : Nat := 0;
    let b : Nat := 2;
    let f : Frame := g0 1 0 .crypt (btag 0x2C 16);
    let r : Redo := { dir := .ing, link := 1, order := 0, block := 2, kept := k0 w0, round := 1, lanes := [20, 21], faulted := [], age := 1 };
    resetLow s = false ∧ i < 18 ∧ frameOf s d l o = some f ∧ f.fate = .crypt ∧ f.abandoned = false ∧ redoOf s d l o b = some r ∧ r.faulted = [] ∧ laneNo d i ∈ r.lanes ∧ laneNo d i ∉ r.faulted ∧ isPermanent s.lne.retryCfg (stampAdd (laneOf s (laneNo d i)).stamps (now s)) = false) ∧
  (let s : State := wredo ({ dir := .ing, link := 1, order := 0, block := 2, kept := k0 w0, round := 1, lanes := [20, 21], faulted := [21], age := 1 }) (wing [g0 1 0 .crypt (btag 0x2C 16)] (wlanes 16 .off w0));
    let d : Dir := .ing;
    let i : Nat := 2;
    let l : Nat := 1;
    let o : Nat := 0;
    let b : Nat := 2;
    let f : Frame := g0 1 0 .crypt (btag 0x2C 16);
    let r : Redo := { dir := .ing, link := 1, order := 0, block := 2, kept := k0 w0, round := 1, lanes := [20, 21], faulted := [21], age := 1 };
    resetLow s = false ∧ i < 18 ∧ frameOf s d l o = some f ∧ f.fate = .crypt ∧ f.abandoned = false ∧ redoOf s d l o b = some r ∧ r.round = 1 ∧ r.faulted ≠ [] ∧ laneNo d i ∈ r.lanes ∧ laneNo d i ∉ r.faulted ∧ isPermanent s.lne.retryCfg (stampAdd (laneOf s (laneNo d i)).stamps (now s)) = false) ∧
  (let s : State := wredo ({ dir := .ing, link := 1, order := 0, block := 2, kept := k0 w0, round := 2, lanes := [20, 21], faulted := [21], age := 1 }) (wing [g0 1 0 .crypt (btag 0x2C 16)] (wlanes 16 .off w0));
    let d : Dir := .ing;
    let i : Nat := 2;
    let l : Nat := 1;
    let o : Nat := 0;
    let b : Nat := 2;
    let f : Frame := g0 1 0 .crypt (btag 0x2C 16);
    let r : Redo := { dir := .ing, link := 1, order := 0, block := 2, kept := k0 w0, round := 2, lanes := [20, 21], faulted := [21], age := 1 };
    resetLow s = false ∧ i < 18 ∧ frameOf s d l o = some f ∧ f.fate = .crypt ∧ f.abandoned = false ∧ redoOf s d l o b = some r ∧ 2 ≤ r.round ∧ r.faulted ≠ [] ∧ laneNo d i ∈ r.lanes ∧ laneNo d i ∉ r.faulted ∧ (d = .ing ∨ f.started = false) ∧ atLimit s d f = false ∧ isPermanent s.lne.retryCfg (stampAdd (laneOf s (laneNo d i)).stamps (now s)) = false) ∧
  (let s : State := wworn (wlanes 16 .warm w0);
    let d : Dir := .ing;
    let i : Nat := 2;
    let l : Nat := 1;
    let o : Nat := 0;
    let w : Nat := 34;
    resetLow s = false ∧ i < 18 ∧ frameOf s d l o = none ∧ isPermanent s.lne.retryCfg (stampAdd (laneOf s (laneNo d i)).stamps (now s)) = true ∧ (laneOf s (laneNo d i)).st = .inService ∧ (laneOf s (laneNo d i)).held = false ∧ warmOf s d = some w) ∧
  (let s : State := wworn (wlanes 16 .off w0);
    let d : Dir := .ing;
    let i : Nat := 2;
    let l : Nat := 1;
    let o : Nat := 0;
    let w : Nat := 34;
    resetLow s = false ∧ i < 18 ∧ frameOf s d l o = none ∧ isPermanent s.lne.retryCfg (stampAdd (laneOf s (laneNo d i)).stamps (now s)) = true ∧ (laneOf s (laneNo d i)).st = .inService ∧ (laneOf s (laneNo d i)).held = false ∧ warmOf s d = none ∧ warmingOf s d = none ∧ coldSpare s d = some w ∧ serving s d = 16) ∧
  (let s : State := wworn (wlanes 15 .off w0);
    let d : Dir := .ing;
    let i : Nat := 2;
    let l : Nat := 1;
    let o : Nat := 0;
    resetLow s = false ∧ i < 18 ∧ frameOf s d l o = none ∧ isPermanent s.lne.retryCfg (stampAdd (laneOf s (laneNo d i)).stamps (now s)) = true ∧ (laneOf s (laneNo d i)).st = .inService ∧ (laneOf s (laneNo d i)).held = false ∧ warmOf s d = none ∧ serving s d = 15) := 
  ⟨by decide +kernel,
   by decide +kernel,
   by decide +kernel,
   by decide +kernel,
   by decide +kernel,
   by decide +kernel,
   by decide +kernel⟩

/-- States and operands that meet the hypotheses of `Obligations.SparesAndShedding`, clauses 1 to 8. -/
theorem test_meets_SparesAndShedding_c1_8 :
  (let s : State := wramp (some true) (wlanes 15 .off w0);
    let d : Dir := .ing;
    let i : Nat := 16;
    resetLow s = false ∧ i < 18 ∧ laneDomain (laneNo d i) ∈ s.glb.ramping.take s.glb.rampMax ∧ (laneOf s (laneNo d i)).ramping = some true ∧ (lanesOf d).all (fun j => !(laneOf s j).held) = true ∧ (laneOf s (laneNo d i)).st = .off) ∧
  (let s : State := (fun s => { s with lne := { s.lne with lanes := smSet .reset s.lne.lanes 20 { laneOf s 20 with held := true } } }) (wramp (some true) (wlanes 15 .off w0));
    let d : Dir := .ing;
    let i : Nat := 16;
    let h : Nat := 20;
    resetLow s = false ∧ i < 18 ∧ laneDomain (laneNo d i) ∈ s.glb.ramping.take s.glb.rampMax ∧ (laneOf s (laneNo d i)).ramping = some true ∧ (laneOf s (laneNo d i)).st = .off ∧ (lanesOf d).find? (fun j => (laneOf s j).held) = some h ∧ (laneOf s h).st = .inService ∧ warmOf s d = none ∧ serving s d = 15) ∧
  (let s : State := wramp (some false) (wlanes 16 .off w0);
    let d : Dir := .ing;
    let i : Nat := 16;
    resetLow s = false ∧ i < 18 ∧ laneDomain (laneNo d i) ∈ s.glb.ramping.take s.glb.rampMax ∧ (laneOf s (laneNo d i)).ramping = some false) ∧
  (let s : State := wramp (some true) (wlanes 15 .off w0);
    let d : Dir := .ing;
    let i : Nat := 16;
    let e : BitVec 512 := 1;
    resetLow s = false ∧ i < 18 ∧ laneDomain (laneNo d i) ∈ s.glb.ramping.take s.glb.rampMax ∧ (laneOf s (laneNo d i)).ramping.isSome = true ∧ (laneOf s (laneNo d i)).st = .off ∧ e ≠ 0) ∧
  (let s : State := wlanes 16 .off w0;
    let d : Dir := .ing;
    let i : Nat := 16;
    resetLow s = false ∧ (18 ≤ i ∨ (laneOf s (laneNo d i)).ramping = none ∨ laneDomain (laneNo d i) ∉ s.glb.ramping.take s.glb.rampMax)) ∧
  (let s : State := wlanes 16 .warm w0;
    let d : Dir := .ing;
    let i : Nat := 16;
    resetLow s = false ∧ i < 18 ∧ ((laneOf s (laneNo d i)).st = .warm ∨ (laneOf s (laneNo d i)).ramping = some false) ∧ warmNeed s d < warmCount s d) ∧
  (let s : State := wworn (wlanes 16 .warm w0);
    let d : Dir := .ing;
    let i : Nat := 16;
    resetLow s = false ∧ (18 ≤ i ∨ ((laneOf s (laneNo d i)).st ≠ .warm ∧ (laneOf s (laneNo d i)).ramping ≠ some false) ∨ warmCount s d ≤ warmNeed s d)) ∧
  (let s : State := w0;
    resetLow s = false) := 
  ⟨by decide +kernel,
   by decide +kernel,
   by decide +kernel,
   by decide +kernel,
   by decide +kernel,
   by decide +kernel,
   by decide +kernel,
   by decide +kernel⟩

/-- States and operands that meet the hypotheses of `Obligations.SparesAndShedding`, clause 9. -/
theorem test_meets_SparesAndShedding_c9 :
  (let s : State := w0;
    resetLow s = false) := by decide +kernel

/-- States and operands that meet the hypotheses of `Obligations.QueueFlushAndMismatch`, clauses 0 to 7. -/
theorem test_meets_QueueFlushAndMismatch_c0_7 :
  (let s : State := { w0 with que := [(5, { Que.reset with wr := 3, cmt := 3, items := [bodyItem 2 3 1 0 b64, spliceItem 4 0 0 0] }), (7, { Que.reset with wr := 5, rd := 4 })] };
    let q : Nat := 5;
    resetLow s = false ∧ s.glb.testMode = false ∧ pdIsOn s 1 = true ∧ isPacketQue q = true ∧ pdIsOn s (queDomain q) = true) ∧
  (let s : State := { w0 with que := [(5, { Que.reset with wr := 3, cmt := 3, items := [bodyItem 2 3 1 0 b64, spliceItem 4 0 0 0] }), (7, { Que.reset with wr := 5, rd := 4 })] };
    let q : Nat := 6;
    resetLow s = false ∧ s.glb.testMode = false ∧ pdIsOn s 1 = true ∧ (isPacketQue q = false ∨ pdIsOn s (queDomain q) = false)) ∧
  (let s : State := { w0 with que := [(5, { Que.reset with wr := 3, cmt := 3, items := [bodyItem 2 3 1 0 b64, spliceItem 4 0 0 0] }), (7, { Que.reset with wr := 5, rd := 4 })], glb := { w0.glb with testMode := true } };
    resetLow s = false ∧ s.glb.testMode = true) ∧
  (let s : State := { w0 with que := [(5, { Que.reset with wr := 3, cmt := 3, items := [bodyItem 2 3 1 0 b64, spliceItem 4 0 0 0] }), (7, { Que.reset with wr := 5, rd := 4 })], glb := { w0.glb with pdOn := 0 } };
    resetLow s = false ∧ s.glb.testMode = false ∧ pdIsOn s 1 = false) ∧
  (let s : State := { wegr [f0 1 0 .crypt, f0 2 0 (.wait none)] w0 with que := [(5, { Que.reset with wr := 3, cmt := 3, items := [bodyItem 2 3 1 0 b64, spliceItem 4 0 0 0] }), (7, { Que.reset with wr := 5, rd := 4 })] };
    resetLow s = false ∧ pdIsOn s 48 = true) ∧
  (let s : State := { w0 with que := [(5, { Que.reset with wr := 3, cmt := 3, items := [bodyItem 2 3 1 0 b64, spliceItem 4 0 0 0] }), (7, { Que.reset with wr := 5, rd := 4 })] };
    resetLow s = false ∧ pdIsOn s 49 = true) ∧
  (let s : State := { w0 with que := [(5, { Que.reset with wr := 3, cmt := 3, items := [bodyItem 2 3 1 0 b64, spliceItem 4 0 0 0] }), (7, { Que.reset with wr := 5, rd := 4 })] };
    resetLow s = false ∧ pdIsOn s 44 = true) ∧
  (let s : State := { w0 with que := [(5, { Que.reset with wr := 3, cmt := 3, items := [bodyItem 2 3 1 0 b64, spliceItem 4 0 0 0] }), (7, { Que.reset with wr := 5, rd := 4 })] };
    resetLow s = false ∧ pdIsOn s 45 = true) := 
  ⟨by decide +kernel,
   by decide +kernel,
   by decide +kernel,
   by decide +kernel,
   by decide +kernel,
   by decide +kernel,
   by decide +kernel,
   by decide +kernel⟩

/-- States and operands that meet the hypotheses of `Obligations.QueueFlushAndMismatch`, clauses 8 to 11. -/
theorem test_meets_QueueFlushAndMismatch_c8_11 :
  (let s : State := { w0 with que := [(5, { Que.reset with wr := 3, cmt := 3, items := [bodyItem 2 3 1 0 b64, spliceItem 4 0 0 0] }), (7, { Que.reset with wr := 5, rd := 4 })] };
    resetLow s = false ∧ pdIsOn s 1 = true) ∧
  (let s : State := { w0 with que := [(5, { Que.reset with wr := 3, cmt := 3, items := [bodyItem 2 3 1 0 b64, spliceItem 4 0 0 0] }), (7, { Que.reset with wr := 5, rd := 4 })] };
    let q : Nat := 5;
    resetLow s = false ∧ isPacketQue q = true ∧ pdIsOn s (queDomain q) = true) ∧
  (let s : State := { w0 with mci := { w0.mci with cmdq := [⟨3, 1, { pk 0 [] with req := .svc }⟩, ⟨4, 1, pk 0 []⟩], nextId := 5 } };
    resetLow s = false ∧ pdIsOn s 1 = true ∧ (s.mci.cmdq.map (·.id)).Nodup) ∧
  (let s : State := { w0 with que := [(5, { Que.reset with wr := 3, cmt := 3, items := [bodyItem 2 3 1 0 b64, spliceItem 4 0 0 0] }), (7, { Que.reset with wr := 5, rd := 4 })] };
    let q : Nat := 24;
    resetLow s = false ∧ (24 ≤ q ∨ pdIsOn s (queDomain q) = false)) := 
  ⟨by decide +kernel,
   by decide +kernel,
   by decide +kernel,
   by decide +kernel⟩

/-- States and operands that meet the hypotheses of `Obligations.ContextPort`, clauses 0 to 7. -/
theorem test_meets_ContextPort_c0_7 :
  (let s : State := w0;
    let tag : Nat := 7;
    resetLow s = false ∧ s.cxm.reads.find? (fun x => x.tag == tag) = none) ∧
  (let s : State := { w0 with cxm := { Cxm.reset with fills := [{ newFill 4097 true false false with lineBytes := [1] }], reads := [{ tag := 7, line := 4097, leaf := false, offset := 0, held := true, bad := false, chk := none }] } };
    let tag : Nat := 7;
    let r : CxmRead := { tag := 7, line := 4097, leaf := false, offset := 0, held := true, bad := false, chk := none };
    resetLow s = false ∧ s.cxm.reads.find? (fun x => x.tag == tag) = some r ∧ r.held = true) ∧
  (let s : State := { w0 with cxm := { Cxm.reset with fills := [{ newFill 4097 true false false with lineBytes := [1] }], reads := [{ tag := 7, line := 4097, leaf := false, offset := 0, held := false, bad := false, chk := none }] } };
    let tag : Nat := 7;
    let r : CxmRead := { tag := 7, line := 4097, leaf := false, offset := 0, held := false, bad := false, chk := none };
    let f : Fill := { newFill 4097 true false false with lineBytes := [1] };
    resetLow s = false ∧ s.cxm.reads.find? (fun x => x.tag == tag) = some r ∧ r.held = false ∧ r.chk = none ∧ r.leaf = false ∧ f.lineDone = false ∧ s.cxm.fills.any (·.forWrite) = false ∧ s.cxm.fills.filter (fun x => x.line == r.line) = [f]) ∧
  (let s : State := { w0 with cxm := { Cxm.reset with fills := [{ newFill 4097 false false false with lineDone := true }], reads := [{ tag := 7, line := 4097, leaf := true, offset := 0, held := false, bad := false, chk := none }] } };
    let tag : Nat := 7;
    let r : CxmRead := { tag := 7, line := 4097, leaf := true, offset := 0, held := false, bad := false, chk := none };
    let f : Fill := { newFill 4097 false false false with lineDone := true };
    resetLow s = false ∧ s.cxm.reads.find? (fun x => x.tag == tag) = some r ∧ r.held = false ∧ r.chk = none ∧ r.leaf = true ∧ f.leafDone = false ∧ s.cxm.fills.any (·.forWrite) = false ∧ s.cxm.fills.filter (fun x => x.line == r.line) = [f]) ∧
  (let s : State := { w0 with cxm := { Cxm.reset with fills := [{ newFill 4097 true false false with lineBytes := [1] }], reads := [{ tag := 7, line := 4097, leaf := false, offset := 0, held := false, bad := false, chk := none }] } };
    let tag : Nat := 7;
    let r : CxmRead := { tag := 7, line := 4097, leaf := false, offset := 0, held := false, bad := false, chk := none };
    let f : Fill := { newFill 4097 true false false with lineBytes := [1] };
    resetLow s = false ∧ s.cxm.reads.find? (fun x => x.tag == tag) = some r ∧ r.held = false ∧ r.chk = none ∧ r.bad = false ∧ r.leaf = false ∧ f.lineDone = false ∧ s.cxm.fills.any (·.forWrite) = false ∧ s.cxm.fills.filter (fun x => x.line == r.line) = [f]) ∧
  (let s : State := { w0 with cxm := { Cxm.reset with fills := [{ newFill 4097 true false false with lineBytes := [1] }], reads := [{ tag := 7, line := 4097, leaf := false, offset := 0, held := false, bad := false, chk := none }] } };
    let tag : Nat := 7;
    let r : CxmRead := { tag := 7, line := 4097, leaf := false, offset := 0, held := false, bad := false, chk := none };
    let f : Fill := { newFill 4097 true false false with lineBytes := [1] };
    resetLow s = false ∧ s.cxm.reads.find? (fun x => x.tag == tag) = some r ∧ r.held = false ∧ r.chk = none ∧ r.leaf = false ∧ f.lineDone = false ∧ f.lineRetry = false ∧ s.cxm.fills.any (·.forWrite) = false ∧ s.cxm.fills.filter (fun x => x.line == r.line) = [f]) ∧
  (let s : State := { w0 with cxm := { Cxm.reset with fills := [{ newFill 4097 true false false with lineBytes := [1], lineRetry := true }], reads := [{ tag := 7, line := 4097, leaf := false, offset := 0, held := false, bad := false, chk := none }] } };
    let tag : Nat := 7;
    let r : CxmRead := { tag := 7, line := 4097, leaf := false, offset := 0, held := false, bad := false, chk := none };
    let f : Fill := { newFill 4097 true false false with lineBytes := [1], lineRetry := true };
    resetLow s = false ∧ s.cxm.reads.find? (fun x => x.tag == tag) = some r ∧ r.held = false ∧ r.chk = none ∧ r.leaf = false ∧ f.lineDone = false ∧ f.lineRetry = true ∧ s.cxm.fills.any (·.forWrite) = false ∧ s.cxm.fills.filter (fun x => x.line == r.line) = [f]) ∧
  (let s : State := { w0 with cxm := { Cxm.reset with fills := [{ newFill 4097 true false false with lineBytes := [1] }], reads := [{ tag := 7, line := 4097, leaf := false, offset := 0, held := false, bad := false, chk := none }] } };
    let tag : Nat := 7;
    let r : CxmRead := { tag := 7, line := 4097, leaf := false, offset := 0, held := false, bad := false, chk := none };
    let f : Fill := { newFill 4097 true false false with lineBytes := [1] };
    resetLow s = false ∧ s.cxm.reads.find? (fun x => x.tag == tag) = some r ∧ r.held = false ∧ r.chk = none ∧ r.leaf = false ∧ f.lineRetry = false ∧ s.cxm.fills.any (·.forWrite) = false ∧ s.cxm.fills.filter (fun x => x.line == r.line) = [f] ∧ s.cxm.fills.any (·.timedOut) = false ∧ isPermanent s.cxm.retryCfg (stampAdd s.cxm.stamps (now s)) = false) := 
  ⟨by decide +kernel,
   by decide +kernel,
   by decide +kernel,
   by decide +kernel,
   by decide +kernel,
   by decide +kernel,
   by decide +kernel,
   by decide +kernel⟩

/-- States and operands that meet the hypotheses of `Obligations.ContextPort`, clauses 8 to 13. -/
theorem test_meets_ContextPort_c8_13 :
  (let s : State := { (wegr [f0 1 0 (.wait (some 4097))] w0) with cxm := { Cxm.reset with fills := [{ newFill 4097 true false false with lineBytes := [1], lineRetry := true }], reads := [{ tag := 7, line := 4097, leaf := false, offset := 0, held := false, bad := false, chk := none }] } };
    let tag : Nat := 7;
    let r : CxmRead := { tag := 7, line := 4097, leaf := false, offset := 0, held := false, bad := false, chk := none };
    let f : Fill := { newFill 4097 true false false with lineBytes := [1], lineRetry := true };
    resetLow s = false ∧ s.cxm.reads.find? (fun x => x.tag == tag) = some r ∧ r.held = false ∧ r.chk = none ∧ r.leaf = false ∧ f.lineRetry = true ∧ s.cxm.fills.any (·.forWrite) = false ∧ s.cxm.fills.filter (fun x => x.line == r.line) = [f] ∧ s.cxm.fills.any (·.timedOut) = false ∧ isPermanent s.cxm.retryCfg (stampAdd s.cxm.stamps (now s)) = false) ∧
  (let s : State := { w0 with cxm := { Cxm.reset with fills := [{ newFill 4097 true false false with lineBytes := [1] }], reads := [{ tag := 7, line := 4097, leaf := false, offset := 0, held := false, bad := false, chk := none }], stamps := [0, 0] } };
    let tag : Nat := 7;
    let r : CxmRead := { tag := 7, line := 4097, leaf := false, offset := 0, held := false, bad := false, chk := none };
    resetLow s = false ∧ s.cxm.reads.find? (fun x => x.tag == tag) = some r ∧ r.held = false ∧ r.chk = none ∧ s.cxm.oos = false ∧ s.cxm.fills.any (·.fromWb) = false ∧ isPermanent s.cxm.retryCfg (stampAdd s.cxm.stamps (now s)) = true) ∧
  (let s : State := { w0 with cxm := { Cxm.reset with writes := [{ tag := 3, offset := 128, data := [5], line := some 4097, held := false }, { tag := 4, offset := 256, data := [6], line := none, held := false }] } };
    let tag : Nat := 3;
    let w : CxmWrite := { tag := 3, offset := 128, data := [5], line := some 4097, held := false };
    resetLow s = false ∧ writeUnder s tag = some w ∧ s.cxm.writes.any (fun x => x.tag == 32) = false ∧ s.cxm.wbq = []) ∧
  (let s : State := { w0 with cxm := { Cxm.reset with writes := [{ tag := 3, offset := 128, data := [5], line := some 4097, held := false }, { tag := 4, offset := 256, data := [6], line := none, held := false }] } };
    let tag : Nat := 5;
    resetLow s = false ∧ tag < 32 ∧ writeUnder s tag = none ∧ s.cxm.writes.any (fun x => x.tag == 32) = false ∧ s.cxm.wbq = []) ∧
  (let s : State := { w0 with cxm := { Cxm.reset with writes := [{ tag := 3, offset := 128, data := [5], line := some 4097, held := false }, { tag := 4, offset := 256, data := [6], line := none, held := false }] } };
    let tag : Nat := 3;
    let w : CxmWrite := { tag := 3, offset := 128, data := [5], line := some 4097, held := false };
    let k : Nat := 0;
    resetLow s = false ∧ writeUnder s tag = some w ∧ isPermanent s.cxm.retryCfg (stampAdd s.cxm.stamps (now s)) = false ∧ s.cxm.writes.filter (fun x => x.tag == tag) = [w] ∧ s.cxm.writes.countP (fun x => decide (x.tag < 32)) ≤ wrMax s ∧ s.cxm.reads.any (fun x => x.offset == w.offset) = false ∧ s.cxm.writes.filter (fun x => x.offset == w.offset && !x.held) = [w] ∧ s.cxm.writes.any (fun x => x.tag == 32) = false ∧ firstFrom (fun i => !(s.cxm.writes.map (·.tag)).contains i || i == tag) 0 32 = some k) ∧
  (let s : State := { w0 with cxm := { Cxm.reset with writes := [{ tag := 3, offset := 128, data := [5], line := some 4097, held := false }, { tag := 4, offset := 256, data := [6], line := none, held := false }] } };
    let tag : Nat := 3;
    let w : CxmWrite := { tag := 3, offset := 128, data := [5], line := some 4097, held := false };
    let k : Nat := 0;
    resetLow s = false ∧ writeUnder s tag = some w ∧ isPermanent s.cxm.retryCfg (stampAdd s.cxm.stamps (now s)) = false ∧ s.cxm.writes.countP (fun x => decide (x.tag < 32)) < wrMax s ∧ s.cxm.reads.any (fun x => x.offset == w.offset) = false ∧ s.cxm.writes.filter (fun x => x.offset == w.offset && !x.held) = [w] ∧ s.cxm.writes.any (fun x => x.tag == 32) = false ∧ firstFrom (fun i => !(s.cxm.writes.map (·.tag)).contains i) 0 32 = some k) := 
  ⟨by decide +kernel,
   by decide +kernel,
   by decide +kernel,
   by decide +kernel,
   by decide +kernel,
   by decide +kernel⟩

/-- States and operands that meet the hypotheses of `Obligations.ContextFills`, clauses 0 to 4. -/
theorem test_meets_ContextFills_c0_4 :
  (let s : State := { wy (y0 txp0 0 .on) w0 with cxm := { Cxm.reset with fills := [{ newFill 4097 true false false with lineBytes := [1], lineDone := true }], leaves := [(512, some { ents := [(1, (3, 0))], dirty := false, used := 1 })] } };
    let n : Nat := 4097;
    let f : Fill := { newFill 4097 true false false with lineBytes := [1], lineDone := true };
    let lf : Leaf := { ents := [(1, (3, 0))], dirty := false, used := 1 };
    let k : Nat := 4097;
    resetLow s = false ∧ s.cxm.fills.filter (fun x => x.line == n && !x.forWrite) = [f] ∧ (s.egr.frames ++ s.ing.frames).any (waitsFor n) = false ∧ f.memErr = false ∧ f.timedOut = false ∧ f.fromWb = false ∧ inWb s n = false ∧ f.leafDone = true ∧ f.lineDone = true ∧ s.cxm.oos = false ∧ isQuar s n = false ∧ slotFor s n = some k ∧ victimStuck s k = false ∧ leafOf s (leafOfLine n) = some lf ∧ s.cxm.sweepRead = false ∧ s.cxm.failed.contains (groupOfLine n) = false ∧ s.cxm.job = none ∧ s.cxm.queue.contains (groupOfLine n) = false ∧ s.cxm.queue.length < 32) ∧
  (let s : State := { wy (y0 txp0 0 .on) w0 with cxm := { Cxm.reset with fills := [{ newFill 4097 true false false with lineBytes := [1], fromWb := true }] } };
    let n : Nat := 4097;
    let f : Fill := { newFill 4097 true false false with lineBytes := [1], fromWb := true };
    let k : Nat := 4097;
    resetLow s = false ∧ s.cxm.fills.filter (fun x => x.line == n && !x.forWrite) = [f] ∧ (s.egr.frames ++ s.ing.frames).any (waitsFor n) = false ∧ f.memErr = false ∧ f.timedOut = false ∧ f.fromWb = true ∧ slotFor s n = some k ∧ victimStuck s k = false ∧ lineHeld s n = true ∧ keyComes s n = true) ∧
  (let s : State := { wy (y0 txp0 0 .on) w0 with cxm := { Cxm.reset with fills := [{ newFill 4097 true false false with lineBytes := [1], memErr := true }] } };
    let n : Nat := 4097;
    let f : Fill := { newFill 4097 true false false with lineBytes := [1], memErr := true };
    resetLow s = false ∧ s.cxm.fills.filter (fun x => x.line == n && !x.forWrite) = [f] ∧ f.memErr = true ∧ f.errLeaf = false ∧ f.fromWb = false ∧ inWb s n = false ∧ s.cxm.failed.contains (groupOfLine n) = false ∧ s.cxm.job = none ∧ s.cxm.queue.contains (groupOfLine n) = false ∧ s.cxm.queue.length < 32) ∧
  (let s : State := { wy (y0 txp0 0 .on) w0 with cxm := { Cxm.reset with fills := [{ newFill 4097 true false false with lineBytes := [1] }] } };
    let n : Nat := 4097;
    let f : Fill := { newFill 4097 true false false with lineBytes := [1] };
    resetLow s = false ∧ fillOf s n = some f ∧ f.memErr = false ∧ f.timedOut = false ∧ f.fromWb = false ∧ inWb s n = false ∧ (f.leafDone = false ∨ f.lineDone = false) ∧ s.cxm.oos = false ∧ isQuar s n = false) ∧
  (let s : State := w0;
    let n : Nat := 4097;
    resetLow s = false ∧ fillOf s n = none) := 
  ⟨by decide +kernel,
   by decide +kernel,
   by decide +kernel,
   by decide +kernel,
   by decide +kernel⟩

/-- States and operands that meet the hypotheses of `Obligations.RebuildAndSweep`, clauses 0 to 7. -/
theorem test_meets_RebuildAndSweep_c0_7 :
  (let s : State := { w0 with cxm := { Cxm.reset with queue := [70, 3] } };
    let g : Nat := 70;
    let rest : List Nat := [3];
    resetLow s = false ∧ s.cxm.job = none ∧ s.cxm.queue = g :: rest ∧ s.glb.mode ≠ .doze ∧ s.glb.mode ≠ .lockout ∧ s.fab.pair.partner = none ∧ (∀ n ∈ groupLines g, wholeSource s n = true ∨ lineHeld s n = false)) ∧
  (let s : State := (fun w => { w with rx := [(0, some (a0 9))], cxm := { Cxm.reset with queue := [128, 3] }, fab := { w.fab with pair := { w.fab.pair with partner := some 6, formed := true, live := true } } }) (wfab (wsc w0));
    let g : Nat := 128;
    let a : Nat := 6;
    let rest : List Nat := [3];
    resetLow s = false ∧ s.cxm.job = none ∧ s.cxm.queue = g :: rest ∧ s.glb.mode ≠ .doze ∧ s.glb.mode ≠ .lockout ∧ s.fab.pair.partner = some a ∧ s.fab.pair.formed = true ∧ s.fab.pair.live = true ∧ groupRx s g ≠ [] ∧ canReach s a = true) ∧
  (let s : State := { w0 with cxm := { Cxm.reset with rebuild := true } };
    resetLow s = false ∧ (s.cxm.job.isSome = true ∨ s.cxm.queue = [] ∨ s.glb.mode = .doze ∨ s.glb.mode = .lockout)) ∧
  (let s : State := { w0 with cxm := { Cxm.reset with job := some { group := 70, asking := true, lows := [], written := false } } };
    let g : Nat := 70;
    let lows : List MirRx := [];
    resetLow s = false ∧ s.cxm.job = some { group := g, asking := true, lows := lows, written := false } ∧ (∀ n ∈ groupLines g, wholeSource s n = true ∨ lineHeld s n = false)) ∧
  (let s : State := { w0 with cxm := { Cxm.reset with rebuild := true } };
    resetLow s = false ∧ s.cxm.job.all (fun j => !j.asking) = true) ∧
  (let s : State := { { w0 with mci := { w0.mci with running := [⟨⟨0, 0x79, pk 1 [70]⟩, .rebuild (some 70)⟩], nextId := 1 } } with cxm := { Cxm.reset with job := some { group := 70, asking := false, lows := [], written := true }, quar := [3, 70] } };
    let j : Reprime := { group := 70, asking := false, lows := [], written := true };
    resetLow s = false ∧ s.cxm.job = some j ∧ j.written = true ∧ groupWriting j.group s = false ∧ s.glb.mode ≠ .doze) ∧
  (let s : State := { w0 with cxm := { Cxm.reset with rebuild := true } };
    resetLow s = false ∧ (s.cxm.job.all (fun j => !j.written || groupWriting j.group s) = true ∨ s.glb.mode = .doze)) ∧
  (let s : State := { { w0 with mci := { w0.mci with running := [⟨⟨0, 0x79, pk 1 [70]⟩, .rebuild none⟩], nextId := 1 } } with cxm := { Cxm.reset with rebuild := true, oos := true } };
    resetLow s = false ∧ s.cxm.rebuild = true ∧ s.cxm.job = none ∧ s.cxm.queue = [] ∧ (s.glb.mode = .cold ∨ s.glb.mode = .provision → cxmWriting s = false)) := 
  ⟨by decide +kernel,
   by decide +kernel,
   by decide +kernel,
   by decide +kernel,
   by decide +kernel,
   by decide +kernel,
   by decide +kernel,
   by decide +kernel⟩

/-- States and operands that meet the hypotheses of `Obligations.RebuildAndSweep`, clauses 8 to 14. -/
theorem test_meets_RebuildAndSweep_c8_14 :
  (let s : State := { w0 with cxm := { Cxm.reset with rebuild := false } };
    resetLow s = false ∧ (s.cxm.rebuild = false ∨ s.cxm.job.isSome = true ∨ s.cxm.queue ≠ [] ∨ ((s.glb.mode = .cold ∨ s.glb.mode = .provision) ∧ cxmWriting s = true))) ∧
  (let s : State := { wlines [4097] w0 with cxm := { Cxm.reset with sweepOn := true, sweepPtr := 4097 } };
    resetLow s = false ∧ s.cxm.sweepOn = true ∧ s.cxm.sweepRead = false ∧ s.glb.mode ≠ .doze ∧ s.cxm.sweepPtr < 73728 ∧ isQuar s s.cxm.sweepPtr = false ∧ s.cxm.oos = false ∧ isResident s s.cxm.sweepPtr = true) ∧
  (let s : State := { w0 with cxm := { Cxm.reset with sweepOn := true, sweepPtr := 4097, writes := [{ tag := 3, offset := 128, data := [5], line := some 4097, held := false }] } };
    resetLow s = false ∧ s.cxm.sweepOn = true ∧ s.cxm.sweepRead = false ∧ s.glb.mode ≠ .doze ∧ s.cxm.sweepPtr < 73728 ∧ isQuar s s.cxm.sweepPtr = false ∧ s.cxm.oos = false ∧ isResident s s.cxm.sweepPtr = false ∧ inWb s s.cxm.sweepPtr = true) ∧
  (let s : State := { w0 with cxm := { Cxm.reset with sweepOn := true, sweepPtr := 4097 } };
    resetLow s = false ∧ s.cxm.sweepOn = true ∧ s.cxm.sweepRead = false ∧ s.glb.mode ≠ .doze ∧ s.cxm.sweepPtr < 73728 ∧ isQuar s s.cxm.sweepPtr = false ∧ s.cxm.oos = false ∧ isResident s s.cxm.sweepPtr = false ∧ inWb s s.cxm.sweepPtr = false) ∧
  (let s : State := { w0 with cxm := { Cxm.reset with sweepOn := true, sweepPtr := 4097, quar := [64] } };
    resetLow s = false ∧ s.cxm.sweepOn = true ∧ s.cxm.sweepRead = false ∧ s.glb.mode ≠ .doze ∧ s.cxm.sweepPtr < 73728 ∧ isQuar s s.cxm.sweepPtr = true) ∧
  (let s : State := { w0 with cxm := { Cxm.reset with sweepOn := true, sweepPtr := 73728 } };
    resetLow s = false ∧ s.cxm.sweepOn = true ∧ s.cxm.sweepRead = false ∧ s.glb.mode ≠ .doze ∧ 73728 ≤ s.cxm.sweepPtr) ∧
  (let s : State := { w0 with cxm := { Cxm.reset with rebuild := true } };
    resetLow s = false ∧ (s.cxm.sweepOn = false ∨ s.cxm.sweepRead = true ∨ s.glb.mode = .doze)) := 
  ⟨by decide +kernel,
   by decide +kernel,
   by decide +kernel,
   by decide +kernel,
   by decide +kernel,
   by decide +kernel,
   by decide +kernel⟩

/-- States and operands that meet the hypotheses of `Obligations.JournalRecordRoundTrip`. -/
theorem test_meets_JournalRecordRoundTrip :
  (let r : JRec := { typ := 1, obj := 0x0051, wcnt := 3, seq := 7, payload := List.replicate 40 0 };
    recTypeOk r = true ∧ r.wcnt < 2 ^ 32 ∧ r.seq < 2 ^ 64 ∧ r.payload.length = 40) := by decide +kernel

/-- States and operands that meet the hypotheses of `Obligations.JournalPort`, clauses 0 to 7. -/
theorem test_meets_JournalPort_c0_7 :
  (let s : State := w0;
    let tag : Nat := 2;
    resetLow s = false ∧ s.jnl.reads.find? (fun x => x.tag == tag) = none) ∧
  (let s : State := { w0 with jnl := { w0.jnl with reads := [{ tag := 2, slot := 9, bytes := List.replicate 8 1, err := false, chk := none }] } };
    let tag : Nat := 2;
    let r : JRead := { tag := 2, slot := 9, bytes := List.replicate 8 1, err := false, chk := none };
    resetLow s = false ∧ s.jnl.reads.find? (fun x => x.tag == tag) = some r ∧ r.bytes.length + 8 < 64) ∧
  (let s : State := { w0 with jnl := { w0.jnl with reads := [{ tag := 2, slot := 9, bytes := List.replicate 56 1, err := false, chk := none }] } };
    let tag : Nat := 2;
    let r : JRead := { tag := 2, slot := 9, bytes := List.replicate 56 1, err := false, chk := none };
    resetLow s = false ∧ s.jnl.reads.find? (fun x => x.tag == tag) = some r ∧ r.chk = none ∧ r.bytes.length = 56 ∧ r.err = false) ∧
  (let s : State := { w0 with jnl := { w0.jnl with reads := [{ tag := 2, slot := 9, bytes := List.replicate 56 1, err := false, chk := none }] } };
    let tag : Nat := 2;
    let r : JRead := { tag := 2, slot := 9, bytes := List.replicate 56 1, err := false, chk := none };
    resetLow s = false ∧ s.jnl.reads.find? (fun x => x.tag == tag) = some r ∧ r.chk = none ∧ r.bytes.length = 56 ∧ r.err = false) ∧
  (let s : State := { w0 with jnl := { w0.jnl with reads := [{ tag := 2, slot := 9, bytes := List.replicate 0 1, err := false, chk := none }] } };
    let tag : Nat := 2;
    let r : JRead := { tag := 2, slot := 9, bytes := List.replicate 0 1, err := false, chk := none };
    resetLow s = false ∧ s.jnl.reads.find? (fun x => x.tag == tag) = some r ∧ r.chk = none) ∧
  (let s : State := w0;
    let tag : Nat := 2;
    resetLow s = false ∧ s.jnl.reads.find? (fun x => x.tag == tag) = none) ∧
  (let s : State := { w0 with jnl := { w0.jnl with resolved := true, ptr := 5, seq := 8, wr := some { slot := 4, record := { typ := 1, obj := 0x0051, wcnt := 3, seq := 7, payload := List.replicate 40 0 }, works := [], issued := 0, lap := 0 } } };
    let w : JWrite := { slot := 4, record := { typ := 1, obj := 0x0051, wcnt := 3, seq := 7, payload := List.replicate 40 0 }, works := [], issued := 0, lap := 0 };
    resetLow s = false ∧ s.jnl.wr = some w ∧ w.works = [] ∧ readOnly (recordKept w s) = false) ∧
  (let s : State := { w0 with jnl := { w0.jnl with resolved := true, ptr := 5, seq := 8, wr := some { slot := 4, record := { typ := 1, obj := 0x0051, wcnt := 3, seq := 7, payload := List.replicate 40 0 }, works := [], issued := 0, lap := 0 } } };
    let w : JWrite := { slot := 4, record := { typ := 1, obj := 0x0051, wcnt := 3, seq := 7, payload := List.replicate 40 0 }, works := [], issued := 0, lap := 0 };
    resetLow s = false ∧ s.jnl.wr = some w ∧ w.record.typ ≠ 8 ∧ readOnly s = false ∧ 2 < endurance s ∧ s.jnl.slots.all (fun e => decide (e.2.wcnt.getD 0 + 2 < endurance s)) = true ∧ isPermanent s.jnl.retryCfg (stampAdd s.jnl.wrStamps (now s)) = false) := 
  ⟨by decide +kernel,
   by decide +kernel,
   by decide +kernel,
   by decide +kernel,
   by decide +kernel,
   by decide +kernel,
   by decide +kernel,
   by decide +kernel⟩

/-- States and operands that meet the hypotheses of `Obligations.JournalPort`, clauses 8 to 11. -/
theorem test_meets_JournalPort_c8_11 :
  (let s : State := { w0 with jnl := { w0.jnl with resolved := true, ptr := 5, seq := 8, wr := some { slot := 4, record := { typ := 1, obj := 0x0051, wcnt := 3, seq := 7, payload := List.replicate 40 0 }, works := [], issued := 0, lap := 0 } } };
    let w : JWrite := { slot := 4, record := { typ := 1, obj := 0x0051, wcnt := 3, seq := 7, payload := List.replicate 40 0 }, works := [], issued := 0, lap := 0 };
    resetLow s = false ∧ s.jnl.wr = some w ∧ w.record.typ ≠ 8 ∧ readOnly s = false ∧ 2 < endurance s ∧ s.jnl.slots.all (fun e => decide (e.2.wcnt.getD 0 + 2 < endurance s)) = true ∧ isPermanent s.jnl.retryCfg (stampAdd s.jnl.wrStamps (now s)) = false) ∧
  (let s : State := { w0 with jnl := { w0.jnl with resolved := true, ptr := 5, seq := 8, wr := some { slot := 4, record := { typ := 1, obj := 0x0051, wcnt := 3, seq := 7, payload := List.replicate 40 0 }, works := [], issued := 0, lap := 0 }, wrStamps := [0, 0] } };
    let w : JWrite := { slot := 4, record := { typ := 1, obj := 0x0051, wcnt := 3, seq := 7, payload := List.replicate 40 0 }, works := [], issued := 0, lap := 0 };
    resetLow s = false ∧ s.jnl.wr = some w ∧ isPermanent s.jnl.retryCfg (stampAdd s.jnl.wrStamps (now s)) = true ∧ w.works = [] ∧ s.jnl.work = [] ∧ s.jnl.asks = [] ∧ quietLease s = true) ∧
  (let s : State := w0;
    resetLow s = false ∧ s.jnl.wr = none) ∧
  (let s : State := w0;
    resetLow s = false ∧ s.jnl.wr = none) := 
  ⟨by decide +kernel,
   by decide +kernel,
   by decide +kernel,
   by decide +kernel⟩

/-- States and operands that meet the hypotheses of `Obligations.ResolutionAndResume`, clauses 0 to 7. -/
theorem test_meets_ResolutionAndResume_c0_7 :
  (let s : State := { wmode .cold w0 with jnl := { w0.jnl with readDone := 4096, slots := [] } };
    resetLow s = false ∧ s.jnl.resolved = false ∧ s.jnl.readDone = 4096 ∧ s.glb.mode ≠ .lockout ∧ s.glb.mode = .cold ∧ drbgOn s = true ∧ s.jnl.slots.all (fun e => e.2.record.isNone) = true) ∧
  (let s : State := { wmode .cold w0 with jnl := { w0.jnl with readDone := 4096, slots := [(5, { JSlot.reset with record := some { typ := 6, obj := 0, wcnt := 3, seq := 7, payload := [0, 0, 0, 1, 0, 1] ++ List.replicate 34 0 } })] } };
    resetLow s = false ∧ s.jnl.resolved = false ∧ s.jnl.readDone = 4096 ∧ s.glb.mode ≠ .lockout ∧ s.glb.mode = .cold ∧ drbgOn s = true ∧ (resolveJournal s).jnl.image.isSome = true) ∧
  (let s : State := { wmode .protect w0 with jnl := { w0.jnl with readDone := 4096, slots := [] } };
    resetLow s = false ∧ s.jnl.resolved = false ∧ s.jnl.readDone = 4096 ∧ s.glb.mode ≠ .lockout ∧ s.glb.mode ≠ .cold ∧ drbgOn s = true) ∧
  (let s : State := w0;
    resetLow s = false ∧ (s.jnl.resolved = true ∨ s.jnl.readDone ≠ 4096 ∨ s.glb.mode = .lockout)) ∧
  (let s : State := { wmode .cold w0 with glb := { w0.glb with mode := .cold, change := some { kind := .resume, cmd := none } } };
    resetLow s = false ∧ s.glb.change.any (fun c => c.kind == .resume) = true ∧ drbgFull s = false ∧ imageSound s = false) ∧
  (let s : State := { wmode .cold w0 with glb := { w0.glb with mode := .cold, change := some { kind := .resume, cmd := none } } };
    resetLow s = false ∧ s.glb.change.any (fun c => c.kind == .resume) = true ∧ drbgFull s = false) ∧
  (let s : State := { wmode .cold w0 with glb := { w0.glb with mode := .cold, change := some { kind := .built, cmd := none } } };
    resetLow s = false ∧ s.glb.change.any (fun c => c.kind == .built) = true ∧ cxmWriting s = false) ∧
  (let s : State := w0;
    resetLow s = false ∧ (s.glb.change.all (fun c => c.kind != .resume && c.kind != .built) = true ∨ (s.glb.change.any (fun c => c.kind == .resume) = true ∧ drbgFull s = true) ∨ (s.glb.change.any (fun c => c.kind == .built) = true ∧ cxmWriting s = true))) := 
  ⟨by decide +kernel,
   by decide +kernel,
   by decide +kernel,
   by decide +kernel,
   by decide +kernel,
   by decide +kernel,
   by decide +kernel,
   by decide +kernel⟩

/-- States and operands that meet the hypotheses of `Obligations.CommandSlots`, clauses 0 to 7. -/
theorem test_meets_CommandSlots_c0_7 :
  (let s : State := w0;
    let q : Nat := 0;
    let k : Nat := 1;
    let slot : Nat := 0;
    let priv : Bool := false;
    resetLow s = false ∧ s.glb.testMode = false ∧ pdIsOn s 1 = true ∧ s.mci.ready = true ∧ q < 4 ∧ slot < 8 ∧ (priv = true ∨ privOnly s q = false) ∧ (hostSlot s q slot).st = .free ∧ k ≤ 64) ∧
  (let s : State := wslot { st := .done, cmd := [], rep := [1] } w0;
    let q : Nat := 0;
    let slot : Nat := 0;
    let priv : Bool := false;
    resetLow s = false ∧ s.glb.testMode = false ∧ pdIsOn s 1 = true ∧ s.mci.ready = true ∧ q < 4 ∧ slot < 8 ∧ (priv = true ∨ privOnly s q = false) ∧ (hostSlot s q slot).st ≠ .free) ∧
  (let s : State := { w0 with mci := { w0.mci with cfg := 1 } };
    let q : Nat := 0;
    let slot : Nat := 0;
    let priv : Bool := false;
    resetLow s = false ∧ s.glb.testMode = false ∧ pdIsOn s 1 = true ∧ s.mci.ready = true ∧ q < 4 ∧ slot < 8 ∧ priv = false ∧ privOnly s q = true) ∧
  (let s : State := w0;
    let q : Nat := 0;
    let k : Nat := 65;
    let slot : Nat := 0;
    let priv : Bool := false;
    resetLow s = false ∧ s.glb.testMode = false ∧ pdIsOn s 1 = true ∧ s.mci.ready = true ∧ q < 4 ∧ slot < 8 ∧ (priv = true ∨ privOnly s q = false) ∧ (hostSlot s q slot).st = .free ∧ 64 < k) ∧
  (let s : State := wslot { st := .free, cmd := [(0, put 1 56 8 ||| put 7 24 16)], rep := [] } w0;
    let q : Nat := 0;
    let slot : Nat := 0;
    let priv : Bool := false;
    let i : Instr := .sysNop { pk 0 [] with priv := false, tag := 7 };
    let op : Nat := 1;
    let p : Pkt := { pk 0 [] with priv := false, tag := 7 };
    resetLow s = false ∧ s.glb.testMode = false ∧ pdIsOn s 1 = true ∧ s.mci.ready = true ∧ q < 4 ∧ slot < 8 ∧ (priv = true ∨ privOnly s q = false) ∧ (hostSlot s q slot).st = .free ∧ mciOf i = some (op, p) ∧ slotPacket q slot priv (hostSlot s q slot) = (BitVec.ofNat 8 op, p)) ∧
  (let s : State := wslot { st := .done, cmd := [], rep := [1] } w0;
    let q : Nat := 0;
    let slot : Nat := 0;
    let priv : Bool := false;
    resetLow s = false ∧ s.glb.testMode = false ∧ pdIsOn s 1 = true ∧ s.mci.ready = true ∧ q < 4 ∧ slot < 8 ∧ (priv = true ∨ privOnly s q = false) ∧ (hostSlot s q slot).st ≠ .free) ∧
  (let s : State := wslot { st := .done, cmd := [], rep := [1] } w0;
    let q : Nat := 0;
    let mask : Byte := 1;
    let priv : Bool := false;
    resetLow s = false ∧ s.glb.testMode = false ∧ pdIsOn s 1 = true ∧ s.mci.ready = true ∧ q < 4 ∧ (priv = true ∨ privOnly s q = false) ∧ (List.range 8).all (fun k => !mask.getLsbD k || (hostSlot s q k).st == .done) = true) ∧
  (let s : State := wslot { st := .done, cmd := [], rep := [1] } w0;
    let q : Nat := 0;
    let mask : Byte := 3;
    let priv : Bool := false;
    resetLow s = false ∧ s.glb.testMode = false ∧ pdIsOn s 1 = true ∧ s.mci.ready = true ∧ q < 4 ∧ (priv = true ∨ privOnly s q = false) ∧ (List.range 8).any (fun k => mask.getLsbD k && (hostSlot s q k).st != .done) = true) := 
  ⟨by decide +kernel,
   by decide +kernel,
   by decide +kernel,
   by decide +kernel,
   by decide +kernel,
   by decide +kernel,
   by decide +kernel,
   by decide +kernel⟩

/-- States and operands that meet the hypotheses of `Obligations.CommandSlots`, clauses 8 to 15. -/
theorem test_meets_CommandSlots_c8_15 :
  (let s : State := w0;
    let q : Nat := 4;
    resetLow s = false ∧ s.glb.testMode = false ∧ pdIsOn s 1 = true ∧ (s.mci.ready = false ∨ 4 ≤ q)) ∧
  (let s : State := w0;
    let dst : Nat := 6;
    let tag : Nat := 9;
    resetLow s = false ∧ forwarded s dst tag = none) ∧
  (let s : State := wfab (wrun 1 (pk 0 []) (.remote 6 9) w0);
    let dst : Nat := 6;
    let tag : Nat := 9;
    let q : QCmd := ⟨0, 0x01, pk 0 []⟩;
    resetLow s = false ∧ forwarded s dst tag = some q ∧ canReach s dst = true) ∧
  (let s : State := wfab (wrun 1 (pk 0 []) (.remote 6 9) w0);
    let dst : Nat := 6;
    let tag : Nat := 9;
    let q : QCmd := ⟨0, 0x01, pk 0 []⟩;
    let n : Nat := 0;
    resetLow s = false ∧ forwarded s dst tag = some q ∧ q.pkt.req = .hq n ∧ n < 4) ∧
  (let s : State := wfab (wrun 1 (pk 0 []) (.remote 6 9) w0);
    let h : MsgHdr := wmsg s (.reply (put 9 24 16) [7]);
    let header : W64 := put 9 24 16;
    let ws : List W64 := [7];
    let a : Nat := 6;
    let n : Nat := 0;
    let q : QCmd := ⟨0, 0x01, pk 0 []⟩;
    heardFrom s h (.reply header ws) a ∧ resetLow s = false ∧ forwarded s a (fld header 24 16) = some q ∧ q.pkt.req = .hq n ∧ n < 4 ∧ fld header 48 8 ≠ 0x02) ∧
  (let s : State := wfab { w0 with fab := { w0.fab with cfg := 0x0000003F00320A00 } };
    let h : MsgHdr := wmsg s (.cmd (put 1 56 8 ||| put 9 24 16) []);
    let header : W64 := put 1 56 8 ||| put 9 24 16;
    let ws : List W64 := [];
    let a : Nat := 6;
    heardFrom s h (.cmd header ws) a ∧ resetLow s = false ∧ canReach s a = true ∧ cfgCmdEn s = false) ∧
  (let s : State := wfab { w0 with mci := { w0.mci with cmdq := List.replicate 16 ⟨0, 1, { pk 0 [] with req := .fab 6 }⟩ } };
    let h : MsgHdr := wmsg s (.cmd (put 1 56 8 ||| put 9 24 16) []);
    let header : W64 := put 1 56 8 ||| put 9 24 16;
    let ws : List W64 := [];
    let a : Nat := 6;
    heardFrom s h (.cmd header ws) a ∧ resetLow s = false ∧ cfgCmdEn s = true ∧ 16 ≤ fabWaiting s) ∧
  (let s : State := wfab w0;
    let h : MsgHdr := wmsg s (.cmd (put 1 56 8 ||| put 9 24 16) []);
    let header : W64 := put 1 56 8 ||| put 9 24 16;
    let tag : Nat := 9;
    let a : Nat := 6;
    heardFrom s h (.cmd header []) a ∧ resetLow s = false ∧ canReach s a = true ∧ cfgCmdEn s = true ∧ header = put 1 56 8 ||| put tag 24 16 ∧ tag < 65536 ∧ s.mci.running = [] ∧ s.mci.cmdq = [] ∧ s.mci.dups = [] ∧ s.glb.mode = .protect ∧ s.glb.change = none ∧ s.glb.resume ≠ 1 ∧ s.svc.stopped = false ∧ s.cxm.quar = []) := 
  ⟨by decide +kernel,
   by decide +kernel,
   by decide +kernel,
   by decide +kernel,
   ⟨heardFrom_wmsg _ _ (by decide +kernel), by decide +kernel⟩,
   ⟨heardFrom_wmsg _ _ (by decide +kernel), by decide +kernel⟩,
   ⟨heardFrom_wmsg _ _ (by decide +kernel), by decide +kernel⟩,
   ⟨heardFrom_wmsg _ _ (by decide +kernel), by decide +kernel⟩⟩

/-- States and operands that meet the hypotheses of `Obligations.Leases`, clauses 0 to 7. -/
theorem test_meets_Leases_c0_7 :
  (let s : State := wfab w0;
    let m : LeaseReq := { home := 9, sa := 4, req := 6, rid := 3, epoch := 0 };
    let h : MsgHdr := wmsg s (.leaseReq m);
    let a : Nat := 6;
    heardFrom s h (.leaseReq m) a ∧ resetLow s = false ∧ keyNamed s m.home m.sa = none ∧ canReach s m.req = true) ∧
  (let s : State := (fun s : State => { s with jnl := { s.jnl with last := [⟨some 6, 4, 3, 10, 20⟩] } }) (wfab (wtx (a0 9) (wy (y0 txp0 0 .on) w0)));
    let m : LeaseReq := { home := 2, sa := 4, req := 6, rid := 3, epoch := 0 };
    let h : MsgHdr := wmsg s (.leaseReq m);
    let a : Nat := 6;
    let k : Nat := 4;
    let g : LastGrant := ⟨some 6, 4, 3, 10, 20⟩;
    heardFrom s h (.leaseReq m) a ∧ resetLow s = false ∧ keyNamed s m.home m.sa = some k ∧ quietLease s = true ∧ s.jnl.pend.any (fun p => p.ask.sa == k) = false ∧ bulkWaits s k = false ∧ s.jnl.last.find? (fun g => g.req == some m.req && g.sa == k && g.rid == m.rid) = some g ∧ m.sa < 4096 ∧ k = m.sa ∧ s.fab.addr = some m.home ∧ canReach s m.req = true) ∧
  (let s : State := wfab w0;
    let m : LeaseReq := { home := 2, sa := 4, req := 6, rid := 3, epoch := 0 };
    let h : MsgHdr := wmsg s (.leaseReq m);
    let a : Nat := 6;
    let k : Nat := 4;
    heardFrom s h (.leaseReq m) a ∧ resetLow s = false ∧ keyNamed s m.home m.sa = some k ∧ quietLease s = true ∧ s.jnl.pend.any (fun p => p.ask.sa == k) = false ∧ s.jnl.last.find? (fun g => g.req == some m.req && g.sa == k && g.rid == m.rid) = none ∧ homeGrants s = true ∧ pairWaits s k = false ∧ bulkWaits s k = false ∧ m.sa < 4096 ∧ k = m.sa ∧ s.fab.addr = some m.home ∧ canReach s m.req = true ∧ isHome s k = false) ∧
  (let s : State := wfab (wtx (a0 9) (wy (y0 txp0 0 .on) w0));
    let m : LeaseReq := { home := 2, sa := 4, req := 6, rid := 3, epoch := 5 };
    let h : MsgHdr := wmsg s (.leaseReq m);
    let a : Nat := 6;
    let k : Nat := 4;
    heardFrom s h (.leaseReq m) a ∧ resetLow s = false ∧ keyNamed s m.home m.sa = some k ∧ quietLease s = true ∧ s.jnl.pend.any (fun p => p.ask.sa == k) = false ∧ s.jnl.last.find? (fun g => g.req == some m.req && g.sa == k && g.rid == m.rid) = none ∧ homeGrants s = true ∧ pairWaits s k = false ∧ bulkWaits s k = false ∧ m.sa < 4096 ∧ k = m.sa ∧ s.fab.addr = some m.home ∧ canReach s m.req = true ∧ isHome s k = true ∧ epochAbove m.epoch s.fab.pair.epoch = true) ∧
  (let s : State := (fun s : State => { s with jnl := { s.jnl with dropped := [4] } }) (wfab (wtx (a0 9) (wy (y0 txp0 0 .on) w0)));
    let m : LeaseReq := { home := 2, sa := 4, req := 6, rid := 3, epoch := 0 };
    let h : MsgHdr := wmsg s (.leaseReq m);
    let a : Nat := 6;
    let k : Nat := 4;
    heardFrom s h (.leaseReq m) a ∧ resetLow s = false ∧ keyNamed s m.home m.sa = some k ∧ quietLease s = true ∧ s.jnl.pend.any (fun p => p.ask.sa == k) = false ∧ s.jnl.last.find? (fun g => g.req == some m.req && g.sa == k && g.rid == m.rid) = none ∧ homeGrants s = true ∧ pairWaits s k = false ∧ bulkWaits s k = false ∧ m.sa < 4096 ∧ k = m.sa ∧ s.fab.addr = some m.home ∧ canReach s m.req = true ∧ isHome s k = true ∧ epochAbove m.epoch s.fab.pair.epoch = false ∧ readOnly s = false ∧ s.jnl.dropped.contains k = true) ∧
  (let s : State := (fun s : State => { s with glb := { s.glb with deg := 0x40 } }) (wfab (wtx (a0 9) (wy (y0 txp0 0 .on) w0)));
    let m : LeaseReq := { home := 2, sa := 4, req := 6, rid := 3, epoch := 0 };
    let h : MsgHdr := wmsg s (.leaseReq m);
    let a : Nat := 6;
    let k : Nat := 4;
    heardFrom s h (.leaseReq m) a ∧ resetLow s = false ∧ keyNamed s m.home m.sa = some k ∧ quietLease s = true ∧ s.jnl.pend.any (fun p => p.ask.sa == k) = false ∧ s.jnl.last.find? (fun g => g.req == some m.req && g.sa == k && g.rid == m.rid) = none ∧ homeGrants s = true ∧ pairWaits s k = false ∧ bulkWaits s k = false ∧ m.sa < 4096 ∧ k = m.sa ∧ s.fab.addr = some m.home ∧ canReach s m.req = true ∧ isHome s k = true ∧ epochAbove m.epoch s.fab.pair.epoch = false ∧ readOnly s = true) ∧
  (let s : State := (fun s : State => { s with jnl := { s.jnl with hw := [(4, 4294967296)] } }) (wfab (wtx (a0 9) (wy (y0 txp0 0 .on) w0)));
    let m : LeaseReq := { home := 2, sa := 4, req := 6, rid := 3, epoch := 0 };
    let h : MsgHdr := wmsg s (.leaseReq m);
    let a : Nat := 6;
    let k : Nat := 4;
    heardFrom s h (.leaseReq m) a ∧ resetLow s = false ∧ keyNamed s m.home m.sa = some k ∧ quietLease s = true ∧ s.jnl.pend.any (fun p => p.ask.sa == k) = false ∧ s.jnl.last.find? (fun g => g.req == some m.req && g.sa == k && g.rid == m.rid) = none ∧ homeGrants s = true ∧ pairWaits s k = false ∧ bulkWaits s k = false ∧ m.sa < 4096 ∧ k = m.sa ∧ s.fab.addr = some m.home ∧ canReach s m.req = true ∧ isHome s k = true ∧ epochAbove m.epoch s.fab.pair.epoch = false ∧ readOnly s = false ∧ s.jnl.dropped.contains k = false ∧ grantEnd s k ≤ markOf s k) ∧
  (let s : State := (fun s : State => { s with jnl := { s.jnl with hw := [(4, 4294967295)], resolved := true } }) (wfab (wtx (a0 9) (wy (y0 txp0 0 .on) w0)));
    let m : LeaseReq := { home := 2, sa := 4, req := 6, rid := 3, epoch := 0 };
    let h : MsgHdr := wmsg s (.leaseReq m);
    let a : Nat := 6;
    let k : Nat := 4;
    heardFrom s h (.leaseReq m) a ∧ resetLow s = false ∧ keyNamed s m.home m.sa = some k ∧ quietLease s = true ∧ s.jnl.pend.any (fun p => p.ask.sa == k) = false ∧ s.jnl.last.find? (fun g => g.req == some m.req && g.sa == k && g.rid == m.rid) = none ∧ homeGrants s = true ∧ pairWaits s k = false ∧ bulkWaits s k = false ∧ m.sa < 4096 ∧ k = m.sa ∧ s.fab.addr = some m.home ∧ canReach s m.req = true ∧ isHome s k = true ∧ epochAbove m.epoch s.fab.pair.epoch = false ∧ readOnly s = false ∧ s.jnl.dropped.contains k = false ∧ markOf s k < grantEnd s k) := 
  ⟨⟨heardFrom_wmsg _ _ (by decide +kernel), by decide +kernel⟩,
   ⟨heardFrom_wmsg _ _ (by decide +kernel), by decide +kernel⟩,
   ⟨heardFrom_wmsg _ _ (by decide +kernel), by decide +kernel⟩,
   ⟨heardFrom_wmsg _ _ (by decide +kernel), by decide +kernel⟩,
   ⟨heardFrom_wmsg _ _ (by decide +kernel), by decide +kernel⟩,
   ⟨heardFrom_wmsg _ _ (by decide +kernel), by decide +kernel⟩,
   ⟨heardFrom_wmsg _ _ (by decide +kernel), by decide +kernel⟩,
   ⟨heardFrom_wmsg _ _ (by decide +kernel), by decide +kernel⟩⟩

/-- States and operands that meet the hypotheses of `Obligations.Leases`, clauses 8 to 15. -/
theorem test_meets_Leases_c8_15 :
  (let s : State := (fun s : State => { s with jnl := { s.jnl with rid := [(4, 6)] } }) (wfab (wtx { a0 9 with shared := true, home := 6, homeSa := 20, lease := .wait } (wy (y0 txp0 0 .on) w0)));
    let m : LeaseGrant := { home := 6, sa := 20, req := 2, rid := 3, status := 0, start := 500, stop := 600 };
    let h : MsgHdr := wmsg s (.leaseGrant m);
    let a : Nat := 6;
    let i : Nat := 4;
    let x : Sa := { a0 9 with shared := true, home := 6, homeSa := 20, lease := .wait };
    heardFrom s h (.leaseGrant m) a ∧ resetLow s = false ∧ quietLease s = true ∧ grantFor s m = some i ∧ txOf s i = some x ∧ leaseTo s i x = .there a m.home m.sa ∧ s.fab.addr = some m.req ∧ m.status = 0 ∧ x.lease = .wait) ∧
  (let s : State := (fun s : State => { s with jnl := { s.jnl with rid := [(4, 6)] } }) (wfab (wtx { a0 9 with shared := true, home := 6, homeSa := 20, lease := .fetch } (wy (y0 txp0 0 .on) w0)));
    let m : LeaseGrant := { home := 6, sa := 20, req := 2, rid := 3, status := 0, start := 500, stop := 600 };
    let h : MsgHdr := wmsg s (.leaseGrant m);
    let a : Nat := 6;
    let i : Nat := 4;
    let x : Sa := { a0 9 with shared := true, home := 6, homeSa := 20, lease := .fetch };
    heardFrom s h (.leaseGrant m) a ∧ resetLow s = false ∧ quietLease s = true ∧ grantFor s m = some i ∧ txOf s i = some x ∧ leaseTo s i x = .there a m.home m.sa ∧ s.fab.addr = some m.req ∧ m.status = 0 ∧ x.lease = .fetch) ∧
  (let s : State := (fun s : State => { s with jnl := { s.jnl with rid := [(4, 6)] } }) (wfab (wtx { a0 9 with shared := true, home := 6, homeSa := 20, lease := .wait } (wy (y0 txp0 0 .on) w0)));
    let m : LeaseGrant := { home := 6, sa := 20, req := 2, rid := 3, status := 1, start := 500, stop := 600 };
    let h : MsgHdr := wmsg s (.leaseGrant m);
    let a : Nat := 6;
    let i : Nat := 4;
    let x : Sa := { a0 9 with shared := true, home := 6, homeSa := 20, lease := .wait };
    heardFrom s h (.leaseGrant m) a ∧ resetLow s = false ∧ quietLease s = true ∧ grantFor s m = some i ∧ txOf s i = some x ∧ leaseTo s i x = .there a m.home m.sa ∧ s.fab.addr = some m.req ∧ m.status = 1 ∧ x.lease = .wait) ∧
  (let s : State := wfab w0;
    let m : LeaseGrant := { home := 6, sa := 20, req := 2, rid := 3, status := 0, start := 500, stop := 600 };
    let h : MsgHdr := wmsg s (.leaseGrant m);
    let a : Nat := 6;
    heardFrom s h (.leaseGrant m) a ∧ resetLow s = false ∧ grantFor s m = none) ∧
  (let s : State := (fun s : State => { s with jnl := { s.jnl with rid := [(4, 6)] } }) (wfab (wtx { a0 9 with shared := true, home := 9, homeSa := 20, lease := .wait } (wy (y0 txp0 0 .on) w0)));
    let m : LeaseGrant := { home := 9, sa := 20, req := 2, rid := 3, status := 0, start := 500, stop := 600 };
    let h : MsgHdr := wmsg s (.leaseGrant m);
    let a : Nat := 6;
    let i : Nat := 4;
    let x : Sa := { a0 9 with shared := true, home := 9, homeSa := 20, lease := .wait };
    let e : Nat := 9;
    heardFrom s h (.leaseGrant m) a ∧ resetLow s = false ∧ grantFor s m = some i ∧ txOf s i = some x ∧ leaseTo s i x = .there e m.home m.sa ∧ e ≠ a) ∧
  (let s : State := (fun s : State => { s with jnl := { s.jnl with rid := [(4, 6)] } }) (wfab (wtx { a0 9 with shared := true, home := 6, homeSa := 20, lease := .wait } (wy (y0 txp0 0 .on) w0)));
    let i : Nat := 4;
    let e : Nat := 6;
    let home : Nat := 6;
    let sa : Nat := 20;
    let x : Sa := { a0 9 with shared := true, home := 6, homeSa := 20, lease := .wait };
    resetLow s = false ∧ txOf s i = some x ∧ (x.lease = .wait ∨ x.lease = .fetch) ∧ smGet 0 s.jnl.rid i % 2 = 0 ∧ leaseTo s i x = .there e home sa ∧ pairHolds s i x = false ∧ s.jnl.pend = [] ∧ quietLease s = true ∧ canReach s e = true) ∧
  (let s : State := (fun s : State => { s with jnl := { s.jnl with pmark := [(4, 300)] } }) ((fun s : State => { s with fab := { s.fab with pair := { s.fab.pair with partner := some 6, epoch := 1 } } }) (wfab w0));
    let m : LeaseSync := { home := 6, sa := 4, epoch := 1, mark := 300 };
    let h : MsgHdr := wmsg s (.leaseSync m);
    let a : Nat := 6;
    let k : Nat := 4100;
    heardPartner s h (.leaseSync m) a ∧ resetLow s = false ∧ keyNamed s m.home m.sa = some k ∧ 4096 ≤ k ∧ toldMark m.mark ≤ smGet 0 s.jnl.pmark (k % 4096) ∧ canReach s a = true) ∧
  (let s : State := (fun s : State => { s with jnl := { s.jnl with resolved := true } }) ((fun s : State => { s with fab := { s.fab with pair := { s.fab.pair with partner := some 6, epoch := 1 } } }) (wfab w0));
    let m : LeaseSync := { home := 6, sa := 4, epoch := 1, mark := 300 };
    let h : MsgHdr := wmsg s (.leaseSync m);
    let a : Nat := 6;
    let k : Nat := 4100;
    heardPartner s h (.leaseSync m) a ∧ resetLow s = false ∧ keyNamed s m.home m.sa = some k ∧ smGet 0 s.jnl.pmark (k % 4096) < toldMark m.mark ∧ readOnly s = false) := 
  ⟨⟨heardFrom_wmsg _ _ (by decide +kernel), by decide +kernel⟩,
   ⟨heardFrom_wmsg _ _ (by decide +kernel), by decide +kernel⟩,
   ⟨heardFrom_wmsg _ _ (by decide +kernel), by decide +kernel⟩,
   ⟨heardFrom_wmsg _ _ (by decide +kernel), by decide +kernel⟩,
   ⟨heardFrom_wmsg _ _ (by decide +kernel), by decide +kernel⟩,
   by decide +kernel,
   ⟨heardPartner_wmsg _ _ (by decide +kernel), by decide +kernel⟩,
   ⟨heardPartner_wmsg _ _ (by decide +kernel), by decide +kernel⟩⟩

/-- States and operands that meet the hypotheses of `Obligations.Leases`, clauses 16 to 17. -/
theorem test_meets_Leases_c16_17 :
  (let s : State := (fun s : State => { s with glb := { s.glb with deg := 0x40 } }) ((fun s : State => { s with fab := { s.fab with pair := { s.fab.pair with partner := some 6, epoch := 1 } } }) (wfab w0));
    let m : LeaseSync := { home := 6, sa := 4, epoch := 1, mark := 300 };
    let h : MsgHdr := wmsg s (.leaseSync m);
    let a : Nat := 6;
    let k : Nat := 4100;
    heardPartner s h (.leaseSync m) a ∧ resetLow s = false ∧ keyNamed s m.home m.sa = some k ∧ smGet 0 s.jnl.pmark (k % 4096) < toldMark m.mark ∧ readOnly s = true) ∧
  (let s : State := (fun s : State => { s with jnl := { s.jnl with pend := [⟨⟨some 6, 4, 3, 0⟩, 200, 300, true, false⟩] } }) ((fun s : State => { s with fab := { s.fab with pair := { s.fab.pair with partner := some 6, epoch := 1 } } }) (wfab w0));
    let m : LeaseSync := { home := 2, sa := 4, epoch := 1, mark := 300 };
    let h : MsgHdr := wmsg s (.leaseSyncAck m);
    let a : Nat := 6;
    let k : Nat := 4;
    let r : Nat := 6;
    let p : PendGrant := ⟨⟨some 6, 4, 3, 0⟩, 200, 300, true, false⟩;
    heardPartner s h (.leaseSyncAck m) a ∧ resetLow s = false ∧ keyNamed s m.home m.sa = some k ∧ k < 4096 ∧ s.jnl.pend.find? (fun p => p.ask.sa == k && p.durable && p.stop % 2 ^ 64 == m.mark) = some p ∧ p.ask.req = some r ∧ s.jnl.asks.any (fun x => x.sa == k) = false ∧ quietLease s = true ∧ canReach s r = true) := 
  ⟨⟨heardPartner_wmsg _ _ (by decide +kernel), by decide +kernel⟩,
   ⟨heardPartner_wmsg _ _ (by decide +kernel), by decide +kernel⟩⟩

/-- States and operands that meet the hypotheses of `Obligations.Cuts`, clauses 0 to 7. -/
theorem test_meets_Cuts_c0_7 :
  (let s : State := { wy ({ y0 txp0 0 .on with cut := .armed, cutTime := 0, curAn := 0, cutAn := 1 }) (w0) with tx := [(4, some (a0 9)), (5, some { a0 10 with lease := .none })], jnl := { w0.jnl with resolved := true } };
    let l : Nat := 1;
    let y : Secy := { y0 txp0 0 .on with cut := .armed, cutTime := 0, curAn := 0, cutAn := 1 };
    resetLow s = false ∧ secyOf s l = some y ∧ (y.cut = .armed ∨ (y.cut = .timed ∧ y.cutTime ≤ now s)) ∧ s.glb.mode ≠ .doze ∧ y.cutAn ≠ y.curAn) ∧
  (let s : State := { wy ({ y0 txp0 0 .on with cut := .none, cutTime := 0, curAn := 0, cutAn := 1 }) (w0) with tx := [(4, some (a0 9)), (5, some { a0 10 with lease := .none })], jnl := { w0.jnl with resolved := true } };
    let l : Nat := 1;
    let y : Secy := { y0 txp0 0 .on with cut := .none, cutTime := 0, curAn := 0, cutAn := 1 };
    resetLow s = false ∧ secyOf s l = some y ∧ (y.cut = .none ∨ y.cut = .arming ∨ (y.cut = .timed ∧ now s < y.cutTime) ∨ s.glb.mode = .doze)) ∧
  (let s : State := { { wy ({ y0 txp0 0 .on with cut := .arming, cutTime := 0, curAn := 0, cutAn := 1 }) (w0) with tx := [(4, some (a0 9)), (5, some { a0 10 with lease := .none })], jnl := { w0.jnl with resolved := true } } with mci := { w0.mci with running := [⟨⟨0, 0x50, pk 2 [0, 500000]⟩, .cut 1⟩] } };
    let l : Nat := 1;
    let y : Secy := { y0 txp0 0 .on with cut := .arming, cutTime := 0, curAn := 0, cutAn := 1 };
    let q : QCmd := ⟨0, 0x50, pk 2 [0, 500000]⟩;
    let n : Nat := 0;
    resetLow s = false ∧ secyOf s l = some y ∧ y.cut = .arming ∧ y.st = .on ∧ leaseHeld s (4 * l + y.cutAn) = false ∧ commitPending s l = false ∧ s.mci.running = [⟨q, .cut l⟩] ∧ q.pkt.req = .hq n ∧ n < 4) ∧
  (let s : State := { { wy ({ y0 txp0 0 .on with cut := .arming, cutTime := 500000, curAn := 0, cutAn := 1 }) (w0) with tx := [(4, some (a0 9)), (5, some { a0 10 with lease := .none })], jnl := { w0.jnl with resolved := true } } with mci := { w0.mci with running := [⟨⟨0, 0x50, pk 2 [0, 500000]⟩, .timed [1]⟩] } };
    let q : QCmd := ⟨0, 0x50, pk 2 [0, 500000]⟩;
    let n : Nat := 0;
    let links : List Nat := [1];
    resetLow s = false ∧ s.mci.running = [⟨q, .timed links⟩] ∧ (q.w 1).toNat ≤ now s + 1000000 ∧ q.pkt.req = .hq n ∧ n < 4 ∧ (∃ l ∈ links, ∀ y, secyOf s l = some y → y.cut ≠ .timed)) ∧
  (let s : State := { { wy ({ y0 txp0 0 .on with cut := .timed, cutTime := 500000, curAn := 0, cutAn := 1 }) (w0) with tx := [(4, some (a0 9)), (5, some { a0 10 with lease := .none })], jnl := { w0.jnl with resolved := true } } with mci := { w0.mci with running := [⟨⟨0, 0x50, pk 2 [0, 500000]⟩, .timed [1]⟩] } };
    let q : QCmd := ⟨0, 0x50, pk 2 [0, 500000]⟩;
    let n : Nat := 0;
    let links : List Nat := [1];
    resetLow s = false ∧ s.mci.running = [⟨q, .timed links⟩] ∧ (q.w 1).toNat ≤ now s + 1000000 ∧ q.pkt.req = .hq n ∧ n < 4 ∧ (∀ l ∈ links, ∃ y, secyOf s l = some y ∧ y.cut = .timed)) ∧
  (let s : State := { { wy ({ y0 txp0 0 .on with cut := .timed, cutTime := 500000, curAn := 0, cutAn := 1 }) (w0) with tx := [(4, some (a0 9)), (5, some { a0 10 with lease := .none })], jnl := { w0.jnl with resolved := true } } with mci := { w0.mci with running := [⟨⟨0, 0x50, pk 2 [0, 5000000]⟩, .timed [1]⟩] } };
    let q : QCmd := ⟨0, 0x50, pk 2 [0, 5000000]⟩;
    let links : List Nat := [1];
    resetLow s = false ∧ s.mci.running = [⟨q, .timed links⟩] ∧ now s + 1000000 < (q.w 1).toNat) ∧
  (let s : State := (fun s : State => { wfab s with fab := { (wfab s).fab with offers := [{ links := [1], link := 1, an := 1, sa := 4, t := 700, waiting := [6], acked := [], cmd := none }] } }) ({ wy ({ y0 txp0 0 .on with cut := .timed, cutTime := 700, curAn := 0, cutAn := 1 }) (w0) with tx := [(4, some (a0 9)), (5, some { a0 10 with lease := .none })], jnl := { w0.jnl with resolved := true } });
    let links : List Nat := [1];
    let o : Offer := { links := [1], link := 1, an := 1, sa := 4, t := 700, waiting := [6], acked := [], cmd := none };
    let y : Secy := { y0 txp0 0 .on with cut := .timed, cutTime := 700, curAn := 0, cutAn := 1 };
    resetLow s = false ∧ s.mci.running = [] ∧ s.fab.offers.find? (fun o => o.cmd.isNone && o.links == links && decide (o.t ≤ now s + 1000000)) = some o ∧ secyOf s o.link = some y) ∧
  (let s : State := (fun s : State => { wfab s with tx := [(4, some { a0 9 with shared := true, home := 6, homeSa := 20 })], secys := [(1, some (y0 txp0 0 .on))], jnl := { w0.jnl with resolved := true }, fab := { (wfab s).fab with bound := [(6, 8201)] } }) (wkey 8201 .wrapOnly .pair w0);
    let m : CutMsg := ⟨6, 24, 1, 700, [], 0⟩;
    let h : MsgHdr := wmsg s (.cutOffer m);
    let a : Nat := 6;
    heardFrom s h (.cutOffer m) a ∧ resetLow s = false ∧ offerLink s m = none ∧ canReach s m.home = true) := 
  ⟨by decide +kernel,
   by decide +kernel,
   by decide +kernel,
   by decide +kernel,
   by decide +kernel,
   by decide +kernel,
   by decide +kernel,
   ⟨heardFrom_wmsg _ _ (by decide +kernel), by decide +kernel⟩⟩

/-- States and operands that meet the hypotheses of `Obligations.Cuts`, clauses 8 to 15. -/
theorem test_meets_Cuts_c8_15 :
  (let s : State := (fun s : State => { wfab s with tx := [(4, some { a0 9 with shared := true, home := 5, homeSa := 20 })], secys := [(1, some (y0 txp0 0 .on))], fab := { (wfab s).fab with bound := [(5, 8201)], peers := [(5, { Peer.reset with reach := true, cls := 3, hops := 2, nextPort := 3, id := 66 }), (6, { Peer.reset with reach := true, cls := 3, hops := 1, nextPort := 3, id := 66 })] } }) (wkey 8201 .wrapOnly .pair w0);
    let m : CutMsg := ⟨5, 20, 1, 700, [], 0⟩;
    let h : MsgHdr := wmsg s (.cutOffer m);
    let a : Nat := 6;
    let l : Nat := 1;
    let k : Nat := 8201;
    let y : Secy := y0 txp0 0 .on;
    heardFrom s h (.cutOffer m) a ∧ resetLow s = false ∧ offerLink s m = some l ∧ secyOf s l = some y ∧ pairKeySlot s m.home = some k ∧ canReach s m.home = true ∧ a ≠ m.home) ∧
  (let s : State := (fun s : State => { wfab s with tx := [(4, some { a0 9 with shared := true, home := 6, homeSa := 20 })], secys := [(1, some ({ y0 txp0 0 .on with cut := .armed, cutTime := 0, curAn := 0, cutAn := 1 }))], jnl := { w0.jnl with resolved := true }, fab := { (wfab s).fab with bound := [(6, 8201)] } }) (wkey 8201 .wrapOnly .pair w0);
    let m : CutMsg := ⟨6, 20, 1, 700, [], 0⟩;
    let h : MsgHdr := wmsg s (.cutOffer m);
    let a : Nat := 6;
    let l : Nat := 1;
    let k : Nat := 8201;
    let y : Secy := { y0 txp0 0 .on with cut := .armed, cutTime := 0, curAn := 0, cutAn := 1 };
    heardFrom s h (.cutOffer m) a ∧ resetLow s = false ∧ offerLink s m = some l ∧ secyOf s l = some y ∧ pairKeySlot s m.home = some k ∧ canReach s m.home = true ∧ a = m.home ∧ ((txOf s (4 * l + m.an)).isSome = true ∨ y.curAn = m.an ∨ y.cut ≠ .none)) ∧
  (let s : State := (fun s : State => { wfab s with tx := [(4, some { a0 9 with shared := true, home := 6, homeSa := 20 })], secys := [(1, some (y0 txp0 0 .on))], jnl := { w0.jnl with resolved := true }, fab := { (wfab s).fab with bound := [(6, 8201)], unsync := true } }) (wkey 8201 .wrapOnly .pair w0);
    let m : CutMsg := ⟨6, 20, 1, 700, [], 0⟩;
    let h : MsgHdr := wmsg s (.cutOffer m);
    let a : Nat := 6;
    let l : Nat := 1;
    let k : Nat := 8201;
    let y : Secy := y0 txp0 0 .on;
    heardFrom s h (.cutOffer m) a ∧ resetLow s = false ∧ offerLink s m = some l ∧ secyOf s l = some y ∧ pairKeySlot s m.home = some k ∧ canReach s m.home = true ∧ a = m.home ∧ txOf s (4 * l + m.an) = none ∧ y.curAn ≠ m.an ∧ y.cut = .none ∧ s.fab.unsync = true) ∧
  (let s : State := (fun s : State => { s with glb := { s.glb with deg := 0x40 } }) ((fun s : State => { wfab s with tx := [(4, some { a0 9 with shared := true, home := 6, homeSa := 20 })], secys := [(1, some (y0 txp0 0 .on))], jnl := { w0.jnl with resolved := true }, fab := { (wfab s).fab with bound := [(6, 8201)] } }) (wkey 8201 .wrapOnly .pair w0));
    let m : CutMsg := ⟨6, 20, 1, 700, [], 0⟩;
    let h : MsgHdr := wmsg s (.cutOffer m);
    let a : Nat := 6;
    let l : Nat := 1;
    let k : Nat := 8201;
    let y : Secy := y0 txp0 0 .on;
    heardFrom s h (.cutOffer m) a ∧ resetLow s = false ∧ offerLink s m = some l ∧ secyOf s l = some y ∧ pairKeySlot s m.home = some k ∧ canReach s m.home = true ∧ a = m.home ∧ txOf s (4 * l + m.an) = none ∧ y.curAn ≠ m.an ∧ y.cut = .none ∧ s.fab.unsync = false ∧ readOnly s = true) ∧
  (let s : State := (fun s : State => { s with vlt := { s.vlt with unwOn := false } }) ((fun s : State => { wfab s with tx := [(4, some { a0 9 with shared := true, home := 6, homeSa := 20 })], secys := [(1, some (y0 txp0 0 .on))], jnl := { w0.jnl with resolved := true }, fab := { (wfab s).fab with bound := [(6, 8201)] } }) (wkey 8201 .wrapOnly .pair w0));
    let m : CutMsg := ⟨6, 20, 1, 700, [], 0⟩;
    let h : MsgHdr := wmsg s (.cutOffer m);
    let a : Nat := 6;
    let l : Nat := 1;
    let k : Nat := 8201;
    let y : Secy := y0 txp0 0 .on;
    heardFrom s h (.cutOffer m) a ∧ resetLow s = false ∧ offerLink s m = some l ∧ secyOf s l = some y ∧ pairKeySlot s m.home = some k ∧ canReach s m.home = true ∧ a = m.home ∧ txOf s (4 * l + m.an) = none ∧ y.curAn ≠ m.an ∧ y.cut = .none ∧ s.fab.unsync = false ∧ readOnly s = false ∧ unwInSvc s = 0) ∧
  (let s : State := (fun s : State => { wfab s with tx := [(4, some { a0 9 with shared := true, home := 6, homeSa := 20 })], secys := [(1, some (y0 txp0 0 .on))], jnl := { w0.jnl with resolved := true }, fab := { (wfab s).fab with bound := [(6, 8201)] } }) (wkey 8201 .wrapOnly .pair w0);
    let m : CutMsg := ⟨6, 20, 1, 700, [], 0⟩;
    let h : MsgHdr := wmsg s (.cutOffer m);
    let a : Nat := 6;
    let l : Nat := 1;
    let k : Nat := 8201;
    let y : Secy := y0 txp0 0 .on;
    heardFrom s h (.cutOffer m) a ∧ resetLow s = false ∧ offerLink s m = some l ∧ secyOf s l = some y ∧ pairKeySlot s m.home = some k ∧ canReach s m.home = true ∧ a = m.home ∧ txOf s (4 * l + m.an) = none ∧ y.curAn ≠ m.an ∧ y.cut = .none ∧ s.fab.unsync = false ∧ readOnly s = false ∧ unwInSvc s ≠ 0 ∧ usedSlots s isTraffic < 8192) ∧
  (let s : State := (fun s : State => { wfab s with fab := { (wfab s).fab with offers := [{ links := [1], link := 1, an := 1, sa := 4, t := 700, waiting := [6], acked := [], cmd := none }] } }) ({ wy ({ y0 txp0 0 .on with cut := .timed, cutTime := 700, curAn := 0, cutAn := 1 }) (w0) with tx := [(4, some (a0 9)), (5, some { a0 10 with lease := .none })], jnl := { w0.jnl with resolved := true } });
    let m : CutMsg := ⟨2, 4, 1, 700, [], 0⟩;
    let h : MsgHdr := wmsg s (.cutAck m);
    let a : Nat := 6;
    let o : Offer := { links := [1], link := 1, an := 1, sa := 4, t := 700, waiting := [6], acked := [], cmd := none };
    heardFrom s h (.cutAck m) a ∧ resetLow s = false ∧ m.status = 0 ∧ s.fab.offers.find? (fun o => o.sa == m.sa && o.an == m.an && o.waiting.contains a) = some o ∧ o.cmd = none ∧ (∀ x ∈ o.waiting, x = a ∨ x ∈ o.acked) ∧ s.mci.running = []) ∧
  (let s : State := (fun s : State => { wfab s with fab := { (wfab s).fab with offers := [{ links := [1], link := 1, an := 1, sa := 4, t := 700, waiting := [6], acked := [], cmd := some 0 }] } }) ({ { wy ({ y0 txp0 0 .on with cut := .timed, cutTime := 700, curAn := 0, cutAn := 1 }) (w0) with tx := [(4, some (a0 9)), (5, some { a0 10 with lease := .none })], jnl := { w0.jnl with resolved := true } } with mci := { w0.mci with running := [⟨⟨0, 0x50, pk 2 [0, 500000]⟩, .timed [1]⟩] } });
    let m : CutMsg := ⟨2, 4, 1, 700, [], 0⟩;
    let h : MsgHdr := wmsg s (.cutAck m);
    let a : Nat := 6;
    let o : Offer := { links := [1], link := 1, an := 1, sa := 4, t := 700, waiting := [6], acked := [], cmd := some 0 };
    let q : QCmd := ⟨0, 0x50, pk 2 [0, 500000]⟩;
    let n : Nat := 0;
    let ls : List Nat := [1];
    heardFrom s h (.cutAck m) a ∧ resetLow s = false ∧ m.status = 0 ∧ s.fab.offers = [o] ∧ o.sa = m.sa ∧ o.an = m.an ∧ a ∈ o.waiting ∧ o.cmd = some q.id ∧ s.mci.running = [⟨q, .timed ls⟩] ∧ (∀ x ∈ o.waiting, x = a ∨ x ∈ o.acked) ∧ (∀ l ∈ ls, ∃ y, secyOf s l = some y ∧ y.cut = .timed) ∧ q.pkt.req = .hq n ∧ n < 4) := 
  ⟨⟨heardFrom_wmsg _ _ (by decide +kernel), by decide +kernel⟩,
   ⟨heardFrom_wmsg _ _ (by decide +kernel), by decide +kernel⟩,
   ⟨heardFrom_wmsg _ _ (by decide +kernel), by decide +kernel⟩,
   ⟨heardFrom_wmsg _ _ (by decide +kernel), by decide +kernel⟩,
   ⟨heardFrom_wmsg _ _ (by decide +kernel), by decide +kernel⟩,
   ⟨heardFrom_wmsg _ _ (by decide +kernel), by decide +kernel⟩,
   ⟨heardFrom_wmsg _ _ (by decide +kernel), by decide +kernel⟩,
   ⟨heardFrom_wmsg _ _ (by decide +kernel), by decide +kernel⟩⟩

/-- States and operands that meet the hypotheses of `Obligations.Cuts`, clauses 16 to 18. -/
theorem test_meets_Cuts_c16_18 :
  (let s : State := (fun s : State => { wfab s with fab := { (wfab s).fab with offers := [{ links := [1], link := 1, an := 1, sa := 4, t := 700, waiting := [6], acked := [], cmd := none }] } }) ({ wy ({ y0 txp0 0 .on with cut := .timed, cutTime := 700, curAn := 0, cutAn := 1 }) (w0) with tx := [(4, some (a0 9)), (5, some { a0 10 with lease := .none })], jnl := { w0.jnl with resolved := true } });
    let m : CutMsg := ⟨2, 4, 1, 700, [], 0x14⟩;
    let h : MsgHdr := wmsg s (.cutAck m);
    let a : Nat := 6;
    let o : Offer := { links := [1], link := 1, an := 1, sa := 4, t := 700, waiting := [6], acked := [], cmd := none };
    let y : Secy := { y0 txp0 0 .on with cut := .timed, cutTime := 700, curAn := 0, cutAn := 1 };
    heardFrom s h (.cutAck m) a ∧ resetLow s = false ∧ m.status ≠ 0 ∧ s.fab.offers.find? (fun o => o.sa == m.sa && o.an == m.an && o.waiting.contains a) = some o ∧ o.cmd = none ∧ s.mci.running = [] ∧ secyOf s o.link = some y) ∧
  (let s : State := (fun s : State => { wfab s with tx := [(4, some { a0 9 with shared := true, home := 6, homeSa := 20 })], secys := [(1, some ({ y0 txp0 0 .on with cut := .timed, cutTime := 700, curAn := 0, cutAn := 1, cutShared := true }))], jnl := { w0.jnl with resolved := true }, fab := { (wfab s).fab with bound := [(6, 8201)] } }) (wkey 8201 .wrapOnly .pair w0);
    let m : CutMsg := ⟨6, 20, 1, 700, [], 0⟩;
    let h : MsgHdr := wmsg s (.cutAbort m);
    let a : Nat := 6;
    let l : Nat := 1;
    let y : Secy := { y0 txp0 0 .on with cut := .timed, cutTime := 700, curAn := 0, cutAn := 1, cutShared := true };
    heardFrom s h (.cutAbort m) a ∧ resetLow s = false ∧ a = m.home ∧ offerLink s m = some l ∧ secyOf s l = some y ∧ y.cutShared = true ∧ y.cutAn = m.an) ∧
  (let s : State := wfab w0;
    let m : CutMsg := ⟨9, 20, 1, 700, [], 0⟩;
    let h : MsgHdr := wmsg s (.cutAbort m);
    let a : Nat := 6;
    heardFrom s h (.cutAbort m) a ∧ resetLow s = false ∧ a ≠ m.home) := 
  ⟨⟨heardFrom_wmsg _ _ (by decide +kernel), by decide +kernel⟩,
   ⟨heardFrom_wmsg _ _ (by decide +kernel), by decide +kernel⟩,
   ⟨heardFrom_wmsg _ _ (by decide +kernel), by decide +kernel⟩⟩

/-- States and operands that meet the hypotheses of `Obligations.KeyAgreement`, clauses 0 to 7. -/
theorem test_meets_KeyAgreement_c0_7 :
  (let s : State := { w0 with svc := { w0.svc with stopped := true } };
    resetLow s = false ∧ svcRuns s = false) ∧
  (let s : State := w0;
    let v : Que := Que.reset;
    resetLow s = false ∧ svcRuns s = true ∧ queTake (queOf s 4) = (none, v)) ∧
  (let s : State := (fun s : State => { s with que := [(4, { Que.reset with wr := 2, cmt := 2, items := [bodyItem 2 2 1 0 b64] })] }) ((fun s : State => { wy (y0 (txp0 ||| 0x80000000000) 0 .on) s with svc := { s.svc with cas := [(1, { MkCa.reset with enabled := true, prio := 16, suites := 15, offs := 7, rekeyS := 0, first := some { ckn := [1], k256 := false, cak := [], mi := 5, mn := 0, peers := [], ks := none, kn := 0, an := 0, suite := 0, off := 0, txKid := none, rxKid := none, phase := .none, cutT := 0, want := false } })] } }) w0);
    let m : Mkpdu := { bad := true, ckn := [1], sci := 77, mi := 3, mn := 1, prio := 5, listsUs := false, suites := 15, offCap := 2, rxKn := 0, txKn := 0, pnThr := false, version := 3, sends := true, dist := none };
    let it : QItem := bodyItem 2 2 1 0 b64;
    let v : Que := { Que.reset with items := [], wr := 2, cmt := 2, rd := 2 };
    resetLow s = false ∧ svcRuns s = true ∧ queTake (queOf s 4) = (some it, v) ∧ m.bad = true) ∧
  (let s : State := (fun s : State => { s with que := [(4, { Que.reset with wr := 2, cmt := 2, items := [bodyItem 2 2 1 0 b64] })] }) ((fun s : State => { wy (y0 (txp0 ||| 0x80000000000) 0 .on) s with svc := { s.svc with cas := [(1, { MkCa.reset with enabled := true, prio := 16, suites := 15, offs := 7, rekeyS := 0, first := some { ckn := [1], k256 := false, cak := [], mi := 5, mn := 0, peers := [], ks := none, kn := 0, an := 0, suite := 0, off := 0, txKid := none, rxKid := none, phase := .none, cutT := 0, want := false } })] } }) w0);
    let m : Mkpdu := { bad := false, ckn := [2], sci := 77, mi := 3, mn := 1, prio := 5, listsUs := false, suites := 15, offCap := 2, rxKn := 0, txKn := 0, pnThr := false, version := 3, sends := true, dist := none };
    let it : QItem := bodyItem 2 2 1 0 b64;
    let v : Que := { Que.reset with items := [], wr := 2, cmt := 2, rd := 2 };
    let p : MkPart := { ckn := [1], k256 := false, cak := [], mi := 5, mn := 0, peers := [], ks := none, kn := 0, an := 0, suite := 0, off := 0, txKid := none, rxKid := none, phase := .none, cutT := 0, want := false };
    resetLow s = false ∧ svcRuns s = true ∧ queTake (queOf s 4) = (some it, v) ∧ m.bad = false ∧ (∀ p ∈ caParts (caOf s it.link), p.ckn ≠ m.ckn)) ∧
  (let s : State := (fun s : State => { s with que := [(4, { Que.reset with wr := 2, cmt := 2, items := [bodyItem 2 2 1 0 b64] })] }) ((fun s : State => { wy (y0 (txp0 ||| 0x80000000000) 0 .on) s with svc := { s.svc with cas := [(1, { MkCa.reset with enabled := true, prio := 16, suites := 15, offs := 7, rekeyS := 0, first := some { ckn := [1], k256 := false, cak := [], mi := 5, mn := 0, peers := [], ks := none, kn := 0, an := 0, suite := 0, off := 0, txKid := none, rxKid := none, phase := .none, cutT := 0, want := false } })] } }) w0);
    let m : Mkpdu := { bad := false, ckn := [1], sci := 77, mi := 3, mn := 1, prio := 5, listsUs := false, suites := 15, offCap := 2, rxKn := 0, txKn := 0, pnThr := false, version := 4, sends := true, dist := none };
    let it : QItem := bodyItem 2 2 1 0 b64;
    let v : Que := { Que.reset with items := [], wr := 2, cmt := 2, rd := 2 };
    resetLow s = false ∧ svcRuns s = true ∧ queTake (queOf s 4) = (some it, v) ∧ m.bad = false ∧ (m.version = 0 ∨ 3 < m.version)) ∧
  (let s : State := (fun s : State => { s with que := [(4, { Que.reset with wr := 2, cmt := 2, items := [bodyItem 2 2 1 0 b64] })] }) ((fun s : State => { wy (y0 (txp0 ||| 0x80000000000) 0 .on) s with svc := { s.svc with cas := [(1, { MkCa.reset with enabled := true, prio := 16, suites := 15, offs := 7, rekeyS := 0, first := some { ckn := [1], k256 := false, cak := [], mi := 5, mn := 0, peers := [], ks := none, kn := 0, an := 0, suite := 0, off := 0, txKid := none, rxKid := none, phase := .none, cutT := 0, want := false } })] } }) w0);
    let m : Mkpdu := { bad := false, ckn := [1], sci := 77, mi := 3, mn := 1, prio := 5, listsUs := false, suites := 15, offCap := 2, rxKn := 0, txKn := 0, pnThr := false, version := 3, sends := true, dist := none };
    let it : QItem := bodyItem 2 2 1 0 b64;
    let v : Que := { Que.reset with items := [], wr := 2, cmt := 2, rd := 2 };
    let p : MkPart := { ckn := [1], k256 := false, cak := [], mi := 5, mn := 0, peers := [], ks := none, kn := 0, an := 0, suite := 0, off := 0, txKid := none, rxKid := none, phase := .none, cutT := 0, want := false };
    resetLow s = false ∧ svcRuns s = true ∧ queTake (queOf s 4) = (some it, v) ∧ m.bad = false ∧ 1 ≤ m.version ∧ m.version ≤ 3 ∧ (caOf s it.link).enabled = true ∧ (caOf s it.link).first = some p ∧ p.ckn = m.ckn ∧ (caOf s it.link).second = none ∧ p.peers = [] ∧ m.dist = none ∧ p.rxKid = none ∧ p.phase = .none ∧ m.listsUs = false ∧ peersInUse s < 4096) ∧
  (let s : State := (fun s : State => { s with que := [(4, { Que.reset with wr := 2, cmt := 2, items := [bodyItem 2 2 1 0 b64] })] }) ((fun s : State => { wy (y0 (txp0 ||| 0x80000000000) 0 .on) s with svc := { s.svc with cas := [(1, { MkCa.reset with enabled := true, prio := 16, suites := 15, offs := 7, rekeyS := 0, first := some { ckn := [1], k256 := false, cak := [], mi := 5, mn := 0, peers := [], ks := none, kn := 0, an := 0, suite := 0, off := 0, txKid := none, rxKid := none, phase := .none, cutT := 0, want := false } })] } }) w0);
    let m : Mkpdu := { bad := false, ckn := [1], sci := 77, mi := 3, mn := 1, prio := 5, listsUs := true, suites := 15, offCap := 2, rxKn := 0, txKn := 0, pnThr := false, version := 3, sends := true, dist := none };
    let it : QItem := bodyItem 2 2 1 0 b64;
    let v : Que := { Que.reset with items := [], wr := 2, cmt := 2, rd := 2 };
    let p : MkPart := { ckn := [1], k256 := false, cak := [], mi := 5, mn := 0, peers := [], ks := none, kn := 0, an := 0, suite := 0, off := 0, txKid := none, rxKid := none, phase := .none, cutT := 0, want := false };
    resetLow s = false ∧ svcRuns s = true ∧ queTake (queOf s 4) = (some it, v) ∧ m.bad = false ∧ 1 ≤ m.version ∧ m.version ≤ 3 ∧ (caOf s it.link).enabled = true ∧ (caOf s it.link).first = some p ∧ p.ckn = m.ckn ∧ (caOf s it.link).second = none ∧ p.peers = [] ∧ m.dist = none ∧ p.rxKid = none ∧ p.phase = .none ∧ m.listsUs = true ∧ peersInUse s < 4096 ∧ m.prio ≠ 255 ∧ ksBefore (m.prio, m.sci) ((caOf s it.link).prio, ownSci s it.link) = true ∧ m.sci ≠ ownSci s it.link) ∧
  (let s : State := (fun s : State => { s with svc := { s.svc with pool := [{ kid := 8264, link := 1, ckn := [1], role := .ick }] } }) (wkey 8264 .deriveOnly .ick ((fun s : State => { wy (y0 (txp0 ||| 0x80000000000) 0 .on) s with svc := { s.svc with cas := [(1, { MkCa.reset with enabled := true, prio := 16, suites := 15, offs := 7, rekeyS := 0, first := some { ckn := [1], k256 := false, cak := [], mi := 5, mn := 0, peers := [], ks := none, kn := 0, an := 0, suite := 0, off := 0, txKid := none, rxKid := none, phase := .none, cutT := 0, want := false } })] } }) w0));
    let l : Nat := 1;
    let p : MkPart := { ckn := [1], k256 := false, cak := [], mi := 5, mn := 0, peers := [], ks := none, kn := 0, an := 0, suite := 0, off := 0, txKid := none, rxKid := none, phase := .none, cutT := 0, want := false };
    let y : Secy := y0 (txp0 ||| 0x80000000000) 0 .on;
    let body : List Byte := ((mkaPdu l { p with mn := (p.mn + 1) % 2 ^ 32 } s).1).getD [];
    (mkaPdu l { p with mn := (p.mn + 1) % 2 ^ 32 } s).1 = some body ∧ queFits 5 (queOf s 5) (itemUnits body) = true ∧ resetLow s = false ∧ (caOf s l).enabled = true ∧ (caOf s l).first = some p ∧ svcRuns s = true ∧ p.phase = .none ∧ p.want = false ∧ (caOf s l).second = none ∧ secyOf s l = some y ∧ bitAt s.glb.prt (txpPport y.txp) = true ∧ s.glb.mode ≠ .doze) := 
  ⟨by decide +kernel,
   by decide +kernel,
   by decide +kernel,
   by decide +kernel,
   by decide +kernel,
   by decide +kernel,
   by decide +kernel,
   ⟨some_getD _ _ (by decide +kernel), queFits_mkaPdu _ _ _ _ (by decide +kernel), by decide +kernel⟩⟩

/-- States and operands that meet the hypotheses of `Obligations.KeyAgreement`, clauses 8 to 15. -/
theorem test_meets_KeyAgreement_c8_15 :
  (let s : State := (fun s : State => { s with tx := [(4, some (a0 9))] }) ((fun s : State => { wy (y0 (txp0 ||| 0x80000000000) 0 .on) s with svc := { s.svc with cas := [(1, { MkCa.reset with enabled := true, prio := 16, suites := 15, offs := 7, rekeyS := 0, first := some { ckn := [1], k256 := false, cak := [], mi := 5, mn := 0, peers := [{ sci := 77, mi := 3, mn := 1, prio := 5, live := true, suites := 15, offCap := 2, rxKn := 0, txKn := 0, sends := false, sc := none }], ks := some 0x0102030405060001, kn := 0, an := 0, suite := 0, off := 0, txKid := none, rxKid := none, phase := .done, cutT := 0, want := false } })] } }) w0);
    let l : Nat := 1;
    let p : MkPart := { ckn := [1], k256 := false, cak := [], mi := 5, mn := 0, peers := [{ sci := 77, mi := 3, mn := 1, prio := 5, live := true, suites := 15, offCap := 2, rxKn := 0, txKn := 0, sends := false, sc := none }], ks := some 0x0102030405060001, kn := 0, an := 0, suite := 0, off := 0, txKid := none, rxKid := none, phase := .done, cutT := 0, want := false };
    let x : MkPeer := { sci := 77, mi := 3, mn := 1, prio := 5, live := true, suites := 15, offCap := 2, rxKn := 0, txKn := 0, sends := false, sc := none };
    resetLow s = false ∧ (caOf s l).enabled = true ∧ (caOf s l).first = some p ∧ svcRuns s = true ∧ (caOf s l).second = none ∧ p.peers = [x] ∧ x.live = true) ∧
  (let s : State := (fun s : State => { s with tx := [(4, some (a0 9))] }) ((fun s : State => { wy (y0 (txp0 ||| 0x80000000000) 0 .on) s with svc := { s.svc with cas := [(1, { MkCa.reset with enabled := true, prio := 16, suites := 15, offs := 7, rekeyS := 0, first := some { ckn := [1], k256 := false, cak := [], mi := 5, mn := 0, peers := [], ks := none, kn := 0, an := 0, suite := 0, off := 0, txKid := none, rxKid := none, phase := .none, cutT := 0, want := false } })] } }) w0);
    let l : Nat := 1;
    let p : MkPart := { ckn := [1], k256 := false, cak := [], mi := 5, mn := 0, peers := [], ks := none, kn := 0, an := 0, suite := 0, off := 0, txKid := none, rxKid := none, phase := .none, cutT := 0, want := false };
    resetLow s = false ∧ (caOf s l).enabled = true ∧ (caOf s l).first = some p ∧ svcRuns s = true ∧ (caOf s l).second = none ∧ p.peers = []) ∧
  (let s : State := (fun s : State => { s with jnl := { s.jnl with resolved := true } }) ((fun s : State => { wy (y0 (txp0 ||| 0x80000000000) 0 .on) s with svc := { s.svc with cas := [(1, { MkCa.reset with enabled := true, prio := 16, suites := 15, offs := 7, rekeyS := 60, first := some { ckn := [1], k256 := false, cak := [], mi := 5, mn := 0, peers := [{ sci := 77, mi := 3, mn := 1, prio := 5, live := true, suites := 15, offCap := 2, rxKn := 0, txKn := 0, sends := false, sc := none }], ks := some 0x0102030405060001, kn := 0, an := 0, suite := 0, off := 0, txKid := none, rxKid := none, phase := .done, cutT := 0, want := false } })] } }) w0);
    let l : Nat := 1;
    let p : MkPart := { ckn := [1], k256 := false, cak := [], mi := 5, mn := 0, peers := [{ sci := 77, mi := 3, mn := 1, prio := 5, live := true, suites := 15, offCap := 2, rxKn := 0, txKn := 0, sends := false, sc := none }], ks := some 0x0102030405060001, kn := 0, an := 0, suite := 0, off := 0, txKid := none, rxKid := none, phase := .done, cutT := 0, want := false };
    let y : Secy := y0 (txp0 ||| 0x80000000000) 0 .on;
    resetLow s = false ∧ (caOf s l).enabled = true ∧ (caOf s l).first = some p ∧ svcRuns s = true ∧ linkKs s l = true ∧ (caOf s l).ending = false ∧ (caOf s l).rekeyS ≠ 0 ∧ secyOf s l = some y ∧ drbgOn s = true ∧ drbgFull s = false ∧ unwInSvc s ≠ 0 ∧ s.glb.deg.getLsbD 7 = false ∧ anBusy s l ((p.an + 1) % 4) = false ∧ readOnly s = false ∧ usedSlots s isTraffic ≤ 8190) ∧
  (let s : State := (fun s : State => { wy (y0 (txp0 ||| 0x80000000000) 0 .on) s with svc := { s.svc with cas := [(1, { MkCa.reset with enabled := true, prio := 16, suites := 15, offs := 7, rekeyS := 0, first := some { ckn := [1], k256 := false, cak := [], mi := 5, mn := 0, peers := [{ sci := 77, mi := 3, mn := 1, prio := 5, live := true, suites := 15, offCap := 2, rxKn := 0, txKn := 0, sends := false, sc := none }], ks := some 0x0102030405060001, kn := 0, an := 0, suite := 0, off := 0, txKid := none, rxKid := none, phase := .done, cutT := 0, want := false } })] } }) w0;
    let l : Nat := 1;
    resetLow s = false ∧ (linkKs s l = false ∨ svcRuns s = false ∨ (caOf s l).rekeyS = 0)) ∧
  (let s : State := (fun s : State => { s with rx := [(1, some (a0 9))], sct := { s.sct with scs := [(0, some { link := 1, sci := 77 })] }, ing := { s.ing with frames := [] } }) ((fun s : State => { wy (y0 (txp0 ||| 0x80000000000) 0 .on) s with svc := { s.svc with cas := [(1, { MkCa.reset with enabled := true, prio := 16, suites := 15, offs := 7, rekeyS := 0, first := some { ckn := [1], k256 := false, cak := [], mi := 5, mn := 0, peers := [{ sci := 77, mi := 3, mn := 1, prio := 5, live := true, suites := 15, offCap := 2, rxKn := 0, txKn := 0, sends := false, sc := none }], ks := some 0x0102030405060001, kn := 0, an := 0, suite := 0, off := 0, txKid := none, rxKid := none, phase := .done, cutT := 0, want := false } })] } }) w0);
    let l : Nat := 1;
    let sc : Nat := 0;
    let an : Nat := 1;
    let c : Sc := { link := 1, sci := 77 };
    resetLow s = false ∧ scOf s sc = some c ∧ c.link = l ∧ (∀ p ∈ caParts (caOf s l), p.an ≠ an ∨ p.phase = .none) ∧ linkMka s l = true ∧ svcRuns s = true ∧ (rxOf s (4 * sc + an)).isSome = true ∧ saBusy s .ing (4 * sc + an) = false) ∧
  (let s : State := (fun s : State => { s with rx := [(1, some (a0 9))], sct := { s.sct with scs := [(0, some { link := 1, sci := 77 })] }, ing := { s.ing with frames := [{ g0 1 0 .crypt b64 with saIdx := 1 }] } }) ((fun s : State => { wy (y0 (txp0 ||| 0x80000000000) 0 .on) s with svc := { s.svc with cas := [(1, { MkCa.reset with enabled := true, prio := 16, suites := 15, offs := 7, rekeyS := 0, first := some { ckn := [1], k256 := false, cak := [], mi := 5, mn := 0, peers := [{ sci := 77, mi := 3, mn := 1, prio := 5, live := true, suites := 15, offCap := 2, rxKn := 0, txKn := 0, sends := false, sc := none }], ks := some 0x0102030405060001, kn := 0, an := 0, suite := 0, off := 0, txKid := none, rxKid := none, phase := .done, cutT := 0, want := false } })] } }) w0);
    let l : Nat := 1;
    let sc : Nat := 0;
    let an : Nat := 1;
    let c : Sc := { link := 1, sci := 77 };
    let a : Sa := a0 9;
    resetLow s = false ∧ scOf s sc = some c ∧ c.link = l ∧ (∀ p ∈ caParts (caOf s l), p.an ≠ an ∨ p.phase = .none) ∧ linkMka s l = true ∧ svcRuns s = true ∧ rxOf s (4 * sc + an) = some a ∧ saBusy s .ing (4 * sc + an) = true) ∧
  (let s : State := (fun s : State => { s with rx := [(1, some (a0 9))], sct := { s.sct with scs := [(0, some { link := 1, sci := 77 })] }, ing := { s.ing with frames := [] } }) ((fun s : State => { wy (y0 (txp0 ||| 0x80000000000) 0 .on) s with svc := { s.svc with cas := [(1, { MkCa.reset with enabled := true, prio := 16, suites := 15, offs := 7, rekeyS := 0, first := some { ckn := [1], k256 := false, cak := [], mi := 5, mn := 0, peers := [{ sci := 77, mi := 3, mn := 1, prio := 5, live := true, suites := 15, offCap := 2, rxKn := 0, txKn := 0, sends := false, sc := none }], ks := some 0x0102030405060001, kn := 0, an := 0, suite := 0, off := 0, txKid := none, rxKid := none, phase := .done, cutT := 0, want := false } })] } }) w0);
    let l : Nat := 1;
    let sc : Nat := 0;
    let an : Nat := 0;
    let p : MkPart := { ckn := [1], k256 := false, cak := [], mi := 5, mn := 0, peers := [{ sci := 77, mi := 3, mn := 1, prio := 5, live := true, suites := 15, offCap := 2, rxKn := 0, txKn := 0, sends := false, sc := none }], ks := some 0x0102030405060001, kn := 0, an := 0, suite := 0, off := 0, txKid := none, rxKid := none, phase := .done, cutT := 0, want := false };
    resetLow s = false ∧ p ∈ caParts (caOf s l) ∧ p.an = an ∧ p.phase ≠ .none) ∧
  (let s : State := (fun s : State => { wy (y0 (txp0 ||| 0x80000000000) 0 .on) s with svc := { s.svc with cas := [(1, { MkCa.reset with enabled := true, prio := 16, suites := 15, offs := 7, rekeyS := 0, first := some { ckn := [1], k256 := false, cak := [], mi := 5, mn := 0, peers := [], ks := none, kn := 0, an := 0, suite := 0, off := 0, txKid := none, rxKid := none, phase := .none, cutT := 0, want := false }, second := some { ckn := [1], k256 := false, cak := [], mi := 5, mn := 0, peers := [{ sci := 77, mi := 3, mn := 1, prio := 5, live := true, suites := 15, offCap := 2, rxKn := 0, txKn := 0, sends := false, sc := none }], ks := some 0x0102030405060001, kn := 0, an := 0, suite := 0, off := 0, txKid := none, rxKid := none, phase := .done, cutT := 0, want := false }, ending := true })] } }) w0;
    let l : Nat := 1;
    resetLow s = false ∧ (caOf s l).ending = true) := 
  ⟨by decide +kernel,
   by decide +kernel,
   by decide +kernel,
   by decide +kernel,
   by decide +kernel,
   by decide +kernel,
   by decide +kernel,
   by decide +kernel⟩

/-- States and operands that meet the hypotheses of `Obligations.KeyAgreement`, clause 16. -/
theorem test_meets_KeyAgreement_c16 :
  (let s : State := (fun s : State => { wy (y0 (txp0 ||| 0x80000000000) 0 .on) s with svc := { s.svc with cas := [(1, { MkCa.reset with enabled := true, prio := 16, suites := 15, offs := 7, rekeyS := 0, first := some { ckn := [1], k256 := false, cak := [], mi := 5, mn := 0, peers := [], ks := none, kn := 0, an := 0, suite := 0, off := 0, txKid := none, rxKid := none, phase := .none, cutT := 0, want := false } })] } }) w0;
    let l : Nat := 1;
    resetLow s = false ∧ (caOf s l).ending = false) := by decide +kernel

/-- States and operands that meet the hypotheses of `Obligations.DozeAndWake`, clauses 0 to 7. -/
theorem test_meets_DozeAndWake_c0_7 :
  (let s : State := { wegr [f0 1 0 .crypt] (wing [f0 2 0 .crypt] w0) with glb := { (wegr [f0 1 0 .crypt] (wing [f0 2 0 .crypt] w0)).glb with change := some ⟨.toDoze, none⟩ } };
    let c : Option Nat := none;
    resetLow s = false ∧ s.glb.change = some ⟨.toDoze, c⟩ ∧ (∀ f ∈ s.egr.frames ++ s.ing.frames, f.ended = true)) ∧
  (let s : State := { wegr [f0 1 0 .crypt] w0 with glb := { (wegr [f0 1 0 .crypt] w0).glb with change := some ⟨.toDoze, none⟩ } };
    let c : Option Nat := none;
    let f : Frame := f0 1 0 .crypt;
    resetLow s = false ∧ s.glb.change = some ⟨.toDoze, c⟩ ∧ s.egr.frames = [f] ∧ s.ing.frames = [] ∧ f.ended = true ∧ f.started = false ∧ f.fate ≠ .discard) ∧
  (let s : State := w0;
    resetLow s = false ∧ s.glb.change.all (fun c => c.kind != .toDoze) = true) ∧
  (let s : State := w0;
    resetLow s = false ∧ (s.glb.change.all (fun c => c.kind != .toDoze) = true ∨ pathsEmpty s = false ∨ (dirtyLines s = [] ∧ cxmBusy s = true))) ∧
  (let s : State := { { w0 with cis := { w0.cis with lines := [(4097, some { slot := 1, dirty := true })] } } with glb := { ({ w0 with cis := { w0.cis with lines := [(4097, some { slot := 1, dirty := true })] } }).glb with change := some ⟨.toDoze, none⟩ } };
    let c : Option Nat := none;
    resetLow s = false ∧ s.glb.change = some ⟨.toDoze, c⟩ ∧ pathsEmpty s = true ∧ dirtyLines s ≠ []) ∧
  (let s : State := { { w0 with cxm := { w0.cxm with leaves := [(3, some { ents := [(1, (3, 0))], dirty := true, used := 1 })] } } with glb := { ({ w0 with cxm := { w0.cxm with leaves := [(3, some { ents := [(1, (3, 0))], dirty := true, used := 1 })] } }).glb with change := some ⟨.toDoze, none⟩ } };
    let c : Option Nat := none;
    resetLow s = false ∧ s.glb.change = some ⟨.toDoze, c⟩ ∧ pathsEmpty s = true ∧ dirtyLines s = [] ∧ cxmBusy s = false ∧ leavesDirty s = true) ∧
  (let s : State := { (wtx (a0 9) (wlines [4, 4097] w0)) with glb := { ((wtx (a0 9) (wlines [4, 4097] w0))).glb with change := some ⟨.toDoze, none⟩ } };
    let c : Option Nat := none;
    resetLow s = false ∧ s.glb.change = some ⟨.toDoze, c⟩ ∧ pathsEmpty s = true ∧ dirtyLines s = [] ∧ cxmBusy s = false ∧ leavesDirty s = false ∧ (s.cxm.trusted = false ∨ s.cxm.nodesOut = true)) ∧
  (let s : State := { { w0 with cxm := { w0.cxm with trusted := true } } with glb := { ({ w0 with cxm := { w0.cxm with trusted := true } }).glb with change := some ⟨.toDoze, none⟩ } };
    let c : Option Nat := none;
    resetLow s = false ∧ s.glb.change = some ⟨.toDoze, c⟩ ∧ pathsEmpty s = true ∧ dirtyLines s = [] ∧ cxmBusy s = false ∧ leavesDirty s = false ∧ s.cxm.trusted = true ∧ s.cxm.nodesOut = false) := 
  ⟨by decide +kernel,
   by decide +kernel,
   by decide +kernel,
   by decide +kernel,
   by decide +kernel,
   by decide +kernel,
   by decide +kernel,
   by decide +kernel⟩

/-- States and operands that meet the hypotheses of `Obligations.DozeAndWake`, clauses 8 to 15. -/
theorem test_meets_DozeAndWake_c8_15 :
  (let s : State := wmode .doze w0;
    resetLow s = false ∧ s.glb.mode = .doze ∧ s.glb.change = none) ∧
  (let s : State := { w0 with glb := { (w0).glb with change := some ⟨.toDoze, none⟩ } };
    resetLow s = false ∧ (s.glb.mode = .doze ∨ s.glb.change.any (fun c => c.kind == .toDoze) = true) ∧ (s.glb.mode ≠ .doze ∨ s.glb.change ≠ none)) ∧
  (let s : State := w0;
    resetLow s = false ∧ s.glb.mode ≠ .doze ∧ s.glb.change.all (fun c => c.kind != .toDoze) = true) ∧
  (let s : State := { wy ({ y0 txp0 0 .on with cut := .timed, cutTime := 500, curAn := 0, cutAn := 1 }) w0 with glb := { w0.glb with mode := .doze } };
    ((bitAt s.aon.wakeCfg 2 = true ∧ s.aon.wakeTime.toNat ≤ now s) ∨ (∃ l, ∃ y, secyOf s l = some y ∧ y.cut = .timed ∧ y.cutTime < 2 ^ 64 - 1 ∧ y.cutTime ≤ now s + 100000)) ∧ resetLow s = false ∧ s.glb.mode = .doze ∧ s.glb.change = none) ∧
  (let s : State := w0;
    resetLow s = false ∧ (bitAt s.aon.wakeCfg 2 = false ∨ now s < s.aon.wakeTime.toNat) ∧ now s + 100000 < nextCut s) ∧
  (let s : State := { w0 with glb := { (w0).glb with change := some ⟨.waking, none⟩, mode := .doze } };
    let c : Option Nat := none;
    resetLow s = false ∧ s.glb.change = some ⟨.waking, c⟩ ∧ wakeWaits s = false ∧ s.vlt.drbgStop = false ∧ (∀ r ∈ s.mci.running, r.wait ≠ .wake)) ∧
  (let s : State := w0;
    resetLow s = false ∧ (s.glb.change.all (fun c => c.kind != .waking) = true ∨ wakeWaits s = true)) ∧
  (let s : State := { w0 with glb := { (w0).glb with change := some ⟨.waking, none⟩, mode := .doze } };
    let c : Option Nat := none;
    resetLow s = false ∧ s.glb.change = some ⟨.waking, c⟩) := 
  ⟨by decide +kernel,
   by decide +kernel,
   by decide +kernel,
   ⟨Or.inr ⟨1, _, rfl, by decide +kernel⟩, by decide +kernel⟩,
   by decide +kernel,
   by decide +kernel,
   by decide +kernel,
   by decide +kernel⟩

/-- States and operands that meet the hypotheses of `Obligations.DozeAndWake`, clauses 16 to 18. -/
theorem test_meets_DozeAndWake_c16_18 :
  (let s : State := w0;
    resetLow s = false ∧ s.glb.change.all (fun c => c.kind != .waking) = true) ∧
  (let s : State := { (wtx (a0 9) (wrx (a0 10) (wkey 9 .encOnly .traffic (wy (y0 txp0 0 .off) w0)))) with glb := { ((wtx (a0 9) (wrx (a0 10) (wkey 9 .encOnly .traffic (wy (y0 txp0 0 .off) w0))))).glb with change := some ⟨.toCold, none⟩ } };
    let c : Option Nat := none;
    resetLow s = false ∧ s.glb.change = some ⟨.toCold, c⟩ ∧ allOff s = true) ∧
  (let s : State := w0;
    resetLow s = false ∧ (s.glb.change.all (fun c => c.kind != .toCold) = true ∨ allOff s = false)) := 
  ⟨by decide +kernel,
   by decide +kernel,
   by decide +kernel⟩

/-- States and operands that meet the hypotheses of `Obligations.PortBringUp`, clauses 0 to 7. -/
theorem test_meets_PortBringUp_c0_7 :
  (let s : State := (fun s : State => { s with fab := { s.fab with ports := [(3, { Port.reset with en := true, st := .train })] } }) (wfab w0);
    let p : Nat := 3;
    let n : Nat := 12;
    resetLow s = false ∧ n < 32 ∧ p = n / 4 ∧ (portOf s p).st ≠ .detect) ∧
  (let s : State := (fun s : State => { s with fab := { s.fab with ports := [(3, { Port.reset with en := true, st := .detect, sig := 1, cdr := 1, rdy := 0 })] } }) (wfab w0);
    let p : Nat := 3;
    let n : Nat := 12;
    resetLow s = false ∧ n < 32 ∧ p = n / 4 ∧ (portOf s p).st = .detect ∧ (portOf s p).en = true ∧ (portOf s p).down = false ∧ (portOf s p).test = false ∧ (portOf s p).backoff = false ∧ (portOf s p).held = false) ∧
  (let s : State := (fun s : State => { s with fab := { s.fab with ports := [(3, { Port.reset with en := true, st := .train })] } }) (wfab w0);
    let p : Nat := 3;
    let n : Nat := 12;
    resetLow s = false ∧ n < 32 ∧ p = n / 4 ∧ (portOf s p).st ≠ .detect) ∧
  (let s : State := (fun s : State => { s with fab := { s.fab with ports := [(3, { Port.reset with en := true, st := .detect, sig := 0, cdr := 0, rdy := 1 })] } }) (wfab w0);
    let p : Nat := 3;
    let n : Nat := 12;
    resetLow s = false ∧ n < 32 ∧ p = n / 4 ∧ (portOf s p).st = .detect ∧ (portOf s p).en = true ∧ (portOf s p).down = false ∧ (portOf s p).test = false ∧ (portOf s p).backoff = false ∧ (portOf s p).held = false) ∧
  (let s : State := (fun s : State => { s with fab := { s.fab with ports := [(3, { Port.reset with en := true, st := .detect })] } }) (wfab w0);
    let p : Nat := 3;
    let n : Nat := 12;
    resetLow s = false ∧ n < 32 ∧ p = n / 4 ∧ laneInUse (portOf s p) (n % 4) = false) ∧
  (let s : State := (fun s : State => { s with fab := { s.fab with ports := [(3, { Port.reset with en := true, st := .detect, cdr := 1 })] } }) (wfab w0);
    let p : Nat := 3;
    let n : Nat := 12;
    resetLow s = false ∧ n < 32 ∧ p = n / 4 ∧ laneInUse (portOf s p) (n % 4) = false) ∧
  (let s : State := (fun s : State => { s with fab := { s.fab with ports := [(3, { Port.reset with en := true, st := .active, width := 1, widthUse := 1, sig := 3, cdr := 3, rdy := 3, locked := 3, laneMap := 0xE4, adj := true, peerAddr := some 6, peerClass := 3, peerKeyOk := true })] } }) (wfab w0);
    let p : Nat := 3;
    let n : Nat := 12;
    resetLow s = false ∧ n < 32 ∧ p = n / 4 ∧ (portOf s p).en = true ∧ (portOf s p).down = false ∧ (portOf s p).test = false ∧ (portOf s p).backoff = false ∧ (portOf s p).held = false ∧ laneInUse (portOf s p) (n % 4) = true ∧ (portOf s p).probing = false ∧ isPermanent s.fab.retryCfg (stampAdd (portOf s p).stamps (now s)) = false) ∧
  (let s : State := (fun s : State => { s with fab := { s.fab with ports := [(3, { Port.reset with en := true, st := .train, width := 1, widthUse := 1, sig := 3, cdr := 3, rdy := 3, stamps := [0] })], retryCfg := 0x00010001 } }) (wfab w0);
    let p : Nat := 3;
    let n : Nat := 12;
    resetLow s = false ∧ n < 32 ∧ p = n / 4 ∧ laneInUse (portOf s p) (n % 4) = true ∧ (portOf s p).probing = false ∧ isPermanent s.fab.retryCfg (stampAdd (portOf s p).stamps (now s)) = true) := 
  ⟨by decide +kernel,
   by decide +kernel,
   by decide +kernel,
   by decide +kernel,
   by decide +kernel,
   by decide +kernel,
   by decide +kernel,
   by decide +kernel⟩

/-- States and operands that meet the hypotheses of `Obligations.PortBringUp`, clauses 8 to 15. -/
theorem test_meets_PortBringUp_c8_15 :
  (let s : State := (fun s : State => { s with fab := { s.fab with ports := [(3, { Port.reset with en := true, st := .detect, sig := 1, cdr := 1, rdy := 0 })] } }) (wfab w0);
    let p : Nat := 3;
    let l : Nat := 0;
    resetLow s = false ∧ (8 ≤ p ∨ lanePresent (portOf s p) l = false)) ∧
  (let s : State := (fun s : State => { s with fab := { s.fab with ports := [(3, { Port.reset with en := true, st := .lock, width := 1, widthUse := 1, sig := 3, cdr := 3, rdy := 3, locked := 3, laneMap := 0xE4 })] } }) (wfab w0);
    let p : Nat := 3;
    let l : Nat := 0;
    resetLow s = false ∧ p < 8 ∧ lanePresent (portOf s p) l = true) ∧
  (let s : State := (fun s : State => { s with fab := { s.fab with ports := [(3, { Port.reset with en := true, st := .train, width := 1, widthUse := 1, sig := 3, cdr := 3, rdy := 3 })] } }) (wfab w0);
    let p : Nat := 3;
    let l : Nat := 0;
    let bus : BitVec 132 := 0;
    resetLow s = false ∧ p < 8 ∧ lanePresent (portOf s p) l = true ∧ syncOk (straight (portOf s p) l (bus.extractLsb' 0 66)) = false ∧ (portOf s p).locked.getLsbD l = false) ∧
  (let s : State := (fun s : State => { s with fab := { s.fab with ports := [(3, { Port.reset with en := true, st := .active, width := 1, widthUse := 1, sig := 3, cdr := 3, rdy := 3, locked := 3, laneMap := 0xE4, adj := true, peerAddr := some 6, peerClass := 3, peerKeyOk := true })] } }) (wfab w0);
    let p : Nat := 3;
    let l : Nat := 0;
    let m : Leader := { inverted := false, lane := 0, width := 1, spine := false, phase := 0, rxLocked := true, deskewed := true, tseq := 0 };
    let bus : BitVec 132 := bus0 m;
    leads s p l bus m ∧ resetLow s = false ∧ ((portOf s p).st = .active ∨ (portOf s p).st = .caps ∨ (portOf s p).st = .detect ∨ (portOf s p).st = .absent ∨ (portOf s p).st = .off)) ∧
  (let s : State := (fun s : State => { s with fab := { s.fab with ports := [(3, { Port.reset with en := true, st := .train, width := 1, widthUse := 1, sig := 3, cdr := 3, rdy := 3, locked := 2, laneMap := 0xE4, hdrs := [(0, 63)] })] } }) (wfab w0);
    let p : Nat := 3;
    let l : Nat := 0;
    let m : Leader := { inverted := false, lane := 0, width := 1, spine := false, phase := 0, rxLocked := true, deskewed := true, tseq := 0 };
    let bus : BitVec 132 := bus0 m;
    leads s p l bus m ∧ resetLow s = false ∧ (portOf s p).st = .train ∧ lanesReady (learnLane l m { portHears l bus (portOf s p) with rseq := smSet 0 (portOf s p).rseq l (m.tseq + 1) }) (laneCount (portOf s p).widthUse) = true) ∧
  (let s : State := (fun s : State => { s with fab := { s.fab with ports := [(3, { Port.reset with en := true, st := .train, width := 1, widthUse := 1, sig := 3, cdr := 3, rdy := 3 })] } }) (wfab w0);
    let p : Nat := 3;
    let l : Nat := 0;
    let m : Leader := { inverted := false, lane := 0, width := 1, spine := false, phase := 0, rxLocked := true, deskewed := true, tseq := 0 };
    let bus : BitVec 132 := bus0 m;
    leads s p l bus m ∧ resetLow s = false ∧ (portOf s p).st = .train ∧ lanesReady (learnLane l m { portHears l bus (portOf s p) with rseq := smSet 0 (portOf s p).rseq l (m.tseq + 1) }) (laneCount (portOf s p).widthUse) = false) ∧
  (let s : State := (fun s : State => { s with fab := { s.fab with ports := [(3, { Port.reset with en := true, st := .lock, width := 1, widthUse := 1, sig := 3, cdr := 3, rdy := 3, locked := 3, laneMap := 0xE4 })] } }) (wfab w0);
    let p : Nat := 3;
    let l : Nat := 0;
    let m : Leader := { inverted := false, lane := 0, width := 1, spine := false, phase := 0, rxLocked := true, deskewed := true, tseq := 0 };
    let bus : BitVec 132 := bus0 m;
    leads s p l bus m ∧ resetLow s = false ∧ (portOf s p).st = .lock ∧ deskewed { portHears l bus (portOf s p) with rseq := smSet 0 (portOf s p).rseq l (m.tseq + 1) } = true ∧ m.rxLocked = true ∧ m.deskewed = true ∧ m.width = (portOf s p).widthUse ∧ m.lane = 0 ∧ (portOf s p).lockRun < 15) ∧
  (let s : State := (fun s : State => { s with fab := { s.fab with ports := [(3, { Port.reset with en := true, st := .lock, width := 1, widthUse := 1, sig := 3, cdr := 3, rdy := 3, locked := 3, laneMap := 0xE4, lockRun := 15 })] } }) (wfab w0);
    let p : Nat := 3;
    let l : Nat := 0;
    let m : Leader := { inverted := false, lane := 0, width := 1, spine := false, phase := 0, rxLocked := true, deskewed := true, tseq := 0 };
    let bus : BitVec 132 := bus0 m;
    leads s p l bus m ∧ resetLow s = false ∧ (portOf s p).st = .lock ∧ deskewed { portHears l bus (portOf s p) with rseq := smSet 0 (portOf s p).rseq l (m.tseq + 1) } = true ∧ m.rxLocked = true ∧ m.deskewed = true ∧ m.width = (portOf s p).widthUse ∧ m.lane = 0 ∧ 15 ≤ (portOf s p).lockRun) := 
  ⟨by decide +kernel,
   by decide +kernel,
   by decide +kernel,
   ⟨leads_of _ _ _ _ _ (by decide +kernel), by decide +kernel⟩,
   ⟨leads_of _ _ _ _ _ (by decide +kernel), by decide +kernel⟩,
   ⟨leads_of _ _ _ _ _ (by decide +kernel), by decide +kernel⟩,
   ⟨leads_of _ _ _ _ _ (by decide +kernel), by decide +kernel⟩,
   ⟨leads_of _ _ _ _ _ (by decide +kernel), by decide +kernel⟩⟩

/-- States and operands that meet the hypotheses of `Obligations.PortBringUp`, clauses 16 to 23. -/
theorem test_meets_PortBringUp_c16_23 :
  (let s : State := (fun s : State => { s with fab := { s.fab with ports := [(3, { Port.reset with en := true, st := .lock, width := 1, widthUse := 1, sig := 3, cdr := 3, rdy := 3, locked := 3, laneMap := 0xE4 })] } }) (wfab w0);
    let p : Nat := 3;
    let l : Nat := 0;
    let m : Leader := { inverted := false, lane := 1, width := 1, spine := false, phase := 0, rxLocked := true, deskewed := true, tseq := 0 };
    let bus : BitVec 132 := bus0 m;
    leads s p l bus m ∧ resetLow s = false ∧ (portOf s p).st = .lock ∧ deskewed { portHears l bus (portOf s p) with rseq := smSet 0 (portOf s p).rseq l (m.tseq + 1) } = true ∧ m.rxLocked = true ∧ m.deskewed = true ∧ m.width = (portOf s p).widthUse ∧ m.lane ≠ 0 ∧ (portOf s p).lockRun < 16) ∧
  (let s : State := (fun s : State => { s with fab := { s.fab with ports := [(3, { Port.reset with en := true, st := .lock, width := 1, widthUse := 1, sig := 3, cdr := 3, rdy := 3, locked := 3, laneMap := 0xE4 })] } }) (wfab w0);
    let p : Nat := 3;
    let l : Nat := 0;
    let m : Leader := { inverted := false, lane := 0, width := 1, spine := false, phase := 0, rxLocked := false, deskewed := true, tseq := 0 };
    let bus : BitVec 132 := bus0 m;
    leads s p l bus m ∧ resetLow s = false ∧ (portOf s p).st = .lock ∧ (deskewed { portHears l bus (portOf s p) with rseq := smSet 0 (portOf s p).rseq l (m.tseq + 1) } = false ∨ m.rxLocked = false ∨ m.deskewed = false ∨ m.width ≠ (portOf s p).widthUse)) ∧
  (let s : State := (fun s : State => { s with fab := { s.fab with ports := [(3, { Port.reset with en := true, st := .caps, width := 1, widthUse := 1, sig := 3, cdr := 3, rdy := 3, locked := 3, laneMap := 0xE4 })] } }) (wfab w0);
    let p : Nat := 3;
    let m : Caps := { id := 66, cls := 3, major := 2, minor := 4, addr := some 6, port := 1, width := 1, rate := false, spine := false, rcvd := false, prio := 9, hasKey := true, unsync := false, paired := false, keyCheck := 0 };
    let h : MsgHdr := wmsg s (.caps m);
    resetLow s = false ∧ p = h.port ∧ (portOf s p).st = .caps ∧ m.width = (portOf s p).widthUse ∧ m.rate = (portOf s p).rate ∧ (portOf s p).capsSent = false) ∧
  (let s : State := (fun s : State => { s with fab := { s.fab with ports := [(3, { Port.reset with en := true, st := .caps, width := 1, widthUse := 1, sig := 3, cdr := 3, rdy := 3, locked := 3, laneMap := 0xE4, capsSent := true })] } }) (wfab w0);
    let p : Nat := 3;
    let m : Caps := { id := 66, cls := 3, major := 2, minor := 4, addr := some 6, port := 1, width := 1, rate := false, spine := false, rcvd := true, prio := 9, hasKey := true, unsync := false, paired := false, keyCheck := 0 };
    let h : MsgHdr := wmsg s (.caps m);
    resetLow s = false ∧ p = h.port ∧ (portOf s p).st = .caps ∧ m.width = (portOf s p).widthUse ∧ m.rate = (portOf s p).rate ∧ (portOf s p).capsSent = true ∧ m.rcvd = true) ∧
  (let s : State := (fun s : State => { s with fab := { s.fab with ports := [(3, { Port.reset with en := true, st := .caps, width := 1, widthUse := 1, sig := 3, cdr := 3, rdy := 3, locked := 3, laneMap := 0xE4 })] } }) (wfab w0);
    let p : Nat := 3;
    let m : Caps := { id := 66, cls := 3, major := 2, minor := 4, addr := some 6, port := 1, width := 2, rate := false, spine := false, rcvd := false, prio := 9, hasKey := true, unsync := false, paired := false, keyCheck := 0 };
    let h : MsgHdr := wmsg s (.caps m);
    resetLow s = false ∧ p = h.port ∧ (portOf s p).st = .caps ∧ (m.width ≠ (portOf s p).widthUse ∨ m.rate ≠ (portOf s p).rate) ∧ (portOf s p).probing = false ∧ (portOf s p).fails + 1 < failLimit s) ∧
  (let s : State := (fun s : State => { s with fab := { s.fab with ports := [(3, { Port.reset with en := true, st := .active, width := 1, widthUse := 1, sig := 3, cdr := 3, rdy := 3, locked := 3, laneMap := 0xE4, adj := true, peerAddr := some 6, peerClass := 3, peerKeyOk := true })] } }) (wfab w0);
    let p : Nat := 3;
    let m : Caps := { id := 66, cls := 3, major := 2, minor := 4, addr := some 6, port := 1, width := 1, rate := false, spine := false, rcvd := false, prio := 9, hasKey := true, unsync := false, paired := false, keyCheck := 0 };
    let h : MsgHdr := wmsg s (.caps m);
    resetLow s = false ∧ p = h.port ∧ (portOf s p).st = .active) ∧
  (let s : State := (fun s : State => { s with fab := { s.fab with ports := [(3, { Port.reset with en := true, st := .caps, width := 1, widthUse := 1, sig := 3, cdr := 3, rdy := 3, locked := 3, laneMap := 0xE4, capsGot := true })] } }) (wfab w0);
    let p : Nat := 3;
    resetLow s = false ∧ (portOf s p).st = .caps ∧ (portOf s p).capsAck = false) ∧
  (let s : State := (fun s : State => { s with fab := { s.fab with ports := [(3, { Port.reset with en := true, st := .caps, width := 1, widthUse := 1, sig := 3, cdr := 3, rdy := 3, locked := 3, laneMap := 0xE4, capsGot := true, capsAck := true })] } }) (wfab w0);
    let p : Nat := 3;
    resetLow s = false ∧ (portOf s p).st = .caps ∧ (portOf s p).capsAck = true ∧ (portOf s p).capsGot = true) := 
  ⟨⟨leads_of _ _ _ _ _ (by decide +kernel), by decide +kernel⟩,
   ⟨leads_of _ _ _ _ _ (by decide +kernel), by decide +kernel⟩,
   by decide +kernel,
   by decide +kernel,
   by decide +kernel,
   by decide +kernel,
   by decide +kernel,
   by decide +kernel⟩

/-- States and operands that meet the hypotheses of `Obligations.PortBringUp`, clauses 24 to 31. -/
theorem test_meets_PortBringUp_c24_31 :
  (let s : State := (fun s : State => { s with fab := { s.fab with ports := [(3, { Port.reset with en := true, st := .active, width := 1, widthUse := 1, sig := 3, cdr := 3, rdy := 3, locked := 3, laneMap := 0xE4, adj := true, peerAddr := some 6, peerClass := 3, peerKeyOk := true })] } }) (wfab w0);
    let p : Nat := 3;
    resetLow s = false ∧ (portOf s p).st ≠ .caps) ∧
  (let s : State := (fun s : State => { s with fab := { s.fab with ports := [(1, { Port.reset with en := true, st := .train, width := 1, widthUse := 1, sig := 3, cdr := 3, rdy := 3, locked := 1, laneMap := 0xE4 })] } }) (wfab w0);
    let p : Nat := 1;
    let w : Nat := 0;
    resetLow s = false ∧ (portOf s p).st = .train ∧ fallback p (portOf s p) = some w) ∧
  (let s : State := (fun s : State => { s with fab := { s.fab with ports := [(3, { Port.reset with en := true, st := .lock, width := 1, widthUse := 1, sig := 3, cdr := 3, rdy := 3, locked := 3, laneMap := 0xE4 })] } }) (wfab w0);
    let p : Nat := 3;
    resetLow s = false ∧ (((portOf s p).st = .train ∧ fallback p (portOf s p) = none) ∨ (portOf s p).st = .lock ∨ (portOf s p).st = .caps) ∧ (portOf s p).probing = false ∧ (portOf s p).fails + 1 < failLimit s) ∧
  (let s : State := (fun s : State => { s with fab := { s.fab with ports := [(3, { Port.reset with en := true, st := .lock, width := 1, widthUse := 1, sig := 3, cdr := 3, rdy := 3, locked := 3, laneMap := 0xE4, fails := 8 })] } }) (wfab w0);
    let p : Nat := 3;
    resetLow s = false ∧ (((portOf s p).st = .train ∧ fallback p (portOf s p) = none) ∨ (portOf s p).st = .lock ∨ (portOf s p).st = .caps) ∧ (portOf s p).probing = false ∧ failLimit s ≤ (portOf s p).fails + 1) ∧
  (let s : State := (fun s : State => { s with fab := { s.fab with ports := [(3, { Port.reset with en := true, st := .lock, width := 1, widthUse := 1, sig := 3, cdr := 3, rdy := 3, locked := 3, laneMap := 0xE4, probing := true })] } }) (wfab w0);
    let p : Nat := 3;
    resetLow s = false ∧ (((portOf s p).st = .train ∧ fallback p (portOf s p) = none) ∨ (portOf s p).st = .lock ∨ (portOf s p).st = .caps) ∧ (portOf s p).probing = true) ∧
  (let s : State := (fun s : State => { s with fab := { s.fab with ports := [(3, { Port.reset with en := true, st := .active, width := 1, widthUse := 1, sig := 3, cdr := 3, rdy := 3, locked := 3, laneMap := 0xE4, adj := true, peerAddr := some 6, peerClass := 3, peerKeyOk := true })] } }) (wfab w0);
    let p : Nat := 3;
    resetLow s = false ∧ ((portOf s p).st = .off ∨ (portOf s p).st = .detect ∨ (portOf s p).st = .active ∨ (portOf s p).st = .idle ∨ (portOf s p).st = .absent)) ∧
  (let s : State := (fun s : State => { s with fab := { s.fab with ports := [(3, { Port.reset with en := true, st := .detect, sig := 1, cdr := 1, rdy := 1, backoff := true })] } }) (wfab w0);
    let p : Nat := 3;
    resetLow s = false ∧ (portOf s p).backoff = true ∧ (portOf s p).st = .detect ∧ (portOf s p).en = true ∧ (portOf s p).down = false ∧ (portOf s p).test = false ∧ (portOf s p).held = false) ∧
  (let s : State := (fun s : State => { s with fab := { s.fab with ports := [(3, { Port.reset with en := true, st := .detect, sig := 1, cdr := 1, rdy := 0 })] } }) (wfab w0);
    let p : Nat := 3;
    resetLow s = false ∧ (portOf s p).backoff = false) := 
  ⟨by decide +kernel,
   by decide +kernel,
   by decide +kernel,
   by decide +kernel,
   by decide +kernel,
   by decide +kernel,
   by decide +kernel,
   by decide +kernel⟩

/-- States and operands that meet the hypotheses of `Obligations.PortBringUp`, clauses 32 to 39. -/
theorem test_meets_PortBringUp_c32_39 :
  (let s : State := (fun s : State => { s with fab := { s.fab with ports := [(3, { Port.reset with en := true, st := .absent, rdy := 1, sig := 1, cdr := 1 })] } }) (wfab w0);
    let p : Nat := 3;
    resetLow s = false ∧ (portOf s p).st = .absent ∧ (portOf s p).en = true ∧ (portOf s p).down = false) ∧
  (let s : State := (fun s : State => { s with fab := { s.fab with ports := [(3, { Port.reset with en := true, st := .detect, sig := 1, cdr := 1, rdy := 0 })] } }) (wfab w0);
    let p : Nat := 3;
    resetLow s = false ∧ ((portOf s p).st ≠ .absent ∨ (portOf s p).en = false ∨ (portOf s p).down = true)) ∧
  (let s : State := (fun s : State => { s with fab := { s.fab with ports := [(3, { Port.reset with en := true, st := .detect, sig := 1, cdr := 1, rdy := 1, held := true })] } }) (wfab w0);
    let p : Nat := 3;
    resetLow s = false ∧ (portOf s p).held = true ∧ (portOf s p).st = .detect ∧ (portOf s p).en = true ∧ (portOf s p).down = false ∧ (portOf s p).test = false) ∧
  (let s : State := (fun s : State => { s with fab := { s.fab with ports := [(3, { Port.reset with en := true, st := .detect, sig := 1, cdr := 1, rdy := 0 })] } }) (wfab w0);
    let p : Nat := 3;
    resetLow s = false ∧ (portOf s p).held = false) ∧
  (let s : State := (fun s : State => { s with fab := { s.fab with ports := [(3, { Port.reset with en := true, st := .active, width := 1, widthUse := 1, sig := 3, cdr := 3, rdy := 3, locked := 3, laneMap := 0xE4, adj := true, peerAddr := some 6, peerClass := 3, peerKeyOk := true })] } }) (wfab w0);
    let p : Nat := 3;
    resetLow s = false ∧ ((portOf s p).st = .active ∨ (portOf s p).st = .caps) ∧ ((portOf s p).st = .caps ∨ (List.length (((portOf s p).errAt ++ [now s]).filter (fun x => decide (now s - x ≤ errWin s)))) < errThr s)) ∧
  (let s : State := (fun s : State => { s with fab := { s.fab with ports := [(3, { Port.reset with en := true, st := .active, width := 1, widthUse := 1, sig := 3, cdr := 3, rdy := 3, locked := 3, laneMap := 0xE4, adj := true, peerAddr := some 6, peerClass := 3, peerKeyOk := true, errAt := List.replicate 255 0 })] } }) (wfab w0);
    let p : Nat := 3;
    resetLow s = false ∧ (portOf s p).st = .active ∧ errThr s ≤ (List.length (((portOf s p).errAt ++ [now s]).filter (fun x => decide (now s - x ≤ errWin s)))) ∧ isPermanent s.fab.retryCfg (stampAdd (portOf s p).stamps (now s)) = false) ∧
  (let s : State := (fun s : State => { s with fab := { s.fab with ports := [(3, { Port.reset with en := true, st := .detect, sig := 1, cdr := 1, rdy := 0 })] } }) (wfab w0);
    let p : Nat := 3;
    resetLow s = false ∧ (portOf s p).st ≠ .active ∧ (portOf s p).st ≠ .caps) ∧
  (let s : State := (fun s : State => { s with fab := { s.fab with ports := [(3, { Port.reset with en := true, st := .lock, width := 1, widthUse := 1, sig := 3, cdr := 3, rdy := 3, locked := 3, laneMap := 0xE4 })] } }) (wfab w0);
    let p : Nat := 3;
    let l : Nat := 0;
    let b : BitVec 66 := 2;
    resetLow s = false ∧ p < 8 ∧ lanePresent (portOf s p) l = true ∧ bringUp (portOf s p) = true ∧ (portOf s p).locked.getLsbD l = true ∧ ((portOf s p).st ≠ .active ∨ (List.length (((portOf s p).errAt ++ [now s]).filter (fun x => decide (now s - x ≤ errWin s)))) < errThr s) ∧ blockErr b = some .controlType) := 
  ⟨by decide +kernel,
   by decide +kernel,
   by decide +kernel,
   by decide +kernel,
   by decide +kernel,
   by decide +kernel,
   by decide +kernel,
   by decide +kernel⟩

/-- States and operands that meet the hypotheses of `Obligations.PortBringUp`, clauses 40 to 47. -/
theorem test_meets_PortBringUp_c40_47 :
  (let s : State := (fun s : State => { s with fab := { s.fab with ports := [(3, { Port.reset with en := true, st := .lock, width := 1, widthUse := 1, sig := 3, cdr := 3, rdy := 3, locked := 3, laneMap := 0xE4, badHdr := [(0, List.replicate 15 0)] })] } }) (wfab w0);
    let p : Nat := 3;
    let l : Nat := 0;
    let b : BitVec 66 := 0;
    resetLow s = false ∧ p < 8 ∧ lanePresent (portOf s p) l = true ∧ (portOf s p).en = true ∧ (portOf s p).down = false ∧ (portOf s p).test = false ∧ (portOf s p).backoff = false ∧ (portOf s p).held = false ∧ bringUp (portOf s p) = true ∧ (portOf s p).st ≠ .active ∧ (portOf s p).locked.getLsbD l = true ∧ (portOf s p).probing = false ∧ isPermanent s.fab.retryCfg (stampAdd (portOf s p).stamps (now s)) = false ∧ blockErr b = some .syncHeader ∧ 15 ≤ ((smGet [] (portOf s p).badHdr l).filter (fun x => decide (now s - x ≤ blocks64 (portOf s p)))).length) ∧
  (let s : State := (fun s : State => { s with fab := { s.fab with ports := [(3, { Port.reset with en := true, st := .detect, sig := 1, cdr := 1, rdy := 0 })] } }) (wfab w0);
    let p : Nat := 3;
    let l : Nat := 0;
    let b : BitVec 66 := 2;
    resetLow s = false ∧ (bringUp (portOf s p) = false ∨ (portOf s p).locked.getLsbD l = false) ∧ blockErr b = some .controlType) ∧
  (let s : State := (fun s : State => { s with fab := { s.fab with ports := [(3, { Port.reset with en := true, st := .lock, width := 1, widthUse := 1, sig := 3, cdr := 3, rdy := 3, locked := 3, laneMap := 0xE4 })] } }) (wfab w0);
    let p : Nat := 3;
    let l : Nat := 0;
    let b : BitVec 66 := 1;
    resetLow s = false ∧ (8 ≤ p ∨ lanePresent (portOf s p) l = false ∨ blockErr b = none)) ∧
  (let s : State := (fun s : State => { s with fab := { s.fab with ports := [(3, { Port.reset with en := true, st := .active, width := 1, widthUse := 1, sig := 3, cdr := 3, rdy := 3, locked := 3, laneMap := 0xE4, adj := true, peerAddr := some 6, peerClass := 3, peerKeyOk := true })] } }) (wfab w0);
    let p : Nat := 3;
    resetLow s = false ∧ (portOf s p).en = true ∧ (portOf s p).down = false ∧ (portOf s p).test = false ∧ (portOf s p).backoff = false ∧ (portOf s p).held = false ∧ (portOf s p).st = .active ∧ (portOf s p).probing = false ∧ isPermanent s.fab.retryCfg (stampAdd (portOf s p).stamps (now s)) = false) ∧
  (let s : State := (fun s : State => { s with fab := { s.fab with ports := [(3, { Port.reset with en := true, st := .lock, width := 1, widthUse := 1, sig := 3, cdr := 3, rdy := 3, locked := 3, laneMap := 0xE4 })] } }) (wfab w0);
    let p : Nat := 3;
    resetLow s = false ∧ (portOf s p).st ≠ .active) ∧
  (let s : State := (fun s : State => { s with fab := { s.fab with ports := [(3, { Port.reset with en := true, st := .lock, width := 1, widthUse := 1, sig := 3, cdr := 3, rdy := 3, locked := 3, laneMap := 0xE4, adj := true })] } }) (wfab w0);
    let p : Nat := 3;
    resetLow s = false ∧ (portOf s p).adj = true ∧ ((portOf s p).st = .detect ∨ (portOf s p).st = .train ∨ (portOf s p).st = .lock ∨ (portOf s p).st = .caps) ∧ s.fab.engineId ≠ 0) ∧
  (let s : State := (fun s : State => { s with fab := { s.fab with ports := [(3, { Port.reset with en := true, st := .active, width := 1, widthUse := 1, sig := 3, cdr := 3, rdy := 3, locked := 3, laneMap := 0xE4, adj := true, peerAddr := some 6, peerClass := 3, peerKeyOk := true })] } }) (wfab w0);
    let p : Nat := 3;
    resetLow s = false ∧ ((portOf s p).adj = false ∨ (portOf s p).st = .active ∨ ((portOf s p).st = .idle ∧ (portOf s p).exiting = false))) ∧
  (let s : State := (fun s : State => { s with fab := { s.fab with ports := [(3, { Port.reset with en := true, st := .active, width := 1, widthUse := 1, sig := 3, cdr := 3, rdy := 3, locked := 3, laneMap := 0xE4, adj := true, peerAddr := some 6, peerClass := 3, peerKeyOk := true, down := true })] } }) (wfab w0);
    let p : Nat := 3;
    resetLow s = false ∧ (portOf s p).down = true ∧ (portOf s p).deferred = none) := 
  ⟨by decide +kernel,
   by decide +kernel,
   by decide +kernel,
   by decide +kernel,
   by decide +kernel,
   by decide +kernel,
   by decide +kernel,
   by decide +kernel⟩

/-- States and operands that meet the hypotheses of `Obligations.PortBringUp`, clauses 48 to 49. -/
theorem test_meets_PortBringUp_c48_49 :
  (let s : State := (fun s : State => { s with fab := { s.fab with ports := [(3, { Port.reset with en := false, st := .detect, down := true, deferred := some (1, false), rdy := 1, sig := 1, cdr := 1 })] } }) (wfab w0);
    let p : Nat := 3;
    let w : Nat := 1;
    let r : Bool := false;
    resetLow s = false ∧ (portOf s p).down = true ∧ (portOf s p).deferred = some (w, r) ∧ portGated s p = false) ∧
  (let s : State := (fun s : State => { s with fab := { s.fab with ports := [(3, { Port.reset with en := true, st := .active, width := 1, widthUse := 1, sig := 3, cdr := 3, rdy := 3, locked := 3, laneMap := 0xE4, adj := true, peerAddr := some 6, peerClass := 3, peerKeyOk := true })] } }) (wfab w0);
    let p : Nat := 3;
    resetLow s = false ∧ (portOf s p).down = false) := 
  ⟨by decide +kernel,
   by decide +kernel⟩

/-- States and operands that meet the hypotheses of `Obligations.PortIdleAndTest`, clauses 0 to 7. -/
theorem test_meets_PortIdleAndTest_c0_7 :
  (let s : State := (fun s : State => { s with fab := { s.fab with ports := [(3, { Port.reset with en := true, st := .active, width := 1, widthUse := 1, sig := 3, cdr := 3, rdy := 3, locked := 3, laneMap := 0xE4, adj := true, peerAddr := some 6, peerClass := 3, peerKeyOk := true })] } }) (wfab w0);
    let p : Nat := 3;
    resetLow s = false ∧ (portOf s p).st = .active) ∧
  (let s : State := (fun s : State => { s with fab := { s.fab with ports := [(3, { Port.reset with en := true, st := .lock, width := 1, widthUse := 1, sig := 3, cdr := 3, rdy := 3, locked := 3, laneMap := 0xE4 })] } }) (wfab w0);
    let p : Nat := 3;
    resetLow s = false ∧ (portOf s p).st ≠ .active) ∧
  (let s : State := (fun s : State => { s with fab := { s.fab with ports := [(3, { Port.reset with en := true, st := .active, width := 1, widthUse := 1, sig := 3, cdr := 3, rdy := 3, locked := 3, laneMap := 0xE4, adj := true, peerAddr := some 6, peerClass := 3, peerKeyOk := true })] } }) ({ (wfab w0) with mci := { w0.mci with running := [⟨⟨0, 0x6C, pk 1 [3]⟩, .port 3⟩] } });
    let p : Nat := 3;
    resetLow s = false ∧ (portOf s p).st = .active) ∧
  (let s : State := (fun s : State => { s with fab := { s.fab with ports := [(3, { Port.reset with en := true, st := .active, width := 1, widthUse := 1, sig := 3, cdr := 3, rdy := 3, locked := 3, laneMap := 0xE4, adj := true, peerAddr := some 6, peerClass := 3, peerKeyOk := true })] } }) ({ (wfab w0) with mci := { w0.mci with running := [⟨⟨0, 0x6C, pk 1 [3]⟩, .port 3⟩] } });
    let p : Nat := 3;
    resetLow s = false ∧ (portOf s p).st = .active) ∧
  (let s : State := (fun s : State => { s with fab := { s.fab with ports := [(3, { Port.reset with en := true, st := .lock, width := 1, widthUse := 1, sig := 3, cdr := 3, rdy := 3, locked := 3, laneMap := 0xE4 })] } }) (wfab w0);
    let p : Nat := 3;
    resetLow s = false ∧ (portOf s p).st ≠ .active) ∧
  (let s : State := (fun s : State => { s with fab := { s.fab with ports := [(3, { Port.reset with en := true, st := .lock, width := 1, widthUse := 1, sig := 3, cdr := 3, rdy := 3, locked := 3, laneMap := 0xE4 })] } }) (wfab w0);
    let p : Nat := 3;
    resetLow s = false ∧ (portOf s p).st ≠ .active) ∧
  (let s : State := (fun s : State => { s with fab := { s.fab with ports := [(3, { Port.reset with en := true, st := .idle, width := 1, widthUse := 1, sig := 3, cdr := 3, rdy := 3, locked := 3, laneMap := 0xE4, adj := true, peerAddr := some 6, peerClass := 3, peerKeyOk := true })] } }) (wfab w0);
    let p : Nat := 3;
    let l : Nat := 0;
    let m : Leader := { inverted := false, lane := 0, width := 1, spine := false, phase := 5, rxLocked := true, deskewed := true, tseq := 0 };
    let bus : BitVec 132 := bus0 m;
    leads s p l bus m ∧ resetLow s = false ∧ (portOf s p).st = .idle ∧ (portOf s p).exiting = false ∧ m.phase = 5) ∧
  (let s : State := (fun s : State => { s with fab := { s.fab with ports := [(3, { Port.reset with en := true, st := .idle, width := 1, widthUse := 1, sig := 3, cdr := 3, rdy := 3, locked := 3, laneMap := 0xE4, adj := true, peerAddr := some 6, peerClass := 3, peerKeyOk := true })] } }) (wfab w0);
    let p : Nat := 3;
    let l : Nat := 0;
    let m : Leader := { inverted := false, lane := 0, width := 1, spine := false, phase := 0, rxLocked := true, deskewed := true, tseq := 0 };
    let bus : BitVec 132 := bus0 m;
    leads s p l bus m ∧ resetLow s = false ∧ (portOf s p).st = .idle ∧ (portOf s p).exiting = false ∧ m.phase ≠ 5) := 
  ⟨by decide +kernel,
   by decide +kernel,
   by decide +kernel,
   by decide +kernel,
   by decide +kernel,
   by decide +kernel,
   ⟨leads_of _ _ _ _ _ (by decide +kernel), by decide +kernel⟩,
   ⟨leads_of _ _ _ _ _ (by decide +kernel), by decide +kernel⟩⟩

/-- States and operands that meet the hypotheses of `Obligations.PortIdleAndTest`, clauses 8 to 15. -/
theorem test_meets_PortIdleAndTest_c8_15 :
  (let s : State := (fun s : State => { s with fab := { s.fab with ports := [(3, { Port.reset with en := true, st := .idle, width := 1, widthUse := 1, sig := 3, cdr := 3, rdy := 3, locked := 3, laneMap := 0xE4, adj := true, peerAddr := some 6, peerClass := 3, peerKeyOk := true, exiting := true })] } }) (wfab w0);
    let p : Nat := 3;
    let l : Nat := 0;
    let m : Leader := { inverted := false, lane := 0, width := 1, spine := false, phase := 0, rxLocked := true, deskewed := true, tseq := 0 };
    let bus : BitVec 132 := bus0 m;
    leads s p l bus m ∧ resetLow s = false ∧ (portOf s p).st = .idle ∧ (portOf s p).exiting = true) ∧
  (let s : State := (fun s : State => { s with fab := { s.fab with ports := [(3, { Port.reset with en := true, st := .idle, width := 1, widthUse := 1, sig := 3, cdr := 3, rdy := 3, locked := 3, laneMap := 0xE4, adj := true, peerAddr := some 6, peerClass := 3, peerKeyOk := true })] } }) (wfab w0);
    let p : Nat := 3;
    let a : Nat := 6;
    resetLow s = false ∧ (portOf s p).st = .idle ∧ (portOf s p).exiting = false ∧ (portOf s p).peerAddr = some a ∧ (peerOf s a).reach = true) ∧
  (let s : State := (fun s : State => { s with fab := { s.fab with ports := [(3, { Port.reset with en := true, st := .idle, width := 1, widthUse := 1, sig := 3, cdr := 3, rdy := 3, locked := 3, laneMap := 0xE4, adj := true, peerAddr := some 6, peerClass := 3, peerKeyOk := true })] } }) ({ wfab w0 with fab := { (wfab w0).fab with peers := [] } });
    let p : Nat := 3;
    let a : Nat := 6;
    resetLow s = false ∧ (portOf s p).st = .idle ∧ (portOf s p).exiting = false ∧ (portOf s p).peerAddr = some a ∧ (peerOf s a).reach = false) ∧
  (let s : State := (fun s : State => { s with fab := { s.fab with ports := [(3, { Port.reset with en := true, st := .idle, width := 1, widthUse := 1, sig := 3, cdr := 3, rdy := 3, locked := 3, laneMap := 0xE4, adj := true, peerAddr := some 6, peerClass := 3, peerKeyOk := true, exiting := true, lockRun := 2 })] } }) ({ (wfab w0) with mci := { w0.mci with running := [⟨⟨0, 0x6C, pk 1 [3]⟩, .port 3⟩] } });
    let p : Nat := 3;
    resetLow s = false ∧ (portOf s p).st = .idle ∧ (portOf s p).exiting = true ∧ (portOf s p).lockRun ≠ 0) ∧
  (let s : State := (fun s : State => { s with fab := { s.fab with ports := [(3, { Port.reset with en := true, st := .idle, width := 1, widthUse := 1, sig := 3, cdr := 3, rdy := 3, locked := 3, laneMap := 0xE4, adj := true, peerAddr := some 6, peerClass := 3, peerKeyOk := true, exiting := true })] } }) ({ (wfab w0) with mci := { w0.mci with running := [⟨⟨0, 0x6C, pk 1 [3]⟩, .port 3⟩] } });
    let p : Nat := 3;
    resetLow s = false ∧ (portOf s p).st = .idle ∧ (portOf s p).exiting = true ∧ (portOf s p).lockRun = 0) ∧
  (let s : State := (fun s : State => { s with fab := { s.fab with ports := [(3, { Port.reset with en := true, st := .active, width := 1, widthUse := 1, sig := 3, cdr := 3, rdy := 3, locked := 3, laneMap := 0xE4, adj := true, peerAddr := some 6, peerClass := 3, peerKeyOk := true })] } }) (wfab w0);
    let p : Nat := 3;
    resetLow s = false ∧ (portOf s p).st ≠ .idle) ∧
  (let s : State := (fun s : State => { s with fab := { s.fab with ports := [(3, { Port.reset with en := true, st := .detect, test := true, width := 1, prbsCtl := 0x390 })] } }) (wfab w0);
    let p : Nat := 3;
    resetLow s = false ∧ (portOf s p).test = true ∧ bitAt (portOf s p).prbsCtl 7 = true) ∧
  (let s : State := (fun s : State => { s with fab := { s.fab with ports := [(3, { Port.reset with en := true, st := .active, width := 1, widthUse := 1, sig := 3, cdr := 3, rdy := 3, locked := 3, laneMap := 0xE4, adj := true, peerAddr := some 6, peerClass := 3, peerKeyOk := true })] } }) (wfab w0);
    let p : Nat := 3;
    resetLow s = false ∧ ((portOf s p).test = false ∨ bitAt (portOf s p).prbsCtl 7 = false)) := 
  ⟨⟨leads_of _ _ _ _ _ (by decide +kernel), by decide +kernel⟩,
   by decide +kernel,
   by decide +kernel,
   by decide +kernel,
   by decide +kernel,
   by decide +kernel,
   by decide +kernel,
   by decide +kernel⟩

/-- States and operands that meet the hypotheses of `Obligations.PortIdleAndTest`, clauses 16 to 23. -/
theorem test_meets_PortIdleAndTest_c16_23 :
  (let s : State := (fun s : State => { s with fab := { s.fab with ports := [(3, { Port.reset with en := true, st := .detect, test := true, width := 1, prbsCtl := 0x40, prbs := [(0, { Prbs.reset with lock := false, run := 1000, bits := 0, bad := 0 })] })] } }) (wfab w0);
    let p : Nat := 3;
    let l : Nat := 0;
    let bits : Nat := 64;
    let errs : Nat := 0;
    resetLow s = false ∧ (portOf s p).test = true ∧ bitAt (portOf s p).prbsCtl 6 = true ∧ l < laneCount (portOf s p).width ∧ (smGet .reset (portOf s p).prbs l).lock = false ∧ errs = 0 ∧ 1024 ≤ (smGet .reset (portOf s p).prbs l).run + bits) ∧
  (let s : State := (fun s : State => { s with fab := { s.fab with ports := [(3, { Port.reset with en := true, st := .detect, test := true, width := 1, prbsCtl := 0x40, prbs := [(0, { Prbs.reset with lock := false, run := 1000, bits := 0, bad := 0 })] })] } }) (wfab w0);
    let p : Nat := 3;
    let l : Nat := 0;
    let errs : Nat := 1;
    resetLow s = false ∧ (portOf s p).test = true ∧ bitAt (portOf s p).prbsCtl 6 = true ∧ l < laneCount (portOf s p).width ∧ (smGet .reset (portOf s p).prbs l).lock = false ∧ errs ≠ 0) ∧
  (let s : State := (fun s : State => { s with fab := { s.fab with ports := [(3, { Port.reset with en := true, st := .detect, test := true, width := 1, prbsCtl := 0x40, prbs := [(0, { Prbs.reset with lock := false, run := 10, bits := 0, bad := 0 })] })] } }) (wfab w0);
    let p : Nat := 3;
    let l : Nat := 0;
    let bits : Nat := 64;
    let errs : Nat := 0;
    resetLow s = false ∧ (portOf s p).test = true ∧ bitAt (portOf s p).prbsCtl 6 = true ∧ l < laneCount (portOf s p).width ∧ (smGet .reset (portOf s p).prbs l).lock = false ∧ errs = 0 ∧ (smGet .reset (portOf s p).prbs l).run + bits < 1024) ∧
  (let s : State := (fun s : State => { s with fab := { s.fab with ports := [(3, { Port.reset with en := true, st := .detect, test := true, width := 1, prbsCtl := 0x40, prbs := [(0, { Prbs.reset with lock := true, run := 0, bits := 0, bad := 0 })] })] } }) (wfab w0);
    let p : Nat := 3;
    let l : Nat := 0;
    let bits : Nat := 64;
    let errs : Nat := 2;
    resetLow s = false ∧ (portOf s p).test = true ∧ bitAt (portOf s p).prbsCtl 6 = true ∧ l < laneCount (portOf s p).width ∧ (smGet .reset (portOf s p).prbs l).lock = true ∧ (smGet .reset (portOf s p).prbs l).bad + errs < 64 ∧ (smGet .reset (portOf s p).prbs l).bits + bits < 1024) ∧
  (let s : State := (fun s : State => { s with fab := { s.fab with ports := [(3, { Port.reset with en := true, st := .detect, test := true, width := 1, prbsCtl := 0x40, prbs := [(0, { Prbs.reset with lock := true, run := 0, bits := 0, bad := 60 })] })] } }) (wfab w0);
    let p : Nat := 3;
    let l : Nat := 0;
    let errs : Nat := 9;
    resetLow s = false ∧ (portOf s p).test = true ∧ bitAt (portOf s p).prbsCtl 6 = true ∧ l < laneCount (portOf s p).width ∧ (smGet .reset (portOf s p).prbs l).lock = true ∧ 64 ≤ (smGet .reset (portOf s p).prbs l).bad + errs) ∧
  (let s : State := (fun s : State => { s with fab := { s.fab with ports := [(3, { Port.reset with en := true, st := .detect, test := true, width := 1, prbsCtl := 0x40, prbs := [(0, { Prbs.reset with lock := true, run := 0, bits := 1000, bad := 0 })] })] } }) (wfab w0);
    let p : Nat := 3;
    let l : Nat := 0;
    let bits : Nat := 64;
    let errs : Nat := 1;
    resetLow s = false ∧ (portOf s p).test = true ∧ bitAt (portOf s p).prbsCtl 6 = true ∧ l < laneCount (portOf s p).width ∧ (smGet .reset (portOf s p).prbs l).lock = true ∧ (smGet .reset (portOf s p).prbs l).bad + errs < 64 ∧ 1024 ≤ (smGet .reset (portOf s p).prbs l).bits + bits) ∧
  (let s : State := (fun s : State => { s with fab := { s.fab with ports := [(3, { Port.reset with en := true, st := .active, width := 1, widthUse := 1, sig := 3, cdr := 3, rdy := 3, locked := 3, laneMap := 0xE4, adj := true, peerAddr := some 6, peerClass := 3, peerKeyOk := true })] } }) (wfab w0);
    let p : Nat := 3;
    let l : Nat := 0;
    resetLow s = false ∧ ((portOf s p).test = false ∨ bitAt (portOf s p).prbsCtl 6 = false ∨ laneCount (portOf s p).width ≤ l)) ∧
  (let s : State := (fun s : State => { s with fab := { s.fab with ports := [(3, { Port.reset with en := true, st := .active, width := 1, widthUse := 1, sig := 3, cdr := 3, rdy := 3, locked := 3, laneMap := 0xE4, adj := true, peerAddr := some 6, peerClass := 3, peerKeyOk := true })] } }) (wfab w0);
    let p : Nat := 3;
    s.pending = [] ∧ s.aon.porLow = false ∧ s.tst.tck = s.tst.tckWas ∧ p < 8 ∧ pdIsOn s (portDomain p) = true) := 
  ⟨by decide +kernel,
   by decide +kernel,
   by decide +kernel,
   by decide +kernel,
   by decide +kernel,
   by decide +kernel,
   by decide +kernel,
   by decide +kernel⟩

/-- States and operands that meet the hypotheses of `Obligations.PortIdleAndTest`, clauses 24 to 25. -/
theorem test_meets_PortIdleAndTest_c24_25 :
  (let x : Port := Port.reset;
    (x.st = .off ∨ x.st = .absent) ∧ x.test = false) ∧
  (let x : Port := { Port.reset with st := .active, rdy := 1 };
    quiet x = false ∧ x.rdy &&& laneEn x ≠ 0) := 
  ⟨by decide +kernel,
   by decide +kernel⟩

/-- States and operands that meet the hypotheses of `Obligations.FabricNetwork`, clauses 0 to 7. -/
theorem test_meets_FabricNetwork_c0_7 :
  (let s : State := wfab w0;
    let p : Nat := 3;
    resetLow s = false ∧ (portOf s p).st = .active) ∧
  (let s : State := wfab w0;
    let p : Nat := 4;
    resetLow s = false ∧ (portOf s p).st ≠ .active) ∧
  (let s : State := wfab w0;
    let m : Sys2Proof.Hello := { id := 66, addr := some 6, cls := 3, port := 1, unsync := true, paired := false };
    let h : MsgHdr := wmsg s (.hello m);
    let p : Nat := 3;
    heard s h (.hello m) ∧ resetLow s = false ∧ p = h.port ∧ m.addr = (portOf s p).peerAddr ∧ m.cls = (portOf s p).peerClass) ∧
  (let s : State := wfab w0;
    let m : Sys2Proof.Hello := { id := 66, addr := some 7, cls := 3, port := 1, unsync := true, paired := false };
    let h : MsgHdr := wmsg s (.hello m);
    let p : Nat := 3;
    heard s h (.hello m) ∧ resetLow s = false ∧ p = h.port ∧ m.addr ≠ (portOf s p).peerAddr ∧ s.fab.engineId ≠ 0) ∧
  (let s : State := (fun s : State => { s with fab := { s.fab with lsdb := [{ addr := some 9, id := 88, seq := 5, partner := none, home := none, adjs := [], cls := 3, keyCheck := 0, prio := 9, unsync := false }] } }) (wfab w0);
    let m : Sys2Proof.Lsa := { addr := some 9, id := 88, seq := 6, partner := none, home := none, adjs := [], cls := 3, keyCheck := 0, prio := 9, unsync := false };
    let h : MsgHdr := wmsg s (.lsa m);
    heard s h (.lsa m) ∧ resetLow s = false ∧ m.id ≠ s.fab.engineId ∧ (∀ l, lsaOf s m.id = some l → l.seq < m.seq)) ∧
  (let s : State := (fun s : State => { s with fab := { s.fab with lsdb := [{ addr := some 9, id := 88, seq := 5, partner := none, home := none, adjs := [], cls := 3, keyCheck := 0, prio := 9, unsync := false }] } }) (wfab w0);
    let m : Sys2Proof.Lsa := { addr := some 9, id := 88, seq := 5, partner := none, home := none, adjs := [], cls := 3, keyCheck := 0, prio := 9, unsync := false };
    let h : MsgHdr := wmsg s (.lsa m);
    let l : Lsa := { addr := some 9, id := 88, seq := 5, partner := none, home := none, adjs := [], cls := 3, keyCheck := 0, prio := 9, unsync := false };
    heard s h (.lsa m) ∧ resetLow s = false ∧ lsaOf s m.id = some l ∧ m.seq ≤ l.seq) ∧
  (let s : State := wfab w0;
    let m : Sys2Proof.Lsa := { addr := some 9, id := 88, seq := 6, partner := none, home := none, adjs := [], cls := 3, keyCheck := 0, prio := 9, unsync := false };
    let h : MsgHdr := wbad s (.lsa m);
    h.mac ≠ msgMac s h (.lsa m) ∧ resetLow s = false ∧ (portOf s h.port).st = .active) ∧
  (let s : State := wfab w0;
    let m : Sys2Proof.Lsa := { addr := some 2, id := 66, seq := 1, partner := none, home := none, adjs := [], cls := 3, keyCheck := 0, prio := 9, unsync := false };
    let h : MsgHdr := wmsg s (.lsa m);
    let a : Nat := 2;
    heard s h (.lsa m) ∧ resetLow s = false ∧ m.id.toNat < s.fab.engineId.toNat ∧ (∀ l, lsaOf s m.id = some l → l.seq < m.seq) ∧ s.fab.addr = some a ∧ m.addr = some a ∧ keepsAddr s = false) := 
  ⟨by decide +kernel,
   by decide +kernel,
   ⟨heard_wmsg _ _ (by decide +kernel), by decide +kernel⟩,
   ⟨heard_wmsg _ _ (by decide +kernel), by decide +kernel⟩,
   ⟨heard_wmsg _ _ (by decide +kernel), by decide +kernel⟩,
   ⟨heard_wmsg _ _ (by decide +kernel), by decide +kernel⟩,
   ⟨wbad_mac _ _, by decide +kernel⟩,
   ⟨heard_wmsg _ _ (by decide +kernel), by decide +kernel⟩⟩

/-- States and operands that meet the hypotheses of `Obligations.FabricNetwork`, clauses 8 to 15. -/
theorem test_meets_FabricNetwork_c8_15 :
  (let s : State := wfab w0;
    resetLow s = false ∧ s.fab.engineId ≠ 0) ∧
  (let s : State := (fun s : State => { s with fab := { s.fab with lsdb := [{ addr := some 9, id := 88, seq := 5, partner := none, home := none, adjs := [], cls := 3, keyCheck := 0, prio := 9, unsync := false }] } }) (wfab w0);
    let id : W64 := 88;
    resetLow s = false ∧ (lsaOf s id).isSome = true) ∧
  (let s : State := (fun s : State => { s with fab := { s.fab with addr := none, claiming := true, auto := false, pref := 5 } }) (wfab w0);
    resetLow s = false ∧ s.fab.claiming = true ∧ s.fab.auto = false ∧ s.fab.addr = none ∧ s.fab.lsdb.any (fun l => l.addr == some s.fab.pref) = false ∧ (List.range 8).any (fun p => (portOf s p).st == .active && (portOf s p).peerAddr == some s.fab.pref) = false) ∧
  (let s : State := (fun s : State => { s with fab := { s.fab with addr := none, claiming := true, auto := true, lsdb := [{ addr := some 0, id := 88, seq := 5, partner := none, home := none, adjs := [], cls := 3, keyCheck := 0, prio := 9, unsync := false }] } }) (wfab w0);
    let a : Nat := 1;
    resetLow s = false ∧ s.fab.claiming = true ∧ s.fab.auto = true ∧ s.fab.addr = none ∧ a < 64 ∧ s.fab.lsdb.any (fun l => l.addr == some a) = false ∧ (List.range 8).any (fun p => (portOf s p).st == .active && (portOf s p).peerAddr == some a) = false ∧ (∀ b, b < a → s.fab.lsdb.any (fun l => l.addr == some b) = true)) ∧
  (let s : State := wfab w0;
    resetLow s = false ∧ s.fab.claiming = false) ∧
  (let s : State := (fun s : State => { s with fab := { s.fab with master := false, masterAddr := some 6 } }) (wfab w0);
    let p : Nat := 3;
    resetLow s = false ∧ masterPort s = some p ∧ (portOf s p).st = .active) ∧
  (let s : State := wfab w0;
    resetLow s = false ∧ masterPort s = none) ∧
  (let s : State := wfab w0;
    let h : MsgHdr := wmsg s .timeReq;
    heard s h .timeReq ∧ resetLow s = false) := 
  ⟨by decide +kernel,
   by decide +kernel,
   by decide +kernel,
   by decide +kernel,
   by decide +kernel,
   by decide +kernel,
   by decide +kernel,
   ⟨heard_wmsg _ _ (by decide +kernel), by decide +kernel⟩⟩

/-- States and operands that meet the hypotheses of `Obligations.FabricNetwork`, clauses 16 to 23. -/
theorem test_meets_FabricNetwork_c16_23 :
  (let s : State := (fun s : State => { s with fab := { s.fab with master := false, masterAddr := some 6, unsync := false, good := 0, ports := [(3, { Port.reset with en := true, st := .active, width := 1, widthUse := 1, sig := 3, cdr := 3, rdy := 3, locked := 3, laneMap := 0xE4, adj := true, peerAddr := some 6, peerClass := 3, peerKeyOk := true, t1 := some 100 })] } }) (wfab w0);
    let t2 : Nat := 300;
    let t3 : Nat := 300;
    let t4 : Nat := 300;
    let t1 : Nat := 100;
    let offset : Int := 7;
    let h : MsgHdr := wmsg s (.timeResp t2 t3 offset);
    let p : Nat := 3;
    let o : Int := (((t2 : Int) - t1) - ((t4 : Int) - t3)) / 2 + offset;
    heard s h (.timeResp t2 t3 offset) ∧ resetLow s = false ∧ p = h.port ∧ (portOf s p).t1 = some t1 ∧ masterPort s = some p ∧ o = (((t2 : Int) - t1) - ((t4 : Int) - t3)) / 2 + offset ∧ s.fab.unsync = false ∧ -500 ≤ o ∧ o ≤ 500) ∧
  (let s : State := (fun s : State => { s with fab := { s.fab with master := false, masterAddr := some 6, unsync := false, good := 0, ports := [(3, { Port.reset with en := true, st := .active, width := 1, widthUse := 1, sig := 3, cdr := 3, rdy := 3, locked := 3, laneMap := 0xE4, adj := true, peerAddr := some 6, peerClass := 3, peerKeyOk := true, t1 := some 100 })] } }) (wfab w0);
    let t2 : Nat := 1500;
    let t3 : Nat := 1500;
    let t4 : Nat := 300;
    let t1 : Nat := 100;
    let offset : Int := 7;
    let h : MsgHdr := wmsg s (.timeResp t2 t3 offset);
    let p : Nat := 3;
    let o : Int := (((t2 : Int) - t1) - ((t4 : Int) - t3)) / 2 + offset;
    heard s h (.timeResp t2 t3 offset) ∧ resetLow s = false ∧ p = h.port ∧ (portOf s p).t1 = some t1 ∧ masterPort s = some p ∧ o = (((t2 : Int) - t1) - ((t4 : Int) - t3)) / 2 + offset ∧ s.fab.unsync = false ∧ 500 < o) ∧
  (let s : State := (fun s : State => { s with fab := { s.fab with master := false, masterAddr := some 6, unsync := false, good := 0, ports := [(3, { Port.reset with en := true, st := .active, width := 1, widthUse := 1, sig := 3, cdr := 3, rdy := 3, locked := 3, laneMap := 0xE4, adj := true, peerAddr := some 6, peerClass := 3, peerKeyOk := true, t1 := some 100 })] } }) (wfab w0);
    let t2 : Nat := 10;
    let t3 : Nat := 10;
    let t4 : Nat := 3000;
    let t1 : Nat := 100;
    let offset : Int := 7;
    let h : MsgHdr := wmsg s (.timeResp t2 t3 offset);
    let p : Nat := 3;
    let o : Int := (((t2 : Int) - t1) - ((t4 : Int) - t3)) / 2 + offset;
    heard s h (.timeResp t2 t3 offset) ∧ resetLow s = false ∧ p = h.port ∧ (portOf s p).t1 = some t1 ∧ masterPort s = some p ∧ o = (((t2 : Int) - t1) - ((t4 : Int) - t3)) / 2 + offset ∧ s.fab.unsync = false ∧ o < -500) ∧
  (let s : State := (fun s : State => { s with fab := { s.fab with master := false, masterAddr := some 6, unsync := true, good := 3, ports := [(3, { Port.reset with en := true, st := .active, width := 1, widthUse := 1, sig := 3, cdr := 3, rdy := 3, locked := 3, laneMap := 0xE4, adj := true, peerAddr := some 6, peerClass := 3, peerKeyOk := true, t1 := some 100 })] } }) (wfab w0);
    let t2 : Nat := 300;
    let t3 : Nat := 300;
    let t4 : Nat := 300;
    let t1 : Nat := 100;
    let offset : Int := 7;
    let h : MsgHdr := wmsg s (.timeResp t2 t3 offset);
    let p : Nat := 3;
    let o : Int := (((t2 : Int) - t1) - ((t4 : Int) - t3)) / 2 + offset;
    heard s h (.timeResp t2 t3 offset) ∧ resetLow s = false ∧ p = h.port ∧ (portOf s p).t1 = some t1 ∧ masterPort s = some p ∧ o = (((t2 : Int) - t1) - ((t4 : Int) - t3)) / 2 + offset ∧ s.fab.unsync = true ∧ s.fab.good = 3 ∧ -500 ≤ o ∧ o ≤ 500) ∧
  (let s : State := (fun s : State => { s with fab := { s.fab with master := false, masterAddr := some 6, unsync := false, good := 0, ports := [(3, { Port.reset with en := true, st := .active, width := 1, widthUse := 1, sig := 3, cdr := 3, rdy := 3, locked := 3, laneMap := 0xE4, adj := true, peerAddr := some 6, peerClass := 3, peerKeyOk := true, t1 := none })] } }) (wfab w0);
    let t2 : Nat := 300;
    let t3 : Nat := 300;
    let offset : Int := 7;
    let h : MsgHdr := wmsg s (.timeResp t2 t3 offset);
    let p : Nat := 3;
    heard s h (.timeResp t2 t3 offset) ∧ resetLow s = false ∧ p = h.port ∧ ((portOf s p).t1 = none ∨ masterPort s ≠ some p)) ∧
  (let s : State := (fun s : State => { s with fab := { s.fab with master := false, masterAddr := some 6 } }) (wfab w0);
    resetLow s = false ∧ s.fab.unsync = false ∧ s.fab.master = false) ∧
  (let s : State := wfab w0;
    resetLow s = false ∧ (s.fab.unsync = true ∨ s.fab.master = true)) ∧
  (let s : State := (fun s : State => { s with fab := { s.fab with peers := [(6, { Peer.reset with reach := true, cls := 3, hops := 1, nextPort := 3, id := 66 }), (9, { Peer.reset with reach := true, cls := 3, hops := 2, nextPort := 3, id := 99 })] } }) (wfab w0);
    let m : FabMsg := .yieldNote;
    let h : MsgHdr := wseal s m { port := 3, src := some 6, hop := false, dst := 9, ttl := 4, lseq := 0, mac := 0 };
    let p : Nat := 3;
    (msgHasMac m = true → h.mac = msgMac s h m) ∧ resetLow s = false ∧ (portOf s h.port).st = .active ∧ msgIsHop m = false ∧ h.hop = false ∧ s.fab.addr ≠ some h.dst ∧ fromQuarantine s h = false ∧ p = (peerOf s h.dst).nextPort ∧ 1 < h.ttl ∧ isMember s h.dst = true ∧ (portOf s p).st = .active) := 
  ⟨⟨heard_wmsg _ _ (by decide +kernel), by decide +kernel⟩,
   ⟨heard_wmsg _ _ (by decide +kernel), by decide +kernel⟩,
   ⟨heard_wmsg _ _ (by decide +kernel), by decide +kernel⟩,
   ⟨heard_wmsg _ _ (by decide +kernel), by decide +kernel⟩,
   ⟨heard_wmsg _ _ (by decide +kernel), by decide +kernel⟩,
   by decide +kernel,
   by decide +kernel,
   ⟨wseal_mac _ _ _, by decide +kernel⟩⟩

/-- States and operands that meet the hypotheses of `Obligations.FabricNetwork`, clause 24. -/
theorem test_meets_FabricNetwork_c24 :
  (let s : State := (fun s : State => { s with fab := { s.fab with peers := [(6, { Peer.reset with reach := true, cls := 3, hops := 1, nextPort := 3, id := 66 }), (9, { Peer.reset with reach := true, cls := 3, hops := 2, nextPort := 3, id := 99 })] } }) (wfab w0);
    let m : FabMsg := .yieldNote;
    let h : MsgHdr := wseal s m { port := 3, src := some 6, hop := false, dst := 9, ttl := 1, lseq := 0, mac := 0 };
    let p : Nat := 3;
    (msgHasMac m = true → h.mac = msgMac s h m) ∧ resetLow s = false ∧ (portOf s h.port).st = .active ∧ msgIsHop m = false ∧ h.hop = false ∧ s.fab.addr ≠ some h.dst ∧ fromQuarantine s h = false ∧ p = (peerOf s h.dst).nextPort ∧ (h.ttl ≤ 1 ∨ isMember s h.dst = false ∨ (portOf s p).st ≠ .active)) := ⟨wseal_mac _ _ _, by decide +kernel⟩

/-- States and operands that meet the hypotheses of `Obligations.Pairs`, clauses 0 to 7. -/
theorem test_meets_Pairs_c0_7 :
  (let s : State := (fun s : State => { s with fab := { s.fab with pair := { Pair.reset with partner := some 6, epoch := 1, formed := true, live := true, home := true } } }) (wfab w0);
    let m : PairHello := { epoch := 1, digest := List.replicate 32 4 };
    let h : MsgHdr := wmsg s (.pairHello m);
    let a : Nat := 6;
    heardPartner s h (.pairHello m) a ∧ resetLow s = false ∧ s.fab.pair.formed = true ∧ s.fab.pair.live = true ∧ s.fab.pair.home = homeBy s m.epoch) ∧
  (let s : State := (fun s : State => { s with fab := { s.fab with pair := { Pair.reset with partner := some 6, epoch := 1 } } }) (wfab w0);
    let m : PairHello := { epoch := 1, digest := List.replicate 32 4 };
    let h : MsgHdr := wmsg s (.pairHello m);
    let a : Nat := 6;
    let x : Nat := 2;
    heardPartner s h (.pairHello m) a ∧ resetLow s = false ∧ s.fab.pair.formed = false ∧ s.fab.pair.epoch = m.epoch ∧ s.fab.addr = some x ∧ canReach s a = true) ∧
  (let s : State := (fun s : State => { s with fab := { s.fab with pair := { Pair.reset with partner := some 6, epoch := 1 } } }) (wfab w0);
    let m : PairHello := { epoch := 3, digest := List.replicate 32 4 };
    let h : MsgHdr := wmsg s (.pairHello m);
    let a : Nat := 6;
    heardPartner s h (.pairHello m) a ∧ resetLow s = false ∧ s.fab.pair.formed = false ∧ epochAbove m.epoch s.fab.pair.epoch = true ∧ epochAbove s.fab.pair.epoch m.epoch = false) ∧
  (let s : State := (fun s : State => { s with fab := { s.fab with pair := { Pair.reset with partner := some 6, epoch := 1, formed := true, live := true } } }) (wfab w0);
    let m : PairHb := { epoch := 1, digest := 5, deg := 1, unsync := true, batch := 8 };
    let h : MsgHdr := wmsg s (.pairHb m);
    let a : Nat := 6;
    heardPartner s h (.pairHb m) a ∧ resetLow s = false) ∧
  (let s : State := (fun s : State => { s with fab := { s.fab with pair := { Pair.reset with partner := some 6, epoch := 1, formed := true, live := true } } }) (wfab w0);
    let a : Nat := 6;
    resetLow s = false ∧ s.fab.pair.partner = some a ∧ canReach s a = true) ∧
  (let s : State := wfab w0;
    resetLow s = false ∧ s.fab.pair.partner = none) ∧
  (let s : State := (fun s : State => { s with fab := { s.fab with pair := { Pair.reset with partner := some 6, epoch := 1 } } }) (wfab w0);
    resetLow s = false ∧ (s.fab.pair.formed = false ∨ s.fab.pair.live = false)) ∧
  (let s : State := (fun s : State => { s with tx := [(4, some (a0 9))], jnl := { s.jnl with hw := [(4, 1000)], resolved := true } }) ((fun s : State => { s with fab := { s.fab with pair := { Pair.reset with partner := some 6, epoch := 1, formed := true, live := true, home := true, set := [1] } } }) (wfab w0));
    let k : Nat := 4;
    resetLow s = false ∧ s.fab.pair.formed = true ∧ s.fab.pair.live = true ∧ s.fab.pair.home = true ∧ pairKeys s = [k] ∧ markOf s k ≠ 0 ∧ s.jnl.pend = [] ∧ quietLease s = true) := 
  ⟨⟨heardPartner_wmsg _ _ (by decide +kernel), by decide +kernel⟩,
   ⟨heardPartner_wmsg _ _ (by decide +kernel), by decide +kernel⟩,
   ⟨heardPartner_wmsg _ _ (by decide +kernel), by decide +kernel⟩,
   ⟨heardPartner_wmsg _ _ (by decide +kernel), by decide +kernel⟩,
   by decide +kernel,
   by decide +kernel,
   by decide +kernel,
   by decide +kernel⟩

/-- States and operands that meet the hypotheses of `Obligations.Pairs`, clauses 8 to 15. -/
theorem test_meets_Pairs_c8_15 :
  (let s : State := (fun s : State => { s with fab := { s.fab with pair := { Pair.reset with partner := some 6, epoch := 1, formed := true, live := true } } }) (wfab w0);
    let a : Nat := 6;
    resetLow s = false ∧ s.fab.pair.formed = true ∧ s.fab.pair.live = true ∧ s.fab.pair.home = false ∧ s.fab.pair.partner = some a ∧ s.fab.pair.split = false ∧ readOnly s = false) ∧
  (let s : State := (fun s : State => { s with fab := { s.fab with pair := { Pair.reset with partner := some 6, epoch := 1, formed := true, live := true, split := true } } }) (wfab w0);
    resetLow s = false ∧ s.fab.pair.formed = true ∧ s.fab.pair.live = true ∧ s.fab.pair.home = false ∧ (s.fab.pair.split = true ∨ readOnly s = true)) ∧
  (let s : State := wdigest true ((fun s : State => { s with fab := { s.fab with pair := { Pair.reset with partner := some 6, epoch := 1, formed := true, live := true } } }) (wfab w0));
    let a : Nat := 6;
    digestPrefix s ≠ s.fab.pair.peerDigest ∧ resetLow s = false ∧ s.fab.pair.partner = some a ∧ s.fab.pair.formed = true ∧ s.fab.pair.split = false) ∧
  (let s : State := wdigest false ((fun s : State => { s with fab := { s.fab with pair := { Pair.reset with partner := some 6, epoch := 1, formed := true, live := true, split := true } } }) (wfab w0));
    let a : Nat := 6;
    digestPrefix s = s.fab.pair.peerDigest ∧ resetLow s = false ∧ s.fab.pair.partner = some a ∧ s.fab.pair.formed = true ∧ s.fab.pair.split = true) ∧
  (let s : State := wfab w0;
    resetLow s = false ∧ (s.fab.pair.formed = false ∨ s.fab.pair.partner = none)) ∧
  (let s : State := wtx (a0 9) (wy (y0 txp0 0 .on) ((fun s : State => { s with fab := { s.fab with pair := { Pair.reset with partner := some 6, epoch := 1, formed := true, live := true, batch := 9 } } }) (wfab w0)));
    let a : Nat := 6;
    let n : Nat := (s.fab.pair.batch + 1) % 2 ^ 32;
    let u : State := { s with fab := { s.fab with pair := { s.fab.pair with batch := n } } };
    resetLow s = false ∧ s.fab.pair.partner = some a ∧ canReach s a = true ∧ n = (s.fab.pair.batch + 1) % 2 ^ 32 ∧ u = { s with fab := { s.fab with pair := { s.fab.pair with batch := n } } }) ∧
  (let s : State := wfab w0;
    resetLow s = false ∧ s.fab.pair.partner = none) ∧
  (let s : State := (fun s : State => { s with fab := { s.fab with pair := { Pair.reset with partner := some 6, epoch := 1, formed := true, live := true } } }) (wfab w0);
    let r : MirTx := { current := true, valid := true, sa := 4, link := 1, batch := 9, pn := 77 };
    let h : MsgHdr := wmsg s (.mirrorTx [r]);
    let a : Nat := 6;
    heardPartner s h (.mirrorTx [r]) a ∧ resetLow s = false) := 
  ⟨by decide +kernel,
   by decide +kernel,
   ⟨wdigest_ne _, by decide +kernel⟩,
   ⟨wdigest_eq _, by decide +kernel⟩,
   by decide +kernel,
   by decide +kernel,
   by decide +kernel,
   ⟨heardPartner_wmsg _ _ (by decide +kernel), by decide +kernel⟩⟩

/-- States and operands that meet the hypotheses of `Obligations.Pairs`, clauses 16 to 23. -/
theorem test_meets_Pairs_c16_23 :
  (let s : State := (fun s : State => { s with fab := { s.fab with pair := { Pair.reset with partner := some 6, epoch := 1, formed := true, live := true } } }) (wfab w0);
    let r : MirRx := { an := 0, link := 1, sci := 77, low := 50 };
    let h : MsgHdr := wmsg s (.mirrorRx [r]);
    let a : Nat := 6;
    heardPartner s h (.mirrorRx [r]) a ∧ resetLow s = false) ∧
  (let s : State := (fun s : State => { s with fab := { s.fab with pair := { Pair.reset with partner := some 6, epoch := 1, formed := true, live := true } } }) (wfab w0);
    let rs : List MirRx := [{ an := 0, link := 1, sci := 77, low := 50 }];
    let h : MsgHdr := wmsg s (.mirrorQuery rs);
    let a : Nat := 6;
    heardPartner s h (.mirrorQuery rs) a ∧ resetLow s = false ∧ canReach s a = true) ∧
  (let s : State := (fun s : State => { s with cxm := { s.cxm with job := some { group := 70, asking := true, lows := [], written := false } } }) ((fun s : State => { s with fab := { s.fab with pair := { Pair.reset with partner := some 6, epoch := 1, formed := true, live := true } } }) (wfab w0));
    let rs : List MirRx := [{ an := 0, link := 1, sci := 77, low := 50 }];
    let j : Reprime := { group := 70, asking := true, lows := [], written := false };
    let h : MsgHdr := wmsg s (.mirrorReply rs);
    let a : Nat := 6;
    heardPartner s h (.mirrorReply rs) a ∧ resetLow s = false ∧ s.cxm.job = some j ∧ j.asking = true) ∧
  (let s : State := (fun s : State => { s with fab := { s.fab with pair := { Pair.reset with partner := some 6, epoch := 1, formed := true, live := true } } }) (wfab w0);
    let rs : List MirRx := [{ an := 0, link := 1, sci := 77, low := 50 }];
    let h : MsgHdr := wmsg s (.mirrorReply rs);
    let a : Nat := 6;
    heardPartner s h (.mirrorReply rs) a ∧ resetLow s = false ∧ s.cxm.job.all (fun j => !j.asking) = true) ∧
  (let s : State := (fun s : State => { s with tx := [(4, some (a0 9))], jnl := { s.jnl with hw := [(4, 1000)], resolved := true } }) ((fun s : State => { s with fab := { s.fab with pair := { Pair.reset with partner := some 6, epoch := 1, formed := true, live := true, set := [1] } } }) (wfab w0));
    let r : MarkRec := { sa := 4, xpn := false, mark := 5000 };
    let last : Bool := true;
    let k : Nat := 4;
    let h : MsgHdr := wmsg s (.markMerge [r] last);
    let a : Nat := 6;
    heardPartner s h (.markMerge [r] last) a ∧ resetLow s = false ∧ s.fab.pair.home = false ∧ r.xpn = false ∧ k = mergeKey s r.sa) ∧
  (let s : State := (fun s : State => { s with tx := [(4, some (a0 9))], jnl := { s.jnl with hw := [(4, 1000)], resolved := true } }) ((fun s : State => { s with fab := { s.fab with pair := { Pair.reset with partner := some 6, epoch := 1, formed := true, live := true, set := [1], home := true } } }) (wfab w0));
    let r : MarkRec := { sa := 4, xpn := false, mark := 5000 };
    let h : MsgHdr := wmsg s (.markMerge [r] true);
    let a : Nat := 6;
    heardPartner s h (.markMerge [r] true) a ∧ resetLow s = false ∧ s.fab.pair.home = true ∧ readOnly s = false) ∧
  (let s : State := (fun s : State => { s with fab := { s.fab with pair := { Pair.reset with partner := some 6, epoch := 1, formed := true, live := true, merging := true } } }) (wfab w0);
    let h : MsgHdr := wmsg s (.mergeAck);
    let a : Nat := 6;
    heardPartner s h (.mergeAck) a ∧ resetLow s = false ∧ s.fab.pair.home = false) ∧
  (let s : State := (fun s : State => { s with fab := { s.fab with pair := { Pair.reset with partner := some 6, epoch := 1, formed := true, live := true, home := true } } }) (wfab w0);
    let h : MsgHdr := wmsg s (.mergeAck);
    let a : Nat := 6;
    heardPartner s h (.mergeAck) a ∧ resetLow s = false ∧ s.fab.pair.home = true) := 
  ⟨⟨heardPartner_wmsg _ _ (by decide +kernel), by decide +kernel⟩,
   ⟨heardPartner_wmsg _ _ (by decide +kernel), by decide +kernel⟩,
   ⟨heardPartner_wmsg _ _ (by decide +kernel), by decide +kernel⟩,
   ⟨heardPartner_wmsg _ _ (by decide +kernel), by decide +kernel⟩,
   ⟨heardPartner_wmsg _ _ (by decide +kernel), by decide +kernel⟩,
   ⟨heardPartner_wmsg _ _ (by decide +kernel), by decide +kernel⟩,
   ⟨heardPartner_wmsg _ _ (by decide +kernel), by decide +kernel⟩,
   ⟨heardPartner_wmsg _ _ (by decide +kernel), by decide +kernel⟩⟩

/-- States and operands that meet the hypotheses of `Obligations.Pairs`, clause 24. -/
theorem test_meets_Pairs_c24 :
  (let s : State := (fun s : State => { s with fab := { s.fab with pair := { Pair.reset with partner := some 6, epoch := 1, formed := true, live := true } } }) (wfab w0);
    let h : MsgHdr := wmsg s (.yieldNote);
    let a : Nat := 6;
    heardPartner s h (.yieldNote) a ∧ resetLow s = false) := ⟨heardPartner_wmsg _ _ (by decide +kernel), by decide +kernel⟩

/-- States and operands that meet the hypotheses of `Obligations.RegisterAccess`, clauses 0 to 7. -/
theorem test_meets_RegisterAccess_c0_7 :
  (let s : State := w0;
    let addr : Nat := 0x81000;
    let sp : Nat := 4;
    let off : Nat := 0x1000;
    resetLow s = false ∧ s.glb.testMode = false ∧ pdIsOn s 1 = true ∧ spanOf (addr % 0x400000 / 8 * 8) = (sp, off) ∧ blockedAt s sp off = true) ∧
  (let s : State := w0;
    let addr : Nat := 0x7000;
    let sp : Nat := 0;
    let off : Nat := 0x7000;
    resetLow s = false ∧ s.glb.testMode = false ∧ pdIsOn s 1 = true ∧ spanOf (addr % 0x400000 / 8 * 8) = (sp, off) ∧ blockedAt s sp off = false ∧ regAt s sp off = none) ∧
  (let s : State := w0;
    let addr : Nat := 0x1F030;
    let sp : Nat := 1;
    let off : Nat := 0xF030;
    let priv : Bool := false;
    resetLow s = false ∧ s.glb.testMode = false ∧ pdIsOn s 1 = true ∧ spanOf (addr % 0x400000 / 8 * 8) = (sp, off) ∧ blockedAt s sp off = false ∧ (regAt s sp off).isSome = true ∧ hqAt off = none ∧ writePriv sp off = true ∧ priv = false) ∧
  (let s : State := w0;
    let addr : Nat := 0x20010;
    let sp : Nat := 2;
    let off : Nat := 0x10;
    let priv : Bool := false;
    resetLow s = false ∧ s.glb.testMode = false ∧ pdIsOn s 1 = true ∧ spanOf (addr % 0x400000 / 8 * 8) = (sp, off) ∧ blockedAt s sp off = false ∧ (regAt s sp off).isSome = true ∧ hqAt off = none ∧ writePriv sp off = false ∧ hasRwl sp off = true ∧ s.glb.locked = true ∧ priv = false) ∧
  (let s : State := w0;
    resetLow s = false ∧ s.glb.testMode = false ∧ pdIsOn s 1 = true) ∧
  (let s : State := w0;
    resetLow s = false ∧ s.glb.testMode = false ∧ pdIsOn s 1 = true) ∧
  (let s : State := w0;
    resetLow s = false ∧ s.glb.testMode = false ∧ pdIsOn s 1 = true) ∧
  (let s : State := w0;
    let priv : Bool := true;
    resetLow s = false ∧ s.glb.testMode = false ∧ pdIsOn s 1 = true ∧ (priv = true ∨ s.glb.locked = false)) := 
  ⟨by decide +kernel,
   by decide +kernel,
   by decide +kernel,
   by decide +kernel,
   by decide +kernel,
   by decide +kernel,
   by decide +kernel,
   by decide +kernel⟩

/-- States and operands that meet the hypotheses of `Obligations.RegisterAccess`, clauses 8 to 15. -/
theorem test_meets_RegisterAccess_c8_15 :
  (let s : State := w0;
    let priv : Bool := true;
    resetLow s = false ∧ s.glb.testMode = false ∧ pdIsOn s 1 = true ∧ (priv = true ∨ s.glb.locked = false)) ∧
  (let s : State := w0;
    resetLow s = false ∧ s.glb.testMode = false ∧ pdIsOn s 1 = true) ∧
  (let s : State := w0;
    resetLow s = false ∧ s.glb.testMode = false ∧ pdIsOn s 1 = true) ∧
  (let s : State := w0;
    let priv : Bool := true;
    resetLow s = false ∧ s.glb.testMode = false ∧ pdIsOn s 1 = true ∧ (priv = true ∨ s.glb.locked = false)) ∧
  (let s : State := w0;
    resetLow s = false ∧ s.glb.testMode = false ∧ pdIsOn s 1 = true) ∧
  (let s : State := wmode .cold w0;
    let priv : Bool := true;
    resetLow s = false ∧ s.glb.testMode = false ∧ pdIsOn s 1 = true ∧ (priv = true ∨ s.glb.locked = false) ∧ s.glb.mode = .cold) ∧
  (let s : State := w0;
    let priv : Bool := true;
    resetLow s = false ∧ s.glb.testMode = false ∧ pdIsOn s 1 = true ∧ (priv = true ∨ s.glb.locked = false) ∧ s.glb.mode ≠ .cold) ∧
  (let s : State := { w0 with glb := { w0.glb with denied := 4 } };
    resetLow s = false ∧ s.glb.testMode = false ∧ pdIsOn s 1 = true) := 
  ⟨by decide +kernel,
   by decide +kernel,
   by decide +kernel,
   by decide +kernel,
   by decide +kernel,
   by decide +kernel,
   by decide +kernel,
   by decide +kernel⟩

/-- States and operands that meet the hypotheses of `Obligations.RegisterAccess`, clauses 16 to 23. -/
theorem test_meets_RegisterAccess_c16_23 :
  (let s : State := { wfab w0 with fab := { (wfab w0).fab with ports := [(3, { Port.reset with retrains := 2, symErr := 4 })] } };
    let p : Nat := 3;
    resetLow s = false ∧ s.glb.testMode = false ∧ pdIsOn s 1 = true ∧ p < 8) ∧
  (let s : State := { w0 with que := [(5, { Que.reset with wr := 3, hw := 9 })] };
    let q : Nat := 5;
    resetLow s = false ∧ s.glb.testMode = false ∧ pdIsOn s 1 = true ∧ q < 24) ∧
  (let s : State := w0;
    let addr : Nat := 0x7000;
    let priv : Bool := false;
    resetLow s = false ∧ s.glb.testMode = false ∧ pdIsOn s 1 = true ∧ (csrRead s addr priv).1 ≠ 0) ∧
  (let s : State := w0;
    let u : Sub := .egr;
    let sub : Nat := 5;
    let w : Nat := 0;
    resetLow s = false ∧ s.glb.testMode = false ∧ pdIsOn s 1 = true ∧ subAt sub = some u ∧ w < 2) ∧
  (let s : State := w0;
    let u : Sub := .egr;
    let sub : Nat := 5;
    let w : Nat := 0;
    resetLow s = false ∧ s.glb.testMode = false ∧ pdIsOn s 1 = true ∧ subAt sub = some u ∧ w < 2) ∧
  (let s : State := { w0 with evt := w0.evt.put .egr { (w0.evt.get .egr) with first := 0x8000000000000007 } };
    let u : Sub := .egr;
    let sub : Nat := 5;
    let data : W64 := 0x8000000000000000;
    eventsSound s ∧ resetLow s = false ∧ s.glb.testMode = false ∧ pdIsOn s 1 = true ∧ subAt sub = some u ∧ bitAt data 63 = true) ∧
  (let s : State := { w0 with evt := w0.evt.put .egr { (w0.evt.get .egr) with first := 0x8000000000000007 } };
    let u : Sub := .egr;
    let sub : Nat := 5;
    let data : W64 := 0;
    eventsSound s ∧ resetLow s = false ∧ s.glb.testMode = false ∧ pdIsOn s 1 = true ∧ subAt sub = some u ∧ bitAt data 63 = false) ∧
  (let s : State := (fun s : State => { s with aon := { s.aon with tmpLatched := 7, tmpLive := 2 } }) (wmode .lockout w0);
    resetLow s = false ∧ s.glb.testMode = false ∧ pdIsOn s 1 = true ∧ s.glb.mode = .lockout) := 
  ⟨by decide +kernel,
   by decide +kernel,
   by decide +kernel,
   by decide +kernel,
   by decide +kernel,
   ⟨by intro u; cases u <;> decide +kernel, by decide +kernel⟩,
   ⟨by intro u; cases u <;> decide +kernel, by decide +kernel⟩,
   by decide +kernel⟩

/-- States and operands that meet the hypotheses of `Obligations.RegisterAccess`, clauses 24 to 31. -/
theorem test_meets_RegisterAccess_c24_31 :
  (let s : State := w0;
    resetLow s = false ∧ s.glb.testMode = false ∧ pdIsOn s 1 = true ∧ s.glb.mode ≠ .lockout) ∧
  (let s : State := w0;
    resetLow s = false ∧ s.glb.testMode = false ∧ pdIsOn s 1 = true) ∧
  (let s : State := { w0 with tel := { w0.tel with cnt := [(7, 0x8000000000000005)], wrapLog := 0x8000000000000000, wrapTime := 4 } };
    let i : Nat := 7;
    resetLow s = false ∧ s.glb.testMode = false ∧ pdIsOn s 1 = true ∧ i < 256 ∧ telOn s = true) ∧
  (let s : State := { w0 with tel := { w0.tel with cnt := [(7, 0x8000000000000005)], wrapLog := 0x8000000000000000, wrapTime := 4 } };
    let i : Nat := 7;
    resetLow s = false ∧ s.glb.testMode = false ∧ pdIsOn s 1 = true ∧ i < 256) ∧
  (let s : State := { w0 with glb := { w0.glb with pdOn := 3 } };
    let i : Nat := 7;
    resetLow s = false ∧ s.glb.testMode = false ∧ pdIsOn s 1 = true ∧ i < 256 ∧ telOn s = false) ∧
  (let s : State := { w0 with tel := { w0.tel with cnt := [(7, 0x8000000000000005)], wrapLog := 0x8000000000000000, wrapTime := 4 } };
    let data : W64 := 0x8000000000000000;
    resetLow s = false ∧ s.glb.testMode = false ∧ pdIsOn s 1 = true ∧ telOn s = true ∧ bitAt data 63 = true) ∧
  (let s : State := { w0 with tel := { w0.tel with cnt := [(7, 0x8000000000000005)], wrapLog := 0x8000000000000000, wrapTime := 4 } };
    let data : W64 := 0;
    resetLow s = false ∧ s.glb.testMode = false ∧ pdIsOn s 1 = true ∧ (telOn s = false ∨ bitAt data 63 = false)) ∧
  (let s : State := { w0 with tel := { w0.tel with cnt := [(7, 0x8000000000000005)], wrapLog := 0x8000000000000000, wrapTime := 4 } };
    resetLow s = false ∧ s.glb.testMode = false ∧ pdIsOn s 1 = true) := 
  ⟨by decide +kernel,
   by decide +kernel,
   by decide +kernel,
   by decide +kernel,
   by decide +kernel,
   by decide +kernel,
   by decide +kernel,
   by decide +kernel⟩

/-- States and operands that meet the hypotheses of `Obligations.EscalationServiceAndGates`, clauses 0 to 7. -/
theorem test_meets_EscalationServiceAndGates_c0_7 :
  (let s : State := (fun s : State => { s with evt := s.evt.put .egr { (s.evt.get .egr) with escState := .running, escAct := 0x4444, raw := 1, stat := 1 } }) (w0);
    let u : Sub := .egr;
    let sub : Nat := 5;
    resetLow s = false ∧ subAt sub = some u ∧ (s.evt.get u).escState = .running ∧ s.glb.mode ≠ .lockout ∧ escDue s u = [4]) ∧
  (let s : State := (fun s : State => { s with evt := s.evt.put .egr { (s.evt.get .egr) with escState := .running, escAct := 0x2222, raw := 1, stat := 1, aff := [1] } }) (wy (y0 txp0 0 .on) w0);
    let u : Sub := .egr;
    let sub : Nat := 5;
    let l : Nat := 1;
    let y : Secy := y0 txp0 0 .on;
    resetLow s = false ∧ subAt sub = some u ∧ (s.evt.get u).escState = .running ∧ s.glb.mode ≠ .lockout ∧ escDue s u = [2] ∧ l ∈ (s.evt.get u).aff ∧ secyOf s l = some y ∧ y.st = .on) ∧
  (let s : State := (fun s : State => { s with evt := s.evt.put .cxm { (s.evt.get .cxm) with escState := .running, escAct := 0x3333, raw := 1, stat := 1 } }) (w0);
    let sub : Nat := 8;
    resetLow s = false ∧ subAt sub = some .cxm ∧ (s.evt.get .cxm).escState = .running ∧ s.glb.mode ≠ .lockout ∧ escDue s .cxm = [3]) ∧
  (let s : State := w0;
    let u : Sub := .egr;
    let sub : Nat := 5;
    resetLow s = false ∧ subAt sub = some u ∧ ((s.evt.get u).escState ≠ .running ∨ s.glb.mode = .lockout)) ∧
  (let s : State := { w0 with mci := { w0.mci with running := [⟨⟨0, 0x50, pk 2 [0, 0]⟩, .cut 1⟩], nextId := 1 } };
    let q : QCmd := ⟨0, 0x50, pk 2 [0, 0]⟩;
    let n : Nat := 0;
    let w : Wait := .cut 1;
    resetLow s = false ∧ s.mci.running = [⟨q, w⟩] ∧ s.mci.cmdq = [] ∧ q.pkt.req = .hq n ∧ n < 4 ∧ pdIsOn s 2 = true ∧ s.svc.stopped = false) ∧
  (let s : State := { w0 with svc := { w0.svc with stopped := true } };
    resetLow s = false ∧ pdIsOn s 2 = true ∧ s.svc.stopped = true) ∧
  (let s : State := { w0 with glb := { w0.glb with pdOn := 3 } };
    resetLow s = false ∧ pdIsOn s 2 = false) ∧
  (let s : State := { w0 with svc := { w0.svc with restarting := true } };
    resetLow s = false ∧ s.svc.restarting = true ∧ s.svc.stopped = false ∧ drbgFull s = false ∧ s.svc.cas = []) := 
  ⟨by decide +kernel,
   by decide +kernel,
   by decide +kernel,
   by decide +kernel,
   by decide +kernel,
   by decide +kernel,
   by decide +kernel,
   by decide +kernel⟩

/-- States and operands that meet the hypotheses of `Obligations.EscalationServiceAndGates`, clauses 8 to 15. -/
theorem test_meets_EscalationServiceAndGates_c8_15 :
  (let s : State := (fun s : State => { s with svc := { s.svc with restarting := true } }) ((fun s : State => { wy (y0 (txp0 ||| 0x80000000000) 0 .on) s with svc := { s.svc with cas := [(1, { MkCa.reset with enabled := true, prio := 16, suites := 15, offs := 7, rekeyS := 0, first := some { ckn := [1], k256 := false, cak := [], mi := 5, mn := 0, peers := [{ sci := 77, mi := 3, mn := 1, prio := 5, live := true, suites := 15, offCap := 2, rxKn := 0, txKn := 0, sends := false, sc := none }], ks := some 0x0102030405060001, kn := 0, an := 0, suite := 0, off := 0, txKid := none, rxKid := none, phase := .done, cutT := 0, want := false } })] } }) w0);
    let l : Nat := 1;
    let p : MkPart := { ckn := [1], k256 := false, cak := [], mi := 5, mn := 0, peers := [{ sci := 77, mi := 3, mn := 1, prio := 5, live := true, suites := 15, offCap := 2, rxKn := 0, txKn := 0, sends := false, sc := none }], ks := some 0x0102030405060001, kn := 0, an := 0, suite := 0, off := 0, txKid := none, rxKid := none, phase := .done, cutT := 0, want := false };
    resetLow s = false ∧ s.svc.restarting = true ∧ s.svc.stopped = false ∧ drbgFull s = false ∧ l ∈ smKeys s.svc.cas ∧ (caOf s l).first = some p) ∧
  (let s : State := w0;
    resetLow s = false ∧ (s.svc.restarting = false ∨ s.svc.stopped = true ∨ drbgFull s = true)) ∧
  (let s : State := wfab w0;
    let i : Nat := 0;
    resetLow s = false ∧ s.glb.testMode = false ∧ pdIsOn s 1 = true ∧ i < 4 ∧ s.glb.pdReq = 0 ∧ s.glb.gating = 0 ∧ pdIsOn s (52 + i) = true) ∧
  (let s : State := { w0 with glb := { w0.glb with pdOn := 7, pdReq := 8 } };
    let i : Nat := 3;
    resetLow s = false ∧ s.glb.testMode = false ∧ pdIsOn s 1 = true ∧ i < 4 ∧ s.glb.pdReq = BitVec.ofNat 4 (2 ^ i) ∧ s.glb.gating = 0 ∧ pdIsOn s (52 + i) = false ∧ s.glb.ramping = [] ∧ s.glb.fwOk = true) ∧
  (let s : State := { w0 with glb := { w0.glb with gating := 8, pdReq := 8 } };
    let i : Nat := 3;
    resetLow s = false ∧ i < 4 ∧ s.glb.gating.getLsbD i = true ∧ domainIdle i s = true ∧ s.glb.pdReq.getLsbD i = true) ∧
  (let s : State := { w0 with glb := { w0.glb with gating := 8 } };
    let i : Nat := 3;
    resetLow s = false ∧ i < 4 ∧ s.glb.gating.getLsbD i = true ∧ domainIdle i s = true ∧ s.glb.pdReq.getLsbD i = false) ∧
  (let s : State := w0;
    let n : Nat := 55;
    resetLow s = false ∧ (n < 52 ∨ 56 ≤ n ∨ s.glb.gating.getLsbD (n - 52) = false ∨ domainIdle (n - 52) s = false)) ∧
  (let s : State := { w0 with chk := [(1, { Chk.reset with st := .running, prog := some { region := 1, alg64 := false, dailies := false, useRef := false, start := 0, len := 3, period := 9, reference := 0, crc8 := 0 }, buf := [1, 2, 3] })] };
    let k : Nat := 1;
    let p : ChkProg := { region := 1, alg64 := false, dailies := false, useRef := false, start := 0, len := 3, period := 9, reference := 0, crc8 := 0 };
    let data : List Byte := [];
    let fail : Bool := false;
    resetLow s = false ∧ k < 4 ∧ (chkOf s k).prog = some p ∧ (chkOf s k).st = .running ∧ (chkOf s k).paused = false ∧ s.glb.gating = 0 ∧ (jobBytes s k p data).length = p.len ∧ jobBad s k p fail = false ∧ p.useRef = false) := 
  ⟨by decide +kernel,
   by decide +kernel,
   by decide +kernel,
   by decide +kernel,
   by decide +kernel,
   by decide +kernel,
   by decide +kernel,
   by decide +kernel⟩

/-- States and operands that meet the hypotheses of `Obligations.EscalationServiceAndGates`, clauses 16 to 23. -/
theorem test_meets_EscalationServiceAndGates_c16_23 :
  (let s : State := { w0 with chk := [(1, { Chk.reset with st := .running, prog := some { region := 1, alg64 := false, dailies := false, useRef := true, start := 0, len := 3, period := 9, reference := (chkCrc { region := 1, alg64 := false, dailies := false, useRef := true, start := 0, len := 3, period := 9, reference := 0, crc8 := 0 } [1, 2, 3]), crc8 := 0 }, buf := [1, 2, 3] })] };
    let k : Nat := 1;
    let p : ChkProg := { region := 1, alg64 := false, dailies := false, useRef := true, start := 0, len := 3, period := 9, reference := (chkCrc { region := 1, alg64 := false, dailies := false, useRef := true, start := 0, len := 3, period := 9, reference := 0, crc8 := 0 } [1, 2, 3]), crc8 := 0 };
    let data : List Byte := [];
    let fail : Bool := false;
    let rd : Bool := false;
    resetLow s = false ∧ k < 4 ∧ (chkOf s k).prog = some p ∧ (chkOf s k).st = .running ∧ (chkOf s k).paused = false ∧ s.glb.gating = 0 ∧ (jobBytes s k p data).length = p.len ∧ jobBad s k p fail = false ∧ p.useRef = true ∧ rd = false ∧ chkCrc p (jobBytes s k p data) = p.reference) ∧
  (let s : State := { w0 with chk := [(1, { Chk.reset with st := .running, prog := some { region := 1, alg64 := false, dailies := false, useRef := true, start := 0, len := 3, period := 9, reference := 1, crc8 := 0 }, buf := [1, 2, 3] })] };
    let k : Nat := 1;
    let p : ChkProg := { region := 1, alg64 := false, dailies := false, useRef := true, start := 0, len := 3, period := 9, reference := 1, crc8 := 0 };
    let data : List Byte := [];
    let fail : Bool := false;
    let rd : Bool := false;
    resetLow s = false ∧ k < 4 ∧ (chkOf s k).prog = some p ∧ (chkOf s k).st = .running ∧ (chkOf s k).paused = false ∧ s.glb.gating = 0 ∧ (jobBytes s k p data).length = p.len ∧ jobBad s k p fail = false ∧ p.useRef = true ∧ rd = false ∧ chkCrc p (jobBytes s k p data) ≠ p.reference) ∧
  (let s : State := { w0 with chk := [(1, { Chk.reset with st := .running, prog := some { region := 1, alg64 := false, dailies := false, useRef := true, start := 0, len := 3, period := 9, reference := 0, crc8 := 0 }, buf := [1, 2, 3] })] };
    let k : Nat := 1;
    let p : ChkProg := { region := 1, alg64 := false, dailies := false, useRef := true, start := 0, len := 3, period := 9, reference := 0, crc8 := 0 };
    let data : List Byte := [];
    let fail : Bool := false;
    let rd : Bool := true;
    resetLow s = false ∧ k < 4 ∧ (chkOf s k).prog = some p ∧ (chkOf s k).st = .running ∧ (chkOf s k).paused = false ∧ s.glb.gating = 0 ∧ (jobBytes s k p data).length = p.len ∧ jobBad s k p fail = false ∧ p.useRef = true ∧ rd = true) ∧
  (let s : State := { w0 with chk := [(1, { Chk.reset with st := .running, prog := some { region := 1, alg64 := false, dailies := false, useRef := false, start := 0, len := 3, period := 9, reference := 0, crc8 := 0 }, buf := [1, 2, 3] })] };
    let k : Nat := 1;
    let p : ChkProg := { region := 1, alg64 := false, dailies := false, useRef := false, start := 0, len := 3, period := 9, reference := 0, crc8 := 0 };
    let data : List Byte := [];
    let fail : Bool := true;
    resetLow s = false ∧ k < 4 ∧ (chkOf s k).prog = some p ∧ (chkOf s k).st = .running ∧ (chkOf s k).paused = false ∧ s.glb.gating = 0 ∧ jobBad s k p fail = true ∧ (jobBytes s k p data).length ≤ p.len) ∧
  (let s : State := { w0 with chk := [(1, { Chk.reset with st := .running, prog := some { region := 1, alg64 := false, dailies := true, useRef := false, start := 0, len := 3, period := 9, reference := 0, crc8 := 0 }, buf := [1, 2, 3] })] };
    let k : Nat := 1;
    let p : ChkProg := { region := 1, alg64 := false, dailies := true, useRef := false, start := 0, len := 3, period := 9, reference := 0, crc8 := 0 };
    let data : List Byte := [];
    let fail : Bool := false;
    resetLow s = false ∧ k < 4 ∧ (chkOf s k).prog = some p ∧ (chkOf s k).st = .running ∧ (chkOf s k).paused = false ∧ s.glb.gating = 0 ∧ (jobBytes s k p data).length = p.len ∧ jobBad s k p fail = false ∧ p.dailies = true) ∧
  (let s : State := { w0 with chk := [(1, { Chk.reset with st := .running, prog := some { region := 1, alg64 := false, dailies := false, useRef := false, start := 0, len := 3, period := 9, reference := 0, crc8 := 0 }, buf := [1] })] };
    let k : Nat := 1;
    let p : ChkProg := { region := 1, alg64 := false, dailies := false, useRef := false, start := 0, len := 3, period := 9, reference := 0, crc8 := 0 };
    let data : List Byte := [];
    let fail : Bool := false;
    resetLow s = false ∧ k < 4 ∧ (chkOf s k).prog = some p ∧ (chkOf s k).st = .running ∧ (chkOf s k).paused = false ∧ s.glb.gating = 0 ∧ jobBad s k p fail = false ∧ (jobBytes s k p data).length ≠ p.len) ∧
  (let s : State := { w0 with chk := [(1, { Chk.reset with st := .waiting, prog := some { region := 1, alg64 := false, dailies := true, useRef := false, start := 0, len := 3, period := 9, reference := 0, crc8 := 0 }, buf := [1, 2, 3] })] };
    let k : Nat := 1;
    let p : ChkProg := { region := 1, alg64 := false, dailies := true, useRef := false, start := 0, len := 3, period := 9, reference := 0, crc8 := 0 };
    resetLow s = false ∧ k < 4 ∧ (chkOf s k).prog = some p ∧ p.dailies = true ∧ (chkOf s k).st = .waiting ∧ (s.glb.mode ≠ .doze ∨ 2 ≤ p.region)) ∧
  (let s : State := { w0 with chk := [(1, { Chk.reset with st := .running, prog := some { region := 1, alg64 := false, dailies := true, useRef := false, start := 0, len := 3, period := 9, reference := 0, crc8 := 0 }, buf := [1, 2, 3] })] };
    let k : Nat := 1;
    let p : ChkProg := { region := 1, alg64 := false, dailies := true, useRef := false, start := 0, len := 3, period := 9, reference := 0, crc8 := 0 };
    resetLow s = false ∧ k < 4 ∧ (chkOf s k).prog = some p ∧ p.dailies = true ∧ ((chkOf s k).st = .running ∨ ((chkOf s k).st = .waiting ∧ s.glb.mode = .doze ∧ p.region < 2))) := 
  ⟨by decide +kernel,
   by decide +kernel,
   by decide +kernel,
   by decide +kernel,
   by decide +kernel,
   by decide +kernel,
   by decide +kernel,
   by decide +kernel⟩

/-- States and operands that meet the hypotheses of `Obligations.EscalationServiceAndGates`, clauses 24 to 31. -/
theorem test_meets_EscalationServiceAndGates_c24_31 :
  (let s : State := w0;
    let k : Nat := 0;
    resetLow s = false ∧ (4 ≤ k ∨ (chkOf s k).prog = none)) ∧
  (let s : State := { w0 with tel := { w0.tel with wrapPend := [7], cfg := [(7, 0xC0000000000001C5)] } };
    let i : Nat := 7;
    resetLow s = false ∧ telOn s = true ∧ s.tel.wrapPend.contains i = true ∧ bitAt s.tel.wrapLog 63 = false ∧ i < 256) ∧
  (let s : State := { w0 with tel := { w0.tel with wrapPend := [7], cfg := [(7, 0xC0000000000001C5)], wrapLog := 0x8000000000000003 } };
    let i : Nat := 7;
    resetLow s = false ∧ telOn s = true ∧ s.tel.wrapPend.contains i = true ∧ bitAt s.tel.wrapLog 63 = true) ∧
  (let s : State := w0;
    let i : Nat := 7;
    resetLow s = false ∧ (telOn s = false ∨ s.tel.wrapPend.contains i = false)) ∧
  (let s : State := wkey 9 .encOnly .traffic (wegr [f0 1 0 .crypt] w0);
    resetLow s = false ∧ s.glb.testMode = false) ∧
  (let s : State := wkey 9 .encOnly .traffic (wegr [f0 1 0 .crypt] w0);
    resetLow s = false ∧ s.glb.testMode = false) ∧
  (let s : State := { w0 with glb := { w0.glb with mbistRun := 3 } };
    let g : Nat := 1;
    resetLow s = false ∧ g < 8 ∧ g ≠ 2 ∧ s.glb.mbistRun.getLsbD g = true) ∧
  (let s : State := (fun s : State => { s with glb := { s.glb with mbistRun := 4 } }) (wkey 9 .encOnly .traffic (wegr [f0 1 0 .crypt] w0));
    resetLow s = false ∧ s.glb.mbistRun.getLsbD 2 = true) := 
  ⟨by decide +kernel,
   by decide +kernel,
   by decide +kernel,
   by decide +kernel,
   by decide +kernel,
   by decide +kernel,
   by decide +kernel,
   by decide +kernel⟩

/-- States and operands that meet the hypotheses of `Obligations.EscalationServiceAndGates`, clause 32. -/
theorem test_meets_EscalationServiceAndGates_c32 :
  (let s : State := w0;
    let g : Nat := 1;
    resetLow s = false ∧ s.glb.mbistRun.getLsbD g = false) := by decide +kernel

/-- States and operands that meet the hypotheses of `Obligations.StatusBitsSetAndClear`, clauses 0 to 2. -/
theorem test_meets_StatusBitsSetAndClear_c0_2 :
  (let x : State := (fun s : State => { s with evt := s.evt.put .egr { (s.evt.get .egr) with stat := 7, raw := 7, clr := 3, pendReal := 2 } }) w0;
    let t : State := settle x;
    let u : Sub := .egr;
    let i : Nat := 0;
    done x = .next t ∧ i < 72 ∧ u.defined.getLsbD i = true) ∧
  (let x : State := (fun s : State => { s with evt := s.evt.put .egr { (s.evt.get .egr) with stat := 7, raw := 7, pendReal := 2 } }) w0;
    let t : State := settle x;
    let u : Sub := .egr;
    done x = .next t ∧ (((x.evt.get u).pendReal ||| levelOf x u ||| (x.evt.get u).pendForced) &&& u.defined) &&& ~~~(x.evt.get u).stat = 0 ∧ (x.evt.get u).clrFirst = false) ∧
  (let s : State := (fun s : State => { s with egr := { s.egr with shed := 1 } }) ((fun s : State => { s with evt := s.evt.put .egr { (s.evt.get .egr) with stat := 7, raw := 7 } }) w0);
    let u : Sub := .egr;
    let sub : Nat := 5;
    let w : Nat := 0;
    eventsSound s ∧ resetLow s = false ∧ s.glb.testMode = false ∧ pdIsOn s 1 = true ∧ subAt sub = some u ∧ w < 2) := 
  ⟨⟨rfl, by decide +kernel⟩,
   ⟨rfl, by decide +kernel⟩,
   ⟨by intro u; cases u <;> decide +kernel, by decide +kernel⟩⟩

/-- States and operands that meet the hypotheses of `Obligations.LinkFilter`, clauses 1 to 2. -/
theorem test_meets_LinkFilter_c1_2 :
  (let s : State := { w0 with tel := { w0.tel with cfg := [(3, 0xA0000000000501C5)] } };
    let i : Nat := 3;
    let w : W64 := 0xA0000000000501C5;
    telOn s = true ∧ (s.tel.cfg.map (·.1)).Nodup ∧ (i, w) ∈ s.tel.cfg ∧ bitAt w 63 = true ∧ bitAt w 61 = true) ∧
  (let s : State := { { wy ({ y0 txp0 0 .on with cut := .armed, cutTime := 0, curAn := 0, cutAn := 1 }) (w0) with tx := [(4, some (a0 9)), (5, some { a0 10 with lease := .none })], jnl := { w0.jnl with resolved := true } } with tel := { w0.tel with cfg := [(7, 0xA0000000000101CD)] } };
    let l : Nat := 1;
    let i : Nat := 7;
    let w : W64 := 0xA0000000000101CD;
    let y : Secy := { y0 txp0 0 .on with cut := .armed, cutTime := 0, curAn := 0, cutAn := 1 };
    resetLow s = false ∧ secyOf s l = some y ∧ y.cut = .armed ∧ s.glb.mode ≠ .doze ∧ telOn s = true ∧ s.tel.cfg = [(i, w)] ∧ bitAt w 63 = true ∧ bitAt w 61 = true ∧ fld w 0 9 = 0x1CD) := 
  ⟨by decide +kernel,
   by decide +kernel⟩

/-- States and operands that meet the hypotheses of `Obligations.FrameSci`, clauses 0 to 3. -/
theorem test_meets_FrameSci_c0_3 :
  (let s : State := w0;
    let bs : List Byte := btag 0x2C 0x14;
    let clear : Nat := 0;
    let xpn : Bool := false;
    let t : Tag := (tagOf w0 (btag 0x2C 0x14) 0 false).get (by decide +kernel);
    tagOf s bs clear xpn = some t ∧ t.bit 5 = true) ∧
  (let s : State := w0;
    let bs : List Byte := btag 0x4C 0x14;
    let clear : Nat := 0;
    let xpn : Bool := false;
    let t : Tag := (tagOf w0 (btag 0x4C 0x14) 0 false).get (by decide +kernel);
    tagOf s bs clear xpn = some t ∧ t.bit 5 = false ∧ t.bit 6 = true ∧ 12 ≤ bs.length) ∧
  (let s : State := wsc w0;
    let l : Nat := 1;
    let bs : List Byte := btag 0x0C 0x14;
    let clear : Nat := 0;
    let xpn : Bool := false;
    let t : Tag := (tagOf w0 (btag 0x0C 0x14) 0 false).get (by decide +kernel);
    let c : Nat := 0;
    let z : Sc := { link := 1, sci := 0x0102030405060001 };
    tagOf s bs clear xpn = some t ∧ t.bit 5 = false ∧ t.bit 6 = false ∧ scsOfLink s l = [c] ∧ scOf s c = some z) ∧
  (let s : State := w0;
    let l : Nat := 1;
    let bs : List Byte := btag 0x0C 0x14;
    let clear : Nat := 0;
    let xpn : Bool := false;
    let t : Tag := (tagOf w0 (btag 0x0C 0x14) 0 false).get (by decide +kernel);
    tagOf s bs clear xpn = some t ∧ t.bit 5 = false ∧ t.bit 6 = false ∧ (scsOfLink s l).length ≠ 1) := 
  ⟨by decide +kernel,
   by decide +kernel,
   by decide +kernel,
   by decide +kernel⟩

end Sys2Proof.Tests
end

section
/-! The machine right after reset. -/
namespace Sys2Proof.Machine

theorem portOf_reset (p : Nat) : portOf State.reset p = Port.reset := rfl

/-- Settles O6: every value is read off `State.reset`, and each port off `Port.reset`. -/
theorem resetValues : Obligations.ResetValues :=
  ⟨rfl, rfl, rfl, rfl, rfl, rfl, rfl, rfl, rfl, rfl, rfl, rfl, rfl, rfl, rfl, rfl, rfl, rfl, rfl, rfl, rfl, rfl, rfl, rfl, rfl,
    rfl, rfl, rfl, rfl, rfl, rfl, rfl, rfl, rfl, rfl, rfl, rfl, fun p => by rw [portOf_reset]; exact ⟨rfl, rfl, rfl⟩⟩

end Sys2Proof.Machine
end

section
/-! The CSR window: when a read or write is refused, what it answers, what it takes. -/
namespace Sys2Proof.Machine

/-- CSR accesses are taken: no reset is low, the engine is not in test mode and PD01 is on (R34, R49, R421). -/
structure CsrOpen (s : State) : Prop where
  high : resetLow s = false
  mission : s.glb.testMode = false
  powered : pdIsOn s 1 = true

theorem csrGate_open {s : State} (h : CsrOpen s) (f : State → State) : csrGate f s = f s := by
  have hr : (s.aon.porLow || s.aon.sysLow) = false := h.high
  simp [csrGate, h.mission, hr, h.powered]

/-- The end of a CSR row that the window takes. -/
theorem csrRun_open {s : State} (h : CsrOpen s) (f : State → State) : run s (csrGate f s) = .next (settle (f s)) := by
  rw [csrGate_open h, run_high h.high]; rfl

theorem settled_settle (s : State) : settled s (settle s) := ⟨rfl, fun u _ => by simp⟩

/-- A CSR row that the window takes ends as its effect says. -/
theorem csrRun_settled {s u : State} (h : CsrOpen s) {f : State → State} (hf : f s = u) :
    ∃ t, run s (csrGate f s) = .next t ∧ settled u t :=
  ⟨settle u, by rw [csrRun_open h, hf], settled_settle u⟩

/-! Writes of registers. -/

section
variable {s : State} {addr sp off : Nat} (v : W64) (priv : Bool) (hat : spanOf (addr % 0x400000 / 8 * 8) = (sp, off))
include hat

theorem csrWrite_blocked (hb : blockedAt s sp off = true) : csrWrite addr v priv s = emit (.csr 3 0) s := by
  simp [csrWrite, hat, hb, csrBlocked]

theorem csrWrite_nomap (hb : blockedAt s sp off = false) (hr : regAt s sp off = none) :
    csrWrite addr v priv s = emit (.csr 2 0) s := by
  simp [csrWrite, hat, hb, hr, csrNomap]

/-- A register that is no host queue's: what is left to check is privilege and the lock (R407, R408). -/
theorem csrWrite_reg (hb : blockedAt s sp off = false) (hr : (regAt s sp off).isSome = true) (hq : sp = 2 → hqAt off = none) :
    csrWrite addr v priv s =
      if !priv && writePriv sp off then csrPriv s
      else if !priv && s.glb.locked && hasRwl sp off then lockDenied s
      else csrOkay (putReg sp off v s) := by
  have hn : (regAt s sp off).isNone = false := by rw [Option.isNone_eq_false_iff]; exact hr
  have hh : ¬(sp = 2 ∧ (hqAt off).isSome = true) := fun ⟨h2, hs⟩ => by rw [hq h2] at hs; cases hs
  simp only [csrWrite, hat, hb, hn, hh, Bool.false_eq_true, if_false]

end

/-- A write by REGISTER_WRITE that neither privilege nor the lock holds off takes the fields that the register's table gives. -/
theorem registerWrite_takes {s u : State} {addr : Nat} {v : W64} {priv : Bool} (h : CsrOpen s) (sp off : Nat)
    (hat : spanOf (addr % 0x400000 / 8 * 8) = (sp, off)) (hb : blockedAt s sp off = false)
    (hr : (regAt s sp off).isSome = true) (hq : sp = 2 → hqAt off = none) (hp : writePriv sp off = false)
    (hl : hasRwl sp off = false ∨ priv = true ∨ s.glb.locked = false) (hu : putReg sp off v s = u) :
    ∃ t, exec (.registerWrite addr v priv) s = .next t ∧ settled (emit (.csr 0 0) u) t := by
  refine csrRun_settled h ?_
  have hlock : (!priv && s.glb.locked && hasRwl sp off) = false := by
    rcases hl with hl | hl | hl <;> simp [hl]
  rw [csrWrite_reg v priv hat hb hr hq, hp, hlock, hu]
  simp [csrOkay]

/-! Clearing reads. -/

theorem instAt_inst {lo step n i : Nat} (hs : 0 < step) (hi : i < n) : instAt lo step n (lo + step * i) = some i := by
  have : step * i < step * n := Nat.mul_lt_mul_of_pos_left hi hs
  simp [instAt, this, hs]

/-- A read that is not refused answers with the register and then clears what of it is RC. -/
theorem readClear_ok {s : State} {addr sp off : Nat} {priv : Bool} (h : CsrOpen s)
    (hat : spanOf (addr % 0x400000 / 8 * 8) = (sp, off)) (hok : (csrRead s addr priv).1 = 0) :
    exec (.readClear addr priv) s =
      .next (settle (emit (.csr 0 (csrRead s addr priv).2) (readClears sp off s))) := by
  refine (csrRun_open h _).trans ?_
  simp [csrReadClear, hat, hok]

/-- A read of a register outside the refused windows, telemetry and the host queues is not refused. -/
theorem csrRead_taken {s : State} {addr sp off : Nat} (priv : Bool) (hat : spanOf (addr % 0x400000 / 8 * 8) = (sp, off))
    (hb : blockedAt s sp off = false) (hr : (regAt s sp off).isSome = true) (hd : readDenied s sp off = false) :
    (csrRead s addr priv).1 = 0 := by
  obtain ⟨w, hw⟩ := Option.isSome_iff_exists.1 hr
  simp [csrRead, hat, hb, hw, hd]

@[simp] theorem portOf_modPort (n : Nat) (f : Port → Port) (s : State) (j : Nat) :
    portOf (modPort n f s) j = if j = n then f (portOf s n) else portOf s j := by simp [modPort]

@[simp] theorem portOf_settle_emit (o : Out) (s : State) (p : Nat) : portOf (settle (emit o s)) p = portOf s p := rfl
@[simp] theorem queOf_settle_emit (o : Out) (s : State) (q : Nat) : queOf (settle (emit o s)) q = queOf s q := rfl

/-- Address of the status register of fabric port `p`, and of the counts of queue `q`. -/
theorem spanOf_portStat {p : Nat} (hp : p < 8) : spanOf ((0x240108 + 0x20 * p) % 0x400000 / 8 * 8) = (11, 0x108 + 0x20 * p) := by
  interval_cases p <;> rfl

theorem spanOf_queCnt {q : Nat} (hq : q < 24) : spanOf ((0x301008 + 0x40 * q) % 0x400000 / 8 * 8) = (14, 0x1008 + 0x40 * q) := by
  have ha : (0x301008 + 0x40 * q) % 0x400000 / 8 * 8 = 0x300000 + (0x1008 + 0x40 * q) := by omega
  rw [ha, spanOf, if_neg (by omega), if_neg (by omega), if_neg (by omega), if_neg (by omega), Nat.add_sub_cancel_left]

/-- Both registers exist. -/
theorem regAt_portStat (s : State) {p : Nat} (hp : p < 8) : (regAt s 11 (0x108 + 0x20 * p)).isSome = true := by
  interval_cases p <;> rfl

theorem regAt_queCnt (s : State) {q : Nat} (hq : q < 24) : (regAt s 14 (0x1008 + 0x40 * q)).isSome = true := by
  have hptr : instAt 0x1000 0x40 24 (0x1008 + 0x40 * q) = none := by simp [instAt]; omega
  simp [regAt, readQue, hptr, instAt_inst (lo := 0x1008) (step := 0x40) (by decide) hq]

/-! Event sets. -/

/-- A forced source shows in STAT; its RAW bit stays where nothing else touches it (R372). -/
theorem forced_cycle {u : Sub} {l : BitVec 72} {n i : Nat} {e : EvSet} (hf : e.pendForced.getLsbD i = true)
    (hd : u.defined.getLsbD i = true) :
    (e.cycle u l n).stat.getLsbD i = true ∧
      (e.pendReal = 0 → l.getLsbD i = false → e.clr = 0 → (e.cycle u l n).raw.getLsbD i = e.raw.getLsbD i) := by
  rw [(cycle_bits u l n e).1, (cycle_bits u l n e).2.1]
  refine ⟨by simp [hf, hd], fun hp hl hc => ?_⟩
  simp only [hp, hc, hl, BitVec.ofNat_eq_ofNat, BitVec.zero_or, BitVec.zero_and, BitVec.not_zero, BitVec.and_allOnes,
    BitVec.getLsbD_or, BitVec.getLsbD_and, Bool.false_and, Bool.or_false]

/-- With no source rising, FIRST is what the cycle keeps of it (R374). -/
theorem cycle_first {u : Sub} {l : BitVec 72} {n : Nat} {e : EvSet} (hr : e.pendReal = 0) (hf : e.pendForced = 0)
    (hl : (l &&& u.defined) &&& ~~~e.stat = 0) : (e.cycle u l n).first = if e.clrFirst then 0 else e.first := by
  have hrise : ((0 ||| l) &&& u.defined ||| 0 &&& u.defined) &&& ~~~e.stat = 0 := by simpa using hl
  have hm : mergeCause e (0 &&& u.defined) n e.first = e.first := by
    have h0 : put (bn false + 2 * bn false) 60 2 = 0 := by decide
    simp [mergeCause, hf, h0]
  simp only [EvSet.cycle, escStep_frame, hr, hf, hrise, hm]
  rfl

theorem levelOf_modEvt (v : Sub) (f : EvSet → EvSet) (s : State) (u : Sub) : levelOf (modEvt v f s) u = levelOf s u :=
  levelOf_evt s _ u

theorem levelOf_emit (o : Out) (s : State) (u : Sub) : levelOf (emit o s) u = levelOf s u := by cases u <;> rfl

@[simp] theorem get_modEvt (v : Sub) (f : EvSet → EvSet) (s : State) (u : Sub) :
    (modEvt v f s).evt.get u = if u = v then f (s.evt.get v) else s.evt.get u := by simp [modEvt]

/-- Bit `i` of a word placed as word `w` of the 72 sources. -/
theorem putSrc_zero_bit {w i : Nat} (v : W64) (h : 64 * w + i < 72) : (putSrc 0 w v).getLsbD (64 * w + i) = v.getLsbD i := by
  simp only [putSrc, BitVec.ofNat_eq_ofNat, BitVec.zero_and, BitVec.zero_or, BitVec.getLsbD_ofNat, Nat.testBit_shiftLeft, h,
    decide_true, Bool.true_and, ge_iff_le, Nat.le_add_right, Nat.add_sub_cancel_left]
  rfl

/-- The row that forces sources shows them in STAT; RAW stays where no real cause, level or clear touches it (R372). -/
theorem evtForce_bits {s : State} {u : Sub} {w i : Nat} {data : W64} (hi : 64 * w + i < 72) (hb : data.getLsbD i = true)
    (hd : u.defined.getLsbD (64 * w + i) = true) :
    let t := settle (csrOkay (forceEvt u w data s))
    (t.evt.get u).stat.getLsbD (64 * w + i) = true ∧
      ((s.evt.get u).pendReal = 0 → (levelOf s u).getLsbD (64 * w + i) = false → (s.evt.get u).clr = 0 →
        (t.evt.get u).raw.getLsbD (64 * w + i) = (s.evt.get u).raw.getLsbD (64 * w + i)) := by
  intro t
  have ht : t.evt.get u = { s.evt.get u with pendForced := (s.evt.get u).pendForced ||| putSrc 0 w data }.cycle u (levelOf s u)
      s.time.toNat := by
    simp only [t, settle_evt, csrOkay, levelOf_emit, forceEvt, levelOf_modEvt, emit_frame, get_modEvt, if_pos, modEvt_frame]
  rw [ht]
  exact forced_cycle (by rw [BitVec.getLsbD_or, putSrc_zero_bit data hi, hb, Bool.or_true]) hd

/-- The row that clears FIRST: from sound sets FIRST is gone where VALID is written 1 and stays otherwise. -/
theorem firstClear_first {s : State} {u : Sub} (data : W64) (hs : eventsSound s) :
    ((settle (csrOkay (clearFirst u data s))).evt.get u).first = if bitAt data 63 then 0 else (s.evt.get u).first := by
  obtain ⟨hr, hf, -, hc, hl, -, -⟩ := hs u
  simp only [settle_evt, csrOkay, levelOf_emit, clearFirst, levelOf_modEvt, emit_frame, get_modEvt, if_pos]
  refine (cycle_first ?_ ?_ ?_).trans ?_
  · exact hr
  · exact hf
  · exact hl
  · simp [hc]

theorem firstClear_exec {s : State} {u : Sub} {sub : Nat} (h : CsrOpen s) (hu : subAt sub = some u) (data : W64) :
    exec (.firstClear sub data) s = .next (settle (csrOkay (clearFirst u data s))) :=
  (csrRun_open h _).trans (by simp [hu])

/-- A row that changes an event set changes the sets and answers, and nothing else. -/
theorem evtRow_frame (u : Sub) (f : EvSet → EvSet) (s : State) : sameBut [.evt, .out] s (settle (csrOkay (modEvt u f s))) := by
  intro x hx; cases x <;> simp_all [Part.same, csrOkay]

/-! The tamper latch and telemetry. -/

/-- In LOCKOUT a 1 clears its latch bit, an input's only while the input is low (R91). -/
theorem tmpClear_bit {s : State} {i : Nat} (data : W64) (hm : s.glb.mode = .lockout) (hi : i < 5) :
    (tmpClear data s).aon.tmpLatched.getLsbD i =
      (s.aon.tmpLatched.getLsbD i && !(data.getLsbD (8 + i) && !(decide (i < 4) && s.aon.tmpLive.getLsbD i))) := by
  have hlive : s.aon.tmpLive.getLsbD i = (decide (i < 4) && s.aon.tmpLive.getLsbD i) := by
    by_cases h4 : i < 4
    · simp [h4]
    · rw [BitVec.getLsbD_of_ge _ _ (by omega), Bool.and_false]
  simp only [tmpClear, hm, beq_self_eq_true, if_true, BitVec.getLsbD_and, BitVec.getLsbD_not, hi, BitVec.getLsbD_extractLsb',
    BitVec.getLsbD_setWidth, decide_true, Bool.true_and, ← hlive]

/-! ### O56 -/

/-- Settles O56: a write goes through the window's checks (`csrWrite_reg`) to the field that its register takes
(`registerWrite_takes`), a read to what of its register is RC (`readClear_ok`), and the event sets judge what is forced or cleared in
the cycle that ends the step (`evtForce_bits`, `firstClear_first`). -/
theorem registerAccess : Obligations.RegisterAccess := by
  unfold Obligations.RegisterAccess
  refine ⟨?blocked, ?nomap, ?priv, ?locked, ?wakeCfg, ?wakeTime, ?remask, ?tpid, ?rekey, ?rampMax, ?interval, ?endurance, ?shed,
    ?regionCold, ?regionElse, ?denied, ?port, ?queue, ?refused, ?force, ?forcePriv, ?firstValid, ?firstKept, ?tamper, ?tamperElse,
    ?tamperPriv, ?telCnt, ?telCntPriv, ?telOff, ?wrap, ?wrapKept, ?wrapPriv⟩
  case blocked =>
    intro s addr sp off v priv hl ht hp hat hb
    exact csrRun_settled ⟨hl, ht, hp⟩ (csrWrite_blocked v priv hat hb)
  case nomap =>
    intro s addr sp off v priv hl ht hp hat hb hr
    exact csrRun_settled ⟨hl, ht, hp⟩ (csrWrite_nomap v priv hat hb hr)
  case priv =>
    intro s addr sp off v priv hl ht hp hat hb hr hq hw hpr
    exact csrRun_settled ⟨hl, ht, hp⟩ ((csrWrite_reg v priv hat hb hr fun _ => hq).trans (by simp [hw, hpr, csrPriv]))
  case locked =>
    intro s addr sp off v priv hl ht hp hat hb hr hq hw hrwl hlock hpr
    exact csrRun_settled ⟨hl, ht, hp⟩
      ((csrWrite_reg v priv hat hb hr fun _ => hq).trans (by simp [hw, hpr, hrwl, hlock, lockDenied, csrPriv]))
  case wakeCfg =>
    intro s v priv hl ht hp
    exact registerWrite_takes ⟨hl, ht, hp⟩ 1 0x30 rfl rfl rfl (by decide) rfl (.inl rfl) rfl
  case wakeTime =>
    intro s v priv hl ht hp
    exact registerWrite_takes ⟨hl, ht, hp⟩ 1 0x38 rfl rfl rfl (by decide) rfl (.inl rfl) rfl
  case remask =>
    intro s v priv hl ht hp
    exact registerWrite_takes ⟨hl, ht, hp⟩ 4 0x18 rfl rfl rfl (by decide) rfl (.inl rfl) rfl
  case tpid =>
    intro s v priv hl ht hp hk
    exact registerWrite_takes ⟨hl, ht, hp⟩ 6 0x18 rfl rfl rfl (by decide) rfl (.inr hk) rfl
  case rekey =>
    intro s v priv hl ht hp hk
    exact registerWrite_takes ⟨hl, ht, hp⟩ 10 0x38 rfl rfl rfl (by decide) rfl (.inr hk) rfl
  case rampMax =>
    intro s v priv hl ht hp
    exact registerWrite_takes ⟨hl, ht, hp⟩ 0 0x110 rfl rfl rfl (by decide) rfl (.inl rfl) (by simp [putReg, writeGlb, inRange])
  case interval =>
    intro s v priv hl ht hp
    exact registerWrite_takes ⟨hl, ht, hp⟩ 9 0x30 rfl rfl rfl (by decide) rfl (.inl rfl) rfl
  case endurance =>
    intro s v priv hl ht hp hk
    exact registerWrite_takes ⟨hl, ht, hp⟩ 10 0x20 rfl rfl rfl (by decide) rfl (.inr hk) (by simp [putReg, writeJnl, inRange])
  case shed =>
    intro s v priv hl ht hp
    refine registerWrite_takes ⟨hl, ht, hp⟩ 6 0x20 rfl rfl rfl (by decide) rfl (.inl rfl) ?_
    show writeEgr 0x20 v s = _
    simp only [writeEgr, writeShed]
    split <;> rfl
  case regionCold =>
    intro s v priv hl ht hp hk hm
    exact registerWrite_takes ⟨hl, ht, hp⟩ 9 0x20 rfl rfl rfl (by decide) rfl (.inr hk)
      (by simp [putReg, writeCxm, hm, moveRegion])
  case regionElse =>
    intro s v priv hl ht hp hk hm
    exact registerWrite_takes ⟨hl, ht, hp⟩ 9 0x20 rfl rfl rfl (by decide) rfl (.inr hk) (by simp [putReg, writeCxm, hm])
  case denied =>
    intro s priv hl ht hp
    have hok : (csrRead s 0x40 priv).1 = 0 := csrRead_taken (sp := 0) (off := 0x40) priv rfl rfl rfl rfl
    refine ⟨_, readClear_ok ⟨hl, ht, hp⟩ (sp := 0) (off := 0x40) rfl hok, ?_, settled_settle _⟩
    simp [readClears]
  case port =>
    intro s p priv hl ht hp hlt
    have hok := csrRead_taken (s := s) priv (spanOf_portStat hlt) (by simp [blockedAt]) (regAt_portStat s hlt) (by simp [readDenied])
    have hc : readClears 11 (0x108 + 0x20 * p) s = modPort p (fun t => { t with retrains := 0, symErr := 0 }) s := by
      simp [readClears, instAt_inst (lo := 0x108) (step := 0x20) (by decide) hlt]
    refine ⟨_, readClear_ok ⟨hl, ht, hp⟩ (spanOf_portStat hlt) hok, ?_⟩
    rw [hc]
    refine ⟨by simp, by simp, fun j hj => by simp [hj], ?_⟩
    intro x hx; cases x <;> simp_all [Part.same]
  case queue =>
    intro s q priv hl ht hp hlt
    have hok := csrRead_taken (s := s) priv (spanOf_queCnt hlt) (by simp [blockedAt]; omega) (regAt_queCnt s hlt) (by simp [readDenied])
    have hc : readClears 14 (0x1008 + 0x40 * q) s = modQue q (fun e => { e with hw := queCount e }) s := by
      simp [readClears, instAt_inst (lo := 0x1008) (step := 0x40) (by decide) hlt]
    refine ⟨_, readClear_ok ⟨hl, ht, hp⟩ (spanOf_queCnt hlt) hok, ?_⟩
    rw [hc]
    refine ⟨by simp, by simp, fun j hj => by simp [hj], ?_⟩
    intro x hx; cases x <;> simp_all [Part.same]
  case refused =>
    intro s addr priv hl ht hp hr
    exact csrRun_settled ⟨hl, ht, hp⟩ (by simp only [csrReadClear, beq_iff_eq, if_neg hr])
  case force =>
    intro s u sub w data hl ht hp hu hw
    have hf : exec (.evtForce sub w data true) s = .next (settle (csrOkay (forceEvt u w data s))) :=
      (csrRun_open ⟨hl, ht, hp⟩ _).trans (by simp [hu, Nat.not_le.2 hw])
    exact ⟨_, hf, rfl, fun i _ hi hb hd => evtForce_bits hi hb hd, evtRow_frame u _ s⟩
  case forcePriv =>
    intro s u sub w data hl ht hp hu hw
    exact csrRun_settled ⟨hl, ht, hp⟩ (by simp [hu, hw, csrPriv])
  case firstValid =>
    intro s u sub data hl ht hp hu hs hv
    refine ⟨_, firstClear_exec ⟨hl, ht, hp⟩ hu data, ?_, rfl, evtRow_frame u _ s⟩
    rw [firstClear_first data hs, hv]; rfl
  case firstKept =>
    intro s u sub data hl ht hp hu hs hv
    refine ⟨_, firstClear_exec ⟨hl, ht, hp⟩ hu data, ?_, rfl, evtRow_frame u _ s⟩
    rw [firstClear_first data hs, hv]; rfl
  case tamper =>
    intro s data hl ht hp hm
    refine ⟨_, csrRun_open ⟨hl, ht, hp⟩ _, fun i hi => tmpClear_bit data hm hi, ?_, ?_⟩
    · simp [csrOkay, tmpClear, hm]
    · simp [csrOkay, tmpClear, hm]
  case tamperElse =>
    intro s data hl ht hp hm
    exact csrRun_settled ⟨hl, ht, hp⟩ (by simp [tmpClear, hm, csrOkay])
  case tamperPriv =>
    intro s data hl ht hp
    exact csrRun_settled ⟨hl, ht, hp⟩ rfl
  case telCnt =>
    intro s i data hl ht hp hi ho
    have hx : exec (.telCntWrite i data true) s = .next (settle (csrOkay (writeTelCnt i data s))) :=
      (csrRun_open ⟨hl, ht, hp⟩ _).trans (by simp [Nat.not_le.2 hi])
    refine ⟨_, hx, ?_, fun j hj => ?_, ?_⟩
    · simp [csrOkay, writeTelCnt, ho]
    · simp [csrOkay, writeTelCnt, ho, hj]
    · intro x hx; cases x <;> simp_all [Part.same, csrOkay, writeTelCnt]
  case telCntPriv =>
    intro s i data hl ht hp hi
    exact csrRun_settled ⟨hl, ht, hp⟩ (by simp [hi, csrPriv])
  case telOff =>
    intro s i data hl ht hp hi ho
    exact csrRun_settled ⟨hl, ht, hp⟩ (by simp [hi, ho, writeTelCnt, csrOkay])
  case wrap =>
    intro s data hl ht hp ho hv
    exact csrRun_settled ⟨hl, ht, hp⟩ (by simp [ho, hv, clearWrapLog, csrOkay])
  case wrapKept =>
    intro s data hl ht hp hn
    have hk : (telOn s && bitAt data 63) = false := Bool.and_eq_false_iff.2 hn
    exact csrRun_settled ⟨hl, ht, hp⟩ (by simp only [if_true, clearWrapLog, hk, csrOkay, Bool.false_eq_true, if_false])
  case wrapPriv =>
    intro s data hl ht hp
    exact csrRun_settled ⟨hl, ht, hp⟩ rfl

end Sys2Proof.Machine
end

section
/-! Commands that are answered before they start: a wrong length, a command sent again, reserved bits of the header. -/
namespace Sys2Proof.Machine

theorem newCmd_opcode {op : Nat} (h : op < 256) (p : Pkt) (s : State) : (newCmd op p s).opcode.toNat = op := by
  simp [newCmd, Nat.mod_eq_of_lt h]

/-- Steps 4 to 7 of R327 for a permitted command with reserved bits in its header. -/
theorem checkRun_badHeader {op : Nat} {p : Pkt} {s : State} {o : OpInfo} (hop : op < 256) (ho : opInfo op = some o)
    (hpriv : o.priv = true → hasPriv (newCmd op p s) = true) (hlock : s.glb.mode ≠ .lockout) (hcold : s.glb.mode ≠ .cold)
    (hchg : s.glb.change = none) (hres : s.glb.resume ≠ 1) (hstop : s.svc.stopped = false) (hbad : headerBad p = true) :
    checkRun (newCmd op p s) s = some stBadParam := by
  have hp : (o.priv && !hasPriv (newCmd op p s)) = false := by
    cases h : o.priv
    · rfl
    · rw [hpriv h]; rfl
  have hpk : (newCmd op p s).pkt = p := rfl
  have hr : ¬s.glb.resume = 1#4 := hres
  simp [checkRun, newCmd_opcode hop, ho, hp, hlock, hcold, hchg, hr, hstop, hpk, hbad]

theorem runRow_eq (op : Nat) (eff : QCmd → State → State) (p : Pkt) (s : State) :
    runRow op eff p s = acceptCmd (fun q t => if heldBack t q then enqueue q t else startCmd eff q (quePass 6 1 t))
      (newCmd op p s) (arrived s) := rfl

/-- A host's command that reaches the checks of its own row is not to be forwarded. -/
theorem reaches_req {op n : Nat} {p : Pkt} {s : State} (h : reaches op n p s = true) : p.req = .hq n ∧ pktRemote p = false := by
  simp only [reaches, Bool.and_eq_true, decide_eq_true_eq, Bool.not_eq_true', beq_iff_eq] at h
  obtain ⟨⟨⟨⟨⟨⟨⟨-, hreq⟩, hrem⟩, -⟩, -⟩, -⟩, -⟩, -⟩ := h
  exact ⟨hreq, hrem⟩

/-- A command whose form is wrong is answered at once. -/
theorem runRow_badForm {op st : Nat} {p : Pkt} {s : State} (eff : QCmd → State → State)
    (h : checkForm (newCmd op p s) = some st) : runRow op eff p s = deliver (newCmd op p s) st [] 0 0 (arrived s) := by
  simp only [runRow_eq, acceptCmd, h]

/-- A command that is cached is answered from the cache (R329). -/
theorem runRow_duplicate {op : Nat} {p : Pkt} {s : State} {d : Dup} (eff : QCmd → State → State)
    (hf : checkForm (newCmd op p s) = none) (hd : dupEntry s (newCmd op p s) = some d)
    (ho : d.opcode = BitVec.ofNat 8 op) (hc : d.crc = pktCrc p) :
    runRow op eff p s =
      deliver (newCmd op p s) stDuplicate d.words d.status.toNat (bn (decide (8 < d.rlen))) (bump 0x5D none (arrived s)) := by
  have hd' : dupEntry (arrived s) (newCmd op p s) = some d := by rw [arrived_eq]; exact hd
  have hsame : d.opcode = (newCmd op p s).opcode ∧ d.crc = pktCrc (newCmd op p s).pkt := ⟨ho, hc⟩
  simp only [runRow_eq, acceptCmd, hf, checkDup, hd', if_pos hsame]

section
variable {op n : Nat} {p : Pkt} (s u : State) (hr : p.req = .hq n) (st : Nat) (ws : List W64) (o t : Nat)
include hr

/-- A reply delivered to a host stands in the slot of its command, and its event shows. -/
theorem deliver_reply (hn : n < 4) :
    hostSlot (settle (deliver (newCmd op p s) st ws o t u)) n p.slot =
        { hostSlot u n p.slot with st := .done, rep := repHeader (newCmd op p s) st ws.length o t :: ws } ∧
      eventSet (settle (deliver (newCmd op p s) st ws o t u)) .mci n := by
  have hd : Sub.mci.defined.getLsbD n = true := by interval_cases n <;> rfl
  rw [deliver_host hr]
  exact ⟨by simp [raise, hostSlot, setHostSlot], raised_shows .mci n _ hd (by omega)⟩

/-- A reply to a host that is no completion leaves the cache and the commands in progress alone. -/
theorem deliver_mci :
    let m := (settle (deliver (newCmd op p s) st ws o t u)).mci
    m.dups = u.mci.dups ∧ m.cmdq = u.mci.cmdq ∧ m.running = u.mci.running := by
  rw [deliver_host hr]; simp [raise, setHostSlot]

theorem deliver_cnt (c : Nat) : smGet 0 (settle (deliver (newCmd op p s) st ws o t u)).cnt c =
    if c = 0x5C then satAdd 63 (smGet 0 u.cnt c) 1 else smGet 0 u.cnt c := by
  rw [deliver_host hr]
  simp only [settle_frame, raise, raiseL_frame, quePass, modQue_frame, setHostSlot_frame, bump, bumpN_cnt]
  split <;> simp_all

theorem deliver_frame (hu : sameBut [.mci, .evt, .tel, .cnt, .que] s u) :
    sameBut [.mci, .evt, .tel, .cnt, .que] s (settle (deliver (newCmd op p s) st ws o t u)) := by
  refine sameBut_trans hu ?_
  rw [deliver_host hr]
  intro x hx; cases x <;> simp_all [Part.same, raise]

end

theorem sameBut_arrived (s : State) : sameBut [.mci, .evt, .tel, .cnt, .que] s (arrived s) := by
  rw [arrived_eq]; intro x hx; cases x <;> simp_all [Part.same]

@[simp] theorem arrived_cnt (s : State) : (arrived s).cnt = s.cnt := by rw [arrived_eq]

@[simp] theorem arrived_mci (s : State) : (arrived s).mci = { s.mci with nextId := s.mci.nextId + 1 } := by rw [arrived_eq]

@[simp] theorem hostSlot_arrived (s : State) (n k : Nat) : hostSlot (arrived s) n k = hostSlot s n k := by simp [hostSlot]

@[simp] theorem hostSlot_bump (c : Nat) (l : Option Nat) (s : State) (n k : Nat) : hostSlot (bump c l s) n k = hostSlot s n k := by
  simp [hostSlot]

/-- Settles O16: a bad header is found by the checks that every command meets when it starts (`checkRun_badHeader`), a wrong length
(`runRow_badForm`) and a command sent again (`runRow_duplicate`) before its turn comes, with a reply that completes nothing. -/
theorem headerChecksAndDuplicates : Obligations.HeaderChecksAndDuplicates := by
  unfold Obligations.HeaderChecksAndDuplicates
  refine ⟨?header, ?length, ?duplicate⟩
  case header =>
    intro c op n p s o hc hreach hlock hcold hchg hres hstop ho hpriv hbad
    obtain ⟨eff, hexec, hop⟩ := exec_mciOf hc s
    obtain ⟨hreq, hrem⟩ := reaches_req hreach
    have hhdr : headerBad p = true := by
      simp only [headerBad, hrem, Bool.or_eq_true, bne_iff_ne, Bool.and_eq_true, Bool.not_false, true_and, or_assoc]; exact hbad
    have hhas : hasPriv (newCmd op p s) = p.priv := by
      have : (newCmd op p s).pkt = p := rfl
      simp [hasPriv, this, hreq]
    obtain ⟨hn, hr, hrow⟩ := runRow_refused eff hreach
      (checkRun_badHeader hop ho (fun h => hhas.trans (hpriv h)) hlock hcold hchg hres hstop hhdr)
    refine ⟨_, hexec.trans (run_high (reaches_high hreach)), ?_⟩
    rw [hrow]
    exact complete_answered hn hr _ _
  case length =>
    intro c op n p s o hc hn hr hl ho hlen
    obtain ⟨eff, hexec, hop⟩ := exec_mciOf hc s
    have hform : checkForm (newCmd op p s) = some stBadLength := by
      have hpk : (newCmd op p s).pkt = p := rfl
      have hno : ¬(p.len ≤ 64 ∧ o.len p.len p.words = true) := fun ⟨h64, hw⟩ => by
        rcases hlen with h | h
        · omega
        · rw [h] at hw; cases hw
      simp only [checkForm, newCmd_opcode hop, ho, hpk, if_neg hno]
    refine ⟨_, hexec.trans (run_high hl), ?_⟩
    rw [runRow_badForm eff hform]
    obtain ⟨hslot, hevt⟩ := deliver_reply (op := op) s (arrived s) hr stBadLength [] 0 0 hn
    obtain ⟨hdups, hcmdq, hrun⟩ := deliver_mci (op := op) s (arrived s) hr stBadLength [] 0 0
    rw [hostSlot_arrived] at hslot
    rw [arrived_mci] at hdups hcmdq hrun
    exact ⟨⟨hslot, hevt⟩, hdups, hcmdq, hrun, deliver_frame s _ hr _ _ _ _ (sameBut_arrived s)⟩
  case duplicate =>
    intro c op n p s d hc hn hr hl hform hdup hop hcrc
    obtain ⟨eff, hexec, -⟩ := exec_mciOf hc s
    refine ⟨_, hexec.trans (run_high hl), ?_⟩
    rw [runRow_duplicate eff hform hdup hop hcrc]
    obtain ⟨hslot, -⟩ := deliver_reply (op := op) s (bump 0x5D none (arrived s)) hr stDuplicate d.words d.status.toNat
      (bn (decide (8 < d.rlen))) hn
    obtain ⟨hdups, hcmdq, hrun⟩ := deliver_mci (op := op) s (bump 0x5D none (arrived s)) hr stDuplicate d.words d.status.toNat
      (bn (decide (8 < d.rlen)))
    have hmci : (bump 0x5D none (arrived s)).mci = { s.mci with nextId := s.mci.nextId + 1 } := by simp
    rw [hmci] at hdups hcmdq hrun
    refine ⟨by rw [hslot], by rw [hslot]; rfl, ?_, ?_, hdups, hcmdq, hrun, deliver_frame s _ hr _ _ _ _ ?_⟩
    · rw [deliver_cnt s _ hr]; simp [bump]
    · rw [deliver_cnt s _ hr]; simp [bump]
    · exact sameBut_trans (sameBut_arrived s) (sameBut_mono (sameBut_bump 0x5D none _) (by decide))

end Sys2Proof.Machine
end

section
/-! Frames of what a zeroization, a flush and LOCKOUT do, and of what a domain's switching on starts. -/
namespace Sys2Proof.Machine

/-! Sending on the fabric. -/

/-- The parts that a message sent on the fabric writes. -/
def sendParts : List Part := [.fab, .out, .tel, .que, .cnt]

theorem sameBut_sendTo (a : Nat) (m : FabMsg) (s : State) : sameBut sendParts s (sendTo a m s) := by
  unfold sendTo sendPort sendFrom
  split
  · exact sameBut_refl _ _
  · split
    · dsimp only
      split
      · intro x hx; cases x <;> simp_all [Part.same, sendParts, quePass]
      · exact sameBut_refl _ _
    · exact sameBut_mono (sameBut_bump _ _ _) (by decide)

theorem fab_only (s : State) (f : Fab) : sameBut [.fab] s { s with fab := f } := by
  intro x hx; cases x <;> simp_all [Part.same]

theorem sameBut_modSteer (f : Steer → Steer) (s : State) : sameBut [.fab] s (modSteer f s) := fab_only s _

theorem sameBut_steerPump (s : State) : sameBut [.fab] s (steerPump s) := by
  unfold steerPump steerRaise
  dsimp only
  split
  · exact sameBut_refl _ _
  · split
    · exact sameBut_trans (sameBut_modSteer _ _) (sameBut_modSteer _ _)
    · split
      · exact sameBut_trans (sameBut_modSteer _ _) (sameBut_modSteer _ _)
      · exact sameBut_refl _ _

theorem sameBut_steerYield (b : Bool) (s : State) : sameBut sendParts s (steerYield b s) := by
  have hmono : ∀ p ∈ [Part.fab], p ∈ sendParts := by decide
  unfold steerYield
  split
  · exact sameBut_trans (sameBut_trans (sameBut_sendTo _ _ _) (sameBut_mono (sameBut_modSteer _ _) hmono))
      (sameBut_mono (sameBut_steerPump _) hmono)
  · exact sameBut_refl _ _

/-! Completing commands. -/

/-- The parts that a reply to any requester writes. -/
def replyParts : List Part := [.mci, .evt, .tel, .cnt, .que, .fab, .out]

/-- A reply writes those parts and raises no event but those of the command interface. -/
theorem deliver_keeps (q : QCmd) (st : Nat) (ws : List W64) (o t : Nat) (s : State) :
    sameBut replyParts s (deliver q st ws o t s) ∧ ∀ u, u ≠ .mci → (deliver q st ws o t s).evt.get u = s.evt.get u := by
  have hb : sameBut replyParts s (bump 0x5C none s) := sameBut_mono (sameBut_bump 0x5C none s) (by decide)
  cases hreq : q.pkt.req with
  | hq n =>
    simp only [deliver, hreq]
    refine ⟨?_, fun u hu => by simp [raise, quePass, hu]⟩
    intro x hx; cases x <;> simp_all [Part.same, replyParts, raise, quePass]
  | fab a =>
    simp only [deliver, hreq]
    have he : ∀ m, (sendTo a m (bump 0x5C none s)).evt = (bump 0x5C none s).evt := fun m => sameBut_sendTo a m _ .evt (by decide)
    exact ⟨sameBut_trans hb (sameBut_mono (sameBut_sendTo _ _ _) (by decide)), fun u _ => by rw [he]; simp⟩
  | svc =>
    simp only [deliver, hreq]
    exact ⟨hb, fun u _ => by simp⟩

theorem complete_keeps (q : QCmd) (st : Nat) (ws : List W64) (s : State) :
    sameBut replyParts s (complete q st ws s) ∧ ∀ u, u ≠ .mci → (complete q st ws s).evt.get u = s.evt.get u := by
  have hkeep : ∀ t, sameBut [.mci, .que] s t → sameBut replyParts s (deliver q st ws 0 0 t) ∧
      ∀ u, u ≠ .mci → (deliver q st ws 0 0 t).evt.get u = s.evt.get u := fun t ht => by
    have he : t.evt = s.evt := ht .evt (by decide)
    obtain ⟨hf, hu⟩ := deliver_keeps q st ws 0 0 t
    exact ⟨sameBut_trans (sameBut_mono ht (by decide)) hf, fun u h => by rw [hu u h, he]⟩
  refine hkeep _ ?_
  split <;> (intro x hx; cases x <;> simp_all [Part.same])

theorem abortAll_keeps (st : Nat) (p : QCmd → Bool) (s : State) :
    sameBut replyParts s (abortAll st p s) ∧ ∀ u, u ≠ .mci → (abortAll st p s).evt.get u = s.evt.get u := by
  unfold abortAll
  generalize (List.filter p _) = qs
  refine ⟨sameBut_foldl _ (fun t q => (complete_keeps q st [] t).1) qs s, fun u hu => ?_⟩
  induction qs generalizing s with
  | nil => rfl
  | cons q qs ih => rw [List.foldl_cons, ih, fail, (complete_keeps q st [] s).2 u hu]

/-! LOCKOUT. -/

theorem sameBut_zeroizeAll (s : State) : sameBut [.aon, .vlt] s (zeroizeAll s) := by
  have h0 : sameBut [.aon, .vlt] s (zeroSlots (fun _ => true) s) :=
    sameBut_foldl _ (fun t n => sameBut_mono (sameBut_zeroSlot n t) (by decide)) _ s
  refine sameBut_trans h0 ?_
  intro x hx; cases x <;> simp_all [Part.same, zeroizeAll, zeroGens]

/-- The parts that the flush of a direction writes. -/
def flushParts : List Part := [.egr, .ing, .lne, .out, .tel, .cnt, .que]

theorem sameBut_setPath (d : Dir) (p : Path) (s : State) : sameBut [.egr, .ing] s (setPath d p s) := by
  intro x hx; cases d <;> cases x <;> simp_all [Part.same, setPath]

theorem sameBut_cutFrame (d : Dir) (f : Frame) (n : Nat) (s : State) : sameBut flushParts s (cutFrame d f n s) := by
  have h : ∀ d l fd bs e, sameBut flushParts s (sendFrame d l fd bs e s) := fun d l fd bs e =>
    sameBut_trans (sameBut_mono (sameBut_setPath d _ s) (by decide)) (sameBut_mono (sameBut_emit _ _) (by decide))
  cases d <;> exact h _ _ _ _ _

theorem sameBut_killFrame (d : Dir) (f : Frame) (s : State) : sameBut flushParts s (killFrame d f s) := by
  unfold killFrame
  split
  · exact sameBut_cutFrame _ _ _ _
  · exact sameBut_refl _ _

theorem sameBut_modQue (n : Nat) (f : Que → Que) (s : State) : sameBut [.que] s (modQue n f s) := by
  intro x hx; cases x <;> simp_all [Part.same]

theorem lne_only (s : State) (l : Lne) : sameBut [.lne] s { s with lne := l } := by
  intro x hx; cases x <;> simp_all [Part.same]

theorem sameBut_flushPath (d : Dir) (s : State) : sameBut flushParts s (flushPath d s) := by
  have hpath : ∀ p t, sameBut flushParts t (setPath d p t) := fun p t => sameBut_mono (sameBut_setPath d p t) (by decide)
  have hque : ∀ q f t, sameBut flushParts t (modQue q f t) := fun q f t => sameBut_mono (sameBut_modQue q f t) (by decide)
  have hframe : ∀ c (t : State) (f : Frame), sameBut flushParts t (if isDead f then t else bump c (some f.link) (killFrame d f t)) := by
    intro c t f
    split
    · exact sameBut_refl _ _
    · exact sameBut_trans (sameBut_killFrame d f t) (sameBut_mono (sameBut_bump _ _ _) (by decide))
  have hfold : ∀ c fs p l, sameBut flushParts s (List.foldl (fun t f => if isDead f then t else bump c (some f.link) (killFrame d f t))
      (setPath d p { s with lne := l }) fs) := fun c fs p l =>
    sameBut_trans (sameBut_trans (sameBut_mono (lne_only s l) (by decide)) (hpath p _)) (sameBut_foldl _ (hframe c) fs _)
  unfold flushPath
  cases d <;> exact sameBut_trans (sameBut_trans (sameBut_trans (hfold _ _ _ _) (hpath _ _)) (hque _ _ _)) (hque _ _ _)

theorem sameBut_leaveFabric (s : State) : sameBut [.fab] s (leaveFabric s) := by
  refine sameBut_trans (sameBut_trans (sameBut_foldl _ (fun t p => ?_) (List.range 8) s) (fab_only _ _)) (sameBut_modSteer _ _)
  exact fab_only t _

/-- The parts that LOCKOUT's stop of stores, leases and check engines writes. -/
def storeParts : List Part := [.cis, .cxm, .out, .cnt, .tel, .tx, .chk, .jnl, .secys, .svc]

theorem sameBut_putTx (i : Nat) (a : Sa) (s : State) : sameBut storeParts s (putTx i a s) := by
  refine sameBut_trans (t := setTx i (some a) s) ?_ (sameBut_mono (ctx_lineChanged i _) (by decide))
  intro x hx; cases x <;> simp_all [Part.same, storeParts]

theorem sameBut_lockoutStores (s : State) : sameBut storeParts s (lockoutStores s) := by
  have h0 : sameBut storeParts s ((smKeys s.tx).foldl (fun t i => leaseAbandon i t) s) := by
    refine sameBut_foldl _ (fun t i => ?_) _ s
    unfold leaseAbandon
    split
    · exact sameBut_putTx _ _ _
    · exact sameBut_refl _ _
  refine sameBut_trans h0 ?_
  intro x hx; cases x <;> simp_all [Part.same, storeParts, lockoutStores]

/-- Entering LOCKOUT raises no event but those of the command interface. -/
theorem lockout_evt (cause : Nat) (b : Bool) (s : State) {u : Sub} (hu : u ≠ .mci) :
    (lockout cause b s).evt.get u = s.evt.get u := by
  unfold lockout
  split
  · rfl
  · have h : ∀ t, (lockoutStores (leaveFabric (flushPath .ing (flushPath .egr (zeroizeAll t))))).evt = t.evt := fun t =>
      calc (lockoutStores (leaveFabric (flushPath .ing (flushPath .egr (zeroizeAll t))))).evt
        _ = (leaveFabric (flushPath .ing (flushPath .egr (zeroizeAll t)))).evt := sameBut_lockoutStores _ .evt (by decide)
        _ = (flushPath .ing (flushPath .egr (zeroizeAll t))).evt := sameBut_leaveFabric _ .evt (by decide)
        _ = (flushPath .egr (zeroizeAll t)).evt := sameBut_flushPath .ing _ .evt (by decide)
        _ = (zeroizeAll t).evt := sameBut_flushPath .egr _ .evt (by decide)
        _ = t.evt := sameBut_zeroizeAll t .evt (by decide)
    simp only [setMode_frame, h, (abortAll_keeps _ _ s).2 u hu]

end Sys2Proof.Machine
end

section
/-! Start-up: the firmware, the domains, command-ready. -/
namespace Sys2Proof.Machine

/-- A cause that waits shows after the step's end, where the manual defines its source. -/
theorem waiting_shows {u : Sub} {n : Nat} {s : State} (hd : u.defined.getLsbD n = true)
    (hp : (s.evt.get u).pendReal.getLsbD n = true) : eventSet (settle s) u n := by
  rw [eventSet, settle_evt, (cycle_bits _ _ _ _).1, (cycle_bits _ _ _ _).2.1]
  constructor <;>
    simp only [BitVec.getLsbD_or, BitVec.getLsbD_and, hd, hp, Bool.true_or, Bool.and_self, Bool.or_true]

/-- LOCKOUT entered during start-up: its cause, and BOOT_STAGE 0x0F (R80, R89). -/
theorem lockout_booting {s : State} (cause : Nat) (b : Bool) (hm : s.glb.mode ≠ .lockout) (hb : s.glb.booting = true) :
    (lockout cause b s).glb.mode = .lockout ∧ (lockout cause b s).glb.cause = BitVec.ofNat 8 cause ∧
      (lockout cause b s).glb.tampered = b ∧ (lockout cause b s).glb.bootStage = 0x0F := by
  simp [lockout, hm, startingUp, hb, setMode]

theorem setStage_telBump (v c n : Nat) (l : Option Nat) (s : State) :
    setStage v (telBump c n l s) = telBump c n l (setStage v s) := by
  have ht : telOn (setStage v s) = telOn s := rfl
  unfold telBump
  rw [ht]
  split <;> rfl

theorem setStage_raise (v : Nat) (u : Sub) (n : Nat) (s : State) : setStage v (raise u n s) = raise u n (setStage v s) := by
  unfold raise raiseL
  dsimp only
  split
  · rfl
  · exact setStage_telBump _ _ _ _ _

/-! Power domains. -/

theorem pdOn_bit {n k : Nat} (h : n < 56) : (BitVec.ofNat 56 (2 ^ k)).getLsbD n = decide (k = n) := by
  rw [BitVec.getLsbD_ofNat, Nat.testBit_two_pow]; simp [h]

theorem pdSet_on {n : Nat} (h : n < 56) (s : State) : (pdSet n s).glb.pdOn.getLsbD n = true := by
  rw [pdSet, BitVec.getLsbD_or, pdOn_bit h]; simp

theorem pdSet_keeps {n : Nat} (k : Nat) {s : State} (h : s.glb.pdOn.getLsbD n = true) : (pdSet k s).glb.pdOn.getLsbD n = true := by
  rw [pdSet, BitVec.getLsbD_or, h, Bool.true_or]

theorem pdClear_keeps {n k : Nat} {s : State} (hk : k ≠ n) (h : s.glb.pdOn.getLsbD n = true) :
    (pdClear k s).glb.pdOn.getLsbD n = true := by
  have hn : n < 56 := by
    by_contra hc; rw [BitVec.getLsbD_of_ge _ _ (by omega)] at h; cases h
  rw [pdClear, BitVec.getLsbD_and, BitVec.getLsbD_not, pdOn_bit hn, h]; simp [hk, hn]

/-! Lanes: what becomes of the domains that are on. -/

@[simp] theorem setDeg_pdOn (b : Nat) (s : State) : (setDeg b s).glb.pdOn = s.glb.pdOn := by
  have h : ∀ t, (steerYield false t).glb = t.glb := fun t => sameBut_steerYield false t .glb (by decide)
  unfold setDeg
  dsimp only
  split <;> split <;> simp [h, setMode]

@[simp] theorem spareRamp_pdOn (i : Nat) (b : Bool) (s : State) : (spareRamp i b s).glb.pdOn = s.glb.pdOn := by
  unfold spareRamp; dsimp only; split <;> rfl

@[simp] theorem spareForService_pdOn (d : Dir) (s : State) : (spareForService d s).glb.pdOn = s.glb.pdOn := by
  unfold spareForService; split
  · simp
  · split <;> simp

@[simp] theorem countLanes_glb (d : Dir) (s : State) : (countLanes d s).glb = s.glb := by cases d <;> rfl

@[simp] theorem laneOf_countLanes (d : Dir) (s : State) (i : Nat) : laneOf (countLanes d s) i = laneOf s i := by cases d <;> rfl

theorem laneEnter_pdOn (i : Nat) (s : State) : (laneEnter i s).glb.pdOn = (pdSet (laneDomain i) s).glb.pdOn := by
  simp [laneEnter, pdSet]

theorem laneRetire_pdOn (i : Nat) (s : State) : (laneRetire i s).glb.pdOn = (pdClear (laneDomain i) s).glb.pdOn := by
  simp [laneRetire, rampEnds, pdClear]

/-- A lane that enters the slot map is switched on and stays no longer against a permanent fault. -/
theorem laneEnter_on {i : Nat} (hi : i < 36) (s : State) : (laneEnter i s).glb.pdOn.getLsbD (laneDomain i) = true := by
  rw [laneEnter_pdOn]; exact pdSet_on (by unfold laneDomain; omega) s

theorem laneEnter_held (i : Nat) (s : State) : (laneOf (laneEnter i s) i).held = false := by
  show (laneOf (countLanes _ (pdSet _ (setLane i _ s))) i).held = false
  rw [laneOf_countLanes]
  show (laneOf (setLane i _ s) i).held = false
  simp

/-- A lane that leaves the slot map switches off no domain but its own. -/
theorem laneLeave_keeps {i n : Nat} {s : State} (hi : laneDomain i ≠ n) (h : s.glb.pdOn.getLsbD n = true) :
    (laneLeave i s).glb.pdOn.getLsbD n = true := by
  have hret : (laneRetire i s).glb.pdOn.getLsbD n = true := by rw [laneRetire_pdOn]; exact pdClear_keeps hi h
  unfold laneLeave
  dsimp only
  split
  · rw [laneEnter_pdOn]; exact pdSet_keeps _ hret
  · split
    · exact h
    · rw [spareForService_pdOn]; exact hret

/-- The lane that is let go first was held, so it is another than one that is not. -/
theorem releaseHeld_keeps {d : Dir} {i : Nat} {s : State} (hi : (laneOf s i).held = false)
    (h : s.glb.pdOn.getLsbD (laneDomain i) = true) : (releaseHeld d s).glb.pdOn.getLsbD (laneDomain i) = true := by
  unfold releaseHeld
  split
  next j hj =>
    split
    · have hheld := List.find?_some hj
      have hne : j ≠ i := fun e => by rw [e, hi] at hheld; cases hheld
      exact laneLeave_keeps (by unfold laneDomain; omega) h
    · exact h
  · exact h

/-- A lane or spare whose test passes at the end of its ramp has its domain on. -/
theorem laneRamped_on {i : Nat} (hi : i < 36) {s : State} (h : s.glb.pdOn.getLsbD (laneDomain i) = true) :
    (laneRamped i true s).glb.pdOn.getLsbD (laneDomain i) = true := by
  unfold laneRamped
  split
  · unfold spareDone
    dsimp only
    split
    · exact h
    · simp only [if_true]
      split
      · exact releaseHeld_keeps (laneEnter_held i _) (laneEnter_on hi _)
      · exact pdSet_on (by unfold laneDomain; omega) _
  · exact laneEnter_on hi s

/-! What a domain's units do once it is on. -/

theorem sameBut_writeKey (n : Nat) (a : Attr) (k e : Bool) (r : Role) (o : Nat) (ks : List Byte) (s : State) :
    sameBut [.vlt, .rng] s (writeKey n a k e r o ks s) := by
  have hboot : sameBut [.vlt, .rng] s (bootDraw s).2 := by
    unfold bootDraw
    split <;> (intro x hx; cases x <;> simp_all [Part.same])
  have hmask : sameBut [.vlt, .rng] s (drawMask s).2 := by
    unfold drawMask
    split
    · intro x hx; cases x <;> simp_all [Part.same]
    · exact hboot
  refine sameBut_trans hmask ?_
  intro x hx; cases x <;> simp_all [Part.same, writeKey]

theorem deriveSystem_glb (s : State) : (deriveSystem s).glb = s.glb := by
  have h : ∀ n a k e r o ks t, (writeKey n a k e r o ks t).glb = t.glb := fun n a k e r o ks t =>
    sameBut_writeKey n a k e r o ks t .glb (by decide)
  unfold deriveSystem
  split
  · rfl
  · simp only [h]

/-- A domain whose units pass their test is on. -/
theorem domainUp_on {pd : Nat} {e : BitVec 512} (hpd : pd < 56) (he : katClean e = true) (s : State) :
    (domainUp pd e s).glb.pdOn.getLsbD pd = true := by
  have hon : (pdSet pd s).glb.pdOn.getLsbD pd = true := pdSet_on hpd s
  unfold domainUp
  dsimp only
  split_ifs with h51 _ hcis hlane h48 h49
  · simpa [deriveSystem_glb] using hon
  · simpa [collect, deriveSystem_glb] using hon
  · exact hon
  · have hdom : laneDomain (pd - 8) = pd := by unfold laneDomain; omega
    have hlane' := laneRamped_on (i := pd - 8) (by omega) (s := pdSet pd s) (by rwa [hdom])
    rw [hdom] at hlane'
    rwa [he]
  · simpa using hon
  · simpa using hon
  · exact hon
  · exact hon
  · exact hon

theorem useLeaf_cis (j : Nat) (s : State) : (useLeaf j s).cis = s.cis := by unfold useLeaf; split <;> rfl

theorem pumpReads_cis (n : Nat) (s : State) : (pumpReads n s).cis = s.cis := by
  induction n generalizing s with
  | zero => rfl
  | succ n ih =>
    simp only [pumpReads]; split
    · rfl
    · split
      · simp [ih]
      · rfl

theorem startFill_cis (n : Nat) (s : State) : (startFill n s).cis = s.cis := by
  unfold startFill; split
  · rfl
  · rw [pumpReads_cis]; dsimp only; split <;> simp [useLeaf_cis]

/-- The fills that a wake starts leave the cistern and the modes alone. -/
theorem wakeStage_keeps (pd : Nat) (s : State) : (wakeStage pd s).glb = s.glb ∧ (wakeStage pd s).cis = s.cis := by
  have hcis : ∀ (ns : List Nat) (t : State), (ns.foldl (fun t n => startFill n t) t).cis = t.cis := fun ns t => by
    induction ns generalizing t with
    | nil => rfl
    | cons n ns ih => rw [List.foldl_cons, ih, startFill_cis]
  unfold wakeStage
  split
  · exact ⟨sameBut_foldl _ (fun t n => ctx_startFill n t) _ s .glb (by decide), hcis _ s⟩
  · exact ⟨rfl, rfl⟩

/-- The bank pair of a cistern domain serves once the domain is on. -/
theorem domainUp_pair {pd : Nat} (e : BitVec 512) (h4 : 4 ≤ pd) (h7 : pd ≤ 7) (s : State) :
    (domainUp pd e s).cis.pairs.getLsbD (pd - 4) = true := by
  have hne : pd ≠ 51 := by omega
  have hbit : (BitVec.ofNat 4 (2 ^ (pd - 4))).getLsbD (pd - 4) = true := by
    rw [BitVec.getLsbD_ofNat, Nat.testBit_two_pow]; simp; omega
  simp only [domainUp, hne, h4, h7, and_self, if_true, if_false, BitVec.getLsbD_or, hbit, Bool.or_true]

/-- Domains without units that start anew: being on is all that becomes of them. -/
theorem domainUp_plain {pd : Nat} (h : pd ∈ [1, 2, 3, 44, 45, 46, 47, 50, 52, 53]) (e : BitVec 512) (s : State) :
    wakeStage pd (domainUp pd e s) = pdSet pd s := by
  have hup : domainUp pd e s = pdSet pd s := by fin_cases h <;> rfl
  have hno : (decide (4 ≤ pd) && decide (pd ≤ 7)) = false := by fin_cases h <;> rfl
  rw [hup]
  simp only [wakeStage, Bool.and_assoc, hno, Bool.false_and, Bool.and_false, Bool.false_eq_true, if_false]

/-- The state without domain `pd` in the order of those that ramp. -/
def rampTaken (pd : Nat) (s : State) : State := { s with glb := { s.glb with ramping := s.glb.ramping.filter (· != pd) } }

/-- DOMAIN_RAMP_DONE of a domain whose ramp is under way (R22). -/
theorem domainRampDone_exec {s : State} {pd : Nat} (e : BitVec 512) (hl : resetLow s = false)
    (h : pd ∈ s.glb.ramping.take s.glb.rampMax) :
    let s1 := wakeStage pd (domainUp pd e (rampTaken pd s))
    exec (.domainRampDone pd e) s =
      .next (settle (if s1.glb.booting && s1.glb.bootStage == 2 && s1.glb.ramping.isEmpty then setStage 3 s1 else s1)) := by
  intro s1
  have hc : (s.glb.ramping.take s.glb.rampMax).contains pd = true := List.contains_iff_mem.2 h
  refine (run_high hl).trans ?_
  rw [hc]
  rfl

theorem sameBut_jReadPump (n : Nat) (s : State) : sameBut [.jnl, .out] s (jReadPump n s) := by
  induction n generalizing s with
  | zero => exact sameBut_refl _ _
  | succ n ih =>
    simp only [jReadPump]; split
    · exact sameBut_refl _ _
    · split
      · refine sameBut_trans ?_ (ih _)
        intro x hx; cases x <;> simp_all [Part.same]
      · exact sameBut_refl _ _

/-- The state with firmware version `v` and the patch outcome `k` taken, and the domains of R21 asked for. -/
def firmwareTaken (v : BitVec 24) (k : Nat) (s : State) : State :=
  { s with glb := { s.glb with fw := v, fwOk := true, ramping := s.glb.ramping ++ startDomains s }
           svc := { s.svc with patch := k } }

/-- FIRMWARE_VERIFIED at its stage of start-up with a good ROM: without a patch, with an accepted one, with a rejected one (R85). -/
theorem firmwareVerified_exec {s : State} (hl : resetLow s = false) (hb : s.glb.booting = true) (hst : s.glb.bootStage = 1)
    (hm : s.glb.mode ≠ .lockout) :
    exec (.firmwareVerified true none) s = done (setStage 2 (firmwareTaken romVersion 0 s)) ∧
      (∀ v, exec (.firmwareVerified true (some (some v))) s = done (setStage 2 (firmwareTaken v 1 s))) ∧
      exec (.firmwareVerified true (some none)) s = done (setStage 2 (raise .svc 0 (firmwareTaken romVersion 2 s))) := by
  have hguard : (!(s.glb.booting && s.glb.bootStage == 1) || s.glb.mode == .lockout) = false := by simp [hb, hst, hm]
  refine ⟨?_, fun v => ?_, ?_⟩ <;>
    (refine (run_high hl).trans ?_; rw [hguard]; rfl)

/-- The end of start-up's ramps changes BOOT_STAGE alone. -/
theorem startStage_keeps (b : Bool) (s : State) :
    (if b then setStage 3 s else s).glb.pdOn = s.glb.pdOn ∧ (if b then setStage 3 s else s).cis = s.cis := by
  cases b <;> exact ⟨rfl, rfl⟩

/-- Settles O9: the row's effect at each stage of start-up (`firmwareVerified_exec`, `domainRampDone_exec`), LOCKOUT keeping the cause
that waits in AON (`lockout_evt`), and no unit of a domain that is on taking the domain off again (`domainUp_on`). -/
theorem startup : Obligations.Startup := by
  unfold Obligations.Startup
  refine ⟨?good, ?rejected, ?badRom, ?on, ?plain, ?noRoot, ?lockout, ?root⟩
  case good =>
    intro s p hl hb hst hm hp
    obtain ⟨hrom, hpatch, -⟩ := firmwareVerified_exec hl hb hst hm
    rcases p with _ | _ | v
    · exact ⟨_, hrom, settled_settle _⟩
    · exact absurd rfl hp
    · exact ⟨_, hpatch v, settled_settle _⟩
  case rejected =>
    intro s hl hb hst hm
    obtain ⟨-, -, hx⟩ := firmwareVerified_exec hl hb hst hm
    rw [setStage_raise] at hx
    obtain ⟨t, ht, hset⟩ := done_settledWith .svc 0 (setStage 2 (firmwareTaken romVersion 2 s)) (by decide) (by decide)
    exact ⟨t, hx.trans ht, hset⟩
  case badRom =>
    intro s hl hb hst hm p
    have hx : exec (.firmwareVerified false p) s = .next (settle (lockout 8 false (raise .aon 9 s))) := by
      refine (run_high hl).trans ?_
      simp [hb, hst, hm, done]
    have hm' : (raise .aon 9 s).glb.mode ≠ .lockout := by simpa using hm
    have hb' : (raise .aon 9 s).glb.booting = true := by simpa using hb
    obtain ⟨hmode, hcause, htamp, hstage⟩ := lockout_booting 8 false hm' hb'
    refine ⟨_, hx, hmode, hcause, htamp, hstage, waiting_shows (by decide) ?_⟩
    rw [lockout_evt 8 false _ (by decide)]
    simp [raise]
  case on =>
    intro s pd e hl hmem hpd he
    refine ⟨_, domainRampDone_exec e hl hmem, ?_, fun h4 h7 => ?_⟩
    · simp only [settle_frame, startStage_keeps, wakeStage_keeps]
      exact domainUp_on hpd he _
    · simp only [settle_frame, startStage_keeps, wakeStage_keeps]
      exact domainUp_pair e h4 h7 _
  case plain =>
    intro s pd e hl hmem hpd
    refine ⟨_, domainRampDone_exec e hl hmem, ?_⟩
    rw [domainUp_plain hpd]
    have hiff : ((pdSet pd (rampTaken pd s)).glb.booting && (pdSet pd (rampTaken pd s)).glb.bootStage == 2
        && (pdSet pd (rampTaken pd s)).glb.ramping.isEmpty) = true ↔
        s.glb.booting = true ∧ s.glb.bootStage = 2 ∧ s.glb.ramping.filter (· != pd) = [] := by
      simp only [Bool.and_eq_true, beq_iff_eq, List.isEmpty_iff, and_assoc]; rfl
    by_cases hlast : s.glb.booting = true ∧ s.glb.bootStage = 2 ∧ s.glb.ramping.filter (· != pd) = []
    · rw [if_pos hlast, if_pos (hiff.2 hlast)]
      exact settled_settle _
    · rw [if_neg hlast, if_neg (mt hiff.1 hlast)]
      exact settled_settle _
  case noRoot =>
    intro s hl hb hst hm hr
    have hx : exec .commandReady s = done (setStage 6 (setResume 5
        { s with glb := { s.glb with booting := false }, mci := { s.mci with ready := true } })) := by
      refine (run_high hl).trans ?_
      simp [hb, hst, hm, hr]
    exact ⟨_, hx, settled_settle _⟩
  case lockout =>
    intro s hl hb hm
    have hx : exec .commandReady s =
        done { s with glb := { s.glb with booting := false }, mci := { s.mci with ready := true } } := by
      refine (run_high hl).trans ?_
      simp [hb, hm]
    exact ⟨_, hx, settled_settle _⟩
  case root =>
    intro s hl hb hst hm hr
    have hx : exec .commandReady s = done (jReadPump 8 (setStage 4
        { s with glb := { s.glb with booting := false }, mci := { s.mci with ready := true } })) := by
      refine (run_high hl).trans ?_
      simp [hb, hst, hm, hr]
    have hf := sameBut_jReadPump 8 (setStage 4 { s with glb := { s.glb with booting := false }, mci := { s.mci with ready := true } })
    refine ⟨_, hx, hf .mci (by decide), hf .glb (by decide), ?_⟩
    refine sameBut_trans (sameBut_trans ?_ (sameBut_mono hf (by decide))) (sameBut_mono (sameBut_settle _) (by decide))
    intro x hx; cases x <;> simp_all [Part.same]

end Sys2Proof.Machine
end

section
/-! Spares and the shed level: lanes that enter and leave the slot map, and what a row about one of them leaves alone. -/
namespace Sys2Proof.Machine

/-! Lanes of a direction. -/

theorem laneDir_laneNo (d : Dir) {i : Nat} (h : i < 18) : laneDir (laneNo d i) = d := by
  cases d <;> simp [laneDir, laneNo, laneBase, h]

theorem laneNo_lt (d : Dir) {i : Nat} (h : i < 18) : laneNo d i < 36 := by
  cases d <;> simp only [laneNo, laneBase] <;> omega

theorem laneNo_mem (d : Dir) {i : Nat} (h : i < 18) : laneNo d i ∈ lanesOf d :=
  List.mem_map.2 ⟨i, List.mem_range.2 h, rfl⟩

theorem mem_lanesOf {d : Dir} {j : Nat} (h : j ∈ lanesOf d) : laneDir j = d ∧ j < 36 := by
  obtain ⟨k, hk, rfl⟩ := List.mem_map.1 h
  exact ⟨laneDir_laneNo d (List.mem_range.1 hk), laneNo_lt d (List.mem_range.1 hk)⟩

theorem lanesOf_nodup (d : Dir) : (lanesOf d).Nodup := by cases d <;> decide

/-- One more element of a list without repeats satisfies the predicate. -/
theorem countP_flip {l : List Nat} {i : Nat} {p q : Nat → Bool} (hn : l.Nodup) (hi : i ∈ l) (hp : p i = false) (hq : q i = true)
    (h : ∀ j, j ≠ i → q j = p j) : l.countP q = l.countP p + 1 := by
  induction l with
  | nil => cases hi
  | cons x l ih =>
    obtain ⟨hx, hl⟩ := List.nodup_cons.1 hn
    rcases List.mem_cons.1 hi with rfl | hi
    · have hrest : l.countP q = l.countP p := List.countP_congr fun j hj => by rw [h j fun e => hx (e ▸ hj)]
      rw [List.countP_cons_of_pos hq, List.countP_cons_of_neg (by simp [hp]), hrest]
    · have hne : x ≠ i := fun e => hx (e ▸ hi)
      rw [List.countP_cons, List.countP_cons, ih hl hi, h x hne]
      omega

/-- The lanes that serve are counted by their states. -/
theorem serving_congr {s t : State} {d : Dir} (h : ∀ j, (laneOf t j).st = (laneOf s j).st) : serving t d = serving s d := by
  simp [serving, h]

theorem serving_enter {s t : State} {d : Dir} {i : Nat} (hi : i ∈ lanesOf d) (hs : (laneOf s i).st ≠ .inService)
    (ht : (laneOf t i).st = .inService) (h : ∀ j, j ≠ i → (laneOf t j).st = (laneOf s j).st) : serving t d = serving s d + 1 := by
  simp only [serving, ← List.countP_eq_length_filter]
  exact countP_flip (lanesOf_nodup d) hi (by simp [hs]) (by simp [ht]) fun j hj => by rw [h j hj]

/-! What an operation on a lane makes of the lanes. -/

theorem laneOf_laneEnter (i : Nat) (s : State) (j : Nat) :
    laneOf (laneEnter i s) j = if j = i then { laneOf s i with st := .inService, ramping := none, held := false } else laneOf s j := by
  rw [laneEnter, laneOf_countLanes]
  exact laneOf_setLane _ _ s j

theorem laneOf_laneRetire (i : Nat) (s : State) (j : Nat) :
    laneOf (laneRetire i s) j = if j = i then { laneOf s i with st := .retired, ramping := none, held := false } else laneOf s j := by
  rw [laneRetire, laneOf_countLanes]
  exact laneOf_setLane _ _ s j

/-- A spare that starts to ramp changes no lane's state and none but its own ramp. -/
theorem laneOf_spareRamp (i : Nat) (b : Bool) (s : State) (j : Nat) :
    laneOf (spareRamp i b s) j = if j = i then { laneOf s i with ramping := some b } else laneOf s j := by
  rw [← laneOf_setLane]
  unfold spareRamp
  dsimp only
  split <;> rfl

@[simp] theorem laneOf_rampEnds (i : Nat) (s : State) (j : Nat) : laneOf (rampEnds i s) j = laneOf s j := rfl
@[simp] theorem laneOf_pdSet (n : Nat) (s : State) (j : Nat) : laneOf (pdSet n s) j = laneOf s j := rfl
@[simp] theorem laneOf_pdClear (n : Nat) (s : State) (j : Nat) : laneOf (pdClear n s) j = laneOf s j := rfl
@[simp] theorem laneOf_settle (s : State) (j : Nat) : laneOf (settle s) j = laneOf s j := rfl
@[simp] theorem laneOf_raise (u : Sub) (n : Nat) (s : State) (j : Nat) : laneOf (raise u n s) j = laneOf s j := by simp [laneOf]
@[simp] theorem pathOf_settle (s : State) (d : Dir) : pathOf (settle s) d = pathOf s d := by cases d <;> rfl

theorem countLanes_lanes (d : Dir) (s : State) : (pathOf (countLanes d s) d).lanes = serving s d := by cases d <;> rfl

/-- LANES of the direction after a lane has entered or left the slot map. -/
theorem laneEnter_lanes {d : Dir} {i : Nat} (hd : laneDir i = d) (s : State) :
    (pathOf (laneEnter i s) d).lanes = serving (laneEnter i s) d := by
  subst hd
  rw [laneEnter, countLanes_lanes]
  exact (serving_congr fun j => by rw [laneOf_countLanes]).symm

theorem laneRetire_lanes {d : Dir} {i : Nat} (hd : laneDir i = d) (s : State) :
    (pathOf (laneRetire i s) d).lanes = serving (laneRetire i s) d := by
  subst hd
  rw [laneRetire, countLanes_lanes]
  exact (serving_congr fun j => by rw [laneOf_countLanes]).symm

/-! Frames. -/

theorem glb_only (s : State) (g : Glb) : sameBut [.glb] s { s with glb := g } := by
  intro x hx; cases x <;> simp_all [Part.same]

theorem sameBut_laneEnter (i : Nat) (s : State) : sameBut [.egr, .ing, .lne, .glb] s (laneEnter i s) :=
  sameBut_trans (sameBut_mono (sameBut_trans (sameBut_mono (lne_only s _) (by decide)) (sameBut_mono (glb_only _ _) (by decide)) :
    sameBut [.lne, .glb] s (pdSet (laneDomain i) (setLane i _ s))) (by decide)) (sameBut_mono (sameBut_setPath _ _ _) (by decide))

theorem sameBut_setDeg (b : Nat) (s : State) : sameBut (.glb :: sendParts) s (setDeg b s) := by
  have hmode : ∀ (c : Bool) (t : State), sameBut [.glb] t (if c then setMode .degraded 3 t else t) := fun c t => by
    cases c
    · exact sameBut_refl _ _
    · exact glb_only t _
  have h2 : sameBut (.glb :: sendParts) s (if s.glb.mode == .protect then setMode .degraded 3 _ else _) :=
    sameBut_mono (sameBut_trans (glb_only s { s.glb with deg := s.glb.deg ||| BitVec.ofNat 8 (2 ^ b) }) (hmode _ _)) (by decide)
  unfold setDeg
  dsimp only
  split
  · exact sameBut_trans h2 (sameBut_mono (sameBut_steerYield false _) (by decide))
  · exact h2

/-- What the start of a spare leaves alone: everything but the lanes, the modes and domains, and what a YIELD sends. -/
theorem sameBut_spareRamp (i : Nat) (b : Bool) (s : State) : sameBut [.lne, .glb] s (spareRamp i b s) := by
  unfold spareRamp
  dsimp only
  split
  · exact sameBut_mono (lne_only s _) (by decide)
  · exact sameBut_trans (sameBut_mono (lne_only s _) (by decide)) (sameBut_mono (glb_only _ _) (by decide))

theorem sameBut_spareForService (d : Dir) (s : State) : sameBut (.lne :: .glb :: sendParts) s (spareForService d s) := by
  unfold spareForService
  split
  · exact sameBut_mono (sameBut_spareRamp _ _ _) (by decide)
  · split
    · exact sameBut_mono (sameBut_spareRamp _ _ _) (by decide)
    · exact sameBut_mono (sameBut_setDeg _ _) (by decide)

theorem setDeg_ramping (b : Nat) (s : State) : (setDeg b s).glb.ramping = s.glb.ramping := by
  have h : ∀ t, (steerYield false t).glb = t.glb := fun t => sameBut_steerYield false t .glb (by decide)
  unfold setDeg
  dsimp only
  split <;> split <;> simp [h, setMode]

theorem laneOf_lne {s t : State} (h : t.lne = s.lne) (j : Nat) : laneOf t j = laneOf s j := by simp [laneOf, h]

/-! A spare that is looked for to stand in. -/

/-- A lane that is retired without a ramp keeps its state and stays out of the ramps, whichever spare starts. -/
def offRamps (i : Nat) (s : State) : Prop :=
  (laneOf s i).st = .retired ∧ (laneOf s i).ramping = none ∧ laneDomain i ∉ s.glb.ramping

theorem offRamps_spareRamp {i k : Nat} {b : Bool} {s : State} (hk : k ≠ i) (h : offRamps i s) : offRamps i (spareRamp k b s) := by
  obtain ⟨hst, hr, hm⟩ := h
  have hl : laneOf (spareRamp k b s) i = laneOf s i := by rw [laneOf_spareRamp, if_neg hk.symm]
  refine ⟨by rw [hl, hst], by rw [hl, hr], ?_⟩
  have hne : laneDomain i ≠ laneDomain k := fun e => hk (by unfold laneDomain at e; omega)
  unfold spareRamp
  dsimp only
  split
  · exact hm
  · exact fun hin => (List.mem_append.1 hin).elim hm fun h1 => hne (List.mem_singleton.1 h1)

theorem warmingOf_ne {s : State} {d : Dir} {i k : Nat} (h : offRamps i s) (hk : warmingOf s d = some k) : k ≠ i := fun e => by
  have := List.find?_some hk
  simp [e, h.2.1] at this

theorem coldSpare_ne {s : State} {d : Dir} {i k : Nat} (h : offRamps i s) (hk : coldSpare s d = some k) : k ≠ i := fun e => by
  have := List.find?_some hk
  simp [e, h.1] at this

theorem offRamps_spareForService {i : Nat} {d : Dir} {s : State} (h : offRamps i s) :
    offRamps i (spareForService d s) ∧ laneOf (spareForService d s) i = laneOf s i := by
  unfold spareForService
  split
  next k hk =>
    have hne := warmingOf_ne h hk
    exact ⟨offRamps_spareRamp hne h, by rw [laneOf_spareRamp, if_neg hne.symm]⟩
  · split
    next k hk =>
      have hne := coldSpare_ne h hk
      exact ⟨offRamps_spareRamp hne h, by rw [laneOf_spareRamp, if_neg hne.symm]⟩
    · have hl : ∀ b, laneOf (setDeg b s) i = laneOf s i := fun b => laneOf_lne (sameBut_setDeg b s .lne (by decide)) i
      obtain ⟨hst, hr, hm⟩ := h
      exact ⟨⟨by rw [hl, hst], by rw [hl, hr], by rwa [setDeg_ramping]⟩, hl _⟩

theorem sameBut_spareToWarm (d : Dir) (s : State) : sameBut [.lne, .glb] s (spareToWarm d s) := by
  unfold spareToWarm
  split
  · exact sameBut_refl _ _
  · split
    · exact sameBut_spareRamp _ _ _
    · exact sameBut_refl _ _

theorem spareToWarm_pdOn (d : Dir) (s : State) : (spareToWarm d s).glb.pdOn = s.glb.pdOn := by
  unfold spareToWarm
  split
  · rfl
  · split <;> simp

theorem offRamps_spareToWarm {i : Nat} {d : Dir} {s : State} (h : offRamps i s) :
    offRamps i (spareToWarm d s) ∧ laneOf (spareToWarm d s) i = laneOf s i := by
  unfold spareToWarm
  split
  · exact ⟨h, rfl⟩
  · split
    next k hk =>
      have hne := coldSpare_ne h hk
      exact ⟨offRamps_spareRamp hne h, by rw [laneOf_spareRamp, if_neg hne.symm]⟩
    · exact ⟨h, rfl⟩

/-! The domains. -/

theorem pdClear_off {n : Nat} (s : State) : (pdClear n s).glb.pdOn.getLsbD n = false := by
  by_cases hn : n < 56
  · rw [pdClear, BitVec.getLsbD_and, BitVec.getLsbD_not, pdOn_bit hn]; simp
  · exact BitVec.getLsbD_of_ge _ _ (by omega)

theorem rampEnds_ramping (i : Nat) (s : State) : laneDomain i ∉ (rampEnds i s).glb.ramping := by
  simp [rampEnds]

theorem offRamps_laneRetire (i : Nat) (s : State) : offRamps i (laneRetire i s) := by
  have hl : laneOf (laneRetire i s) i = { laneOf s i with st := .retired, ramping := none, held := false } := by
    rw [laneOf_laneRetire, if_pos rfl]
  refine ⟨by rw [hl], by rw [hl], ?_⟩
  rw [laneRetire, countLanes_glb]
  exact rampEnds_ramping i _

/-! Faults. -/

/-- Retiring a lane raises nothing. -/
theorem laneRetire_evt (i : Nat) (s : State) : (laneRetire i s).evt = s.evt := by
  rw [laneRetire]
  have h : ∀ t, (countLanes (laneDir i) t).evt = t.evt := fun t => sameBut_setPath _ _ t .evt (by decide)
  rw [h]; rfl

/-- A failed test of a spare that is switched off is a fault of it at stage 17, check 5, and raises its event (R162). -/
theorem katFault_spare {i : Nat} {s : State} (hst : (laneOf s i).st = .off) :
    (laneOf (katFault i s) i).lastStage = 17 ∧ (laneOf (katFault i s) i).lastCheck = 5 ∧
      (katFault i s).evt = (raise .lne i s).evt := by
  have hraise : ∀ v, (raise .lne i (setLane i v s)).evt = (raise .lne i s).evt := fun v => by
    unfold raise raiseL
    dsimp only
    split <;> simp
  unfold katFault laneFault
  simp only [hst]
  split
  · rw [laneOf_laneRetire, if_pos rfl, laneRetire_evt, hraise]
    simp
  · simp [hraise]

/-- The test fails: the spare is out, with the fault that its test is; its row in the fault events holds. -/
theorem spareDone_fail {d : Dir} {i : Nat} {s : State} (hr : (laneOf s (laneNo d i)).ramping.isSome = true)
    (hst : (laneOf s (laneNo d i)).st = .off) :
    let k := laneNo d i
    let t := spareDone k false s
    offRamps k t ∧ (laneOf t k).lastStage = 17 ∧ (laneOf t k).lastCheck = 5 ∧ pdIsOn t (laneDomain k) = false ∧
      t.evt = (raise .lne k s).evt := by
  intro k t
  obtain ⟨b, hb⟩ := Option.isSome_iff_exists.1 hr
  obtain ⟨hstage, hcheck, hevt⟩ := katFault_spare (s := rampEnds k s) (i := k) hst
  have hoff := offRamps_laneRetire k (katFault k (rampEnds k s))
  have hpd : (laneRetire k (katFault k (rampEnds k s))).glb.pdOn.getLsbD (laneDomain k) = false := by
    rw [laneRetire_pdOn]; exact pdClear_off _
  have hraise : (raise .lne k (rampEnds k s)).evt = (raise .lne k s).evt := by
    unfold raise raiseL
    dsimp only
    split
    · rfl
    · simp [rampEnds]
  have ht : t = if b then spareForService (laneDir k) (laneRetire k (katFault k (rampEnds k s)))
      else spareToWarm (laneDir k) (laneRetire k (katFault k (rampEnds k s))) := by
    show spareDone k false s = _
    simp only [spareDone, show (laneOf s k).ramping = some b from hb]
    rfl
  have hlast : ∀ u, laneOf u k = laneOf (laneRetire k (katFault k (rampEnds k s))) k →
      (laneOf u k).lastStage = 17 ∧ (laneOf u k).lastCheck = 5 := fun u hu => by
    rw [hu, laneOf_laneRetire, if_pos rfl]; exact ⟨hstage, hcheck⟩
  rw [ht]
  cases b
  · obtain ⟨ho, hl⟩ := offRamps_spareToWarm (d := laneDir k) hoff
    obtain ⟨h17, h5⟩ := hlast _ hl
    refine ⟨ho, h17, h5, ?_, ?_⟩
    · rw [if_neg (by decide), pdIsOn, spareToWarm_pdOn, hpd]
    · rw [if_neg (by decide), sameBut_spareToWarm _ _ .evt (by decide), laneRetire_evt, hevt, hraise]
  · obtain ⟨ho, hl⟩ := offRamps_spareForService (d := laneDir k) hoff
    obtain ⟨h17, h5⟩ := hlast _ hl
    refine ⟨ho, h17, h5, ?_, ?_⟩
    · rw [if_pos rfl, pdIsOn, spareForService_pdOn, hpd]
    · rw [if_pos rfl, sameBut_spareForService _ _ .evt (by decide), laneRetire_evt, hevt, hraise]

/-- An entry that a table gives at a key other than the default stands in it. -/
theorem mem_of_smGet {α : Type} {d : α} {m : SMap α} {k : Nat} (h : smGet d m k ≠ d) : (k, smGet d m k) ∈ m := by
  induction m with
  | nil => exact absurd rfl h
  | cons e m ih =>
    obtain ⟨j, v⟩ := e
    by_cases hk : k = j
    · simp [smGet, hk]
    · simp only [smGet, hk, if_false] at h ⊢
      exact List.mem_cons_of_mem _ (ih h)

/-- A bit that one entry sets is set in the union over a table. -/
theorem foldl_or_bit {α : Type} (f : α → BitVec 72) {n : Nat} (l : List α) (m : BitVec 72)
    (h : m.getLsbD n = true ∨ ∃ e ∈ l, (f e).getLsbD n = true) : (l.foldl (fun m e => m ||| f e) m).getLsbD n = true := by
  induction l generalizing m with
  | nil => simpa using h
  | cons x l ih =>
    refine ih _ ?_
    rw [BitVec.getLsbD_or, Bool.or_eq_true]
    rcases h with h | ⟨e, he, hb⟩
    · exact .inl (.inl h)
    · rcases List.mem_cons.1 he with rfl | he
      · exact .inl (.inr hb)
      · exact .inr ⟨e, he, hb⟩

theorem bitIf_bit {b : Bool} {n : Nat} (hn : n < 72) (hb : b = true) : (bitIf b n).getLsbD n = true := by
  subst hb
  have h : BitVec.ofNat 72 (1 <<< n) = bitIf true n := by simp [bitIf]
  rw [← h, BitVec.getLsbD_ofNat]
  simp [hn, Nat.testBit_shiftLeft]

/-- A RETIRED lane's PERMANENT condition holds. -/
theorem level_retired {i : Nat} {s : State} (hi : i < 36) (h : (laneOf s i).st = .retired) :
    (levelOf s .lne).getLsbD (36 + i) = true := by
  have hne : smGet .reset s.lne.lanes i ≠ .reset := fun e => by
    have : (laneOf s i).st = .off := by rw [laneOf, e]; rfl
    rw [h] at this; cases this
  refine foldl_or_bit _ _ _ (.inr ⟨_, mem_of_smGet hne, bitIf_bit (by omega) ?_⟩)
  have hr : (smGet Lane.reset s.lne.lanes i).st = .retired := h
  simp [hr]

theorem lne_defined {n : Nat} (h : n < 72) : Sub.lne.defined.getLsbD n = true := by
  interval_cases n <;> rfl

/-! A spare into service. -/

/-- The slot map has one lane more once a spare has entered it. -/
theorem serving_laneEnter {d : Dir} {i : Nat} {s : State} (hi : i ∈ lanesOf d) (hs : (laneOf s i).st ≠ .inService) :
    serving (laneEnter i s) d = serving s d + 1 :=
  serving_enter hi hs (by rw [laneOf_laneEnter, if_pos rfl]) fun j hj => by rw [laneOf_laneEnter, if_neg hj]

theorem serving_laneRetire {d : Dir} {i : Nat} {s : State} (hi : i ∈ lanesOf d) (hs : (laneOf s i).st = .inService) :
    serving s d = serving (laneRetire i s) d + 1 :=
  serving_enter hi (by rw [laneOf_laneRetire, if_pos rfl]; simp) hs fun j hj => by rw [laneOf_laneRetire, if_neg hj]

/-- With no lane held against a permanent fault none is let go. -/
theorem releaseHeld_none {d : Dir} {s : State} (h : (lanesOf d).all (fun j => !(laneOf s j).held) = true) : releaseHeld d s = s := by
  have hn : (lanesOf d).find? (fun j => (laneOf s j).held) = none :=
    List.find?_eq_none.2 fun j hj => by simpa using List.all_eq_true.1 h j hj
  simp only [releaseHeld, hn]

/-- The lane that is held first stays the first when a lane enters that is not it. -/
theorem find_held_laneEnter {d : Dir} {i h : Nat} {s : State} (hf : (lanesOf d).find? (fun j => (laneOf s j).held) = some h)
    (hne : h ≠ i) : (lanesOf d).find? (fun j => (laneOf (laneEnter i s) j).held) = some h := by
  obtain ⟨hh, as, bs, hl, has⟩ := List.find?_eq_some_iff_append.1 hf
  refine List.find?_eq_some_iff_append.2 ⟨by rw [laneOf_laneEnter, if_neg hne]; exact hh, as, bs, hl, fun a ha => ?_⟩
  rw [laneOf_laneEnter]
  split
  · rfl
  · exact has a ha

theorem warmOf_laneEnter {d : Dir} {i : Nat} {s : State} (h : warmOf s d = none) : warmOf (laneEnter i s) d = none := by
  refine List.find?_eq_none.2 fun j hj => ?_
  have hw := List.find?_eq_none.1 h j hj
  rw [laneOf_laneEnter]
  split
  · simp
  · exact hw

/-- A held lane leaves where 16 lanes serve and no spare is WARM: the direction has 15 lanes, and a spare is looked for. -/
theorem laneLeave_sixteen {d : Dir} {h : Nat} {s : State} (hd : laneDir h = d) (hw : warmOf s d = none) (hs : serving s d = 16) :
    laneLeave h s = spareForService d (laneRetire h s) := by
  subst hd
  simp [laneLeave, hw, hs]

/-- A row for a spare whose turn it is (R22, R167). -/
theorem spareReady_exec {s : State} {d : Dir} {i : Nat} (e : BitVec 512) (hl : resetLow s = false) (hi : i < 18)
    (hm : laneDomain (laneNo d i) ∈ s.glb.ramping.take s.glb.rampMax) :
    exec (.spareReady d i e) s = .next (settle (spareDone (laneNo d i) (katClean e) s)) := by
  have hc : (s.glb.ramping.take s.glb.rampMax).contains (laneDomain (laneNo d i)) = true := List.contains_iff_mem.2 hm
  refine (run_high hl).trans ?_
  simp only [hi, hc, decide_true, Bool.and_self, if_true, done]

/-- The end of a spare's ramp into service with a pass. -/
theorem spareDone_service {i : Nat} {s : State} (h : (laneOf s i).ramping = some true) :
    spareDone i true s = releaseHeld (laneDir i) (laneEnter i (rampEnds i s)) := by
  simp only [spareDone, h, if_true]

/-- The end of a ramp towards WARM with a pass. -/
theorem spareDone_warm {i : Nat} {s : State} (h : (laneOf s i).ramping = some false) :
    spareDone i true s =
      pdSet (laneDomain i) (setLane i { laneOf s i with st := .warm, ramping := none } (rampEnds i s)) := by
  simp only [spareDone, h, if_true, Bool.false_eq_true, if_false, laneOf_rampEnds]

/-- A spare that is looked for changes no lane's state. -/
theorem spareForService_st (d : Dir) (s : State) (j : Nat) : (laneOf (spareForService d s) j).st = (laneOf s j).st := by
  have hramp : ∀ k, (laneOf (spareRamp k true s) j).st = (laneOf s j).st := fun k => by
    rw [laneOf_spareRamp]; split <;> simp_all
  have hdeg : ∀ b, laneOf (setDeg b s) j = laneOf s j := fun b => laneOf_lne (sameBut_setDeg b s .lne (by decide)) j
  unfold spareForService
  split
  · exact hramp _
  · split
    · exact hramp _
    · rw [hdeg]

theorem pathOf_same {s t : State} {d : Dir} (he : t.egr = s.egr) (hi : t.ing = s.ing) : pathOf t d = pathOf s d := by
  cases d
  · exact he
  · exact hi

/-- The results of a sound lane are the values in ROM (R162, log 60). -/
theorem katResults_rom : katResults = katRom := by decide +kernel

theorem katClean_iff (e : BitVec 512) : katClean e = true ↔ e = 0 := by
  rw [katClean, beq_iff_eq, katResults_rom]
  constructor
  · intro h
    have : katRom ^^^ (katRom ^^^ e) = katRom ^^^ katRom := by rw [h]
    simpa [← BitVec.xor_assoc] using this
  · rintro rfl; simp

theorem katClean_zero : katClean 0 = true := (katClean_iff 0).2 rfl

theorem katClean_fail {e : BitVec 512} (h : e ≠ 0) : katClean e = false := by
  rw [← Bool.not_eq_true, katClean_iff]; exact h

theorem setPath_eq (d : Dir) (p : Path) (s : State) : pathOf (setPath d p s) d = p := by cases d <;> rfl

theorem settle_keeps {ps : List Part} {s t : State} (h : sameBut ps s t) (he : Part.evt ∈ ps) : sameBut ps s (settle t) :=
  sameBut_trans h (sameBut_mono (sameBut_settle t) (by simpa using he))

/-- The subsystem and the part of State that a direction's path has. -/
def dirSub : Dir → Sub
  | .egr => .egr
  | .ing => .ing
def dirPart : Dir → Part
  | .egr => .egr
  | .ing => .ing

theorem setPath_only (d : Dir) (p : Path) (s : State) : sameBut [dirPart d] s (setPath d p s) := by
  cases d <;> (intro x hx; cases x <;> simp_all [Part.same, setPath, dirPart])

/-- A level above 0 shows as the event of its direction. -/
theorem shed_shows (d : Dir) (s : State) (h : 0 < (pathOf s d).shed) : eventSet (settle s) (dirSub d) 2 := by
  cases d
  · have h' : 0 < s.egr.shed := h
    refine level_shows (u := .egr) (settled_settle s) ?_ rfl
    rw [levelOf_settle]
    exact bitIf_bit (by decide) (decide_eq_true h')
  · have h' : 0 < s.ing.shed := h
    refine level_shows (u := .ing) (settled_settle s) ?_ rfl
    rw [levelOf_settle, levelOf, BitVec.getLsbD_or, bitIf_bit (n := 2) (by decide) (decide_eq_true h'), Bool.true_or]

/-- Settles O39: a spare enters the slot map (`serving_laneEnter`) or leaves it for good (`spareDone_fail`), the lane that was held goes
once 16 serve (`laneLeave_sixteen`), and a shed level is the one field of its path that its rows write (`sameBut_shed`). -/
theorem sparesAndShedding : Obligations.SparesAndShedding := by
  unfold Obligations.SparesAndShedding
  refine ⟨katClean_iff, ?service, ?held, ?warm, ?fails, ?idle, ?off, ?needed, ?rise, ?fall⟩
  case service =>
    intro s d i hl hi hm hr hh hst
    have hin := laneNo_mem d hi
    have hd := laneDir_laneNo d hi
    have hx := spareReady_exec 0 hl hi hm
    have hnone : (lanesOf d).all (fun j => !(laneOf (laneEnter (laneNo d i) (rampEnds (laneNo d i) s)) j).held) = true := by
      refine List.all_eq_true.2 fun j hj => ?_
      rw [laneOf_laneEnter]
      split
      · rfl
      · exact List.all_eq_true.1 hh j hj
    rw [katClean_zero, spareDone_service hr, hd, releaseHeld_none hnone] at hx
    have hserve : serving (laneEnter (laneNo d i) (rampEnds (laneNo d i) s)) d = serving s d + 1 :=
      serving_laneEnter hin (by simp [hst])
    refine ⟨_, hx, ?_, ?_, ?_, ?_, ?_, fun j hj => ?_, ?_⟩
    · rw [laneOf_settle, laneOf_laneEnter, if_pos rfl]
    · rw [laneOf_settle, laneOf_laneEnter, if_pos rfl]
    · rw [pathOf_settle, laneEnter_lanes hd, hserve]
    · exact laneEnter_on (laneNo_lt d hi) _
    · rw [(settle_frame _).2.2.2.2.2.2.2.1, laneEnter, countLanes_glb]
      exact rampEnds_ramping _ s
    · rw [laneOf_settle, laneOf_laneEnter, if_neg hj, laneOf_rampEnds]
    · exact settle_keeps (sameBut_trans (sameBut_mono (glb_only s _) (by decide)) (sameBut_mono (sameBut_laneEnter _ _) (by decide)))
        (by decide)
  case held =>
    intro s d i h hl hi hm hr hst hfind hhst hwarm hserv
    have hd := laneDir_laneNo d hi
    have hne : h ≠ laneNo d i := fun e => by rw [e, hst] at hhst; cases hhst
    have hin : h ∈ lanesOf d := List.mem_of_find?_eq_some hfind
    have hx := spareReady_exec 0 hl hi hm
    let u := laneEnter (laneNo d i) (rampEnds (laneNo d i) s)
    have hu16 : serving u d = 16 := by
      refine (serving_laneEnter (laneNo_mem d hi) (by simp [hst])).trans ?_
      rw [show serving (rampEnds (laneNo d i) s) d = serving s d from rfl, hserv]
    have huh : (laneOf u h).st = .inService := by rw [laneOf_laneEnter, if_neg hne]; exact hhst
    have hufind : (lanesOf d).find? (fun j => (laneOf u j).held) = some h := find_held_laneEnter hfind hne
    have hrel : releaseHeld d u = spareForService d (laneRetire h u) := by
      simp only [releaseHeld, hufind, hu16, if_true]
      exact laneLeave_sixteen (mem_lanesOf hin).1 (warmOf_laneEnter hwarm) hu16
    rw [katClean_zero, spareDone_service hr, hd, hrel] at hx
    obtain ⟨⟨hret, -, -⟩, -⟩ := offRamps_spareForService (d := d) (offRamps_laneRetire h u)
    have hlanes : (pathOf (laneRetire h u) d).lanes = 15 := by
      have := serving_laneRetire hin huh
      rw [laneRetire_lanes (mem_lanesOf hin).1]; omega
    have hkeep := sameBut_spareForService d (laneRetire h u)
    refine ⟨_, hx, ?_, hret, ?_, ?_⟩
    · rw [laneOf_settle, spareForService_st, laneOf_laneRetire, if_neg hne.symm, laneOf_laneEnter, if_pos rfl]
    · rw [pathOf_settle, pathOf_same (hkeep .egr (by decide)) (hkeep .ing (by decide)), hlanes]
    · show (spareForService d (laneRetire h u)).glb.pdOn.getLsbD _ = false
      rw [spareForService_pdOn, laneRetire_pdOn]
      exact pdClear_off u
  case warm =>
    intro s d i hl hi hm hr
    have hx := spareReady_exec 0 hl hi hm
    rw [katClean_zero, spareDone_warm hr] at hx
    refine ⟨_, hx, ?_, ?_, ?_, ?_, fun j hj => ?_, ?_⟩
    · simp
    · simp
    · exact pdSet_on (by have := laneNo_lt d hi; unfold laneDomain; omega) _
    · exact rampEnds_ramping _ s
    · simp [hj]
    · refine settle_keeps ?_ (by decide)
      intro x hx; cases x <;> simp_all [Part.same, rampEnds]
  case fails =>
    intro s d i e hl hi hm hr hst he
    have hx := spareReady_exec e hl hi hm
    rw [katClean_fail he] at hx
    obtain ⟨⟨hret, -, hram⟩, hstage, hcheck, hpd, hevt⟩ := spareDone_fail hr hst
    have hlt := laneNo_lt d hi
    have hraised : ((raise .lne (laneNo d i) s).evt.get .lne).pendReal.getLsbD (laneNo d i) = true := by
      rw [raise, raiseL_evt, if_pos rfl]
      dsimp only
      rw [BitVec.getLsbD_or]
      exact Bool.or_eq_true_iff.2 (.inr (bitIf_bit (by omega) rfl))
    refine ⟨_, hx, hret, hstage, hcheck, hpd, hram, waiting_shows (lne_defined (by omega)) ?_, ?_⟩
    · rw [hevt]; exact hraised
    · refine level_shows (settled_settle _) ?_ (lne_defined (by omega))
      rw [levelOf_settle]
      exact level_retired hlt hret
  case idle =>
    intro s d i e hl h
    refine ⟨settle s, (run_high hl).trans ?_, settled_settle s⟩
    have hnext : (if decide (i < 18) && (s.glb.ramping.take s.glb.rampMax).contains (laneDomain (laneNo d i)) then
        spareDone (laneNo d i) (katClean e) s else s) = s := by
      rcases h with h | h | h
      · simp [Nat.not_lt.2 h]
      · simp [spareDone, h]
      · simp [h]
    rw [hnext]; rfl
  case off =>
    intro s d i hl hi hst hneed
    refine ⟨_, (run_high hl).trans (congrArg done (if_pos ⟨hi, hst, hneed⟩)), ?_, ?_, ?_, ?_, fun j hj => ?_, ?_⟩
    · simp
    · simp
    · exact pdClear_off _
    · exact rampEnds_ramping _ _
    · simp [hj]
    · refine settle_keeps ?_ (by decide)
      intro x hx; cases x <;> simp_all [Part.same, rampEnds]
  case needed =>
    intro s d i hl h
    refine ⟨settle s, (run_high hl).trans (congrArg done (if_neg fun ⟨hi, hst, hneed⟩ => ?_)), settled_settle s⟩
    rcases h with h | ⟨hw, hr⟩ | h
    · omega
    · exact hst.elim hw hr
    · omega
  case rise =>
    intro s d b hl
    refine ⟨_, run_high hl, ?_, ?_⟩
    · rw [pathOf_settle, setPath_eq]
      simp only [Bool.and_eq_true, decide_eq_true_eq, Nat.lt_min, and_assoc]
    · cases d
      · exact ⟨fun h => shed_shows .egr _ h, settle_keeps (sameBut_mono (setPath_only .egr _ s) (by decide)) (by decide)⟩
      · exact ⟨fun h => shed_shows .ing _ h, settle_keeps (sameBut_mono (setPath_only .ing _ s) (by decide)) (by decide)⟩
  case fall =>
    intro s d b hl
    refine ⟨_, run_high hl, ?_, ?_⟩
    · rw [pathOf_settle, setPath_eq]
      simp only [Bool.and_eq_true, decide_eq_true_eq, Nat.max_lt, and_assoc]
    · cases d
      · exact settle_keeps (sameBut_mono (setPath_only .egr _ s) (by decide)) (by decide)
      · exact settle_keeps (sameBut_mono (setPath_only .ing _ s) (by decide)) (by decide)

end Sys2Proof.Machine
end

section
/-! Frames in flight: what leaves a path, and what a row ends with where nothing is left to do for the frames that stay. -/
namespace Sys2Proof.Machine

/-! The descriptor (R11, R12). -/

/-- Parity over bits [127:1] does not look at bit 0. -/
theorem fdParity_congr {v w : BitVec 128} (h : ∀ i, v.getLsbD (i + 1) = w.getLsbD (i + 1)) : fdParity v = fdParity w := by
  simp only [fdParity, h]

/-- A flag as a word stands at bit 0 alone. -/
theorem ofNat_bn_succ (n : Nat) (b : Bool) : (BitVec.ofNat 128 (bn b)).getLsbD (n + 1) = false := by
  cases b <;> simp [bn]

theorem ofNat_bn_zero (b : Bool) : (BitVec.ofNat 128 (bn b)).getLsbD 0 = b := by
  cases b <;> rfl

/-- A descriptor: bits [127:1], and their parity at bit 0. -/
theorem fdWord_form (d : Dir) (f : Frame) : ∃ m, fdWord d f =
    BitVec.ofNat 128 (2 * m) ||| BitVec.ofNat 128 (bn (fdParity (BitVec.ofNat 128 (2 * m)))) := by
  have heven : ∀ n, n % 2 = 0 → n = 2 * (n / 2) := fun n h => by omega
  cases d <;>
    exact ⟨_, congrArg (fun n => BitVec.ofNat 128 n ||| BitVec.ofNat 128 (bn (fdParity (BitVec.ofNat 128 n))))
      (heven _ (by unfold fdVerdict; dsimp only; omega))⟩

/-- Bit 0 of a descriptor is its parity, which a turned bit contradicts. -/
theorem fdClean_iff (d : Dir) (f : Frame) (b : Bool) : fdClean d f b = !b := by
  obtain ⟨m, hm⟩ := fdWord_form d f
  have hpar : fdParity (fdWord d f ^^^ BitVec.ofNat 128 (bn b)) = fdParity (BitVec.ofNat 128 (2 * m)) := fdParity_congr fun i => by
    simp only [hm, BitVec.getLsbD_xor, BitVec.getLsbD_or, ofNat_bn_succ, Bool.or_false, Bool.xor_false]
  have hlow : (BitVec.ofNat 128 (2 * m)).getLsbD 0 = false := by rw [BitVec.getLsbD_ofNat]; simp [Nat.testBit_zero]
  unfold fdClean
  dsimp only
  rw [hpar, hm, BitVec.getLsbD_xor, BitVec.getLsbD_or, hlow, ofNat_bn_zero, ofNat_bn_zero]
  generalize fdParity (BitVec.ofNat 128 (2 * m)) = p
  cases b <;> cases p <;> rfl

/-! The frames of a path. -/

theorem pathOf_dropFrame (d : Dir) (l o : Nat) (s : State) :
    pathOf (dropFrame d l o s) d =
      { pathOf s d with frames := (pathOf s d).frames.filter (fun x => !(x.link == l && x.orderTag == o)) } := by cases d <;> rfl

theorem pathOf_modFrame (d : Dir) (l o : Nat) (g : Frame → Frame) (s : State) :
    pathOf (modFrame d l o g s) d =
      { pathOf s d with frames := mapWhere (fun x => x.link == l && x.orderTag == o) g (pathOf s d).frames } := by cases d <;> rfl

theorem pathOf_sendFrame (d : Dir) (l : Nat) (fd : BitVec 16) (bs : List Byte) (e : Bool) (s : State) :
    pathOf (sendFrame d l fd bs e s) d = { pathOf s d with txPos := ((pathOf s d).txPos + bs.length) % 64 } := by cases d <;> rfl

theorem sameBut_modFrame (d : Dir) (l o : Nat) (g : Frame → Frame) (s : State) : sameBut [dirPart d] s (modFrame d l o g s) :=
  setPath_only d _ s

theorem sameBut_dropFrame (d : Dir) (l o : Nat) (s : State) : sameBut [dirPart d, .lne] s (dropFrame d l o s) :=
  sameBut_trans (sameBut_mono (setPath_only d _ s) (by simp)) (sameBut_mono (lne_only _ _) (by simp))

theorem sameBut_sendFrame (d : Dir) (l : Nat) (fd : BitVec 16) (bs : List Byte) (e : Bool) (s : State) :
    sameBut [dirPart d, .out] s (sendFrame d l fd bs e s) :=
  sameBut_trans (sameBut_mono (setPath_only d _ s) (by simp)) (sameBut_mono (sameBut_emit _ _) (by simp))

theorem sendFrame_out (d : Dir) (l : Nat) (fd : BitVec 16) (bs : List Byte) (e : Bool) (s : State) :
    (sendFrame d l fd bs e s).out = s.out ++ [frameOut d s l fd bs e] := by cases d <;> rfl

@[simp] theorem pathOf_telBump (c n : Nat) (l : Option Nat) (s : State) (d : Dir) : pathOf (telBump c n l s) d = pathOf s d :=
  pathOf_same (sameBut_telBump c n l s .egr (by decide)) (sameBut_telBump c n l s .ing (by decide))

@[simp] theorem pathOf_bump (c : Nat) (l : Option Nat) (s : State) (d : Dir) : pathOf (bump c l s) d = pathOf s d :=
  pathOf_same (sameBut_bump c l s .egr (by decide)) (sameBut_bump c l s .ing (by decide))

@[simp] theorem pathOf_raiseL (u : Sub) (n : Nat) (ls : List Nat) (s : State) (d : Dir) : pathOf (raiseL u n ls s) d = pathOf s d :=
  pathOf_same (sameBut_raiseL u n ls s .egr (by decide)) (sameBut_raiseL u n ls s .ing (by decide))

/-- Buffers and sumps follow the frames: queues alone. -/
theorem sameBut_syncPath (d : Dir) (s : State) : sameBut [.que] s (syncPath d s) := by
  have hq : ∀ q v t, sameBut [.que] t (setQue q v t) := fun q v t => by
    intro x hx; cases x <;> simp_all [Part.same]
  exact sameBut_trans (hq _ _ s) (sameBut_modQue _ _ _)

theorem pathOf_syncPath (d e : Dir) (s : State) : pathOf (syncPath e s) d = pathOf s d :=
  pathOf_same (sameBut_syncPath e s .egr (by decide)) (sameBut_syncPath e s .ing (by decide))

/-- Frames that a change of marks of them leaves alike. -/
theorem filter_mapWhere {α : Type} (p : α → Bool) (g : α → α) (h : ∀ x, p (g x) = p x) (xs : List α) :
    (mapWhere p g xs).filter (fun x => !p x) = xs.filter (fun x => !p x) := by
  induction xs with
  | nil => rfl
  | cons x xs ih =>
    have hx : mapWhere p g (x :: xs) = (if p x then g x else x) :: mapWhere p g xs := rfl
    rw [hx, List.filter_cons, List.filter_cons, ih]
    by_cases hp : p x <;> simp [hp, h]

theorem all_mapWhere {α : Type} {p q : α → Bool} {g : α → α} (h : ∀ x, q x = true → q (g x) = true) {xs : List α}
    (hx : xs.all q = true) : (mapWhere p g xs).all q = true := by
  refine List.all_eq_true.2 fun y hy => ?_
  obtain ⟨x, hm, rfl⟩ := List.mem_map.1 hy
  have := List.all_eq_true.1 hx x hm
  split
  · exact h x this
  · exact this

/-! Calm paths. -/

/-- Nothing is left to do for a frame at a row's end. -/
def frameCalm (d : Dir) (f : Frame) : Bool :=
  (f.queued || f.fate != .crypt || !f.ended) && (d == .egr || (tallied f && f.lateSa.isNone))

theorem calm_iff {s : State} {d : Dir} : calm s d = true ↔ ∀ f ∈ (pathOf s d).frames, frameCalm d f = true := List.all_eq_true

theorem queueBlocks_calm {d : Dir} {f : Frame} (h : frameCalm d f = true) (s : State) : queueBlocks d f s = s := by
  unfold queueBlocks
  exact if_pos (Bool.and_eq_true_iff.1 h).1

theorem foldl_id {α β : Type} (f : β → α → β) {l : List α} (h : ∀ a ∈ l, ∀ s, f s a = s) (s : β) : l.foldl f s = s := by
  induction l generalizing s with
  | nil => rfl
  | cons a l ih => rw [List.foldl_cons, h a (by simp), ih fun b hb => h b (List.mem_cons_of_mem _ hb)]

theorem settlePath_calm {s : State} {d : Dir} (h : calm s d = true) : settlePath d s = syncPath d s :=
  congrArg (syncPath d) (foldl_id _ (fun f hf t => queueBlocks_calm (calm_iff.1 h f hf) t) s)

/-- An ingress frame with nothing left to do has been counted and waits for no count of its SA. -/
theorem frameCalm_ing {f : Frame} (h : frameCalm .ing f = true) : tallied f = true ∧ f.lateSa = none := by
  simpa using (Bool.and_eq_true_iff.1 h).2

theorem ingWhole_calm {f : Frame} (h : frameCalm .ing f = true) (s : State) : ingWhole f s = s := by
  obtain ⟨ht, -⟩ := frameCalm_ing h
  unfold tallied at ht
  unfold ingWhole
  rw [Bool.not_eq_true'] at ht
  rw [ht]
  exact if_neg (by decide)

theorem lateCount_calm {f : Frame} (h : frameCalm .ing f = true) (s : State) : lateCount f s = s := by
  simp only [lateCount, (frameCalm_ing h).2]

theorem settleIng_calm {s : State} (h : calm s .ing = true) : settleIng s = syncPath .ing s := by
  have h1 : s.ing.frames.foldl (fun t f => ingWhole f t) s = s := foldl_id _ (fun f hf t => ingWhole_calm (calm_iff.1 h f hf) t) s
  have h2 : s.ing.frames.foldl (fun t f => lateCount f t) s = s := foldl_id _ (fun f hf t => lateCount_calm (calm_iff.1 h f hf) t) s
  unfold settleIng
  dsimp only
  rw [h1, h2, settlePath_calm h]

/-- No frame of the link waits for a position, so none goes on when one comes free. -/
theorem ingPosition_none {s : State} {l : Nat} (h : s.ing.frames.any (awaits .ing l) = false) : ingPosition l s = s := by
  have hn : s.ing.frames.find? (fun f => f.link == l && f.fate == .wait none && (f.ended || decide (ingEnough ≤ f.bytes.length))) = none :=
    List.find?_eq_none.2 fun f hf => by have := List.any_eq_false.1 h f hf; exact this
  simp only [ingPosition, hn]

/-! The oldest frame of each link. -/

theorem mem_oldest {f : Frame} {fs : List Frame} (h : f ∈ oldest fs) : f ∈ fs := by
  suffices hs : ∀ (l acc : List Frame), f ∈ l.foldl (fun acc f => if acc.any (fun x => x.link == f.link) then acc else acc ++ [f]) acc →
      f ∈ acc ∨ f ∈ l by
    exact (hs fs [] h).resolve_left (by simp)
  intro l
  induction l with
  | nil => exact fun acc h => .inl h
  | cons x l ih =>
    intro acc h
    rcases ih _ h with h | h
    · dsimp only at h
      split at h
      · exact .inl h
      · rcases List.mem_append.1 h with h | h
        · exact .inl h
        · exact .inr (by simp [List.mem_singleton.1 h])
    · exact .inr (List.mem_cons_of_mem _ h)

/-! What leaves ingress. -/

/-- The end of an ingress row on a path where nothing waits for `l`'s position. -/
theorem ingEnd {s : State} {l : Nat} (hc : calm s .ing = true) (ha : s.ing.frames.any (awaits .ing l) = false) :
    settleIng (ingPosition l s) = syncPath .ing s := by rw [ingPosition_none ha, settleIng_calm hc]

/-- The frames that stay when one leaves keep what holds of all. -/
theorem calm_of_subset {s t : State} {d : Dir} (h : calm s d = true) (hs : ∀ x ∈ (pathOf t d).frames, x ∈ (pathOf s d).frames) :
    calm t d = true := calm_iff.2 fun x hx => calm_iff.1 h x (hs x hx)

theorem any_of_subset {α : Type} {p : α → Bool} {xs ys : List α} (h : xs.any p = false) (hs : ∀ y ∈ ys, y ∈ xs) : ys.any p = false :=
  List.any_eq_false.2 fun y hy => List.any_eq_false.1 h y (hs y hy)

/-- The row's end once the frame has left. -/
theorem ingEnd_left {s t : State} {f : Frame} (hc : calm s .ing = true) (ha : s.ing.frames.any (awaits .ing f.link) = false)
    (h : leftPath .ing f s t) :
    settleIng (ingPosition f.link t) = syncPath .ing t ∧ leftPath .ing f s (settle (syncPath .ing t)) := by
  have hsub : ∀ x ∈ (pathOf t .ing).frames, x ∈ (pathOf s .ing).frames := fun x hx => by
    rw [show (pathOf t .ing).frames = _ from h] at hx; exact List.mem_of_mem_filter hx
  refine ⟨ingEnd (calm_of_subset hc hsub) (any_of_subset ha hsub), ?_⟩
  rw [leftPath, pathOf_settle, pathOf_syncPath]
  exact h

/-- A frame leaves on cli_tx_ with what `clientFrame` gives. -/
theorem ingSend_left {s : State} {f : Frame} (hf : frameCalm .ing f = true) :
    ingSend f s = sendFrame .ing f.link (clientFrame s f).1 (clientFrame s f).2 (f.inErr || f.poison) (dropFrame .ing f.link f.orderTag s) := by
  unfold ingSend
  rw [queueBlocks_calm hf]

theorem leftPath_ingSend {s : State} {f : Frame} (hf : frameCalm .ing f = true) : leftPath .ing f s (ingSend f s) := by
  rw [ingSend_left hf, leftPath, pathOf_sendFrame, pathOf_dropFrame]

theorem ingSend_out {s : State} {f : Frame} (hf : frameCalm .ing f = true) :
    (ingSend f s).out = s.out ++ [frameOut .ing s f.link (clientFrame s f).1 (clientFrame s f).2 (f.inErr || f.poison)] := by
  rw [ingSend_left hf, sendFrame_out]; rfl

theorem sameBut_ingSend {s : State} {f : Frame} (hf : frameCalm .ing f = true) : sameBut [.ing, .lne, .out] s (ingSend f s) := by
  rw [ingSend_left hf]
  exact sameBut_trans (sameBut_mono (sameBut_dropFrame .ing _ _ _) (by decide)) (sameBut_mono (sameBut_sendFrame .ing _ _ _ _ _) (by decide))

/-- What a release finds: `f` is on its path, nothing has started, and `f` is the first due. -/
structure Leaves (s : State) (due : Frame → Bool) (f : Frame) : Prop where
  high : resetLow s = false
  ready : s.ing.txReady = true
  calm : calm s .ing = true
  quiet : s.ing.frames.find? (·.started) = none
  first : (oldest s.ing.frames).find? due = some f
  still : s.ing.frames.any (awaits .ing f.link) = false

theorem leaves_of_nextOut {s : State} {due : Frame → Bool} {f : Frame} (h : nextOut s .ing due f = true) : Leaves s due f := by
  simp only [nextOut, mayLeave, Bool.and_eq_true, Bool.not_eq_true', beq_iff_eq, pathOf] at h
  obtain ⟨⟨⟨⟨⟨⟨hl, hr⟩, hc⟩, -⟩, hst⟩, hf⟩, ha⟩ := h
  exact ⟨hl, hr, hc, List.find?_eq_none.2 fun x hx => List.any_eq_false.1 hst x hx, hf, ha⟩

theorem Leaves.frameCalm {s : State} {due : Frame → Bool} {f : Frame} (h : Leaves s due f) : frameCalm .ing f = true :=
  calm_iff.1 h.calm f (mem_oldest (List.mem_of_find?_eq_some h.first))

/-- A release of `f`. -/
theorem ingressRelease_exec {s : State} {f : Frame} (b : Bool) (h : Leaves s ingDue f) :
    exec (.ingressRelease b) s = .next (settle (settleIng (ingPosition f.link (ingRelease f b s)))) := by
  refine (run_high h.high).trans ?_
  simp only [h.ready, Bool.not_true, Bool.false_eq_true, if_false, h.quiet, h.first, done]

/-! How a frame is read rests on the recognised TPIDs alone (R104). -/

section
variable {s t : State} (h : t.ecfg = s.ecfg)
include h

theorem isTpid_ecfg : isTpid t = isTpid s := by funext v; simp only [isTpid, h]
theorem vlanTags_ecfg : vlanTags t = vlanTags s := by funext bs n; unfold vlanTags; rw [isTpid_ecfg h]
theorem etypeAt_ecfg : etypeAt t = etypeAt s := by funext bs n; unfold etypeAt; rw [vlanTags_ecfg h]
theorem tagOf_ecfg : tagOf t = tagOf s := by funext bs n x; unfold tagOf; rw [vlanTags_ecfg h]
theorem clientFrame_ecfg : clientFrame t = clientFrame s := by funext f; unfold clientFrame; rw [tagOf_ecfg h]

end

theorem frameOut_telBump (d : Dir) (c n : Nat) (l : Option Nat) (s : State) (k : Nat) (fd : BitVec 16) (bs : List Byte) (e : Bool) :
    frameOut d (telBump c n l s) k fd bs e = frameOut d s k fd bs e := by
  simp only [frameOut, pathOf_telBump]

/-- A frame that is delivered leaves with what `clientFrame` makes of it. -/
theorem ingRelease_sends {s : State} {f : Frame} (h : Leaves s ingDue f) (hd : f.fate ≠ .discard) (ht : f.fate ≠ .tapped)
    (hk : f.fate ≠ .crypt) :
    ∃ t, exec (.ingressRelease false) s = .next t ∧
      t.out = s.out ++ [frameOut .ing s f.link (clientFrame s f).1 (clientFrame s f).2 (f.inErr || f.poison)] ∧
      leftPath .ing f s t ∧ sameBut [.ing, .lne, .out, .que, .tel, .evt] s t := by
  have hrel : ingRelease f false s = ingSend f (telBump 0x1C4 1 (some f.link) s) := by
    unfold ingRelease
    rw [fdClean_iff]
    split
    · contradiction
    · contradiction
    · simp [hk]
  have hleft : leftPath .ing f s (ingSend f (telBump 0x1C4 1 (some f.link) s)) := by
    have := leftPath_ingSend (s := telBump 0x1C4 1 (some f.link) s) h.frameCalm
    rwa [leftPath, pathOf_telBump] at this
  obtain ⟨hend, hpath⟩ := ingEnd_left h.calm h.still hleft
  have hx := ingressRelease_exec false h
  rw [hrel, hend] at hx
  have hkeep : sameBut [.ing, .lne, .out, .que, .tel] s (syncPath .ing (ingSend f (telBump 0x1C4 1 (some f.link) s))) :=
    sameBut_trans (sameBut_trans (sameBut_mono (sameBut_telBump _ _ _ s) (by decide))
      (sameBut_mono (sameBut_ingSend h.frameCalm) (by decide))) (sameBut_mono (sameBut_syncPath _ _) (by decide))
  refine ⟨_, hx, ?_, hpath, settle_keeps (sameBut_mono hkeep (by decide)) (by decide)⟩
  calc (syncPath .ing (ingSend f (telBump 0x1C4 1 (some f.link) s))).out
    _ = (ingSend f (telBump 0x1C4 1 (some f.link) s)).out := sameBut_syncPath .ing _ .out (by decide)
    _ = _ := by rw [ingSend_out h.frameCalm, clientFrame_ecfg (sameBut_telBump _ _ _ s .ecfg (by decide)), frameOut_telBump, (telBump_frame _ _ _ _).2.1]

/-- A row that sends a frame of this fate with the fd and the bytes that R141 gives it. -/
theorem ingRelease_sendsAs {s : State} {f : Frame} {fd : BitVec 16} {bs : List Byte} (h : Leaves s ingDue f)
    (hd : f.fate ≠ .discard) (ht : f.fate ≠ .tapped) (hk : f.fate ≠ .crypt) (hc : clientFrame s f = (fd, bs)) :
    ∃ t, exec (.ingressRelease false) s = .next t ∧ t.out = s.out ++ [frameOut .ing s f.link fd bs (f.inErr || f.poison)] ∧
      leftPath .ing f s t ∧ sameBut [.ing, .lne, .out, .que, .tel, .evt] s t := by
  have := ingRelease_sends h hd ht hk
  rwa [hc] at this

/-! What each fate carries on cli_tx_ (R141). -/

theorem clientFrame_bypass {s : State} {f : Frame} (h : f.fate = .bypass) :
    clientFrame s f = (BitVec.ofNat 16 (64 + f.pport), zeroFcs f.bytes) := by
  unfold clientFrame
  split <;> simp [h, clientFd, bn]

theorem clientFrame_uncontrolled {s : State} {f : Frame} (h : f.fate = .uncontrolled) :
    clientFrame s f = (BitVec.ofNat 16 (128 + f.pport), zeroFcs f.bytes) := by
  unfold clientFrame
  split <;> simp [h, clientFd, bn]

theorem clientFrame_unmodified {s : State} {f : Frame} (h : f.fate = .unmodified)
    (hk : tagOf s f.bytes (txpClear f.txp) (isXpn (txpSuite f.txp)) = none) :
    clientFrame s f = (BitVec.ofNat 16 (256 + f.pport), zeroFcs f.bytes) := by
  simp [clientFrame, hk, h, clientFd, bn]

theorem clientFrame_verified {s : State} {f : Frame} {k : Tag} (h : f.fate = .verified)
    (hk : tagOf s f.bytes (txpClear f.txp) (isXpn (txpSuite f.txp)) = some k) :
    clientFrame s f = (BitVec.ofNat 16 (512 * (k.tci % 4) + f.pport), rebuilt f k (ingPlain f k)) := by
  simp [clientFrame, hk, h, clientFd, bn]

theorem clientFrame_unchecked {s : State} {f : Frame} {k : Tag} (h : f.fate = .unchecked)
    (hk : tagOf s f.bytes (txpClear f.txp) (isXpn (txpSuite f.txp)) = some k) :
    clientFrame s f = (BitVec.ofNat 16 (512 * (k.tci % 4) + 256 + f.pport),
      rebuilt f k (if f.key = [] then slice f.bytes (k.off + k.len) k.sd else ingPlain f k)) := by
  simp [clientFrame, hk, h, clientFd, bn, ingParts]

/-- A frame with a damaged descriptor is counted, raises its event, and is gone (R12). -/
theorem ingRelease_damaged {s : State} {f : Frame} (hd : f.fate ≠ .discard) (ht : f.fate ≠ .tapped) (he : f.ended = true) :
    ingRelease f true s = dropFrame .ing f.link f.orderTag (raiseL .ing 1 [f.link] (discardFrame .ing f 0x1B s)) := by
  unfold ingRelease
  split
  · contradiction
  · contradiction
  · simp [fdClean_iff, he]

/-- A frame under cut-through starts before its verdict (R145). -/
theorem ingRelease_starts {s : State} {f : Frame} (h : f.fate = .crypt) :
    ingRelease f false s =
      modFrame .ing f.link f.orderTag (fun x => { x with started := true }) (telBump 0x1C4 1 (some f.link) s) := by
  unfold ingRelease
  rw [h, fdClean_iff]
  simp

theorem setFate_eq (d : Dir) (f : Frame) (v : Fate) (s : State) : ∃ g : Frame → Frame, (∀ x, (g x).link = x.link ∧ (g x).orderTag = x.orderTag) ∧
    setFate d f v s = modFrame d f.link f.orderTag g s :=
  ⟨_, fun x => by split <;> exact ⟨rfl, rfl⟩, rfl⟩

/-- A frame that is discarded first leaves its path as one that is not. -/
theorem leftPath_dropDiscarded (d : Dir) (f : Frame) (c : Nat) (s : State) (u : Sub) (n : Nat) (ls : List Nat) :
    leftPath d f s (dropFrame d f.link f.orderTag (raiseL u n ls (discardFrame d f c s))) := by
  obtain ⟨g, hg, he⟩ := setFate_eq d f .discard (bump (dirCnt d c) (some f.link) s)
  rw [leftPath, pathOf_dropFrame, pathOf_raiseL, discardFrame, he, pathOf_modFrame, pathOf_bump]
  exact filter_mapWhere (fun x => x.link == f.link && x.orderTag == f.orderTag) g (fun x => by rw [(hg x).1, (hg x).2]) _

/-! Counters and events of a discard. -/

theorem countedOnly_of_cnt {code : Nat} {l : Option Nat} {s t : State} (h : t.cnt = (bump code l s).cnt) : countedOnly code 1 s t := by
  refine ⟨?_, fun c hc => ?_⟩
  · rw [counted, h, bump, bumpN_cnt, if_pos rfl]
  · rw [h, bump, bumpN_cnt, if_neg hc]

theorem raiseL_pends (u : Sub) {n : Nat} (ls : List Nat) (s : State) (hn : n < 72) :
    ((raiseL u n ls s).evt.get u).pendReal.getLsbD n = true := by
  rw [raiseL_evt, if_pos rfl]
  dsimp only
  rw [BitVec.getLsbD_or]
  exact Bool.or_eq_true_iff.2 (.inr (bitIf_bit hn rfl))

theorem sameBut_setFate (d : Dir) (f : Frame) (v : Fate) (s : State) : sameBut [dirPart d] s (setFate d f v s) :=
  sameBut_modFrame d _ _ _ s

theorem sameBut_discardFrame (d : Dir) (f : Frame) (c : Nat) (s : State) : sameBut [dirPart d, .tel, .cnt] s (discardFrame d f c s) :=
  sameBut_trans (sameBut_mono (sameBut_bump _ _ s) (by simp)) (sameBut_mono (sameBut_setFate d f .discard _) (by simp))

/-- Settles O36: each fate leaves as `clientFrame` has it (`ingRelease_sendsAs`); a damaged descriptor and a discard leave nothing, and the
path of a row that finds nothing due stays. -/
theorem ingressRelease : Obligations.IngressRelease := by
  unfold Obligations.IngressRelease
  refine ⟨?gone, ?bypass, ?uncontrolled, ?unmodified, ?verified, ?unchecked, ?damaged, ?cut, ?decided, ?nothing⟩
  case gone =>
    intro s f h hv
    have hL := leaves_of_nextOut h
    have hrel : ingRelease f false s = dropFrame .ing f.link f.orderTag s := by
      unfold ingRelease
      rcases hv with hv | hv <;> rw [hv]
    have hleft : leftPath .ing f s (dropFrame .ing f.link f.orderTag s) := by rw [leftPath, pathOf_dropFrame]
    obtain ⟨hend, hpath⟩ := ingEnd_left hL.calm hL.still hleft
    have hx := ingressRelease_exec false hL
    rw [hrel, hend] at hx
    have hkeep : sameBut [.ing, .lne, .que] s (syncPath .ing (dropFrame .ing f.link f.orderTag s)) :=
      sameBut_trans (sameBut_mono (sameBut_dropFrame .ing _ _ s) (by decide)) (sameBut_mono (sameBut_syncPath _ _) (by decide))
    exact ⟨_, hx, hkeep .out (by decide), hpath, settle_keeps (sameBut_mono hkeep (by decide)) (by decide)⟩
  case bypass =>
    intro s f h hv
    exact ingRelease_sendsAs (leaves_of_nextOut h) (by simp [hv]) (by simp [hv]) (by simp [hv]) (clientFrame_bypass hv)
  case uncontrolled =>
    intro s f h hv
    exact ingRelease_sendsAs (leaves_of_nextOut h) (by simp [hv]) (by simp [hv]) (by simp [hv]) (clientFrame_uncontrolled hv)
  case unmodified =>
    intro s f h hv hk
    exact ingRelease_sendsAs (leaves_of_nextOut h) (by simp [hv]) (by simp [hv]) (by simp [hv]) (clientFrame_unmodified hv hk)
  case verified =>
    intro s f k h hv hk
    exact ingRelease_sendsAs (leaves_of_nextOut h) (by simp [hv]) (by simp [hv]) (by simp [hv]) (clientFrame_verified hv hk)
  case unchecked =>
    intro s f k h hv hk
    exact ingRelease_sendsAs (leaves_of_nextOut h) (by simp [hv]) (by simp [hv]) (by simp [hv]) (clientFrame_unchecked hv hk)
  case damaged =>
    intro s f h hd ht he
    have hL := leaves_of_nextOut h
    obtain ⟨hend, hpath⟩ := ingEnd_left hL.calm hL.still (leftPath_dropDiscarded .ing f 0x1B s .ing 1 [f.link])
    have hx := ingressRelease_exec true hL
    rw [ingRelease_damaged hd ht he, hend] at hx
    refine ⟨_, hx, ?_, hpath, countedOnly_of_cnt (l := some f.link) ?_, waiting_shows (by decide) ?_⟩
    · have hkeep : sameBut [.ing, .lne, .que, .tel, .cnt, .evt] s
          (syncPath .ing (dropFrame .ing f.link f.orderTag (raiseL .ing 1 [f.link] (discardFrame .ing f 0x1B s)))) :=
        sameBut_trans (sameBut_trans (sameBut_trans (sameBut_mono (sameBut_discardFrame .ing f 0x1B s) (by decide))
          (sameBut_mono (sameBut_raiseL _ _ _ _) (by decide))) (sameBut_mono (sameBut_dropFrame .ing _ _ _) (by decide)))
          (sameBut_mono (sameBut_syncPath _ _) (by decide))
      exact hkeep .out (by decide)
    · calc (syncPath .ing (dropFrame .ing f.link f.orderTag (raiseL .ing 1 [f.link] (discardFrame .ing f 0x1B s)))).cnt
        _ = (raiseL .ing 1 [f.link] (discardFrame .ing f 0x1B s)).cnt := sameBut_syncPath .ing _ .cnt (by decide)
        _ = (discardFrame .ing f 0x1B s).cnt := sameBut_raiseL _ _ _ _ .cnt (by decide)
        _ = (bump 0x3B (some f.link) s).cnt := rfl
    · have hevt : (syncPath .ing (dropFrame .ing f.link f.orderTag (raiseL .ing 1 [f.link] (discardFrame .ing f 0x1B s)))).evt =
          (raiseL .ing 1 [f.link] (discardFrame .ing f 0x1B s)).evt := sameBut_syncPath .ing _ .evt (by decide)
      rw [hevt]
      exact raiseL_pends .ing [f.link] _ (by decide)
  case cut =>
    intro s f h hv
    have hL := leaves_of_nextOut h
    have hcut : rxpCut f.rxp = true := by
      have := List.find?_some hL.first
      simpa [ingDue, hv] using this
    have hx := ingressRelease_exec false hL
    rw [ingRelease_starts hv] at hx
    let u := modFrame .ing f.link f.orderTag (fun x => { x with started := true }) (telBump 0x1C4 1 (some f.link) s)
    have hfr : u.ing.frames = mapWhere (fun x => x.link == f.link && x.orderTag == f.orderTag) (fun x => { x with started := true }) s.ing.frames := by
      have := congrArg Path.frames (pathOf_modFrame .ing f.link f.orderTag (fun x => { x with started := true }) (telBump 0x1C4 1 (some f.link) s))
      rwa [pathOf_telBump] at this
    have hend : settleIng (ingPosition f.link u) = syncPath .ing u := by
      refine ingEnd (calm_iff.2 fun x hx => ?_) (List.any_eq_false.2 fun x hx => ?_)
      · have hx' : x ∈ u.ing.frames := hx
        rw [hfr] at hx'
        exact List.all_eq_true.1 (all_mapWhere (q := frameCalm .ing) (g := fun x => { x with started := true }) (fun _ h => h) hL.calm) x hx'
      · rw [hfr] at hx
        obtain ⟨y, hy, rfl⟩ := List.mem_map.1 hx
        have hn := List.any_eq_false.1 hL.still y hy
        split
        · exact hn
        · exact hn
    rw [hend] at hx
    have hkeep : sameBut [.ing, .que, .tel] s (syncPath .ing u) :=
      sameBut_trans (sameBut_trans (sameBut_mono (sameBut_telBump _ _ _ s) (by decide))
        (sameBut_mono (sameBut_modFrame .ing _ _ _ _) (by decide))) (sameBut_mono (sameBut_syncPath _ _) (by decide))
    refine ⟨_, hx, hkeep .out (by decide), hcut, ?_⟩
    rw [← hfr]
    exact congrArg Path.frames (sameBut_syncPath .ing u .ing (by decide))
  case decided =>
    intro s f k b hl hr hc hf hv ha hk
    have hmem : frameCalm .ing f = true := calm_iff.1 hc f (List.mem_of_find?_eq_some hf)
    obtain ⟨hend, hpath⟩ := ingEnd_left hc ha (leftPath_ingSend (s := s) hmem)
    have hx : exec (.ingressRelease b) s = .next (settle (settleIng (ingPosition f.link (ingSend f s)))) := by
      refine (run_high hl).trans ?_
      simp only [hr, Bool.not_true, Bool.false_eq_true, if_false, hf, hv, beq_self_eq_true, if_true, done]
    rw [hend] at hx
    refine ⟨_, hx, ?_, hpath⟩
    calc (syncPath .ing (ingSend f s)).out
      _ = (ingSend f s).out := sameBut_syncPath .ing _ .out (by decide)
      _ = _ := by rw [ingSend_out hmem, clientFrame_verified hv hk]
  case nothing =>
    intro s b hl h
    refine ⟨settle s, (run_high hl).trans (congrArg done ?_), settled_settle s⟩
    rcases h with h | ⟨f, hf, hv⟩ | ⟨hst, hdue⟩
    · simp [h]
    · simp only [hf, beq_iff_eq, hv, if_false, ite_self]
    · have h1 : s.ing.frames.find? (·.started) = none := List.find?_eq_none.2 fun x hx => List.any_eq_false.1 hst x hx
      have h2 : (oldest s.ing.frames).find? ingDue = none :=
        List.find?_eq_none.2 fun x hx => List.any_eq_false.1 hdue x (mem_oldest hx)
      simp only [h1, h2, ite_self]

end Sys2Proof.Machine
end

section
/-! A whole frame enters a path: what its segment makes of the path, and what stays of it while the frame's fate is decided. -/
namespace Sys2Proof.Machine

/-! The newest frame. -/

/-- `F` is the newest frame of a path that otherwise holds the frames of `s`: closed, at the order position that its link had next. -/
structure Joins (d : Dir) (s : State) (F : Frame) (u : State) : Prop where
  frames : (pathOf u d).frames = (pathOf s d).frames ++ [F]
  tag : F.orderTag = smGet 0 (pathOf s d).order F.link
  fresh : ∀ x ∈ (pathOf s d).frames, (x.link == F.link && x.orderTag == F.orderTag) = false
  closed : (pathOf u d).isOpen = false
  next : smGet 0 (pathOf u d).order F.link = (F.orderTag + 1) % 4096

theorem mapWhere_none {α : Type} {p : α → Bool} {g : α → α} {xs : List α} (h : ∀ x ∈ xs, p x = false) : mapWhere p g xs = xs := by
  refine (List.map_congr_left fun x hx => ?_).trans (List.map_id xs)
  rw [h x hx]; rfl

theorem mapWhere_newest {α : Type} {p : α → Bool} {g : α → α} {xs : List α} {y : α} (h : ∀ x ∈ xs, p x = false) (hy : p y = true) :
    mapWhere p g (xs ++ [y]) = xs ++ [g y] := by
  have happ : mapWhere p g (xs ++ [y]) = mapWhere p g xs ++ mapWhere p g [y] := List.map_append ..
  rw [happ, mapWhere_none h]
  simp [mapWhere, hy]

theorem atPlace (F : Frame) : (F.link == F.link && F.orderTag == F.orderTag) = true := by simp

namespace Joins
variable {d : Dir} {s u v : State} {F : Frame}

/-- A state with the same path has the same newest frame. -/
theorem of_path (h : Joins d s F u) (hp : pathOf v d = pathOf u d) : Joins d s F v :=
  ⟨by rw [hp, h.frames], h.tag, h.fresh, by rw [hp, h.closed], by rw [hp, h.next]⟩

theorem frameOf (h : Joins d s F u) : frameOf u d F.link F.orderTag = some F := by
  rw [Machine.frameOf, h.frames, List.find?_append, List.find?_eq_none.2 fun x hx => by rw [h.fresh x hx]; decide]
  simp

theorem getLast (h : Joins d s F u) : (pathOf u d).frames.getLast? = some F := by rw [h.frames]; simp

/-- A change of the newest frame alone. -/
theorem modFrame (h : Joins d s F u) {g : Frame → Frame} (hl : (g F).link = F.link) (ho : (g F).orderTag = F.orderTag) :
    Joins d s (g F) (modFrame d F.link F.orderTag g u) := by
  have hp := pathOf_modFrame d F.link F.orderTag g u
  refine ⟨?_, by rw [ho, hl, h.tag], by rw [ho, hl]; exact h.fresh, by rw [hp]; exact h.closed, by rw [hp, ho, hl]; exact h.next⟩
  rw [hp, h.frames]
  exact mapWhere_newest h.fresh (atPlace F)

/-- Frames of its link that are older. -/
theorem atLimit (h : Joins d s F u) {G : Frame} (hl : G.link = F.link) (ho : G.orderTag = F.orderTag) :
    atLimit u d G = decide (2048 ≤ (pathOf s d).frames.countP (fun x => x.link == F.link)) := by
  have ht : (pathOf u d).frames.takeWhile (fun x => !(x.link == G.link && x.orderTag == G.orderTag)) = (pathOf s d).frames := by
    rw [h.frames, hl, ho, List.takeWhile_append_of_pos fun x hx => by rw [h.fresh x hx]; rfl]
    simp
  rw [Machine.atLimit, ht, hl]

/-- Below the in-flight limit a fate is taken as decided (R13). -/
theorem setFate (h : Joins d s F u) {G : Frame} (hl : G.link = F.link) (ho : G.orderTag = F.orderTag)
    (hlim : (pathOf s d).frames.countP (fun x => x.link == F.link) < 2048) (v : Fate) :
    Joins d s { F with fate := v, started := F.started && v != .discard } (setFate d G v u) := by
  have hfull : Machine.atLimit u d G = false := by rw [h.atLimit hl ho]; simpa using hlim
  unfold Machine.setFate
  simp only [hfull, Bool.false_eq_true, if_false, hl, ho]
  exact h.modFrame (g := fun x => { x with fate := v, started := x.started && v != .discard }) rfl rfl

/-- At the limit it waits for a position, and what parse decided waits with it. -/
theorem setFate_full (h : Joins d s F u) {G : Frame} (hl : G.link = F.link) (ho : G.orderTag = F.orderTag)
    (hlim : 2048 ≤ (pathOf s d).frames.countP (fun x => x.link == F.link)) (v : Fate) :
    Joins d s { F with fate := .wait none, parked := some v } (Machine.setFate d G v u) := by
  have hfull : Machine.atLimit u d G = true := by rw [h.atLimit hl ho]; simpa using hlim
  unfold Machine.setFate
  simp only [hfull, if_true, hl, ho]
  exact h.modFrame (g := fun x => { x with fate := .wait none, parked := some v }) rfl rfl

/-- The path of a row's end is calm where its newest frame is. -/
theorem calm (h : Joins d s F u) (hc : calm s d = true) (hF : frameCalm d F = true) : calm u d = true :=
  calm_iff.2 fun x hx => by
    rw [h.frames] at hx
    rcases List.mem_append.1 hx with hx | hx
    · exact calm_iff.1 hc x hx
    · rwa [List.mem_singleton.1 hx]

/-- A row's end, where the other frames have nothing left to do: the newest one's blocks are queued where its key and bytes are complete. -/
theorem settles (h : Joins d s F u) (hc : Machine.calm s d = true) :
    ∃ b v, settlePath d u = syncPath d v ∧ Joins d s { F with queued := b } v ∧ sameBut [dirPart d] u v := by
  have hfold : (pathOf u d).frames.foldl (fun t f => queueBlocks d f t) u = queueBlocks d F u := by
    rw [h.frames, List.foldl_append, foldl_id _ (fun f hf t => queueBlocks_calm (calm_iff.1 hc f hf) t)]
    rfl
  by_cases hq : (F.queued || F.fate != .crypt || !F.ended) = true
  · refine ⟨F.queued, u, ?_, h, sameBut_refl _ _⟩
    rw [settlePath, hfold, queueBlocks, if_pos hq]
  · have hm := h.modFrame (g := fun x => { x with queued := true }) rfl rfl
    refine ⟨true, queueBlocks d F u, by rw [settlePath, hfold], ?_, ?_⟩ <;> rw [queueBlocks, if_neg hq]
    · exact ⟨by rw [setPath_eq]; exact hm.frames, hm.tag, hm.fresh, by rw [setPath_eq]; exact hm.closed, by rw [setPath_eq]; exact hm.next⟩
    · exact sameBut_trans (sameBut_modFrame d _ _ _ u) (setPath_only d _ _)

theorem joined (h : Joins d s F u) (he : F.ended = true) : joined d F.link F.bytes F s u :=
  ⟨h.frames, rfl, h.tag, rfl, he, h.closed, by rw [h.next, h.tag]⟩

/-- A row's end on a path whose newest frame has nothing left to do, and what the frame is then. -/
theorem ends (h : Joins d s F u) (hc : Machine.calm s d = true) (hF : frameCalm d F = true) :
    settlePath d u = syncPath d u ∧ Joins d s F (settle (syncPath d u)) :=
  ⟨settlePath_calm (h.calm hc hF), h.of_path (by rw [pathOf_settle, pathOf_syncPath])⟩

end Joins

/-! The segment. -/

theorem slice_whole {bs : List Byte} (h : bs.length ≤ 64) : slice (slice bs 0 64) 0 bs.length = bs := by
  have h64 : slice bs 0 64 = bs ++ List.replicate (64 - bs.length) 0 := by
    simp [slice, List.take_of_length_le h]
  rw [h64]
  simp [slice]

/-- A whole frame of at most 64 bytes starts and ends in its segment. -/
theorem segAct_whole {l : Nat} {fd : BitVec 16} {bs : List Byte} (h0 : 0 < bs.length) (h : bs.length ≤ 64) :
    segAct false (wholeSeg l fd bs) = .start bs true := by
  have hn : 64 - Nat.min 63 (64 - bs.length) = bs.length := by
    rw [show Nat.min 63 (64 - bs.length) = 64 - bs.length from Nat.min_eq_right (by omega)]; omega
  simp [segAct, wholeSeg, hn, slice_whole h]

/-- The path once the frame's bytes and its end have come. -/
def entered (d : Dir) (g : Seg) (bs : List Byte) (s : State) : State :=
  endFrame d false (feedFrame d bs (beginFrame d g (takeWord d (useSkid d s))))

/-- The frame as it comes in whole. -/
def wholeFrame (l tag w w' : Nat) (fd : BitVec 16) (bs : List Byte) : Frame :=
  { newFrame l tag w fd with bytes := bs, ended := true, lastWord := w' }

/-- What a frame that may enter finds. -/
structure Enters (s : State) (d : Dir) (l : Nat) : Prop where
  high : resetLow s = false
  taken : ∀ g : Seg, g.permitted = true → permits s d g = true
  calm : calm s d = true
  shut : (pathOf s d).isOpen = false
  link : l < 1024
  free : ∀ x ∈ (pathOf s d).frames, (x.link == l && x.orderTag == smGet 0 (pathOf s d).order l) = false

theorem enters_of_mayEnter {s : State} {d : Dir} {l : Nat} (h : mayEnter s d l = true) : Enters s d l := by
  simp only [mayEnter, Bool.and_eq_true, Bool.not_eq_true', decide_eq_true_eq, Option.isNone_iff_eq_none] at h
  obtain ⟨⟨⟨⟨hp, hc⟩, ho⟩, hl⟩, hf⟩ := h
  have hp' : ∀ g : Seg, g.permitted = true → permits s d g = true := fun g hg => by
    simp only [permits, hg, Bool.true_and]
    simpa [permits, wholeSeg] using hp
  refine ⟨?_, hp', hc, ho, hl, fun x hx => ?_⟩
  · simp only [permits, Bool.and_eq_true, Bool.not_eq_true'] at hp
    exact hp.1.1.2
  · have := List.find?_eq_none.1 hf x hx
    simpa using this

theorem enters_of_mayStart {s : State} {d : Dir} {l : Nat} (h : mayStart s d l = true) :
    Enters s d l ∧ (pathOf s d).frames.countP (fun x => x.link == l) < 2048 := by
  obtain ⟨h1, h2⟩ := Bool.and_eq_true_iff.1 h
  exact ⟨enters_of_mayEnter h1, by simpa using h2⟩

/-- A path as the input port's open newest frame leaves it. -/
theorem openFrame_newest {u : State} {d : Dir} {fs : List Frame} {F : Frame} (hf : (pathOf u d).frames = fs ++ [F])
    (ho : (pathOf u d).isOpen = true) : openFrame u d = some F := by
  rw [openFrame, ho, hf]; simp

theorem sameBut_begin (d : Dir) (g : Seg) (s : State) : sameBut [dirPart d, .tel] s (beginFrame d g s) :=
  sameBut_trans (sameBut_mono (setPath_only d _ s) (by simp)) (sameBut_mono (sameBut_telBump _ _ _ _) (by simp))

theorem queOf_que {s t : State} (h : t.que = s.que) (q : Nat) : queOf t q = queOf s q := by simp [queOf, h]

@[simp] theorem pathOf_modQue (d : Dir) (n : Nat) (f : Que → Que) (s : State) : pathOf (modQue n f s) d = pathOf s d := by cases d <;> rfl

theorem modFrame_newest {u : State} {d : Dir} {fs : List Frame} {F : Frame} (g : Frame → Frame) (hf : (pathOf u d).frames = fs ++ [F])
    (hn : ∀ x ∈ fs, (x.link == F.link && x.orderTag == F.orderTag) = false) :
    pathOf (modFrame d F.link F.orderTag g u) d = { pathOf u d with frames := fs ++ [g F] } := by
  rw [pathOf_modFrame, hf, mapWhere_newest hn (atPlace F)]

/-- Bytes that the open frame takes, where it is not discarded and stays short. -/
theorem feedFrame_newest {u : State} {d : Dir} {fs : List Frame} {F : Frame} {bs : List Byte} (hf : (pathOf u d).frames = fs ++ [F])
    (ho : (pathOf u d).isOpen = true) (hn : ∀ x ∈ fs, (x.link == F.link && x.orderTag == F.orderTag) = false)
    (hd : F.fate ≠ .discard) (hlen : (F.bytes ++ bs).length ≤ 64) :
    pathOf (feedFrame d bs u) d =
      { pathOf u d with frames := fs ++ [{ F with bytes := F.bytes ++ bs, lastWord := (queOf u (bufQue d)).wr - 1 }] } := by
  have hmax : 64 ≤ maxLen d + 1 := by cases d <;> decide
  unfold feedFrame
  rw [openFrame_newest hf ho]
  refine (modFrame_newest _ (by simpa using hf) hn).trans ?_
  simp [hd, List.take_of_length_le (hlen.trans hmax)]

theorem endFrame_newest {u : State} {d : Dir} {fs : List Frame} {F : Frame} {err : Bool} (hf : (pathOf u d).frames = fs ++ [F])
    (ho : (pathOf u d).isOpen = true) (hn : ∀ x ∈ fs, (x.link == F.link && x.orderTag == F.orderTag) = false) :
    pathOf (endFrame d err u) d = { pathOf u d with frames := fs ++ [{ F with ended := true, inErr := err }], isOpen := false } := by
  unfold endFrame
  rw [openFrame_newest hf ho]
  refine (modFrame_newest _ (by rw [setPath_eq]; exact hf) hn).trans ?_
  rw [setPath_eq]

theorem sameBut_feedFrame (d : Dir) (bs : List Byte) (s : State) : sameBut [dirPart d, .tel] s (feedFrame d bs s) := by
  unfold feedFrame
  cases openFrame s d with
  | none => exact sameBut_refl _ _
  | some f => exact sameBut_trans (sameBut_mono (sameBut_telBump _ _ _ s) (by simp)) (sameBut_mono (sameBut_modFrame _ _ _ _ _) (by simp))

theorem sameBut_endFrame (d : Dir) (e : Bool) (s : State) : sameBut [dirPart d] s (endFrame d e s) := by
  unfold endFrame
  cases openFrame s d with
  | none => exact sameBut_refl _ _
  | some f => exact sameBut_trans (setPath_only _ _ s) (sameBut_modFrame _ _ _ _ _)

theorem beginFrame_path (d : Dir) (g : Seg) (s : State) :
    pathOf (beginFrame d g s) d = { pathOf s d with
      frames := (pathOf s d).frames ++
        [newFrame (g.link % 1024) (smGet 0 (pathOf s d).order (g.link % 1024)) ((queOf s (bufQue d)).wr - 1) g.fd],
      isOpen := true,
      order := smSet 0 (pathOf s d).order (g.link % 1024) ((smGet 0 (pathOf s d).order (g.link % 1024) + 1) % 4096) } := by
  unfold beginFrame
  rw [pathOf_telBump, setPath_eq]

/-- The state in which a frame starts: its beat is taken. -/
theorem beat_path (d : Dir) (s : State) :
    ∃ k, pathOf (takeWord d (useSkid d s)) d = { pathOf s d with late := k } :=
  ⟨_, by rw [takeWord, pathOf_modQue, useSkid, setPath_eq]⟩

/-- What a whole frame's segment does: the frame is the newest of its path, whose rules and shed level stay; of the rest only the frame
buffer's pointers and telemetry change. -/
theorem entered_joins {s : State} {d : Dir} {l : Nat} {fd : BitVec 16} {bs : List Byte} (h : Enters s d l) (hb : bs.length ≤ 64) :
    ∃ w w', Joins d s (wholeFrame l (smGet 0 (pathOf s d).order l) w w' fd bs) (entered d (wholeSeg l fd bs) bs s) ∧
      (pathOf (entered d (wholeSeg l fd bs) bs s) d).rules = (pathOf s d).rules ∧
      (pathOf (entered d (wholeSeg l fd bs) bs s) d).shed = (pathOf s d).shed := by
  obtain ⟨k, hk⟩ := beat_path d s
  have hl : (wholeSeg l fd bs).link % 1024 = l := Nat.mod_eq_of_lt h.link
  have h1 := beginFrame_path d (wholeSeg l fd bs) (takeWord d (useSkid d s))
  rw [hl, hk] at h1
  have h2 := feedFrame_newest (bs := bs) (by rw [h1]) (by rw [h1]) h.free (by simp [newFrame]) (by simpa [newFrame] using hb)
  have h3 := endFrame_newest (err := false) (by rw [h2]) (by rw [h2, h1]) h.free
  rw [h2, h1] at h3
  have h4 : pathOf (entered d (wholeSeg l fd bs) bs s) d = _ := h3
  refine ⟨(queOf (takeWord d (useSkid d s)) (bufQue d)).wr - 1,
    (queOf (beginFrame d (wholeSeg l fd bs) (takeWord d (useSkid d s))) (bufQue d)).wr - 1, ⟨?_, rfl, h.free, ?_, ?_⟩, ?_, ?_⟩ <;> rw [h4]
  · rfl
  · simp only [smGet_smSet, if_pos, wholeFrame, newFrame]

theorem sameBut_entered (d : Dir) (g : Seg) (bs : List Byte) (s : State) : sameBut [dirPart d, .que, .tel] s (entered d g bs s) :=
  sameBut_trans (sameBut_trans (sameBut_trans (sameBut_trans (sameBut_mono (setPath_only d _ s) (by simp))
    (sameBut_mono (sameBut_modQue _ _ _) (by simp))) (sameBut_mono (sameBut_begin d _ _) (by simp)))
    (sameBut_mono (sameBut_feedFrame d _ _) (by simp))) (sameBut_mono (sameBut_endFrame d _ _) (by simp))

/-- Of the queues the frame buffer's alone. -/
theorem queOf_entered (d : Dir) (g : Seg) (bs : List Byte) (s : State) (q : Nat) (hq : q ≠ bufQue d) : queOf (entered d g bs s) q = queOf s q := by
  have hskid := setPath_only d { pathOf s d with late := if inReady s d then 0 else (pathOf s d).late + 1 } s
  have hbegin := sameBut_begin d g (takeWord d (useSkid d s))
  have hfeed := sameBut_feedFrame d bs (beginFrame d g (takeWord d (useSkid d s)))
  have hend := sameBut_endFrame d false (feedFrame d bs (beginFrame d g (takeWord d (useSkid d s))))
  have hn : ∀ p : Dir, Part.que ∉ [dirPart p] ∧ Part.que ∉ [dirPart p, .tel] := fun p => by cases p <;> decide
  have hque : (entered d g bs s).que = (takeWord d (useSkid d s)).que :=
    (hend .que (hn d).1).trans ((hfeed .que (hn d).2).trans (hbegin .que (hn d).2))
  rw [queOf_que hque]
  exact (queOf_modQue _ _ _ q).trans ((if_neg hq).trans (queOf_que (hskid .que (hn d).1) q))

/-! The frame as it comes in. -/

/-- A frame that has come in whole and has not begun to leave. -/
structure Arrived (l : Nat) (bs : List Byte) (F : Frame) : Prop where
  link : F.link = l
  bytes : F.bytes = bs
  ended : F.ended = true
  good : F.inErr = false
  here : F.started = false

theorem arrived_whole (l tag w w' : Nat) (fd : BitVec 16) (bs : List Byte) : Arrived l bs (wholeFrame l tag w w' fd bs) :=
  ⟨rfl, rfl, rfl, rfl, rfl⟩

/-- The frame as classification sees it. -/
def asWhole (l : Nat) (fd : BitVec 16) (bs : List Byte) : Frame := wholeFrame l 0 0 0 fd bs

/-- The state and the frame with which classification begins. -/
structure Parses (d : Dir) (s : State) (l : Nat) (fd : BitVec 16) (bs : List Byte) (F : Frame) (u : State) : Prop where
  joins : Joins d s F u
  arrived : Arrived l bs F
  whole : ∃ tag w w', F = wholeFrame l tag w w' fd bs
  same : sameBut [dirPart d, .que, .tel] s u
  ques : ∀ q, q ≠ bufQue d → queOf u q = queOf s q
  rules : (pathOf u d).rules = (pathOf s d).rules
  shed : (pathOf u d).shed = (pathOf s d).shed

theorem parses_of_enters {s : State} {d : Dir} {l : Nat} {fd : BitVec 16} {bs : List Byte} (h : Enters s d l) (hb : bs.length ≤ 64) :
    ∃ F, Parses d s l fd bs F (entered d (wholeSeg l fd bs) bs s) := by
  obtain ⟨w, w', hj, hr, hs⟩ := entered_joins (fd := fd) h hb
  exact ⟨_, hj, arrived_whole .., ⟨_, _, _, rfl⟩, sameBut_entered d (wholeSeg l fd bs) bs s, queOf_entered d _ bs s, hr, hs⟩

/-! The row's end. -/

theorem queOf_syncPath {d : Dir} {q : Nat} (h1 : q ≠ bufQue d) (h2 : q ≠ sumpQue d) (s : State) : queOf (syncPath d s) q = queOf s q := by
  have hb : queOf (syncBuffer d s) q = queOf s q := by
    unfold syncBuffer
    exact (queOf_setQue _ _ s q).trans (if_neg h1)
  unfold syncPath syncSump
  exact ((queOf_modQue _ _ _ q).trans (if_neg h2)).trans hb

/-- What the row of a frame that has come in whole ends with, once the state is `w` and the frame `G`. -/
structure Ends (d : Dir) (s : State) (l : Nat) (bs : List Byte) (G : Frame) (w t : State) : Prop where
  frame : ∃ b, joined d l bs { G with queued := b } s t
  same : sameBut [dirPart d, .que, .evt] w t
  ques : ∀ q, q ≠ bufQue d → q ≠ sumpQue d → queOf t q = queOf w q
  shows : ∀ u n, u.defined.getLsbD n = true → (w.evt.get u).pendReal.getLsbD n = true → eventSet t u n

theorem ends_of_joins {d : Dir} {s w : State} {l : Nat} {bs : List Byte} {G : Frame} (h : Joins d s G w) (hc : calm s d = true)
    (hG : Arrived l bs G) : Ends d s l bs G w (settle (settlePath d w)) := by
  obtain ⟨b, v, hset, hj, hsame⟩ := h.settles hc
  have hq := sameBut_syncPath d v
  have hevt : (syncPath d v).evt = w.evt := (hq .evt (by simp) : _ = v.evt).trans (hsame .evt (by cases d <;> decide))
  have hque : v.que = w.que := hsame .que (by cases d <;> decide)
  rw [hset]
  refine ⟨⟨b, ?_⟩, ?_, fun q h1 h2 => ?_, fun u n hd hp => waiting_shows hd (by rw [hevt]; exact hp)⟩
  · have hjoined := (hj.of_path (v := settle (syncPath d v)) (by rw [pathOf_settle, pathOf_syncPath])).joined hG.ended
    obtain ⟨rfl, rfl, -, -, -⟩ := hG
    exact hjoined
  · exact sameBut_trans (sameBut_mono hsame (by simp)) (sameBut_trans (sameBut_mono hq (by simp)) (sameBut_mono (sameBut_settle _) (by simp)))
  · exact (queOf_syncPath h1 h2 v).trans (queOf_que hque q)

end Sys2Proof.Machine
end

section
/-! Egress takes a whole frame: the checks of R100 in their order. -/
namespace Sys2Proof.Machine

/-! Counts. -/

@[simp] theorem pumpReads_cnt (n : Nat) (s : State) : (pumpReads n s).cnt = s.cnt := by
  induction n generalizing s with
  | zero => rfl
  | succ n ih =>
    simp only [pumpReads]; split
    · rfl
    · split
      · rw [ih]; simp
      · rfl

/-- A fill counts its leaf's hit or miss alone. -/
theorem startFill_cnt {n c : Nat} (h4 : c ≠ 0x54) (h5 : c ≠ 0x55) (s : State) : smGet 0 (startFill n s).cnt c = smGet 0 s.cnt c := by
  have hleaf : ∀ j, (useLeaf j s).cnt = s.cnt := fun j => by unfold useLeaf; split <;> rfl
  unfold startFill; split
  · rfl
  · rw [pumpReads_cnt]
    dsimp only
    split
    · rfl
    · split <;> simp [bump, hleaf, h4, h5]

theorem dirtyLine_cnt {n c : Nat} (h4 : c ≠ 0x54) (h5 : c ≠ 0x55) (s : State) : smGet 0 (dirtyLine n s).cnt c = smGet 0 s.cnt c := by
  have hl : (lineChanged n s).cnt = s.cnt := by
    unfold lineChanged; split
    · rfl
    · split <;> rfl
  unfold dirtyLine; dsimp only; split
  · rw [hl]
  · rw [startFill_cnt h4 h5, hl]

/-! A SecY's statistic. -/

theorem secys_only (s : State) (m : SMap (Option Secy)) : sameBut [.secys] s { s with secys := m } := by
  intro p hp; cases p <;> simp_all [Part.same]

/-- A SecY's statistic changes its SecY and dirties its line. -/
theorem sameBut_secyStat (l i : Nat) (s : State) : sameBut [.secys, .cis, .cxm, .out, .cnt, .tel] s (secyStat l i s) := by
  have hy : sameBut [.secys] s (statY l i 1 s) := by
    unfold statY modSecy; split
    · exact secys_only _ _
    · exact sameBut_refl _ _
  unfold secyStat; split
  · exact sameBut_trans (sameBut_mono hy (by decide)) (sameBut_mono (ctx_dirtyLine _ _) (by decide))
  · exact sameBut_refl _ _

theorem secyOf_statY {s : State} {l i : Nat} {y : Secy} (h : secyOf s l = some y) : secyOf (statY l i 1 s) l = some (yStat i y) := by
  simp [statY, modSecy, h, yStat]

theorem secyOf_secyStat {s : State} {l i : Nat} {y : Secy} (h : secyOf s l = some y) : secyOf (secyStat l i s) l = some (yStat i y) := by
  have hd := ctx_dirtyLine (secyLine l) (statY l i 1 s) .secys (by decide)
  have hd : (dirtyLine (secyLine l) (statY l i 1 s)).secys = (statY l i 1 s).secys := hd
  rw [secyStat, if_pos (by rw [h]; rfl)]
  exact (congrArg (fun m => smGet none m l) hd).trans (secyOf_statY h)

theorem secyStat_cnt {l i c : Nat} (h4 : c ≠ 0x54) (h5 : c ≠ 0x55) (s : State) : smGet 0 (secyStat l i s).cnt c = smGet 0 s.cnt c := by
  unfold secyStat; split
  · rw [dirtyLine_cnt h4 h5, statY, modSecy]; split <;> rfl
  · rfl

@[simp] theorem pathOf_secyStat (l i : Nat) (s : State) (d : Dir) : pathOf (secyStat l i s) d = pathOf s d :=
  pathOf_same (sameBut_secyStat l i s .egr (by decide)) (sameBut_secyStat l i s .ing (by decide))

/-! The row. -/

/-- Past classification there is nothing left to do for a whole frame that is not too long. -/
theorem egrAdvance_whole {s u w : State} {l : Nat} {bs : List Byte} {flt : FrameFaults} {F G : Frame} (hu : Joins .egr s F u)
    (hF : Arrived l bs F) (hw : egrParse l F.orderTag flt u = w) (hj : Joins .egr s G w) (hG : Arrived l bs G) (hb : bs.length ≤ 64) :
    egrAdvance false flt u = w := by
  have htag : G.orderTag = F.orderTag := by rw [hj.tag, hu.tag, hF.link, hG.link]
  have hlast : (pathOf u .egr).frames.getLast? = some F := hu.getLast
  have hnew : frameOf w .egr l F.orderTag = some G := by rw [← htag, ← hG.link]; exact hj.frameOf
  have hshort : ¬ 16352 < G.bytes.length := by rw [hG.bytes]; omega
  unfold egrAdvance
  simp only [hlast, hF.ended, hF.link, Bool.not_false, Bool.true_or, Bool.and_self, if_true, hw, hnew, hshort, hG.ended, hG.here, hG.good,
    Bool.not_true, Bool.false_eq_true, if_false, ite_self]

/-- CLI_RX_FRAME of a whole frame: what classification makes of the path, and the row's end. -/
theorem cliRx_whole {s w : State} {l : Nat} {fd : BitVec 16} {bs : List Byte} {flt : FrameFaults} {F G : Frame} (h : Enters s .egr l)
    (h0 : 0 < bs.length) (hb : bs.length ≤ 64) (hu : Joins .egr s F (entered .egr (wholeSeg l fd bs) bs s)) (hF : Arrived l bs F)
    (hw : egrParse l F.orderTag flt (entered .egr (wholeSeg l fd bs) bs s) = w) (hj : Joins .egr s G w) (hG : Arrived l bs G) :
    exec (.cliRxFrame [wholeSeg l fd bs] flt) s = .next (settle (settlePath .egr w)) := by
  have hport : portSeg .egr (wholeSeg l fd bs) s = (wholeSeg l fd bs, takeWord .egr (useSkid .egr s)) := by
    unfold portSeg
    rw [if_pos (h.taken _ rfl)]
    rfl
  have hact : segAct s.egr.isOpen (wholeSeg l fd bs) = .start bs true := by
    rw [show s.egr.isOpen = false from h.shut]; exact segAct_whole h0 hb
  have hseg : egrSeg flt s (wholeSeg l fd bs) = egrAdvance false flt (entered .egr (wholeSeg l fd bs) bs s) := by
    unfold egrSeg
    rw [hport]
    dsimp only
    rw [hact]
    rfl
  refine (run_high h.high).trans ?_
  rw [List.foldl_cons, List.foldl_nil, hseg, egrAdvance_whole hu hF hw hj hG hb]
  rfl

/-- Where nothing is left to do for the frame but to leave, the row ends with the buffers' pointers. -/
theorem cliRx_calm {s w : State} {l : Nat} {fd : BitVec 16} {bs : List Byte} {flt : FrameFaults} {F G : Frame} (h : Enters s .egr l)
    (h0 : 0 < bs.length) (hb : bs.length ≤ 64) (hu : Joins .egr s F (entered .egr (wholeSeg l fd bs) bs s)) (hF : Arrived l bs F)
    (hw : egrParse l F.orderTag flt (entered .egr (wholeSeg l fd bs) bs s) = w) (hj : Joins .egr s G w) (hG : Arrived l bs G)
    (hc : frameCalm .egr G = true) :
    ∃ t, exec (.cliRxFrame [wholeSeg l fd bs] flt) s = .next t ∧ joined .egr l bs G s t ∧ sameBut [.que, .evt] w t := by
  obtain ⟨hsync, ht⟩ := hj.ends h.calm hc
  refine ⟨_, cliRx_whole h h0 hb hu hF hw hj hG, ?_, ?_⟩ <;> rw [hsync]
  · have hjoined := ht.joined hG.ended
    rwa [hG.link, hG.bytes] at hjoined
  · exact sameBut_trans (sameBut_mono (sameBut_syncPath _ _) (by decide)) (sameBut_mono (sameBut_settle _) (by decide))

/-! What classification reads. -/

theorem ruleOf_congr {s t : State} {d : Dir} (he : t.ecfg = s.ecfg) (hr : (pathOf t d).rules = (pathOf s d).rules) (l : Nat) (bs : List Byte) :
    ruleOf t d l bs = ruleOf s d l bs := by
  have hh : ruleHits t l bs = ruleHits s l bs := funext fun r => by simp only [ruleHits, etypeAt_ecfg he]
  rw [ruleOf, ruleOf, hr, hh]

theorem egrClass_congr {s t : State} (hg : t.glb = s.glb) (hy : t.secys = s.secys) (he : t.ecfg = s.ecfg)
    (hr : (pathOf t .egr).rules = (pathOf s .egr).rules) (hs : (pathOf t .egr).shed = (pathOf s .egr).shed) (f : Frame) :
    egrClass t f = egrClass s f := by
  have hs : t.egr.shed = s.egr.shed := hs
  simp only [egrClass, ruleOf_congr he hr, etypeAt_ecfg he, secyOf, hg, hy, hs]

theorem Parses.egrCls {s u : State} {l : Nat} {fd : BitVec 16} {bs : List Byte} {F : Frame} (h : Parses .egr s l fd bs F u) :
    egrClass u F = egrClass s (asWhole l fd bs) := by
  obtain ⟨_, _, _, rfl⟩ := h.whole
  exact egrClass_congr (h.same .glb (by decide)) (h.same .secys (by decide)) (h.same .ecfg (by decide)) h.rules h.shed _

/-- A discard: its counter, and the SecY's discard statistic where classification names it. -/
theorem egrParse_disc {s u : State} {l : Nat} {fd : BitVec 16} {bs : List Byte} {flt : FrameFaults} {F : Frame} {code : Nat}
    {stat : Option Nat} (h : Parses .egr s l fd bs F u) (hc : egrClass s (asWhole l fd bs) = .disc code stat) :
    egrParse l F.orderTag flt u = discardFrame .egr F code (countStat l stat u) := by
  have hf : frameOf u .egr l F.orderTag = some F := h.arrived.link ▸ h.joins.frameOf
  simp only [egrParse, hf, h.egrCls.trans hc]

theorem joins_discard {s u : State} {d : Dir} {F : Frame} {code : Nat} (h : Joins d s F u)
    (hlim : (pathOf s d).frames.countP (fun x => x.link == F.link) < 2048) :
    Joins d s { F with fate := .discard, started := F.started && Fate.discard != .discard } (discardFrame d F code u) :=
  (h.of_path (pathOf_bump _ _ u d)).setFate rfl rfl hlim .discard

theorem discardFrame_cnt (d : Dir) (F : Frame) (code : Nat) (s : State) :
    (discardFrame d F code s).cnt = (bump (dirCnt d code) (some F.link) s).cnt := sameBut_setFate _ _ _ _ .cnt (by cases d <;> decide)

theorem counted_bump {code : Nat} {l : Option Nat} {s u t : State} (hu : smGet 0 u.cnt code = smGet 0 s.cnt code)
    (h : t.cnt = (bump code l u).cnt) : counted code 1 s t := by
  rw [counted, h, ← hu]; simp [bump]

/-- A discard of a frame that has come in whole: the frame, and what else the row changes. -/
theorem cliRx_disc {s : State} {l : Nat} {fd : BitVec 16} {bs : List Byte} {flt : FrameFaults} {code : Nat} {stat : Option Nat}
    (h : mayStart s .egr l = true) (h0 : 0 < bs.length) (hb : bs.length ≤ 64) (hc : egrClass s (asWhole l fd bs) = .disc code stat) :
    ∃ u, sameBut [.egr, .que, .tel] s u ∧ ∃ t, exec (.cliRxFrame [wholeSeg l fd bs] flt) s = .next t ∧
      ∃ f, joined .egr l bs f s t ∧ f.fate = .discard ∧ t.cnt = (bump code (some l) (countStat l stat u)).cnt ∧
        sameBut [.egr, .que, .tel, .cnt, .evt] (countStat l stat u) t := by
  obtain ⟨henter, hlim⟩ := enters_of_mayStart h
  obtain ⟨F, hp⟩ := parses_of_enters (fd := fd) henter hb
  have hstat : pathOf (countStat l stat (entered .egr (wholeSeg l fd bs) bs s)) .egr = pathOf (entered .egr (wholeSeg l fd bs) bs s) .egr := by
    cases stat with
    | none => rfl
    | some i => exact pathOf_secyStat ..
  have hj := joins_discard (code := code) (hp.joins.of_path hstat) (by rw [hp.arrived.link]; exact hlim)
  obtain ⟨t, hx, hjoin, hrest⟩ := cliRx_calm henter h0 hb hp.joins hp.arrived (egrParse_disc hp hc) hj
    ⟨hp.arrived.link, hp.arrived.bytes, hp.arrived.ended, hp.arrived.good, Bool.and_false _⟩ (by simp [frameCalm])
  refine ⟨_, hp.same, t, hx, _, hjoin, rfl, ?_, ?_⟩
  · have hcnt := discardFrame_cnt .egr F code (countStat l stat (entered .egr (wholeSeg l fd bs) bs s))
    rw [hp.arrived.link] at hcnt
    exact (hrest .cnt (by decide)).trans hcnt
  · exact sameBut_trans (sameBut_mono (sameBut_discardFrame .egr F code _) (by decide)) (sameBut_mono hrest (by decide))

/-- Counts of a row: one counter alone, from a state with the counters of `s`. -/
theorem countedOnly_bump {code : Nat} {l : Option Nat} {s u t : State} (hu : u.cnt = s.cnt) (ht : t.cnt = (bump code l u).cnt) :
    countedOnly code 1 s t := by
  have honly := countedOnly_of_cnt ht
  rwa [countedOnly, counted, hu] at honly

/-- A counter, and a statistic of the SecY. -/
theorem counted_stat {code i l : Nat} {k : Option Nat} {y : Secy} {s u t : State} (hcode : code < 0x54) (hy : secyOf s l = some y)
    (hcnt : u.cnt = s.cnt) (hsec : u.secys = s.secys) (ht : t.cnt = (bump code k (secyStat l i u)).cnt)
    (hts : t.secys = (secyStat l i u).secys) : counted code 1 s t ∧ secyOf t l = some (yStat i y) := by
  have huy : secyOf u l = some y := hy ▸ congrArg (fun m => smGet none m l) hsec
  refine ⟨counted_bump (by rw [secyStat_cnt (by omega) (by omega), hcnt]) ht, ?_⟩
  rw [← secyOf_secyStat huy]
  exact congrArg (fun m => smGet none m l) hts

/-- A discard that no SecY's statistic counts. -/
theorem cliRx_discards {s : State} {l : Nat} {fd : BitVec 16} {bs : List Byte} {flt : FrameFaults} {code : Nat}
    (h : mayStart s .egr l = true) (h0 : 0 < bs.length) (hb : bs.length ≤ 64) (hc : egrClass s (asWhole l fd bs) = .disc code none) :
    ∃ t, exec (.cliRxFrame [wholeSeg l fd bs] flt) s = .next t ∧ ∃ f, joined .egr l bs f s t ∧ f.fate = .discard ∧
      countedOnly code 1 s t ∧ sameBut [.egr, .que, .tel, .cnt, .evt] s t := by
  obtain ⟨u, hu, t, hx, f, hj, hf, hcnt, hsame⟩ := cliRx_disc (flt := flt) h h0 hb hc
  exact ⟨t, hx, f, hj, hf, countedOnly_bump (hu .cnt (by decide)) hcnt, sameBut_trans (sameBut_mono hu (by decide)) hsame⟩

/-- A discard that the SecY's statistic counts too. -/
theorem cliRx_discardsOf {s : State} {l : Nat} {fd : BitVec 16} {bs : List Byte} {flt : FrameFaults} {code : Nat} {y : Secy}
    (h : mayStart s .egr l = true) (hb : bs.length = 64) (hy : secyOf s l = some y) (hcode : code < 0x20)
    (hc : egrClass s (asWhole l fd bs) = .disc code (some 3)) :
    ∃ t, exec (.cliRxFrame [wholeSeg l fd bs] flt) s = .next t ∧ ∃ f, joined .egr l bs f s t ∧ f.fate = .discard ∧
      counted code 1 s t ∧ secyOf t l = some (yStat 3 y) ∧
      sameBut [.egr, .que, .tel, .cnt, .evt, .secys, .cis, .cxm, .out] s t := by
  obtain ⟨u, hu, t, hx, f, hj, hf, hcnt, hsame⟩ := cliRx_disc (flt := flt) h (by omega) (by omega) hc
  obtain ⟨hcount, hstat⟩ := counted_stat (by omega) hy (hu .cnt (by decide)) (hu .secys (by decide)) hcnt (hsame .secys (by decide))
  exact ⟨t, hx, f, hj, hf, hcount, hstat, sameBut_trans (sameBut_mono hu (by decide))
    (sameBut_trans (sameBut_mono (sameBut_secyStat l 3 u) (by decide)) (sameBut_mono hsame (by decide)))⟩

/-- The port of a link's SecY, 0 without one. -/
def egrPort (s : State) (l : Nat) : Nat := ((secyOf s l).map (fun y => txpPport y.txp)).getD 0

theorem egrPort_some {s : State} {l : Nat} {y : Secy} (h : secyOf s l = some y) : egrPort s l = txpPport y.txp := by simp [egrPort, h]

/-- The frame as it knows its port. -/
def withPort (n : Nat) (F : Frame) : Frame := { F with pport := n }

theorem egrParse_fate {s u : State} {l : Nat} {fd : BitVec 16} {bs : List Byte} {flt : FrameFaults} {F : Frame} {v : Fate}
    {stat : Option Nat} (h : Parses .egr s l fd bs F u) (hc : egrClass s (asWhole l fd bs) = .fate v stat) :
    egrParse l F.orderTag flt u =
      setFate .egr F v (modFrame .egr F.link F.orderTag (withPort (egrPort s l)) (if v == .bypass then bump 0xB (some l) u else u)) := by
  obtain rfl := h.arrived.link
  have hsec : secyOf u F.link = secyOf s F.link := congrArg (fun m => smGet none m F.link) (h.same .secys (by decide) : u.secys = s.secys)
  simp only [egrParse, h.joins.frameOf, h.egrCls.trans hc, hsec, egrPort]
  cases secyOf s F.link <;> rfl

theorem egrParse_look {s u : State} {l : Nat} {fd : BitVec 16} {bs : List Byte} {flt : FrameFaults} {F : Frame}
    (h : Parses .egr s l fd bs F u) (hc : egrClass s (asWhole l fd bs) = .look) :
    egrParse l F.orderTag flt u = if atLimit u .egr F
      then telBump 0x1C7 1 (some l) (modFrame .egr F.link F.orderTag (withPort (egrPort s l)) u)
      else egrLookup (withPort (egrPort s l) F) flt true (modFrame .egr F.link F.orderTag (withPort (egrPort s l)) u) := by
  obtain rfl := h.arrived.link
  have hsec : secyOf u F.link = secyOf s F.link := congrArg (fun m => smGet none m F.link) (h.same .secys (by decide) : u.secys = s.secys)
  simp only [egrParse, h.joins.frameOf, h.egrCls.trans hc, hsec, egrPort]
  cases secyOf s F.link <;> rfl

/-- The path of a frame that knows its port. -/
theorem joins_port {s u v : State} {F : Frame} (n : Nat) (h : Joins .egr s F u) (hv : pathOf v .egr = pathOf u .egr) :
    Joins .egr s (withPort n F) (modFrame .egr F.link F.orderTag (withPort n) v) :=
  (h.of_path hv).modFrame (g := withPort n) rfl rfl

theorem pathOf_bypassed (v : Fate) (l : Nat) (u : State) :
    pathOf (if v == .bypass then bump 0xB (some l) u else u) .egr = pathOf u .egr := by
  split
  · exact pathOf_bump ..
  · rfl

/-- A frame that goes on without a key takes its fate; one under a bypass rule is counted. -/
theorem cliRx_passes {s : State} {l : Nat} {fd : BitVec 16} {bs : List Byte} {flt : FrameFaults} {v : Fate} {stat : Option Nat}
    (h : mayStart s .egr l = true) (hb : bs.length = 64) (hc : egrClass s (asWhole l fd bs) = .fate v stat) (hv : v ≠ .crypt) :
    ∃ u, sameBut [.egr, .que, .tel] s u ∧ ∃ t, exec (.cliRxFrame [wholeSeg l fd bs] flt) s = .next t ∧
      ∃ f, joined .egr l bs f s t ∧ f.fate = v ∧ f.pport = egrPort s l ∧
        sameBut [.egr, .que, .evt] (if v == .bypass then bump 0xB (some l) u else u) t := by
  obtain ⟨henter, hlim⟩ := enters_of_mayStart h
  obtain ⟨F, hp⟩ := parses_of_enters (fd := fd) (bs := bs) henter (by omega)
  have hj := (joins_port (egrPort s l) hp.joins (pathOf_bypassed v l _)).setFate (G := F) rfl rfl (by rw [withPort, hp.arrived.link]; exact hlim) v
  obtain ⟨t, hx, hjoin, hrest⟩ := cliRx_calm (flt := flt) henter (by omega) (by omega) hp.joins hp.arrived (egrParse_fate hp hc) hj
    ⟨hp.arrived.link, hp.arrived.bytes, hp.arrived.ended, hp.arrived.good, by simp [withPort, hp.arrived.here]⟩ (by simp [frameCalm, hv])
  exact ⟨_, hp.same, t, hx, _, hjoin, rfl, rfl, sameBut_trans (sameBut_mono (sameBut_trans (sameBut_modFrame .egr _ _ _ _)
    (sameBut_setFate .egr F v _)) (by decide)) (sameBut_mono hrest (by decide))⟩

/-- A frame sent in clear, on a SecY's word, which counts nothing yet. -/
theorem cliRx_clear {s : State} {l : Nat} {fd : BitVec 16} {bs : List Byte} {flt : FrameFaults} {v : Fate} {stat : Option Nat} {y : Secy}
    (h : mayStart s .egr l = true) (hb : bs.length = 64) (hy : secyOf s l = some y) (hv : v = .uncontrolled ∨ v = .unmodified)
    (hc : egrClass s (asWhole l fd bs) = .fate v stat) :
    ∃ t, exec (.cliRxFrame [wholeSeg l fd bs] flt) s = .next t ∧ ∃ f, joined .egr l bs f s t ∧ f.fate = v ∧
      f.pport = txpPport y.txp ∧ sameBut [.egr, .que, .tel, .evt] s t := by
  obtain ⟨u, hu, t, hx, f, hj, hf, hport, hrest⟩ := cliRx_passes (flt := flt) h hb hc (by rcases hv with rfl | rfl <;> decide)
  rw [if_neg (by rcases hv with rfl | rfl <;> decide)] at hrest
  exact ⟨t, hx, f, hj, hf, hport.trans (egrPort_some hy), sameBut_trans (sameBut_mono hu (by decide)) (sameBut_mono hrest (by decide))⟩

theorem cliRx_bypasses {s : State} {l : Nat} {fd : BitVec 16} {bs : List Byte} {flt : FrameFaults} {stat : Option Nat}
    (h : mayStart s .egr l = true) (hb : bs.length = 64) (hc : egrClass s (asWhole l fd bs) = .fate .bypass stat) :
    ∃ t, exec (.cliRxFrame [wholeSeg l fd bs] flt) s = .next t ∧ ∃ f, joined .egr l bs f s t ∧ f.fate = .bypass ∧
      countedOnly 0xB 1 s t ∧ sameBut [.egr, .que, .tel, .cnt, .evt] s t := by
  obtain ⟨u, hu, t, hx, f, hj, hf, -, hrest⟩ := cliRx_passes (flt := flt) h hb hc (by decide)
  rw [if_pos (by decide)] at hrest
  exact ⟨t, hx, f, hj, hf, countedOnly_bump (hu .cnt (by decide)) (hrest .cnt (by decide)), sameBut_trans (sameBut_mono hu (by decide))
    (sameBut_trans (sameBut_mono (sameBut_bump _ _ u) (by decide)) (sameBut_mono hrest (by decide)))⟩

/-- At the in-flight limit of its link a frame waits for a position, whatever parse has decided (R13). -/
theorem cliRx_full {s : State} {l : Nat} {fd : BitVec 16} {bs : List Byte} {flt : FrameFaults} (h : mayEnter s .egr l = true)
    (hb : bs.length = 64) (hlim : 2048 ≤ (pathOf s .egr).frames.countP (fun x => x.link == l)) :
    ∃ t, exec (.cliRxFrame [wholeSeg l fd bs] flt) s = .next t ∧ ∃ f, joined .egr l bs f s t ∧ f.fate = .wait none := by
  have henter := enters_of_mayEnter h
  obtain ⟨F, hp⟩ := parses_of_enters (fd := fd) (bs := bs) henter (by omega)
  have hlimF : 2048 ≤ (pathOf s .egr).frames.countP (fun x => x.link == F.link) := by rw [hp.arrived.link]; exact hlim
  suffices hs : ∃ G, Joins .egr s G (egrParse l F.orderTag flt (entered .egr (wholeSeg l fd bs) bs s)) ∧ Arrived l bs G ∧ G.fate = .wait none by
    obtain ⟨G, hj, hG, hf⟩ := hs
    obtain ⟨t, hx, hjoin, -⟩ := cliRx_calm henter (by omega) (by omega) hp.joins hp.arrived rfl hj hG (by simp [frameCalm, hf])
    exact ⟨t, hx, G, hjoin, hf⟩
  have hgone : ∀ {n p}, Arrived l bs { F with pport := n, fate := .wait none, parked := p } := fun {n p} =>
    ⟨hp.arrived.link, hp.arrived.bytes, hp.arrived.ended, hp.arrived.good, hp.arrived.here⟩
  cases hc : egrClass s (asWhole l fd bs) with
  | disc code stat =>
    have hstat : pathOf (countStat l stat (entered .egr (wholeSeg l fd bs) bs s)) .egr = pathOf (entered .egr (wholeSeg l fd bs) bs s) .egr := by
      cases stat with
      | none => rfl
      | some i => exact pathOf_secyStat ..
    rw [egrParse_disc hp hc]
    exact ⟨_, ((hp.joins.of_path hstat).of_path (pathOf_bump _ _ _ _)).setFate_full rfl rfl hlimF .discard, hgone, rfl⟩
  | fate v stat =>
    rw [egrParse_fate hp hc]
    exact ⟨_, (joins_port (egrPort s l) hp.joins (pathOf_bypassed v l _)).setFate_full (G := F) rfl rfl hlimF v, hgone, rfl⟩
  | look =>
    have hat : atLimit (entered .egr (wholeSeg l fd bs) bs s) .egr F = true := by rw [hp.joins.atLimit rfl rfl]; simpa using hlimF
    rw [egrParse_look hp hc, if_pos hat]
    refine ⟨_, (joins_port (egrPort s l) hp.joins rfl).of_path (pathOf_telBump _ _ _ _ _), ?_, by obtain ⟨_, _, _, rfl⟩ := hp.whole; rfl⟩
    exact ⟨hp.arrived.link, hp.arrived.bytes, hp.arrived.ended, hp.arrived.good, hp.arrived.here⟩

/-! The verdicts, in the order of the checks. -/

section
variable {s : State} {l : Nat} {fd : BitVec 16} {bs : List Byte}

/-- A frame of at least 64 bytes outside LOCKOUT is decided by a rule, where one matches. -/
theorem egrClass_rule {b : Bool} (hb : bs.length = 64) (hm : s.glb.mode ≠ .lockout) (hr : ruleOf s .egr l bs = some b) :
    egrClass s (asWhole l fd bs) = if b then .disc 0xA none else .fate .bypass none := by
  cases b <;> simp [egrClass, asWhole, wholeFrame, newFrame, hb, hm, hr]

/-- What the SecY of a frame says of it (R100 steps 7 to 13). -/
def egrOf (s : State) (y : Secy) (fd : BitVec 16) (bs : List Byte) : Verdict :=
  if y.st ≠ .on then .disc 7 (some 3)
  else if s.glb.mode = .provision ∧ txpEarly y.txp = false then .disc 4 (some 3)
  else if bitAt s.glb.prt (txpPport y.txp) = false then .disc 8 (some 3)
  else if txpMka y.txp = true ∧ etypeAt s bs 2 = 0x888E then .disc 9 (some 3)
  else if fd.getLsbD 0 = true then .fate .uncontrolled none
  else if txpProtect y.txp = false then .fate .unmodified none
  else if txpPrio y.txp < s.egr.shed then .disc 0xC (some 3)
  else .look

/-- Past the MKA check. -/
theorem egrOf_past {y : Secy} (hon : y.st = .on) (hp : s.glb.mode = .provision → txpEarly y.txp = true)
    (hport : bitAt s.glb.prt (txpPport y.txp) = true) (hmka : txpMka y.txp = true → etypeAt s bs 2 ≠ 0x888E) :
    egrOf s y fd bs =
      if fd.getLsbD 0 = true then .fate .uncontrolled none
      else if txpProtect y.txp = false then .fate .unmodified none
      else if txpPrio y.txp < s.egr.shed then .disc 0xC (some 3)
      else .look := by
  have hp' : ¬ (s.glb.mode = .provision ∧ txpEarly y.txp = false) := fun h => by simp [hp h.1] at h
  have hmka' : ¬ (txpMka y.txp = true ∧ etypeAt s bs 2 = 0x888E) := fun h => hmka h.1 h.2
  rw [egrOf, if_neg (not_not_intro hon), if_neg hp', if_neg (by simp [hport]), if_neg hmka']

theorem egrClass_secy {y : Secy} (hb : bs.length = 64) (hm : s.glb.mode ≠ .lockout) (hr : ruleOf s .egr l bs = none)
    (hc : s.glb.mode ≠ .cold) (hy : secyOf s l = some y) : egrClass s (asWhole l fd bs) = egrOf s y fd bs := by
  simp [egrClass, egrOf, asWhole, wholeFrame, newFrame, hb, hm, hr, hc, hy]

end

/-- Settles O31: a verdict of each check (`egrClass_rule`, `egrClass_secy`), what a row does with each kind of verdict
(`cliRx_discards`, `cliRx_discardsOf`, `cliRx_bypasses`, `cliRx_clear`), and the wait for a position (`cliRx_full`). -/
theorem egressClassification : Obligations.EgressClassification := by
  unfold Obligations.EgressClassification
  refine ⟨?_, ?_, ?_, ?_, ?_, ?_, ?_, ?_, ?_, ?_, ?_, ?_, ?_, ?_⟩
  · exact fun s l fd bs flt h h0 hb => cliRx_discards h h0 hb.le (by simp [egrClass, asWhole, wholeFrame, newFrame, hb])
  · exact fun s l fd bs flt h hb hm => cliRx_discards h (by omega) hb.le (by simp [egrClass, asWhole, wholeFrame, newFrame, hb, hm])
  · exact fun s l fd bs flt h hb hm hr => cliRx_discards h (by omega) hb.le (egrClass_rule hb hm hr)
  · exact fun s l fd bs flt h hb hm hr => cliRx_bypasses h hb (egrClass_rule hb hm hr)
  · exact fun s l fd bs flt h hb hm hr =>
      cliRx_discards h (by omega) hb.le (by simp [egrClass, asWhole, wholeFrame, newFrame, hb, hm, hr])
  · exact fun s l fd bs flt h hb hm hr hc hy =>
      cliRx_discards h (by omega) hb.le (by simp [egrClass, asWhole, wholeFrame, newFrame, hb, hm, hr, hc, hy])
  · exact fun s l fd bs flt y h hb hm hr hc hy hon =>
      cliRx_discardsOf h hb hy (by decide) ((egrClass_secy hb hm hr hc hy).trans (by simp [egrOf, hon]))
  · exact fun s l fd bs flt y h hb hm hr hc hy hon hp he =>
      cliRx_discardsOf h hb hy (by decide) ((egrClass_secy hb hm hr hc hy).trans (by simp [egrOf, hon, hp, he]))
  · exact fun s l fd bs flt y h hb hm hr hc hy hon hp hport =>
      cliRx_discardsOf h hb hy (by decide) ((egrClass_secy hb hm hr hc hy).trans (by simp +contextual [egrOf, hon, hp, hport]))
  · exact fun s l fd bs flt y h hb hm hr hc hy hon hp hport hmka het =>
      cliRx_discardsOf h hb hy (by decide) ((egrClass_secy hb hm hr hc hy).trans (by simp +contextual [egrOf, hon, hp, hport, hmka, het]))
  · exact fun s l fd bs flt y h hb hm hr hc hy hon hp hport hmka hfd => cliRx_clear h hb hy (.inl rfl)
      ((egrClass_secy hb hm hr hc hy).trans ((egrOf_past hon hp hport hmka).trans (if_pos hfd)))
  · exact fun s l fd bs flt y h hb hm hr hc hy hon hp hport hmka hfd hprot => cliRx_clear h hb hy (.inr rfl)
      ((egrClass_secy hb hm hr hc hy).trans ((egrOf_past hon hp hport hmka).trans (by rw [hfd, hprot]; rfl)))
  · exact fun s l fd bs flt y h hb hm hr hc hy hon hp hport hmka hfd hprot hshed => cliRx_discardsOf h hb hy (by decide)
      ((egrClass_secy hb hm hr hc hy).trans ((egrOf_past hon hp hport hmka).trans (by rw [hfd, hprot, if_pos hshed]; rfl)))
  · exact fun s l fd bs flt h hb hlim => cliRx_full h hb hlim

end Sys2Proof.Machine
end

section
/-! A transmit SA asks for a lease: what the request, served here or sent, leaves unchanged (R177, R181). -/
namespace Sys2Proof.Machine

/-! Journal work. -/

/-- What journal work writes besides its own part. -/
def workParts : List Part := [.jnl, .out, .evt, .tel]

/-- The journal took in work or gave way: its thresholds stay. -/
structure JWorked (s t : State) : Prop where
  same : sameBut workParts s t
  rekey : t.jnl.rekey = s.jnl.rekey

namespace JWorked
variable {s t u : State}

theorem refl (s : State) : JWorked s s := ⟨sameBut_refl _ _, rfl⟩

theorem trans (h : JWorked s t) (k : JWorked t u) : JWorked s u := ⟨sameBut_trans h.same k.same, k.rekey.trans h.rekey⟩

end JWorked

theorem jnl_only (s : State) (j : Jnl) : sameBut [.jnl] s { s with jnl := j } := by
  intro p hp; cases p <;> simp_all [Part.same]

theorem worked_jnl {s : State} {j : Jnl} (h : j.rekey = s.jnl.rekey) : JWorked s { s with jnl := j } :=
  ⟨sameBut_mono (jnl_only s j) (by decide), h⟩

theorem worked_jAdd {s t : State} (n : Nat) (b : JBody) (d : JDone) (h : JWorked s t) : JWorked s (jAdd n b d t) :=
  h.trans (worked_jnl rfl)

theorem worked_jWrite (n typ : Nat) (obj : BitVec 16) (payload : List Byte) (ws : List JWork) (s : State) :
    JWorked s (jWrite n typ obj payload ws s) := by
  refine ⟨?_, rfl⟩
  unfold jWrite
  exact sameBut_trans (sameBut_mono (jnl_only s _) (by decide)) (sameBut_mono (sameBut_emit _ _) (by decide))

theorem worked_jIssue {s t : State} (h : JWorked s t) : JWorked s (jIssue t) := by
  unfold jIssue; split
  · exact h
  · split
    · exact h.trans (worked_jWrite ..)
    · exact h

theorem worked_dropMark (k : Nat) (s : State) : JWorked s (dropMark k s) := by
  unfold dropMark; dsimp only; split
  · exact worked_jAdd _ _ _ (worked_jnl (s := s) rfl)
  · exact worked_jAdd _ _ _ (worked_jnl (s := s) rfl)

theorem worked_raise {s t : State} (n : Nat) (h : JWorked s t) : JWorked s (raise .jnl n t) :=
  h.trans ⟨by intro p hp; cases p <;> simp_all [Part.same, workParts], by simp⟩

theorem worked_capDrop (s : State) : JWorked s (capDrop s) := by
  have h1 : JWorked s (raise .jnl 2 { s with jnl := { s.jnl with overCap := true } }) := worked_raise 2 (worked_jnl rfl)
  unfold capDrop
  generalize raise .jnl 2 { s with jnl := { s.jnl with overCap := true } } = t at h1
  dsimp only; split
  · exact worked_jAdd _ _ _ (h1.trans (worked_jnl rfl))
  · split
    · exact worked_jAdd _ _ _ (h1.trans (worked_jnl rfl))
    · split
      · exact h1.trans (worked_dropMark _ _)
      · exact h1

theorem worked_capFix {s t : State} (h : JWorked s t) : JWorked s (capFix t) := by
  suffices hd : ∀ n t, JWorked t (capDrops n t) from h.trans (hd _ t)
  intro n
  induction n with
  | zero => exact fun t => .refl t
  | succ n ih =>
    intro t
    unfold capDrops; split
    · exact .refl t
    · exact (worked_capDrop t).trans (ih _)

theorem worked_capCell {s t : State} (k : Nat) (h : JWorked s t) : JWorked s (capCell k t) := by
  unfold capCell; split
  · exact h
  · exact worked_jAdd _ _ _ h

/-! The request. -/

/-- The parts that a request for a lease writes. -/
def askParts : List Part := [.tx, .jnl, .out, .evt, .tel, .fab, .que, .cnt, .cis, .cxm]

/-- A transmit SA that holds a lease and has asked for the next, before and after the answer: its PN and its current lease are as before. -/
structure Fetches (a x : Sa) : Prop where
  pn : x.pn = a.pn
  cur : x.cur = a.cur
  thr : x.thr = a.thr
  suite : x.suite = a.suite
  lease : x.lease = .fetch ∨ x.lease = .two

/-- SA `i` has asked: the home took the request in, sent it or answered it. -/
structure Asked (i : Nat) (s t : State) : Prop where
  same : sameBut askParts s t
  rekey : t.jnl.rekey = s.jnl.rekey
  sa : ∀ a, txOf s i = some a → a.lease = .fetch ∨ a.lease = .two → ∃ x, txOf t i = some x ∧ Fetches a x

namespace Asked
variable {i : Nat} {s t u : State}

/-- Where the transmit SAs stay. -/
theorem of_same (h : sameBut askParts s t) (hr : t.jnl.rekey = s.jnl.rekey) (htx : t.tx = s.tx) : Asked i s t :=
  ⟨h, hr, fun a ha hl => ⟨a, by rw [txOf, htx]; exact ha, rfl, rfl, rfl, rfl, hl⟩⟩

theorem refl (s : State) : Asked i s s := of_same (sameBut_refl _ _) rfl rfl

theorem of_worked (h : JWorked s t) : Asked i s t := of_same (sameBut_mono h.same (by decide)) h.rekey (h.same .tx (by decide))

theorem trans (h : Asked i s t) (k : Asked i t u) : Asked i s u := by
  refine ⟨sameBut_trans h.same k.same, k.rekey.trans h.rekey, fun a ha hl => ?_⟩
  obtain ⟨x, hx, hax⟩ := h.sa a ha hl
  obtain ⟨z, hz, hxz⟩ := k.sa x hx hax.lease
  exact ⟨z, hz, hxz.pn.trans hax.pn, hxz.cur.trans hax.cur, hxz.thr.trans hax.thr, hxz.suite.trans hax.suite, hxz.lease⟩

end Asked

theorem tx_only (s : State) (m : SMap (Option Sa)) : sameBut [.tx] s { s with tx := m } := by
  intro p hp; cases p <;> simp_all [Part.same]

theorem sameBut_putTx_ask (j : Nat) (a : Sa) (s : State) : sameBut askParts s (putTx j a s) :=
  sameBut_trans (sameBut_mono (tx_only s _) (by decide)) (sameBut_mono (ctx_lineChanged j _) (by decide))

@[simp] theorem txOf_putTx (j : Nat) (a : Sa) (s : State) (k : Nat) : txOf (putTx j a s) k = if k = j then some a else txOf s k := by
  have h : (putTx j a s).tx = (setTx j (some a) s).tx := ctx_lineChanged j _ .tx (by decide)
  rw [txOf, h]
  exact txOf_setTx j (some a) s k

theorem putTx_rekey (j : Nat) (a : Sa) (s : State) : (putTx j a s).jnl = s.jnl := ctx_lineChanged j _ .jnl (by decide)

/-- A grant takes an SA that fetches on to two leases, and leaves one with two as it is. -/
theorem asked_granted (i j start stop : Nat) (s : State) : Asked i s (leaseGranted j start stop s) := by
  unfold leaseGranted
  cases hb : txOf s j with
  | none => exact .refl s
  | some b =>
    have hput : ∀ c : Sa, (b.lease = .fetch ∨ b.lease = .two → Fetches b c) → Asked i s (putTx j c s) := fun c hc => by
      refine ⟨sameBut_putTx_ask j c s, by rw [putTx_rekey], fun a ha hl => ?_⟩
      rw [txOf_putTx]
      by_cases hij : i = j
      · rw [if_pos hij]
        obtain rfl : b = a := Option.some.inj (hb.symm.trans (hij ▸ ha))
        exact ⟨c, rfl, hc hl⟩
      · rw [if_neg hij]
        exact ⟨a, ha, rfl, rfl, rfl, rfl, hl⟩
    cases hl : b.lease with
    | wait => simp only [hl]; exact hput _ (fun h => by simp [hl] at h)
    | fetch => simp only [hl]; exact hput _ (fun _ => ⟨rfl, rfl, rfl, rfl, .inr rfl⟩)
    | none | one | two => simp only [hl]; exact .refl s

/-- A refusal ends waits alone. -/
theorem asked_refused (i j status : Nat) (s : State) : Asked i s (leaseRefused j status s) := by
  unfold leaseRefused
  cases hb : txOf s j with
  | none => exact .refl s
  | some b =>
    dsimp only
    split
    · exact .refl s
    · next hw =>
      split
      · refine ⟨sameBut_mono (tx_only s _) (by decide), rfl, fun a ha hl => ?_⟩
        rw [txOf_setTx]
        have hij : i ≠ j := fun hij => by
          obtain rfl : b = a := Option.some.inj (hb.symm.trans (hij ▸ ha))
          rcases hl with hl | hl <;> simp [hl] at hw
        rw [if_neg hij]
        exact ⟨a, ha, rfl, rfl, rfl, rfl, hl⟩
      · split
        · exact .of_worked (worked_jnl rfl)
        · exact .refl s

theorem asked_sendTo (i a : Nat) (m : FabMsg) (s : State) : Asked i s (sendTo a m s) :=
  have h := sameBut_sendTo a m s
  .of_same (sameBut_mono h (by decide)) (congrArg Jnl.rekey (h .jnl (by decide) : (sendTo a m s).jnl = s.jnl)) (h .tx (by decide))

theorem asked_telBump (i c n : Nat) (l : Option Nat) (s : State) : Asked i s (telBump c n l s) :=
  .of_same (sameBut_mono (sameBut_telBump c n l s) (by decide)) (by simp) (by simp)

theorem asked_reply (i : Nat) (q : LeaseAsk) (status start stop : Nat) (s : State) : Asked i s (leaseReply q status start stop s) := by
  unfold leaseReply
  cases q.req with
  | some r => exact asked_sendTo ..
  | none =>
    dsimp only
    cases localOf s q.sa with
    | none => exact .refl s
    | some j =>
      dsimp only
      split
      · exact .refl s
      · split
        · exact asked_granted ..
        · exact asked_refused ..

/-- The home's decision on a request (R181). -/
theorem asked_now (i : Nat) (q : LeaseAsk) (s : State) : Asked i s (leaseNow q s) := by
  unfold leaseNow
  split
  · exact asked_reply ..
  · split; · exact .refl s
    split; · exact asked_reply ..
    split; · exact asked_reply ..
    split; · exact asked_reply ..
    split; · exact asked_reply ..
    dsimp only
    split; · exact asked_reply ..
    exact .of_worked (worked_jIssue (worked_capFix (worked_jAdd _ _ _ (worked_capCell _ (worked_jnl rfl)))))

theorem asked_ask (i : Nat) (q : LeaseAsk) (s : State) : Asked i s (leaseAsk q s) := by
  unfold leaseAsk
  split
  · split
    · exact .refl s
    · exact .of_worked (worked_jnl rfl)
  · exact asked_now ..

theorem asked_send {i : Nat} {s t : State} (j : Nat) (h : Asked i s t) : Asked i s (leaseSend j t) := by
  refine h.trans ?_
  unfold leaseSend
  cases txOf t j with
  | none => exact .refl t
  | some a =>
    dsimp only
    refine (asked_telBump i 0x1CE 1 none t).trans ?_
    split
    · exact .refl _
    · split
      · exact asked_ask ..
      · exact asked_sendTo ..

theorem asked_new (i j : Nat) (s : State) : Asked i s (leaseNew j s) := by
  unfold leaseNew
  exact asked_send j (.of_worked (worked_jnl rfl))

end Sys2Proof.Machine
end

section
/-! Steps 14 to 18 of R100: the lookups, the PN and the key of a frame that its SecY protects. -/
namespace Sys2Proof.Machine

/-! A lease's course (R177, R178). -/

theorem leaseStep_rest {s : State} {i : Nat} {a : Sa} (ha : txOf s i = some a) (hp : a.pn < a.cur.stop)
    (h1 : a.lease = .one → a.pn < prefetchPoint a.cur) : leaseStep i s = s := by
  have hstop : ¬ a.cur.stop ≤ a.pn := by omega
  cases hl : a.lease with
  | one => have hpre : ¬ prefetchPoint a.cur ≤ a.pn := by have := h1 hl; omega
           simp [leaseStep, ha, hl, hstop, hpre]
  | two | fetch | none | wait => simp [leaseStep, ha, hl, hstop]

theorem leaseStep_early {s : State} {i : Nat} {a : Sa} {y : Secy} (ha : txOf s i = some a) (hy : secyOf s (saLink i) = some y)
    (hon : y.st = .on) (hl : a.lease = .one) (hp : a.pn < prefetchPoint a.cur) : leaseStep i s = s := by
  have hpre : ¬ prefetchPoint a.cur ≤ a.pn := by omega
  simp [leaseStep, ha, hl, hy, hon, hpre]

theorem leaseStep_prefetch {s : State} {i : Nat} {a : Sa} {y : Secy} (ha : txOf s i = some a) (hy : secyOf s (saLink i) = some y)
    (hon : y.st = .on) (hl : a.lease = .one) (hp : prefetchPoint a.cur ≤ a.pn) :
    leaseStep i s = leaseNew i (putTx i { a with lease := .fetch } s) := by
  simp [leaseStep, ha, hl, hy, hon, hp]

theorem leaseStep_next {s : State} {i : Nat} {a : Sa} (ha : txOf s i = some a) (hl : a.lease = .two) (hp : a.cur.stop ≤ a.pn) :
    leaseStep i s = putTx i { a with lease := .one, cur := a.nxt, nxt := ⟨0, 0⟩, pn := a.nxt.start } s := by
  simp [leaseStep, ha, hl, hp]

/-- SA `i` after its lease moved on: at `pn` of `cur`, its threshold's mark and its suite as in `a`. -/
structure Paced (i : Nat) (a : Sa) (pn : Nat) (cur : Lease) (s t : State) : Prop where
  same : sameBut askParts s t
  rekey : t.jnl.rekey = s.jnl.rekey
  sa : ∃ x, txOf t i = some x ∧ x.pn = pn ∧ x.cur = cur ∧ x.thr = a.thr ∧ x.suite = a.suite

theorem Paced.refl {i : Nat} {a : Sa} {s : State} (ha : txOf s i = some a) : Paced i a a.pn a.cur s s :=
  ⟨sameBut_refl _ _, rfl, a, ha, rfl, rfl, rfl, rfl⟩

/-- At its prefetch point an SA asks for its next lease. -/
theorem leaseNew_asked (s : State) (i : Nat) (a : Sa) :
    ∃ t, t = leaseNew i (putTx i { a with lease := .fetch } s) ∧ sameBut askParts s t ∧ t.jnl.rekey = s.jnl.rekey ∧
      ∃ x, txOf t i = some x ∧ Fetches a x := by
  have h := asked_new i i (putTx i { a with lease := .fetch } s)
  obtain ⟨x, hx, hax⟩ := h.sa { a with lease := .fetch } (by rw [txOf_putTx, if_pos rfl]) (.inl rfl)
  exact ⟨_, rfl, sameBut_trans (sameBut_putTx_ask i _ s) h.same, h.rekey.trans (congrArg Jnl.rekey (putTx_rekey i _ s)), x, hx,
    hax.pn, hax.cur, hax.thr, hax.suite, hax.lease⟩

theorem leaseAdvance_rest {s : State} {i : Nat} {a : Sa} (ha : txOf s i = some a) (hp : a.pn < a.cur.stop)
    (h1 : a.lease = .one → a.pn < prefetchPoint a.cur) : leaseAdvance i s = s := by
  rw [leaseAdvance, leaseStep_rest ha hp h1, leaseStep_rest ha hp h1]

theorem leaseAdvance_prefetch {s : State} {i : Nat} {a : Sa} {y : Secy} (ha : txOf s i = some a) (hy : secyOf s (saLink i) = some y)
    (hon : y.st = .on) (hl : a.lease = .one) (hp : prefetchPoint a.cur ≤ a.pn) (hs : a.pn < a.cur.stop) :
    sameBut askParts s (leaseAdvance i s) ∧ (leaseAdvance i s).jnl.rekey = s.jnl.rekey ∧
      ∃ x, txOf (leaseAdvance i s) i = some x ∧ Fetches a x := by
  obtain ⟨t, ht, hsame, hrekey, x, hx, hax⟩ := leaseNew_asked s i a
  have hrest : leaseStep i t = t :=
    leaseStep_rest hx (by rw [hax.pn, hax.cur]; exact hs) (fun h => by rcases hax.lease with h' | h' <;> simp [h'] at h)
  rw [leaseAdvance, leaseStep_prefetch ha hy hon hl hp, ← ht, hrest]
  exact ⟨hsame, hrekey, x, hx, hax⟩

/-- A lease that has not ended stays the current one. -/
theorem leaseAdvance_within {s : State} {i : Nat} {a : Sa} {y : Secy} (ha : txOf s i = some a) (hy : secyOf s (saLink i) = some y)
    (hon : y.st = .on) (hs : a.pn < a.cur.stop) : Paced i a a.pn a.cur s (leaseAdvance i s) := by
  by_cases h : a.lease = .one ∧ prefetchPoint a.cur ≤ a.pn
  · obtain ⟨hsame, hrekey, x, hx, hax⟩ := leaseAdvance_prefetch ha hy hon h.1 h.2 hs
    exact ⟨hsame, hrekey, x, hx, hax.pn, hax.cur, hax.thr, hax.suite⟩
  · rw [leaseAdvance_rest ha hs fun hl => by
      have : ¬ prefetchPoint a.cur ≤ a.pn := fun hp => h ⟨hl, hp⟩
      omega]
    exact .refl ha

/-- Past the end of the first of two leases an SA goes on at the start of the second. -/
theorem leaseAdvance_next {s : State} {i : Nat} {a : Sa} {y : Secy} (ha : txOf s i = some a) (hy : secyOf s (saLink i) = some y)
    (hon : y.st = .on) (hl : a.lease = .two) (hs : a.cur.stop ≤ a.pn) : Paced i a a.nxt.start a.nxt s (leaseAdvance i s) := by
  rw [leaseAdvance, leaseStep_next ha hl hs]
  generalize hb : ({ a with lease := .one, cur := a.nxt, nxt := ⟨0, 0⟩, pn := a.nxt.start } : Sa) = b
  have hbx : b.lease = .one ∧ b.pn = a.nxt.start ∧ b.cur = a.nxt ∧ b.thr = a.thr ∧ b.suite = a.suite := by subst hb; simp
  obtain ⟨hbl, hbp, hbc, hbt, hbs⟩ := hbx
  have hput : txOf (putTx i b s) i = some b := by rw [txOf_putTx, if_pos rfl]
  have hsec : secyOf (putTx i b s) (saLink i) = some y :=
    hy ▸ congrArg (fun m => smGet none m (saLink i)) (sameBut_putTx_ask i b s .secys (by decide) : (putTx i b s).secys = s.secys)
  by_cases hp : prefetchPoint b.cur ≤ b.pn
  · obtain ⟨t, ht, hsame, hrekey, x, hx, hax⟩ := leaseNew_asked (putTx i b s) i b
    rw [leaseStep_prefetch hput hsec hon hbl hp, ← ht]
    exact ⟨sameBut_trans (sameBut_putTx_ask i b s) hsame, hrekey.trans (congrArg Jnl.rekey (putTx_rekey i b s)), x, hx,
      hax.pn.trans hbp, hax.cur.trans hbc, hax.thr.trans hbt, hax.suite.trans hbs⟩
  · rw [leaseStep_early hput hsec hon hbl (by omega)]
    exact ⟨sameBut_putTx_ask i b s, congrArg Jnl.rekey (putTx_rekey i b s), b, hput, hbp, hbc, hbt, hbs⟩

/-! The threshold (R174). -/

theorem thrCheck_below {s : State} {i : Nat} {x : Sa} (hx : txOf s i = some x) (hp : x.pn < pnThreshold s x.suite) : thrCheck i s = s := by
  simp [thrCheck, hx, thrDue, Nat.not_le.2 hp]

/-- The first time, on a link whose key agreement is off. -/
theorem thrCheck_reached {s : State} {i : Nat} {x : Sa} (hx : txOf s i = some x) (hp : pnThreshold s x.suite ≤ x.pn)
    (ht : x.thr = false) (hca : (caOf s (saLink i)).enabled = false) :
    thrCheck i s = raiseL .jnl 1 [saLink i] (setTx i (some { x with thr := true }) s) := by
  have hsvc : (raiseL .jnl 1 [saLink i] (setTx i (some { x with thr := true }) s)).svc = s.svc := sameBut_raiseL _ _ _ _ .svc (by decide)
  have hca' : (caOf (raiseL .jnl 1 [saLink i] (setTx i (some { x with thr := true }) s)) (saLink i)).enabled = false := by
    rw [caOf, hsvc]; exact hca
  have hdue : thrDue s x = true := by simp [thrDue, ht, hp]
  unfold thrCheck
  simp only [hx, hdue, if_true, mkaPnThr, hca', Bool.not_false, Bool.true_or]

/-! A PN is taken. -/

/-- An SA whose next PN has been taken. -/
def pnTaken (a : Sa) : Sa := { a with pn := a.pn + 1, exhausted := decide (pnEnd a.suite ≤ a.pn + 1) }

theorem takePn_eq (i : Nat) (a : Sa) (s : State) :
    takePn i a s = thrCheck i (dirtyLine (txLine i) (leaseAdvance i (setTx i (some (pnTaken a)) s))) := rfl

theorem sameBut_setTx (i : Nat) (a : Option Sa) (s : State) : sameBut askParts s (setTx i a s) := sameBut_mono (tx_only s _) (by decide)

theorem sameBut_dirtyLine_ask (n : Nat) (s : State) : sameBut askParts s (dirtyLine n s) := sameBut_mono (ctx_dirtyLine n s) (by decide)

theorem txOf_dirtyLine (n i : Nat) (s : State) : txOf (dirtyLine n s) i = txOf s i :=
  congrArg (fun m => smGet none m i) (ctx_dirtyLine n s .tx (by decide) : (dirtyLine n s).tx = s.tx)

theorem dirtyLine_jnl (n : Nat) (s : State) : (dirtyLine n s).jnl = s.jnl := ctx_dirtyLine n s .jnl (by decide)

section
variable {s : State} {i pn : Nat} {a : Sa} {cur : Lease}

/-- What the SA and the rest are once the PN's end of the lease is dealt with. -/
theorem paced_dirty (h : Paced i (pnTaken a) pn cur (setTx i (some (pnTaken a)) s) (leaseAdvance i (setTx i (some (pnTaken a)) s))) :
    Paced i a pn cur s (dirtyLine (txLine i) (leaseAdvance i (setTx i (some (pnTaken a)) s))) := by
  obtain ⟨x, hx, hpn, hcur, hthr, hsuite⟩ := h.sa
  exact ⟨sameBut_trans (sameBut_trans (sameBut_setTx i _ s) h.same) (sameBut_dirtyLine_ask _ _),
    (congrArg Jnl.rekey (dirtyLine_jnl _ _)).trans h.rekey, x, (txOf_dirtyLine _ _ _).trans hx, hpn, hcur, hthr, hsuite⟩

theorem pnThreshold_congr {s t : State} (h : t.jnl.rekey = s.jnl.rekey) (n : Nat) : pnThreshold t n = pnThreshold s n := by
  simp only [pnThreshold, h]

/-- Below the threshold nothing else happens. -/
theorem takePn_below (h : Paced i (pnTaken a) pn cur (setTx i (some (pnTaken a)) s) (leaseAdvance i (setTx i (some (pnTaken a)) s)))
    (hp : pn < pnThreshold s a.suite) : takePn i a s = dirtyLine (txLine i) (leaseAdvance i (setTx i (some (pnTaken a)) s)) := by
  have hd := paced_dirty h
  obtain ⟨x, hx, hpn, -, -, hsuite⟩ := hd.sa
  rw [takePn_eq]
  exact thrCheck_below hx (by rw [hpn, hsuite, pnThreshold_congr hd.rekey]; exact hp)

/-- At the threshold the event is raised and the SA is marked. -/
theorem takePn_reached (h : Paced i (pnTaken a) pn cur (setTx i (some (pnTaken a)) s) (leaseAdvance i (setTx i (some (pnTaken a)) s)))
    (hp : pnThreshold s a.suite ≤ pn) (ht : a.thr = false) (hca : (caOf s (saLink i)).enabled = false) :
    sameBut askParts s (takePn i a s) ∧ ((takePn i a s).evt.get .jnl).pendReal.getLsbD 1 = true ∧
      (txOf (takePn i a s) i).map (·.thr) = some true := by
  have hd := paced_dirty h
  obtain ⟨x, hx, hpn, -, hthr, hsuite⟩ := hd.sa
  have hsvc : (dirtyLine (txLine i) (leaseAdvance i (setTx i (some (pnTaken a)) s))).svc = s.svc := hd.same .svc (by decide)
  rw [takePn_eq, thrCheck_reached hx (by rw [hpn, hsuite, pnThreshold_congr hd.rekey]; exact hp) (hthr.trans ht)
    (by rw [caOf, hsvc]; exact hca)]
  refine ⟨sameBut_trans hd.same (sameBut_trans (sameBut_setTx i _ _) (sameBut_mono (sameBut_raiseL _ _ _ _) (by decide))),
    raiseL_pends .jnl _ _ (by decide), ?_⟩
  have htx : (raiseL .jnl 1 [saLink i] (setTx i (some { x with thr := true })
      (dirtyLine (txLine i) (leaseAdvance i (setTx i (some (pnTaken a)) s))))).tx = _ := sameBut_raiseL _ _ _ _ .tx (by decide)
  rw [txOf, htx]
  exact congrArg (Option.map _) ((txOf_setTx i _ _ i).trans (if_pos rfl))

end

end Sys2Proof.Machine
end

section
/-! The egress lookups and what follows them. -/
namespace Sys2Proof.Machine

/-! Lookups of lines. -/

theorem sameBut_touchLine (n : Nat) (s : State) : sameBut [.cis] s (touchLine n s) := by
  have hc : ∀ c : Cis, sameBut [.cis] s { s with cis := c } := fun c => by intro p hp; cases p <;> simp_all [Part.same]
  unfold touchLine
  split
  · split
    · exact sameBut_refl _ _
    · exact hc _
  · exact sameBut_refl _ _

theorem touchLine_lines (n : Nat) (s : State) : (touchLine n s).cis.lines = s.cis.lines := by
  unfold touchLine
  repeat' split
  all_goals rfl

/-- A line that is resident is found, without an error. -/
theorem lookLine_hit {s : State} {n : Nat} (h : isResident s n = true) (miss : Option Nat) : lookLine none miss n 0 s = (.hit, touchLine n s) := by
  simp [lookLine, h, bumpOpt]

/-- One that is not is fetched. -/
theorem lookLine_miss {s : State} {n c : Nat} (h : isResident s n = false) (hq : isQuar s n = false) (ho : s.cxm.oos = false)
    (hit : Option Nat) (ecc : Nat) : lookLine hit (some c) n ecc s = (.waits, startFill n (bump c none s)) := by
  have hq' : isQuar (bump c none s) n = false := by
    rw [isQuar, (sameBut_bump c none s .cxm (by decide) : (bump c none s).cxm = s.cxm)]; exact hq
  simp [lookLine, h, bumpOpt, hq', ho]

theorem pumpReads_fills (n : Nat) (s : State) : (pumpReads n s).cxm.fills = s.cxm.fills := by
  induction n generalizing s with
  | zero => rfl
  | succ n ih =>
    simp only [pumpReads]; split
    · rfl
    · split
      · rw [ih]; simp
      · rfl

/-- A fill of the line runs then. -/
theorem startFill_runs (n : Nat) (s : State) : (fillOf (startFill n s) n).isSome = true := by
  unfold startFill; split
  · assumption
  · rw [fillOf, pumpReads_fills]
    simp [newFill]

/-! The key (R206). -/

theorem kidSlot_congr {s t : State} (h : t.vlt = s.vlt) (k : Nat) : kidSlot t k = kidSlot s k := by
  unfold kidSlot vslot
  rw [h]

/-- A loaded key of the kind asked for is delivered. -/
theorem deliverKey_loaded {s : State} {kid k l : Nat} {attr : Attr} (hk : kidSlot s kid = some k) (hl : (vslot s k).st = .loaded)
    (ha : (vslot s k).attr = attr) :
    deliverKey kid attr false l s = (some (keyAt s k), setVslot k { vslot s k with used := now s } s) := by
  simp [deliverKey, hk, hl, ha]

/-- What a delivery, or its denial, changes. -/
theorem sameBut_deliverKey (kid l : Nat) (attr : Attr) (s : State) : sameBut [.vlt, .tel, .evt, .cnt] s (deliverKey kid attr false l s).2 := by
  have hdeny : sameBut [.vlt, .tel, .evt, .cnt] s (raiseL .vlt 0 [l] (bump 0x58 none s)) :=
    sameBut_trans (sameBut_mono (sameBut_bump _ _ s) (by decide)) (sameBut_mono (sameBut_raiseL _ _ _ _) (by decide))
  have hvlt : ∀ v : Vlt, sameBut [.vlt, .tel, .evt, .cnt] s { s with vlt := v } := fun v => by intro p hp; cases p <;> simp_all [Part.same]
  unfold deliverKey
  cases kidSlot s kid with
  | none => exact hdeny
  | some n =>
    dsimp only
    rw [if_neg (by decide)]
    split
    · exact hvlt _
    · exact hdeny

/-- No cause of another set is lost by it. -/
theorem deliverKey_pends {kid l n : Nat} {attr : Attr} {u : Sub} {s : State} (hu : u ≠ .vlt) (h : (s.evt.get u).pendReal.getLsbD n = true) :
    ((deliverKey kid attr false l s).2.evt.get u).pendReal.getLsbD n = true := by
  have hdeny : ((raiseL .vlt 0 [l] (bump 0x58 none s)).evt.get u).pendReal.getLsbD n = true := by
    rw [raiseL_evt, if_neg hu, (sameBut_bump 0x58 none s .evt (by decide) : (bump 0x58 none s).evt = s.evt)]; exact h
  unfold deliverKey
  cases kidSlot s kid with
  | none => exact hdeny
  | some k =>
    dsimp only
    rw [if_neg (by decide)]
    split
    · exact h
    · exact hdeny

/-! The row of a frame that goes on to the lookups. -/

/-- The frame and the state with which the lookups begin. -/
structure Looks (s : State) (l : Nat) (bs : List Byte) (F : Frame) (v : State) : Prop where
  joins : Joins .egr s F v
  arrived : Arrived l bs F
  waits : F.fate = .wait none
  unnumbered : F.pn = 0
  same : sameBut [.egr, .que, .tel] s v

theorem cliRx_looks {s : State} {l : Nat} {fd : BitVec 16} {bs : List Byte} {flt : FrameFaults} (h : mayStart s .egr l = true)
    (hb : bs.length = 64) (hc : egrClass s (asWhole l fd bs) = .look) :
    ∃ F v, Looks s l bs F v ∧ ∀ G w, egrLookup F flt true v = w → Joins .egr s G w → Arrived l bs G →
      ∃ t, exec (.cliRxFrame [wholeSeg l fd bs] flt) s = .next t ∧ Ends .egr s l bs G w t := by
  obtain ⟨henter, hlim⟩ := enters_of_mayStart h
  obtain ⟨F, hp⟩ := parses_of_enters (fd := fd) (bs := bs) henter (by omega)
  have hbelow : atLimit (entered .egr (wholeSeg l fd bs) bs s) .egr F = false := by
    rw [hp.joins.atLimit rfl rfl, hp.arrived.link]; simpa using hlim
  refine ⟨withPort (egrPort s l) F, modFrame .egr F.link F.orderTag (withPort (egrPort s l)) (entered .egr (wholeSeg l fd bs) bs s),
    ⟨joins_port (egrPort s l) hp.joins rfl, ⟨hp.arrived.link, hp.arrived.bytes, hp.arrived.ended, hp.arrived.good, hp.arrived.here⟩,
      ?_, ?_, sameBut_trans hp.same (sameBut_mono (sameBut_modFrame .egr _ _ _ _) (by decide))⟩, fun G w hw hj hG => ?_⟩
  · obtain ⟨_, _, _, rfl⟩ := hp.whole; rfl
  · obtain ⟨_, _, _, rfl⟩ := hp.whole; rfl
  · have hparse := egrParse_look (flt := flt) hp hc
    rw [hbelow, if_neg (by decide), hw] at hparse
    exact ⟨_, cliRx_whole henter (by omega) (by omega) hp.joins hp.arrived hparse hj hG, ends_of_joins hj henter.calm hG⟩

/-! What the lookups make of it. -/

/-- The frame as it finds its SecY's line. -/
theorem Looks.touch {s v : State} {l : Nat} {bs : List Byte} {F : Frame} (h : Looks s l bs F v) (n : Nat) :
    Joins .egr s F (touchLine n v) ∧ sameBut [.egr, .que, .tel, .cis] s (touchLine n v) :=
  have ht := sameBut_touchLine n v
  ⟨h.joins.of_path (pathOf_same (ht .egr (by decide)) (ht .ing (by decide))),
    sameBut_trans (sameBut_mono h.same (by decide)) (sameBut_mono ht (by decide))⟩

section
variable {s v : State} {l : Nat} {bs : List Byte} {F : Frame} {flt : FrameFaults} {y : Secy}

/-- A SecY that is resident and has no cut pending is found at once. -/
structure SecyFound (s : State) (l : Nat) (flt : FrameFaults) (y : Secy) : Prop where
  secy : secyOf s l = some y
  uncut : y.cut = .none
  there : isResident s (secyLine l) = true
  sound : flt.secyEcc = 0

theorem Looks.secyOf_eq (h : Looks s l bs F v) (n j : Nat) : secyOf (touchLine n v) j = secyOf s j :=
  congrArg (fun m => smGet none m j) ((h.touch n).2 .secys (by decide) : (touchLine n v).secys = s.secys)

theorem Looks.txOf_eq (h : Looks s l bs F v) (n j : Nat) : txOf (touchLine n v) j = txOf s j :=
  congrArg (fun m => smGet none m j) ((h.touch n).2 .tx (by decide) : (touchLine n v).tx = s.tx)

theorem Looks.resident (h : Looks s l bs F v) (n j : Nat) : isResident (touchLine n v) j = isResident s j := by
  rw [isResident, isResident, cline, cline, touchLine_lines, (h.same .cis (by decide) : v.cis = s.cis)]

/-- The SecY's line is found, no cut is taken. -/
theorem egrLookup_secy (h : Looks s l bs F v) (hy : SecyFound s l flt y) :
    cutIfDue F.link v = v ∧ lookLine none (some 0x4A) (secyLine F.link) flt.secyEcc v = (.hit, touchLine (secyLine l) v) := by
  have hv : secyOf v l = some y := hy.secy ▸ congrArg (fun m => smGet none m l) (h.same .secys (by decide) : v.secys = s.secys)
  have hr : isResident v (secyLine l) = true := by
    rw [isResident, cline, (h.same .cis (by decide) : v.cis = s.cis)]; exact hy.there
  rw [h.arrived.link, hy.sound]
  exact ⟨by simp [cutIfDue, hv, cutDue, hy.uncut], lookLine_hit hr _⟩

/-- Without an SA in use at the current AN the frame is discarded at step 14. -/
theorem egrLookup_noSa (h : Looks s l bs F v) (hy : SecyFound s l flt y) (ha : ∀ a, txOf s (4 * l + y.curAn) = some a → a.retiring = true) :
    egrLookup F flt true v = egrDiscard F 0xD (touchLine (secyLine l) v) := by
  obtain ⟨hcut, hlook⟩ := egrLookup_secy h hy
  have hsec : secyOf (touchLine (secyLine l) v) F.link = some y := by rw [h.secyOf_eq, h.arrived.link]; exact hy.secy
  have htx : txOf (touchLine (secyLine l) v) (4 * F.link + y.curAn) = txOf s (4 * l + y.curAn) := by rw [h.txOf_eq, h.arrived.link]
  simp only [egrLookup, hcut, if_true, hlook, hsec, htx]
  cases hx : txOf s (4 * l + y.curAn) with
  | none => rfl
  | some a => simp only [ha a hx, if_true]

/-- An SA's line that is resident is found too: the PN is next. -/
theorem egrLookup_sa {a : Sa} (h : Looks s l bs F v) (hy : SecyFound s l flt y) (ha : txOf s (4 * l + y.curAn) = some a)
    (hr : a.retiring = false) (he : flt.cisEcc = 0) (ht : isResident s (txLine (4 * l + y.curAn)) = true) :
    egrLookup F flt true v = assignPn F (4 * l + y.curAn) a y flt.vltPar
      (touchLine (txLine (4 * l + y.curAn)) (touchLine (secyLine l) v)) := by
  obtain ⟨hcut, hlook⟩ := egrLookup_secy h hy
  have hsec : secyOf (touchLine (secyLine l) v) F.link = some y := by rw [h.secyOf_eq, h.arrived.link]; exact hy.secy
  have htx : txOf (touchLine (secyLine l) v) (4 * F.link + y.curAn) = some a := by rw [h.txOf_eq, h.arrived.link]; exact ha
  have hline : lookLine none (some 0x4A) (txLine (4 * F.link + y.curAn)) flt.cisEcc (touchLine (secyLine l) v) =
      (.hit, touchLine (txLine (4 * l + y.curAn)) (touchLine (secyLine l) v)) := by
    rw [he, h.arrived.link]; exact lookLine_hit ((h.resident _ _).trans ht) _
  simp only [egrLookup, hcut, if_true, hlook, hsec, htx, hr, hline, Bool.false_eq_true, if_false]
  rw [h.arrived.link]

/-- One that is not sends the frame to the sump. -/
theorem egrLookup_miss {a : Sa} (h : Looks s l bs F v) (hy : SecyFound s l flt y) (ha : txOf s (4 * l + y.curAn) = some a)
    (hr : a.retiring = false) (ht : isResident s (txLine (4 * l + y.curAn)) = false) (ho : s.cxm.oos = false)
    (hq : isQuar s (txLine (4 * l + y.curAn)) = false) :
    egrLookup F flt true v = egrSump F (txLine (4 * l + y.curAn))
      (startFill (txLine (4 * l + y.curAn)) (bump 0x4A none (touchLine (secyLine l) v))) := by
  obtain ⟨hcut, hlook⟩ := egrLookup_secy h hy
  have hsec : secyOf (touchLine (secyLine l) v) F.link = some y := by rw [h.secyOf_eq, h.arrived.link]; exact hy.secy
  have htx : txOf (touchLine (secyLine l) v) (4 * F.link + y.curAn) = some a := by rw [h.txOf_eq, h.arrived.link]; exact ha
  have hcxm : (touchLine (secyLine l) v).cxm = s.cxm := (h.touch _).2 .cxm (by decide)
  have hline : lookLine none (some 0x4A) (txLine (4 * F.link + y.curAn)) flt.cisEcc (touchLine (secyLine l) v) =
      (.waits, startFill (txLine (4 * l + y.curAn)) (bump 0x4A none (touchLine (secyLine l) v))) := by
    rw [h.arrived.link]
    exact lookLine_miss ((h.resident _ _).trans ht) (by rw [isQuar, hcxm]; exact hq) (by rw [hcxm]; exact ho) _ _
  simp only [egrLookup, hcut, if_true, hlook, hsec, htx, hr, hline, Bool.false_eq_true, if_false]
  rw [h.arrived.link]

end

end Sys2Proof.Machine
end

section
/-! Egress packet numbers: the rows of frames that their SecY protects. -/
namespace Sys2Proof.Machine

section
variable {s u : State} {l i : Nat} {bs : List Byte} {F : Frame} {a : Sa} {y : Secy}

/-! Discards at steps 14 to 18. -/

theorem sameBut_egrDiscard (F : Frame) (code : Nat) (s : State) :
    sameBut [.egr, .secys, .cis, .cxm, .out, .cnt, .tel] s (egrDiscard F code s) :=
  sameBut_trans (sameBut_mono (sameBut_secyStat _ _ _) (by decide)) (sameBut_mono (sameBut_discardFrame .egr _ _ _) (by decide))

/-- The frame once it is discarded. -/
def dropped (F : Frame) : Frame := { F with fate := .discard, started := F.started && Fate.discard != .discard }

theorem joins_egrDiscard (hu : Joins .egr s F u) (hlim : (pathOf s .egr).frames.countP (fun x => x.link == F.link) < 2048) (code : Nat) :
    Joins .egr s (dropped F) (egrDiscard F code u) := joins_discard (hu.of_path (pathOf_secyStat _ _ _ _)) hlim

theorem arrived_dropped (h : Arrived l bs F) : Arrived l bs (dropped F) := ⟨h.link, h.bytes, h.ended, h.good, by simp [dropped]⟩

theorem counted_egrDiscard {code : Nat} (hc : code < 0x20) (hu : u.cnt = s.cnt) {t : State} (ht : t.cnt = (egrDiscard F code u).cnt) :
    counted code 1 s t :=
  counted_bump (by rw [secyStat_cnt (by omega) (by omega), hu]) (ht.trans (discardFrame_cnt .egr F code _))

/-- A row that discards the frame after the lookups, from a state in which `P` holds. -/
theorem row_discard {fd : BitVec 16} {flt : FrameFaults} {code : Nat} {P : State → Prop} (h : mayStart s .egr l = true) (hb : bs.length = 64)
    (hc : egrClass s (asWhole l fd bs) = .look) (hcode : code < 0x20)
    (hlook : ∀ F v, Looks s l bs F v → ∃ u, egrLookup F flt true v = egrDiscard F code u ∧ Joins .egr s F u ∧
      sameBut [.egr, .que, .tel, .cis, .evt] s u ∧ P u) :
    ∃ u t, P u ∧ exec (.cliRxFrame [wholeSeg l fd bs] flt) s = .next t ∧ (∃ f, joined .egr l bs f s t ∧ f.fate = .discard) ∧
      counted code 1 s t ∧ t.tx = s.tx ∧
      ∀ e n, e.defined.getLsbD n = true → (u.evt.get e).pendReal.getLsbD n = true → eventSet t e n := by
  obtain ⟨-, hlim⟩ := enters_of_mayStart h
  obtain ⟨F, v, hL, hrow⟩ := cliRx_looks (flt := flt) h hb hc
  obtain ⟨u, hw, hu, hsu, hP⟩ := hlook F v hL
  obtain ⟨t, hx, hE⟩ := hrow _ _ hw (joins_egrDiscard hu (by rw [hL.arrived.link]; exact hlim) code) (arrived_dropped hL.arrived)
  obtain ⟨b, hj⟩ := hE.frame
  have hd := sameBut_egrDiscard F code u
  refine ⟨u, t, hP, hx, ⟨_, hj, rfl⟩, counted_egrDiscard hcode (hsu .cnt (by decide)) (hE.same .cnt (by decide)), ?_,
    fun e n he hp => hE.shows e n he ?_⟩
  · exact ((hE.same .tx (by decide) : t.tx = _).trans (hd .tx (by decide))).trans (hsu .tx (by decide))
  · rw [(hd .evt (by decide) : (egrDiscard F code u).evt = u.evt)]; exact hp

/-! A PN and its key. -/

/-- The SA at the current AN is in use, and its line is resident. -/
structure SaFound (s : State) (l : Nat) (y : Secy) (a : Sa) : Prop where
  sa : txOf s (4 * l + y.curAn) = some a
  stays : a.retiring = false
  an : y.curAn < 4
  there : isResident s (txLine (4 * l + y.curAn)) = true

/-- The state in which the SA is found. -/
def found (l : Nat) (y : Secy) (v : State) : State := touchLine (txLine (4 * l + y.curAn)) (touchLine (secyLine l) v)

theorem found_joins {v : State} (h : Looks s l bs F v) (y : Secy) :
    Joins .egr s F (found l y v) ∧ sameBut [.egr, .que, .tel, .cis] s (found l y v) := by
  obtain ⟨hj, hs⟩ := h.touch (secyLine l)
  have ht := sameBut_touchLine (txLine (4 * l + y.curAn)) (touchLine (secyLine l) v)
  exact ⟨hj.of_path (pathOf_same (ht .egr (by decide)) (ht .ing (by decide))), sameBut_trans hs (sameBut_mono ht (by decide))⟩

/-- The frame once it has its PN and its key. -/
def numbered (i : Nat) (a : Sa) (y : Secy) (key : List Byte) (F : Frame) : Frame :=
  { F with fate := .crypt, saIdx := i, pn := a.pn, kid := a.kid, key := key, txp := y.txp, sci := y.sci, ssci := a.ssci, salt := a.salt,
           suite := saSuite y a, offCode := saOffset y a }

/-- What a delivery of the key leads to. -/
def keyed (F : Frame) (i : Nat) (a : Sa) (y : Secy) : Option (List Byte) × State → State
  | (some k, w) => modFrame .egr F.link F.orderTag (numbered i a y k) w
  | (none, w) => egrDiscard F 0xE w

theorem assignPn_valid (hx : a.exhausted = false) (hv : leaseValid a = true) (u : State) :
    assignPn F i a y false u = keyed F i a y (deliverKey a.kid .encOnly false F.link (takePn i a u)) := by
  simp only [assignPn, hx, hv, Bool.not_true, Bool.false_eq_true, if_false]
  generalize deliverKey a.kid .encOnly false F.link (takePn i a u) = r
  obtain ⟨_ | k, w⟩ := r <;> rfl

theorem arrived_numbered (h : Arrived l bs F) (i : Nat) (a : Sa) (y : Secy) (k : List Byte) : Arrived l bs (numbered i a y k F) :=
  ⟨h.link, h.bytes, h.ended, h.good, h.here⟩

theorem joins_ask {w : State} (hu : Joins .egr s F u) (hs : sameBut askParts u w) : Joins .egr s F w :=
  hu.of_path (pathOf_same (hs .egr (by decide)) (hs .ing (by decide)))

/-- With the SA's key in its slot the frame takes its PN. -/
theorem assignPn_loaded {k : Nat} (hu : Joins .egr s F u) (hx : a.exhausted = false) (hv : leaseValid a = true)
    (hs : sameBut askParts u (takePn i a u)) (hk : kidSlot u a.kid = some k) (hl : (vslot u k).st = .loaded) (ha : (vslot u k).attr = .encOnly) :
    Joins .egr s (numbered i a y (keyAt u k) F) (assignPn F i a y false u) ∧ sameBut [.egr, .vlt] (takePn i a u) (assignPn F i a y false u) := by
  have hvlt : (takePn i a u).vlt = u.vlt := hs .vlt (by decide)
  have hslot : vslot (takePn i a u) k = vslot u k := by rw [vslot, hvlt]; rfl
  have hd := deliverKey_loaded (l := F.link) ((kidSlot_congr hvlt _).trans hk) (hslot ▸ hl) (hslot ▸ ha)
  have hset : ∀ v, sameBut [.vlt] (takePn i a u) (setVslot k v (takePn i a u)) := fun v => by intro p hp; cases p <;> simp_all [Part.same]
  have hkey : keyAt (takePn i a u) k = keyAt u k := by rw [keyAt, hslot]; rfl
  rw [assignPn_valid hx hv, hd, hkey, keyed]
  refine ⟨?_, sameBut_trans (sameBut_mono (hset _) (by decide)) (sameBut_mono (sameBut_modFrame .egr _ _ _ _) (by decide))⟩
  exact ((joins_ask hu hs).of_path (pathOf_same (hset _ .egr (by decide)) (hset _ .ing (by decide)))).modFrame (g := numbered i a y _) rfl rfl

/-- Without it the frame is discarded, and its PN is spent. -/
theorem assignPn_any (hu : Joins .egr s F u) (hF : Arrived l bs F) (h0 : F.pn = 0)
    (hlim : (pathOf s .egr).frames.countP (fun x => x.link == F.link) < 2048) (hx : a.exhausted = false) (hv : leaseValid a = true)
    (hs : sameBut askParts u (takePn i a u)) :
    ∃ G, Joins .egr s G (assignPn F i a y false u) ∧ Arrived l bs G ∧ G.pn = (if G.fate = .crypt then a.pn else 0) ∧
      (assignPn F i a y false u).tx = (takePn i a u).tx ∧
      ∀ e n, e ≠ .vlt → ((takePn i a u).evt.get e).pendReal.getLsbD n = true →
        ((assignPn F i a y false u).evt.get e).pendReal.getLsbD n = true := by
  have hd := sameBut_deliverKey a.kid F.link .encOnly (takePn i a u)
  have hp := fun e n he h => deliverKey_pends (kid := a.kid) (l := F.link) (attr := .encOnly) (u := e) (n := n) (s := takePn i a u) he h
  have hj := (joins_ask hu hs).of_path (pathOf_same (hd .egr (by decide)) (hd .ing (by decide)))
  rw [assignPn_valid hx hv]
  generalize deliverKey a.kid .encOnly false F.link (takePn i a u) = r at hd hp hj
  obtain ⟨key, w⟩ := r
  cases key with
  | some k =>
    have hm : sameBut [.egr] w (keyed F i a y (some k, w)) := sameBut_modFrame .egr F.link F.orderTag (numbered i a y k) w
    have hevt : (keyed F i a y (some k, w)).evt = w.evt := hm .evt (by decide)
    exact ⟨_, hj.modFrame (g := numbered i a y k) rfl rfl, arrived_numbered hF i a y k, by simp [numbered],
      (hm .tx (by decide)).trans (hd .tx (by decide)), fun e n he h => by
        rw [hevt]; exact hp e n he h⟩
  | none =>
    have hm := sameBut_egrDiscard F 0xE w
    have hevt : (keyed F i a y (none, w)).evt = w.evt := hm .evt (by decide)
    exact ⟨_, joins_egrDiscard hj hlim 0xE, arrived_dropped hF, by simp [dropped, h0],
      (hm .tx (by decide)).trans (hd .tx (by decide)), fun e n he h => by
        rw [hevt]; exact hp e n he h⟩

end

/-! The rows. -/

/-- What classification decides of a frame that its SecY protects and that the lanes have room for. -/
theorem egrClass_look {s : State} {l : Nat} {fd : BitVec 16} {bs : List Byte} {y : Secy} (hb : bs.length = 64) (hm : s.glb.mode ≠ .lockout)
    (hr : ruleOf s .egr l bs = none) (hc : s.glb.mode ≠ .cold) (hy : secyOf s l = some y) (hon : y.st = .on)
    (hp : s.glb.mode = .provision → txpEarly y.txp = true) (hport : bitAt s.glb.prt (txpPport y.txp) = true)
    (hmka : txpMka y.txp = true → etypeAt s bs 2 ≠ 0x888E) (hfd : fd.getLsbD 0 = false) (hprot : txpProtect y.txp = true)
    (hshed : s.egr.shed ≤ txpPrio y.txp) : egrClass s (asWhole l fd bs) = .look := by
  rw [egrClass_secy hb hm hr hc hy, egrOf_past hon hp hport hmka, hfd, hprot, if_neg (Nat.not_lt.2 hshed)]
  rfl

section
variable {s : State} {l : Nat} {fd : BitVec 16} {bs : List Byte} {flt : FrameFaults} {y : Secy} {a : Sa}

/-- Step 14: no SA is in use at the current AN. -/
theorem row_noSa (h : mayStart s .egr l = true) (hb : bs.length = 64) (hc : egrClass s (asWhole l fd bs) = .look) (hy : SecyFound s l flt y)
    (ha : ∀ a, txOf s (4 * l + y.curAn) = some a → a.retiring = true) :
    ∃ t, exec (.cliRxFrame [wholeSeg l fd bs] flt) s = .next t ∧ ∃ f, joined .egr l bs f s t ∧ f.fate = .discard ∧ counted 0xD 1 s t ∧
      t.tx = s.tx := by
  obtain ⟨_, t, -, hx, ⟨f, hj, hf⟩, hcnt, htx, -⟩ := row_discard (flt := flt) (code := 0xD) (P := fun _ => True) h hb hc (by decide)
    fun F v hL => ⟨_, egrLookup_noSa hL hy ha, (hL.touch _).1, sameBut_mono (hL.touch _).2 (by decide), trivial⟩
  exact ⟨t, hx, f, hj, hf, hcnt, htx⟩

/-- Steps 17 and 18: a discard with its event. -/
theorem row_noPn {code n : Nat} (h : mayStart s .egr l = true) (hb : bs.length = 64) (hc : egrClass s (asWhole l fd bs) = .look)
    (hy : SecyFound s l flt y) (ha : SaFound s l y a) (he : flt.cisEcc = 0) (hcode : code < 0x20) (hn : Sub.egr.defined.getLsbD n = true)
    (hn' : n < 72) (hdisc : ∀ F u, assignPn F (4 * l + y.curAn) a y flt.vltPar u = egrDiscard F code (raiseL .egr n [F.link] u)) :
    ∃ t, exec (.cliRxFrame [wholeSeg l fd bs] flt) s = .next t ∧ ∃ f, joined .egr l bs f s t ∧ f.fate = .discard ∧ counted code 1 s t ∧
      eventSet t .egr n ∧ t.tx = s.tx := by
  obtain ⟨u, t, hP, hx, ⟨f, hj, hf⟩, hcnt, htx, hev⟩ := row_discard (flt := flt) (code := code)
    (P := fun u => (u.evt.get .egr).pendReal.getLsbD n = true) h hb hc hcode fun F v hL => by
      obtain ⟨hfj, hfs⟩ := found_joins hL y
      have hraise := sameBut_raiseL .egr n [F.link] (found l y v)
      exact ⟨_, (egrLookup_sa hL hy ha.sa ha.stays he ha.there).trans (hdisc F _), hfj.of_path (pathOf_raiseL _ _ _ _ _),
        sameBut_trans (sameBut_mono hfs (by decide)) (sameBut_mono hraise (by decide)), raiseL_pends .egr _ _ hn'⟩
  exact ⟨t, hx, f, hj, hf, hcnt, hev .egr n hn hP, htx⟩

/-- The SA's next PN once this one is taken, in the state in which it is found. -/
theorem saFound_next {u : State} (hu : sameBut [.egr, .que, .tel, .cis] s u) (hy : SecyFound s l flt y) (ha : SaFound s l y a) :
    txOf (setTx (4 * l + y.curAn) (some (pnTaken a)) u) (4 * l + y.curAn) = some (pnTaken a) ∧
      secyOf (setTx (4 * l + y.curAn) (some (pnTaken a)) u) (saLink (4 * l + y.curAn)) = some y := by
  have hl : saLink (4 * l + y.curAn) = l := by have := ha.an; unfold saLink; omega
  refine ⟨by rw [txOf_setTx, if_pos rfl], ?_⟩
  rw [hl]
  exact hy.secy ▸ congrArg (fun m => smGet none m l) (hu .secys (by decide) : u.secys = s.secys)

/-- The key of the SA is in its slot. -/
structure KeyThere (s : State) (a : Sa) (k : Nat) : Prop where
  slot : kidSlot s a.kid = some k
  loaded : (vslot s k).st = .loaded
  attr : (vslot s k).attr = .encOnly

theorem KeyThere.of_vlt {u : State} {k : Nat} (h : KeyThere s a k) (hv : u.vlt = s.vlt) : KeyThere u a k ∧ keyAt u k = keyAt s k := by
  have hslot : vslot u k = vslot s k := by rw [vslot, hv]; rfl
  exact ⟨⟨(kidSlot_congr hv _).trans h.slot, hslot ▸ h.loaded, hslot ▸ h.attr⟩, by rw [keyAt, hslot]; rfl⟩

/-- The frame takes a PN: what the row leaves of the SA is what `takePn` makes of it. -/
theorem row_crypt {k : Nat} (h : mayStart s .egr l = true) (hb : bs.length = 64) (hc : egrClass s (asWhole l fd bs) = .look)
    (hf : flt = noFaults) (hy : SecyFound s l flt y) (ha : SaFound s l y a) (hx : a.exhausted = false) (hv : leaseValid a = true)
    (hk : KeyThere s a k)
    (htake : ∀ u, sameBut [.egr, .que, .tel, .cis] s u → sameBut askParts u (takePn (4 * l + y.curAn) a u)) :
    ∃ t u, exec (.cliRxFrame [wholeSeg l fd bs] flt) s = .next t ∧ sameBut [.egr, .que, .tel, .cis] s u ∧
      sameBut [.egr, .que, .evt, .vlt] (takePn (4 * l + y.curAn) a u) t ∧ ∃ f, joined .egr l bs f s t ∧ f.fate = .crypt ∧
        f.saIdx = 4 * l + y.curAn ∧ f.pn = a.pn ∧ f.kid = a.kid ∧ f.key = keyAt s k ∧ f.sci = y.sci ∧ f.txp = y.txp := by
  obtain ⟨F, v, hL, hrow⟩ := cliRx_looks (flt := flt) h hb hc
  obtain ⟨hfj, hfs⟩ := found_joins hL y
  obtain ⟨hku, hkey⟩ := hk.of_vlt (hfs .vlt (by decide) : (found l y v).vlt = s.vlt)
  obtain ⟨hj, hs⟩ := assignPn_loaded (y := y) hfj hx hv (htake _ hfs) hku.slot hku.loaded hku.attr
  have hw := egrLookup_sa hL hy ha.sa ha.stays (by rw [hf]; rfl) ha.there
  rw [show flt.vltPar = false by rw [hf]; rfl] at hw
  obtain ⟨t, hx, hE⟩ := hrow _ _ hw hj (arrived_numbered hL.arrived ..)
  obtain ⟨b, hjoin⟩ := hE.frame
  exact ⟨t, found l y v, hx, hfs, sameBut_trans (sameBut_mono hs (by decide)) (sameBut_mono hE.same (by decide)), _, hjoin, rfl, rfl, rfl,
    rfl, hkey, rfl, rfl⟩

/-- The SA once its next PN is taken, in state `u`, and what its lease makes of that. -/
def advanced (s : State) (i : Nat) (a : Sa) : State := leaseAdvance i (setTx i (some (pnTaken a)) s)

/-- Below the threshold: the frame takes the PN, and the SA is as its lease leaves it. -/
theorem row_below {k pn : Nat} {cur : Lease} (h : mayStart s .egr l = true) (hb : bs.length = 64)
    (hc : egrClass s (asWhole l fd bs) = .look) (hf : flt = noFaults) (hy : SecyFound s l flt y) (ha : SaFound s l y a)
    (hx : a.exhausted = false) (hv : leaseValid a = true) (hk : KeyThere s a k) (hthr : pn < pnThreshold s a.suite)
    (hpace : ∀ u, sameBut [.egr, .que, .tel, .cis] s u →
      Paced (4 * l + y.curAn) (pnTaken a) pn cur (setTx (4 * l + y.curAn) (some (pnTaken a)) u) (advanced u (4 * l + y.curAn) a)) :
    ∃ t u, exec (.cliRxFrame [wholeSeg l fd bs] flt) s = .next t ∧ sameBut [.egr, .que, .tel, .cis] s u ∧
      t.tx = (advanced u (4 * l + y.curAn) a).tx ∧ t.secys = s.secys ∧ t.rx = s.rx ∧ ∃ f, joined .egr l bs f s t ∧ f.fate = .crypt ∧
        f.saIdx = 4 * l + y.curAn ∧ f.pn = a.pn ∧ f.kid = a.kid ∧ f.key = keyAt s k ∧ f.sci = y.sci ∧ f.txp = y.txp := by
  have htake : ∀ u, sameBut [.egr, .que, .tel, .cis] s u →
      takePn (4 * l + y.curAn) a u = dirtyLine (txLine (4 * l + y.curAn)) (advanced u (4 * l + y.curAn) a) := fun u hu =>
    takePn_below (hpace u hu) (by rw [pnThreshold_congr (congrArg Jnl.rekey (hu .jnl (by decide) : u.jnl = s.jnl))]; exact hthr)
  have hask : ∀ u, sameBut [.egr, .que, .tel, .cis] s u → sameBut askParts u (takePn (4 * l + y.curAn) a u) := fun u hu => by
    rw [htake u hu]; exact (paced_dirty (hpace u hu)).same
  obtain ⟨t, u, hx, hu, ht, hframe⟩ := row_crypt h hb hc hf hy ha hx hv hk hask
  have hall := sameBut_trans (sameBut_trans (sameBut_mono hu (by decide)) (sameBut_mono (hask u hu) (by decide)))
    (sameBut_mono (qs := [.egr, .que, .tel, .cis, .evt, .vlt, .tx, .jnl, .out, .fab, .cnt, .cxm]) ht (by decide))
  refine ⟨t, u, hx, hu, ?_, hall .secys (by decide), hall .rx (by decide), hframe⟩
  rw [(ht .tx (by decide) : t.tx = (takePn (4 * l + y.curAn) a u).tx), htake u hu]
  exact ctx_dirtyLine _ _ .tx (by decide)

theorem txOf_of_tx {t u : State} (h : t.tx = u.tx) (i : Nat) : txOf t i = txOf u i := congrArg (fun m => smGet none m i) h

/-- At the threshold for the first time: the PN is taken, the event is raised, whatever comes of the key. -/
theorem row_reached (h : mayStart s .egr l = true) (hb : bs.length = 64) (hc : egrClass s (asWhole l fd bs) = .look) (hon : y.st = .on)
    (hf : flt = noFaults) (hy : SecyFound s l flt y) (ha : SaFound s l y a) (hx : a.exhausted = false) (hv : leaseValid a = true)
    (ht : a.thr = false) (hthr : pnThreshold s a.suite ≤ a.pn + 1) (hs : a.pn + 1 < a.cur.stop) (hca : (caOf s l).enabled = false) :
    ∃ t, exec (.cliRxFrame [wholeSeg l fd bs] flt) s = .next t ∧ ∃ f, joined .egr l bs f s t ∧
      f.pn = (if f.fate = .crypt then a.pn else 0) ∧ eventSet t .jnl 1 ∧ (txOf t (4 * l + y.curAn)).map (·.thr) = some true := by
  obtain ⟨-, hlim⟩ := enters_of_mayStart h
  obtain ⟨F, v, hL, hrow⟩ := cliRx_looks (flt := flt) h hb hc
  obtain ⟨hfj, hfs⟩ := found_joins hL y
  have hsa : saLink (4 * l + y.curAn) = l := by have := ha.an; unfold saLink; omega
  have hca' : (caOf (found l y v) (saLink (4 * l + y.curAn))).enabled = false := by
    rw [hsa, caOf, (hfs .svc (by decide) : (found l y v).svc = s.svc)]; exact hca
  obtain ⟨hnext, hsec⟩ := saFound_next hfs hy ha
  obtain ⟨hask, hpend, hmark⟩ := takePn_reached (leaseAdvance_within hnext hsec hon hs)
    (by rw [pnThreshold_congr (congrArg Jnl.rekey (hfs .jnl (by decide) : (found l y v).jnl = s.jnl))]; exact hthr) ht hca'
  obtain ⟨G, hj, hG, hpn, htx, hev⟩ := assignPn_any (y := y) hfj hL.arrived hL.unnumbered (by rw [hL.arrived.link]; exact hlim) hx hv hask
  have hw := egrLookup_sa hL hy ha.sa ha.stays (by rw [hf]; rfl) ha.there
  rw [show flt.vltPar = false by rw [hf]; rfl] at hw
  obtain ⟨t, hx, hE⟩ := hrow _ _ hw hj hG
  obtain ⟨b, hjoin⟩ := hE.frame
  refine ⟨t, hx, _, hjoin, hpn, hE.shows .jnl 1 (by decide) (hev .jnl 1 (by decide) hpend), ?_⟩
  rw [txOf_of_tx ((hE.same .tx (by decide) : t.tx = _).trans htx)]
  exact hmark

/-- A line that is not resident: the frame waits in the sump. -/
theorem row_sump (h : mayStart s .egr l = true) (hb : bs.length = 64) (hc : egrClass s (asWhole l fd bs) = .look)
    (hy : SecyFound s l flt y) (ha : txOf s (4 * l + y.curAn) = some a) (hr : a.retiring = false)
    (ht : isResident s (txLine (4 * l + y.curAn)) = false) (ho : s.cxm.oos = false) (hq : isQuar s (txLine (4 * l + y.curAn)) = false) :
    ∃ t, exec (.cliRxFrame [wholeSeg l fd bs] flt) s = .next t ∧ ∃ f, joined .egr l bs f s t ∧
      f.fate = .wait (some (txLine (4 * l + y.curAn))) ∧ t.tx = s.tx ∧ (fillOf t (txLine (4 * l + y.curAn))).isSome = true := by
  obtain ⟨F, v, hL, hrow⟩ := cliRx_looks (flt := flt) h hb hc
  obtain ⟨hj, hs⟩ := hL.touch (secyLine l)
  generalize hu : startFill (txLine (4 * l + y.curAn)) (bump 0x4A none (touchLine (secyLine l) v)) = u
  have hfill : (fillOf u (txLine (4 * l + y.curAn))).isSome = true := hu ▸ startFill_runs _ _
  have hsu : sameBut [.egr, .que, .tel, .cis, .cxm, .out, .cnt] s u := hu ▸ sameBut_trans (sameBut_mono hs (by decide))
    (sameBut_trans (sameBut_mono (sameBut_bump _ _ _) (by decide)) (sameBut_mono (ctx_startFill _ _) (by decide)))
  have hpath : pathOf u .egr = pathOf (touchLine (secyLine l) v) .egr := by
    have hc := ctx_startFill (txLine (4 * l + y.curAn)) (bump 0x4A none (touchLine (secyLine l) v))
    rw [← hu, pathOf_same (hc .egr (by decide)) (hc .ing (by decide)), pathOf_bump]
  have hw := egrLookup_miss hL hy ha hr ht ho hq
  have hnew : (F.fate == .wait (some (txLine (4 * l + y.curAn)))) = false := by rw [hL.waits]; rfl
  rw [hu, egrSump, hnew] at hw
  have hmod := sameBut_modFrame .egr F.link F.orderTag (fun x => { x with fate := .wait (some (txLine (4 * l + y.curAn))) }) u
  have htel := fun w => sameBut_telBump 0x1C7 1 (some F.link) w
  obtain ⟨t, hx, hE⟩ := hrow _ _ hw (((hj.of_path hpath).modFrame (g := fun x => { x with fate := .wait (some (txLine (4 * l + y.curAn))) })
    rfl rfl).of_path (pathOf_telBump _ _ _ _ _)) ⟨hL.arrived.link, hL.arrived.bytes, hL.arrived.ended, hL.arrived.good, hL.arrived.here⟩
  obtain ⟨b, hjoin⟩ := hE.frame
  have htu : sameBut [.egr, .que, .evt, .tel] u t := sameBut_trans (sameBut_mono hmod (by decide))
    (sameBut_trans (sameBut_mono (htel _) (by decide)) (sameBut_mono hE.same (by decide)))
  refine ⟨t, hx, _, hjoin, rfl, (htu .tx (by decide) : t.tx = _).trans (hsu .tx (by decide)), ?_⟩
  rw [fillOf, (htu .cxm (by decide) : t.cxm = u.cxm)]
  exact hfill

end

/-- Settles O32: every clause is a frame that the SecY protects (`egrClass_look`); steps 14, 17 and 18 discard it (`row_noSa`, `row_noPn`),
else it takes the PN (`row_below`, `row_reached`) or waits for its SA's line (`row_sump`). -/
theorem egressPacketNumbers : Obligations.EgressPacketNumbers := by
  unfold Obligations.EgressPacketNumbers
  refine ⟨?_, ?_, ?_, ?_, ?_, ?_, ?_, ?_, ?_⟩
  · intro s l fd bs flt y h hb hm hr hc hy hon hp hport hmka hfd hprot hshed hcut hres hecc ha
    exact row_noSa h hb (egrClass_look hb hm hr hc hy hon hp hport hmka hfd hprot hshed) ⟨hy, hcut, hres, hecc⟩ (fun a h' => by simp [ha] at h')
  · intro s l fd bs flt y a h hb hm hr hc hy hon hp hport hmka hfd hprot hshed hcut hres hecc ha hret
    exact row_noSa h hb (egrClass_look hb hm hr hc hy hon hp hport hmka hfd hprot hshed) ⟨hy, hcut, hres, hecc⟩
      (fun a' h' => (Option.some.inj (ha.symm.trans h')) ▸ hret)
  · intro s l fd bs flt y a h hb hm hr hc hy hon hp hport hmka hfd hprot hshed hcut hres hecc ha hret han hcis hline hex
    exact row_noPn h hb (egrClass_look hb hm hr hc hy hon hp hport hmka hfd hprot hshed) ⟨hy, hcut, hres, hecc⟩ ⟨ha, hret, han, hline⟩ hcis
      (by decide) (by decide) (by decide) (fun F u => by rw [assignPn, if_pos hex])
  · intro s l fd bs flt y a h hb hm hr hc hy hon hp hport hmka hfd hprot hshed hcut hres hecc ha hret han hcis hline hex hval
    exact row_noPn h hb (egrClass_look hb hm hr hc hy hon hp hport hmka hfd hprot hshed) ⟨hy, hcut, hres, hecc⟩ ⟨ha, hret, han, hline⟩ hcis
      (by decide) (by decide) (by decide) (fun F u => by simp only [assignPn, hex, hval, Bool.false_eq_true, if_false, Bool.not_false, if_true])
  · intro s l fd bs flt y a k h hb hm hr hc hy hon hp hport hmka hfd hprot hshed hcut hres hecc ha hret han hflt hline hex hval hthr hstop hpre
      hk hld hat
    have hY : SecyFound s l flt y := ⟨hy, hcut, hres, hecc⟩
    have hA : SaFound s l y a := ⟨ha, hret, han, hline⟩
    have hrest : ∀ u, sameBut [.egr, .que, .tel, .cis] s u → advanced u (4 * l + y.curAn) a = setTx (4 * l + y.curAn) (some (pnTaken a)) u :=
      fun u hu => leaseAdvance_rest (saFound_next hu hY hA).1 hstop hpre
    obtain ⟨t, u, hx, hu, htx, hsecys, hrx, f, hj, hf, hidx, hpn, hkid, hkey, hsci, htxp⟩ := row_below (cur := a.cur) h hb
      (egrClass_look hb hm hr hc hy hon hp hport hmka hfd hprot hshed) hflt hY hA hex hval ⟨hk, hld, hat⟩ hthr
      fun u hu => by rw [hrest u hu]; exact .refl (saFound_next hu hY hA).1
    rw [hrest u hu] at htx
    refine ⟨t, hx, f, hj, hf, hidx, hpn, hkid, hkey, hsci, htxp, ?_, fun j hj' => ?_, hsecys, hrx⟩
    · rw [txOf_of_tx htx, txOf_setTx, if_pos rfl]; rfl
    · rw [txOf_of_tx htx, txOf_setTx, if_neg hj']
      exact txOf_of_tx (hu .tx (by decide)) j
  · intro s l fd bs flt y a h hb hm hr hc hy hon hp hport hmka hfd hprot hshed hcut hres hecc ha hret han hflt hline hex hval hthr hreach hstop
      hca
    exact row_reached h hb (egrClass_look hb hm hr hc hy hon hp hport hmka hfd hprot hshed) hon hflt ⟨hy, hcut, hres, hecc⟩
      ⟨ha, hret, han, hline⟩ hex hval hthr hreach hstop hca
  · intro s l fd bs flt y a k h hb hm hr hc hy hon hp hport hmka hfd hprot hshed hcut hres hecc ha hret han hflt hline hex hval hthr hk hld hat
      htwo hstop
    have hY : SecyFound s l flt y := ⟨hy, hcut, hres, hecc⟩
    have hA : SaFound s l y a := ⟨ha, hret, han, hline⟩
    have hpace := fun u hu => leaseAdvance_next (saFound_next (u := u) hu hY hA).1 (saFound_next hu hY hA).2 hon htwo hstop
    obtain ⟨t, u, hx, hu, htx, -, -, f, hj, hf, -, hpn, -⟩ := row_below h hb
      (egrClass_look hb hm hr hc hy hon hp hport hmka hfd hprot hshed) hflt hY hA hex hval ⟨hk, hld, hat⟩ hthr hpace
    obtain ⟨x, hx', hxp, hxc, -⟩ := (hpace u hu).sa
    refine ⟨t, hx, f, hj, hf, hpn, ?_⟩
    rw [txOf_of_tx htx]
    exact (congrArg _ hx').trans (by rw [Option.map_some, hxp, hxc]; rfl)
  · intro s l fd bs flt y a k h hb hm hr hc hy hon hp hport hmka hfd hprot hshed hcut hres hecc ha hret han hflt hline hex hval hthr hk hld hat
      hone hpre hstop
    have hY : SecyFound s l flt y := ⟨hy, hcut, hres, hecc⟩
    have hA : SaFound s l y a := ⟨ha, hret, han, hline⟩
    obtain ⟨t, u, hx, hu, htx, -, -, f, hj, hf, -, hpn, -⟩ := row_below h hb
      (egrClass_look hb hm hr hc hy hon hp hport hmka hfd hprot hshed) hflt hY hA hex hval ⟨hk, hld, hat⟩ hthr
      fun u hu => leaseAdvance_within (saFound_next hu hY hA).1 (saFound_next hu hY hA).2 hon hstop
    obtain ⟨hnext, hsec⟩ := saFound_next hu hY hA
    obtain ⟨-, -, x, hx', hax⟩ := leaseAdvance_prefetch hnext hsec hon hone hpre hstop
    exact ⟨t, hx, f, hj, hf, hpn, x, (txOf_of_tx htx _).trans hx', hax.pn, hax.lease⟩
  · intro s l fd bs flt y a h hb hm hr hc hy hon hp hport hmka hfd hprot hshed hcut hres hecc ha hret han hline hoos hquar
    exact row_sump h hb (egrClass_look hb hm hr hc hy hon hp hport hmka hfd hprot hshed) ⟨hy, hcut, hres, hecc⟩ ha hret hline hoos hquar

end Sys2Proof.Machine
end

section
/-! Ingress takes a whole frame: the checks of R125 in their order, and what a row counts at its end. -/
namespace Sys2Proof.Machine

/-! The row's end. -/

theorem foldl_newest {α β : Type} (f : β → α → β) {xs : List α} {y : α} (h : ∀ a ∈ xs, ∀ s, f s a = s) (s : β) :
    (xs ++ [y]).foldl f s = f s y := by rw [List.foldl_append, foldl_id f h]; rfl

/-- The rows' end, where the other frames have nothing left to do: the newest one's count, and the count of its SA. -/
theorem settleIng_newest {s w : State} {G G' : Frame} (h : Joins .ing s G w) (hc : calm s .ing = true)
    (h' : Joins .ing s G' (ingWhole G w)) : settleIng w = settlePath .ing (lateCount G' (ingWhole G w)) := by
  have hw : w.ing.frames = s.ing.frames ++ [G] := h.frames
  have hw' : (ingWhole G w).ing.frames = s.ing.frames ++ [G'] := h'.frames
  have h1 : w.ing.frames.foldl (fun t f => ingWhole f t) w = ingWhole G w := by
    rw [hw]; exact foldl_newest _ (fun f hf t => ingWhole_calm (calm_iff.1 hc f hf) t) w
  have h2 : (ingWhole G w).ing.frames.foldl (fun t f => lateCount f t) (ingWhole G w) = lateCount G' (ingWhole G w) := by
    rw [hw']; exact foldl_newest _ (fun f hf t => lateCount_calm (calm_iff.1 hc f hf) t) _
  unfold settleIng
  dsimp only
  rw [h1, h2]

theorem lateCount_none {f : Frame} (h : f.lateSa = none) (s : State) : lateCount f s = s := by simp only [lateCount, h]

theorem ingWhole_tallied {f : Frame} (h : tallied f = true) (s : State) : ingWhole f s = s := by
  rw [tallied, Bool.not_eq_true'] at h
  rw [ingWhole, h]
  exact if_neg (by decide)

theorem ingWhole_counts {f : Frame} (h : tallied f = false) (s : State) :
    ingWhole f s = modFrame .ing f.link f.orderTag (fun x => { x with counted := true }) (wholeCount f s) := by
  rw [tallied, Bool.not_eq_false'] at h
  rw [ingWhole, if_pos h]

theorem pathOf_countStat (l : Nat) (stat : Option Nat) (s : State) (d : Dir) : pathOf (countStat l stat s) d = pathOf s d := by
  cases stat with
  | none => rfl
  | some i => exact pathOf_secyStat ..

theorem sameBut_tapFrame (f : Frame) (s : State) : sameBut [.que, .tel, .cnt, .evt] s (tapFrame f s) := by
  have hq : ∀ v, sameBut [.que, .tel, .cnt, .evt] s (setQue 4 v s) := fun v => by intro p hp; cases p <;> simp_all [Part.same]
  have hr : ∀ t, sameBut [.que, .tel, .cnt, .evt] t (raise .que 5 t) := fun t => by intro p hp; cases p <;> simp_all [Part.same]
  have hsent : ∀ v, sameBut [.que, .tel, .cnt, .evt] s (bump 0x29 (some f.link) (telBump 0x1D4 1 none (setQue 4 v s))) := fun v =>
    sameBut_trans (sameBut_trans (hq v) (sameBut_mono (sameBut_telBump 0x1D4 1 none _) (by decide)))
      (sameBut_mono (sameBut_bump 0x29 (some f.link) _) (by decide))
  have hlost : ∀ v, sameBut [.que, .tel, .cnt, .evt] s (bump 0x2A (some f.link) (raise .que 5 (setQue 4 v s))) := fun v =>
    sameBut_trans (sameBut_trans (hq v) (hr _)) (sameBut_mono (sameBut_bump 0x2A (some f.link) _) (by decide))
  unfold tapFrame
  extract_lets v r s1
  split
  · exact hsent _
  · exact hlost _

/-- A count touches no path. -/
theorem pathOf_wholeCount (f : Frame) (s : State) (d : Dir) : pathOf (wholeCount f s) d = pathOf s d := by
  have ht := sameBut_tapFrame f s
  unfold wholeCount
  split
  · exact pathOf_same (ht .egr (by decide)) (ht .ing (by decide))
  · exact pathOf_bump ..
  · rw [pathOf_bump, pathOf_countStat]
  · rw [pathOf_bump, pathOf_countStat]
  · rw [pathOf_bump, pathOf_countStat]
  · rfl

/-! What classification reads. -/

theorem ingClass_congr {s t : State} (hg : t.glb = s.glb) (hy : t.secys = s.secys) (he : t.ecfg = s.ecfg)
    (hr : (pathOf t .ing).rules = (pathOf s .ing).rules) (hs : (pathOf t .ing).shed = (pathOf s .ing).shed) (f : Frame) :
    ingClass t f = ingClass s f := by
  have hs : t.ing.shed = s.ing.shed := hs
  simp only [ingClass, ruleOf_congr he hr, etypeAt_ecfg he, tagOf_ecfg he, secyOf, hg, hy, hs]

theorem Parses.ingCls {s u : State} {l : Nat} {fd : BitVec 16} {bs : List Byte} {F : Frame} (h : Parses .ing s l fd bs F u) :
    ingClass u F = ingClass s (asWhole l fd bs) := by
  obtain ⟨_, _, _, rfl⟩ := h.whole
  exact ingClass_congr (h.same .glb (by decide)) (h.same .secys (by decide)) (h.same .ecfg (by decide)) h.rules h.shed _

/-- The frame with what its SecY and its descriptor say of it. -/
def knownBy (s : State) (F : Frame) : Frame :=
  { F with txp := ((secyOf s F.link).map (·.txp)).getD 0, rxp := ((secyOf s F.link).map (·.rxp)).getD 0, pport := F.fdIn.toNat % 64 }

section
variable {s u : State} {l : Nat} {fd : BitVec 16} {bs : List Byte} {flt : FrameFaults} {F : Frame}

/-- The state in which the frame is known. -/
def knows (s : State) (F : Frame) (u : State) : State := modFrame .ing F.link F.orderTag (fun _ => knownBy s F) u

theorem ingParse_disc {code : Nat} {stat : Option Nat} (h : Parses .ing s l fd bs F u) (hc : ingClass s (asWhole l fd bs) = .disc code stat) :
    ingParse l F.orderTag flt u = discardFrame .ing F code (countStat l stat (knows s F u)) := by
  obtain rfl := h.arrived.link
  have hsec : secyOf u F.link = secyOf s F.link := congrArg (fun m => smGet none m F.link) (h.same .secys (by decide) : u.secys = s.secys)
  simp only [ingParse, h.joins.frameOf, h.ingCls.trans hc, hsec, knows, knownBy]
  cases secyOf s F.link <;> rfl

theorem ingParse_fate {v : Fate} {stat : Option Nat} (h : Parses .ing s l fd bs F u) (hc : ingClass s (asWhole l fd bs) = .fate v stat) :
    ingParse l F.orderTag flt u =
      setFate .ing (knownBy s F) v (modFrame .ing F.link F.orderTag (fun x => { x with stat := stat }) (knows s F u)) := by
  obtain rfl := h.arrived.link
  have hsec : secyOf u F.link = secyOf s F.link := congrArg (fun m => smGet none m F.link) (h.same .secys (by decide) : u.secys = s.secys)
  simp only [ingParse, h.joins.frameOf, h.ingCls.trans hc, hsec, knows, knownBy]
  cases secyOf s F.link <;> rfl

theorem ingParse_look (h : Parses .ing s l fd bs F u) (hc : ingClass s (asWhole l fd bs) = .look) :
    ingParse l F.orderTag flt u = if atLimit u .ing F then telBump 0x1C8 1 (some l) (knows s F u)
      else ingLookup (knownBy s F) flt (knows s F u) := by
  have hgood := h.arrived.good
  obtain rfl := h.arrived.link
  have hsec : secyOf u F.link = secyOf s F.link := congrArg (fun m => smGet none m F.link) (h.same .secys (by decide) : u.secys = s.secys)
  simp only [ingParse, h.joins.frameOf, h.ingCls.trans hc, hsec, knows, knownBy, hgood, Bool.and_false, Bool.false_eq_true, if_false]
  cases secyOf s F.link <;> rfl

/-! The row. -/

theorem ingAdvance_whole {w : State} {G : Frame} (hu : Joins .ing s F u) (hF : Arrived l bs F) (hw : ingParse l F.orderTag flt u = w)
    (hj : Joins .ing s G w) (hG : Arrived l bs G) (hb : bs.length ≤ 64) : ingAdvance false flt u = w := by
  have htag : G.orderTag = F.orderTag := by rw [hj.tag, hu.tag, hF.link, hG.link]
  have hlast : u.ing.frames.getLast? = some F := hu.getLast
  have hnew : frameOf w .ing l F.orderTag = some G := by rw [← htag, ← hG.link]; exact hj.frameOf
  have hshort : ¬ 16384 < G.bytes.length := by rw [hG.bytes]; omega
  unfold ingAdvance
  simp only [hlast, hF.ended, hF.link, Bool.not_false, Bool.true_or, Bool.and_self, if_true, hw, hnew, hshort, hG.ended, hG.good,
    Bool.not_true, Bool.false_eq_true, if_false, ite_self]

/-- LIN_RX_FRAME of a whole frame: what classification makes of the path (`w`), what the row's end counts (`v`), and how it ends. -/
theorem linRx_whole {w v : State} {G G' H : Frame} (h : Enters s .ing l) (h0 : 0 < bs.length) (hb : bs.length ≤ 64)
    (hp : Parses .ing s l fd bs F (entered .ing (wholeSeg l fd bs) bs s))
    (hw : ingParse l F.orderTag flt (entered .ing (wholeSeg l fd bs) bs s) = w) (hj : Joins .ing s G w) (hG : Arrived l bs G)
    (h' : Joins .ing s G' (ingWhole G w)) (hv : lateCount G' (ingWhole G w) = v) (hH : Joins .ing s H v) (haH : Arrived l bs H) :
    ∃ t, exec (.linRxFrame [wholeSeg l fd bs] flt) s = .next t ∧ Ends .ing s l bs H v t := by
  have hport : portSeg .ing (wholeSeg l fd bs) s = (wholeSeg l fd bs, takeWord .ing (useSkid .ing s)) := by
    unfold portSeg
    rw [if_pos (h.taken _ rfl)]
    rfl
  have hact : segAct s.ing.isOpen (wholeSeg l fd bs) = .start bs true := by
    rw [show s.ing.isOpen = false from h.shut]; exact segAct_whole h0 hb
  have hseg : ingSeg flt s (wholeSeg l fd bs) = ingAdvance false flt (entered .ing (wholeSeg l fd bs) bs s) := by
    unfold ingSeg
    rw [hport]
    dsimp only
    rw [hact]
    rfl
  have hfinal : settleIng ([wholeSeg l fd bs].foldl (ingSeg flt) s) = settlePath .ing v := by
    rw [List.foldl_cons, List.foldl_nil, hseg, ingAdvance_whole hp.joins hp.arrived hw hj hG hb, settleIng_newest hj h.calm h', hv]
  refine ⟨settle (settlePath .ing v), (run_high h.high).trans ?_, ends_of_joins hH h.calm haH⟩
  rw [hfinal]
  rfl

/-- A frame whose row has nothing to count at its end. -/
theorem linRx_quiet {w : State} {G : Frame} (h : Enters s .ing l) (h0 : 0 < bs.length) (hb : bs.length ≤ 64)
    (hp : Parses .ing s l fd bs F (entered .ing (wholeSeg l fd bs) bs s))
    (hw : ingParse l F.orderTag flt (entered .ing (wholeSeg l fd bs) bs s) = w) (hj : Joins .ing s G w) (hG : Arrived l bs G)
    (ht : tallied G = true) (hl : G.lateSa = none) :
    ∃ t, exec (.linRxFrame [wholeSeg l fd bs] flt) s = .next t ∧ Ends .ing s l bs G w t :=
  have hi := ingWhole_tallied ht w
  linRx_whole h h0 hb hp hw hj hG (G' := G) (by rw [hi]; exact hj) (by rw [hi]; exact lateCount_none hl w) hj hG

/-- A frame that goes on without the lanes is counted at the row's end. -/
theorem linRx_counts {w : State} {G : Frame} (h : Enters s .ing l) (h0 : 0 < bs.length) (hb : bs.length ≤ 64)
    (hp : Parses .ing s l fd bs F (entered .ing (wholeSeg l fd bs) bs s))
    (hw : ingParse l F.orderTag flt (entered .ing (wholeSeg l fd bs) bs s) = w) (hj : Joins .ing s G w) (hG : Arrived l bs G)
    (ht : tallied G = false) (hl : G.lateSa = none) :
    ∃ t, exec (.linRxFrame [wholeSeg l fd bs] flt) s = .next t ∧ (∃ b, joined .ing l bs { G with counted := true, queued := b } s t) ∧
      sameBut [.ing, .que, .evt] (wholeCount G w) t ∧ ∀ q, q ≠ 0 → q ≠ 3 → queOf t q = queOf (wholeCount G w) q := by
  have hmod := (hj.of_path (pathOf_wholeCount G w .ing)).modFrame (g := fun x => { x with counted := true }) rfl rfl
  have hsame := sameBut_modFrame .ing G.link G.orderTag (fun x => { x with counted := true }) (wholeCount G w)
  have hi := ingWhole_counts ht w
  obtain ⟨t, hx, hE⟩ := linRx_whole (G' := { G with counted := true }) (H := { G with counted := true }) h h0 hb hp hw hj hG
    (by rw [hi]; exact hmod) (by rw [hi]; exact lateCount_none hl _) hmod ⟨hG.link, hG.bytes, hG.ended, hG.good, hG.here⟩
  exact ⟨t, hx, hE.frame, sameBut_trans (sameBut_mono hsame (by decide)) (sameBut_mono hE.same (by decide)), fun q h1 h2 =>
    (hE.ques q h1 h2).trans (queOf_que (hsame .que (by decide)) q)⟩

end

end Sys2Proof.Machine
end

section
/-! The verdicts of ingress and the rows that they lead to. -/
namespace Sys2Proof.Machine

section
variable {s : State} {l : Nat} {fd : BitVec 16} {bs : List Byte} {flt : FrameFaults}

theorem arrived_known {F : Frame} (s : State) (h : Arrived l bs F) : Arrived l bs (knownBy s F) := ⟨h.link, h.bytes, h.ended, h.good, h.here⟩

theorem joins_knows {u : State} {F : Frame} (h : Joins .ing s F u) : Joins .ing s (knownBy s F) (knows s F u) :=
  h.modFrame (g := fun _ => knownBy s F) rfl rfl

theorem sameBut_knows (F : Frame) (u : State) : sameBut [.ing] u (knows s F u) := sameBut_modFrame .ing _ _ _ u

/-- A discard of a frame that has come in whole. -/
theorem linRx_disc {code : Nat} {stat : Option Nat} (h : mayStart s .ing l = true) (h0 : 0 < bs.length) (hb : bs.length ≤ 64)
    (hc : ingClass s (asWhole l fd bs) = .disc code stat) :
    ∃ u, sameBut [.ing, .que, .tel] s u ∧ ∃ t, exec (.linRxFrame [wholeSeg l fd bs] flt) s = .next t ∧
      ∃ f, joined .ing l bs f s t ∧ f.fate = .discard ∧ t.cnt = (bump (0x20 + code) (some l) (countStat l stat u)).cnt ∧
        sameBut [.ing, .que, .tel, .cnt, .evt] (countStat l stat u) t := by
  obtain ⟨henter, hlim⟩ := enters_of_mayStart h
  obtain ⟨F, hp⟩ := parses_of_enters (fd := fd) (bs := bs) henter hb
  have hk := joins_knows (s := s) hp.joins
  have hj := ((hk.of_path (pathOf_countStat l stat _ _)).of_path (pathOf_bump (dirCnt .ing code) (some F.link) _ _)).setFate (G := F) rfl rfl
    (by rw [show (knownBy s F).link = l from hp.arrived.link]; exact hlim) .discard
  have hsame := sameBut_discardFrame .ing F code (countStat l stat (knows s F (entered .ing (wholeSeg l fd bs) bs s)))
  have hcnt := discardFrame_cnt .ing F code (countStat l stat (knows s F (entered .ing (wholeSeg l fd bs) bs s)))
  have hA : Arrived l bs { knownBy s F with fate := .discard, started := (knownBy s F).started && Fate.discard != .discard } :=
    ⟨hp.arrived.link, hp.arrived.bytes, hp.arrived.ended, hp.arrived.good, by simp⟩
  have hlate : F.lateSa = none := by obtain ⟨_, _, _, rfl⟩ := hp.whole; rfl
  obtain ⟨t, hx, hE⟩ := linRx_quiet (flt := flt) henter h0 hb hp (ingParse_disc hp hc) hj hA (by simp [tallied, isDead]) hlate
  obtain ⟨b, hjoin⟩ := hE.frame
  rw [hp.arrived.link] at hcnt
  exact ⟨_, sameBut_trans hp.same (sameBut_mono (sameBut_knows F _) (by decide)), t, hx, _, hjoin, rfl, (hE.same .cnt (by decide) : t.cnt = _).trans hcnt,
    sameBut_trans (sameBut_mono hsame (by decide)) (sameBut_mono hE.same (by decide))⟩

theorem linRx_discards {code : Nat} (h : mayStart s .ing l = true) (h0 : 0 < bs.length) (hb : bs.length ≤ 64)
    (hc : ingClass s (asWhole l fd bs) = .disc code none) :
    ∃ t, exec (.linRxFrame [wholeSeg l fd bs] flt) s = .next t ∧ ∃ f, joined .ing l bs f s t ∧ f.fate = .discard ∧
      countedOnly (0x20 + code) 1 s t ∧ sameBut [.ing, .que, .tel, .cnt, .evt] s t := by
  obtain ⟨u, hu, t, hx, f, hj, hf, hcnt, hsame⟩ := linRx_disc (flt := flt) h h0 hb hc
  exact ⟨t, hx, f, hj, hf, countedOnly_bump (hu .cnt (by decide)) hcnt, sameBut_trans (sameBut_mono hu (by decide)) hsame⟩

theorem linRx_discardsOf {code i : Nat} {y : Secy} (h : mayStart s .ing l = true) (hb : bs.length = 64) (hy : secyOf s l = some y)
    (hcode : code < 0x20) (hc : ingClass s (asWhole l fd bs) = .disc code (some i)) :
    ∃ t, exec (.linRxFrame [wholeSeg l fd bs] flt) s = .next t ∧ ∃ f, joined .ing l bs f s t ∧ f.fate = .discard ∧
      counted (0x20 + code) 1 s t ∧ secyOf t l = some (yStat i y) := by
  obtain ⟨u, hu, t, hx, f, hj, hf, hcnt, hsame⟩ := linRx_disc (flt := flt) h (by omega) (by omega) hc
  obtain ⟨hcount, hstat⟩ := counted_stat (by omega) hy (hu .cnt (by decide)) (hu .secys (by decide)) hcnt (hsame .secys (by decide))
  exact ⟨t, hx, f, hj, hf, hcount, hstat⟩

/-- The frame that goes on without the lanes, before its count. -/
structure Passing (l : Nat) (fd : BitVec 16) (bs : List Byte) (v : Fate) (stat : Option Nat) (G : Frame) : Prop where
  arrived : Arrived l bs G
  fate : G.fate = v
  stat : G.stat = stat
  port : G.pport = fd.toNat % 64
  short : G.tooLong = false
  uncounted : G.counted = false
  unparked : G.parked = none
  unlate : G.lateSa = none

/-- The fates of frames that the lanes do not decide. -/
def Fate.plain (v : Fate) : Bool := v == .bypass || v == .uncontrolled || v == .unmodified || v == .unchecked || v == .tapped

theorem Passing.tallied {v : Fate} {stat : Option Nat} {G : Frame} (h : Passing l fd bs v stat G) (hv : v.plain = true) :
    Machine.tallied G = false := by
  have hsump : inSump G = false := by
    unfold inSump
    split
    · next n hn => rw [h.fate.symm.trans hn] at hv; cases hv
    · rfl
  have hcrypt : v ≠ .crypt := by rintro rfl; cases hv
  have hverified : v ≠ .verified := by rintro rfl; cases hv
  have hdiscard : v ≠ .discard := by rintro rfl; cases hv
  simp [Machine.tallied, h.arrived.ended, h.arrived.good, h.short, h.uncounted, h.fate, hsump, isDead, h.unparked, hcrypt, hverified, hdiscard]

/-- A frame that goes on without the lanes, by classification. -/
theorem linRx_passes {v : Fate} {stat : Option Nat} (h : mayStart s .ing l = true) (hb : bs.length = 64)
    (hc : ingClass s (asWhole l fd bs) = .fate v stat) (hv : v.plain = true) :
    ∃ w G, sameBut [.ing, .que, .tel] s w ∧ (∀ q, q ≠ 0 → queOf w q = queOf s q) ∧ Passing l fd bs v stat G ∧
      ∃ t, exec (.linRxFrame [wholeSeg l fd bs] flt) s = .next t ∧ (∃ f, joined .ing l bs f s t ∧ f.fate = v) ∧
        sameBut [.ing, .que, .evt] (wholeCount G w) t ∧ ∀ q, q ≠ 0 → q ≠ 3 → queOf t q = queOf (wholeCount G w) q := by
  obtain ⟨henter, hlim⟩ := enters_of_mayStart h
  obtain ⟨F, hp⟩ := parses_of_enters (fd := fd) (bs := bs) henter (by omega)
  have hj := ((joins_knows (s := s) hp.joins).modFrame (g := fun x => { x with stat := stat }) rfl rfl).setFate (G := knownBy s F) rfl rfl
    (by rw [show (knownBy s F).link = l from hp.arrived.link]; exact hlim) v
  have hG : Passing l fd bs v stat { knownBy s F with stat := stat, fate := v, started := (knownBy s F).started && v != .discard } := by
    have hA := hp.arrived
    obtain ⟨_, _, _, rfl⟩ := hp.whole
    exact ⟨⟨rfl, rfl, rfl, rfl, rfl⟩, rfl, rfl, rfl, rfl, rfl, rfl, rfl⟩
  obtain ⟨t, hx, ⟨b, hjoin⟩, hsame, hque⟩ := linRx_counts (flt := flt) henter (by omega) (by omega) hp (ingParse_fate hp hc) hj hG.arrived
    (hG.tallied hv) hG.unlate
  have hs : sameBut [.ing] (entered .ing (wholeSeg l fd bs) bs s) (setFate .ing (knownBy s F) v
      (modFrame .ing F.link F.orderTag (fun x => { x with stat := stat }) (knows s F (entered .ing (wholeSeg l fd bs) bs s)))) :=
    sameBut_trans (sameBut_trans (sameBut_knows F _) (sameBut_modFrame .ing _ _ _ _)) (sameBut_setFate .ing _ _ _)
  exact ⟨_, _, sameBut_trans hp.same (sameBut_mono hs (by decide)), fun q hq => (queOf_que (hs .que (by decide)) q).trans (hp.ques q hq), hG, t, hx,
    ⟨_, hjoin, rfl⟩, hsame, hque⟩

/-- A frame of a fate that one counter and its SecY's statistic count. -/
theorem linRx_passesOf {v : Fate} {stat : Option Nat} {code : Nat} (h : mayStart s .ing l = true) (hb : bs.length = 64)
    (hc : ingClass s (asWhole l fd bs) = .fate v stat) (hv : v.plain = true)
    (hcount : ∀ G w, Passing l fd bs v stat G → wholeCount G w = bump code (some l) (countStat l stat w)) :
    ∃ t, exec (.linRxFrame [wholeSeg l fd bs] flt) s = .next t ∧ (∃ f, joined .ing l bs f s t ∧ f.fate = v) ∧
      ∃ w, sameBut [.ing, .que, .tel] s w ∧ t.cnt = (bump code (some l) (countStat l stat w)).cnt ∧ t.secys = (countStat l stat w).secys ∧
        sameBut [.ing, .que, .tel, .cnt, .evt] (countStat l stat w) t := by
  obtain ⟨w, G, hw, -, hG, t, hx, hf, hsame, -⟩ := linRx_passes (flt := flt) h hb hc hv
  rw [hcount G w hG] at hsame
  have hbump := sameBut_bump code (some l) (countStat l stat w)
  exact ⟨t, hx, hf, w, hw, hsame .cnt (by decide), (hsame .secys (by decide) : t.secys = _).trans (hbump .secys (by decide)),
    sameBut_trans (sameBut_mono hbump (by decide)) (sameBut_mono hsame (by decide))⟩

theorem wholeCount_bypass {G : Frame} (h : Passing l fd bs .bypass none G) (w : State) : wholeCount G w = bump 0x2C (some l) w := by
  simp only [wholeCount, h.fate, h.arrived.link]

theorem wholeCount_unmodified {stat : Option Nat} {G : Frame} (h : Passing l fd bs .unmodified stat G) (w : State) :
    wholeCount G w = bump 0x2E (some l) (countStat l stat w) := by simp only [wholeCount, h.fate, h.arrived.link, h.stat]

theorem wholeCount_uncontrolled {stat : Option Nat} {G : Frame} (h : Passing l fd bs .uncontrolled stat G) (w : State) :
    wholeCount G w = bump 0x2F (some l) (countStat l stat w) := by simp only [wholeCount, h.fate, h.arrived.link, h.stat]

theorem wholeCount_unchecked {stat : Option Nat} {G : Frame} (h : Passing l fd bs .unchecked stat G) (w : State) :
    wholeCount G w = bump 0x38 (some l) (countStat l stat w) := by simp only [wholeCount, h.fate, h.arrived.link, h.stat]

/-- One that no SecY's statistic counts. -/
theorem linRx_counted {v : Fate} {code : Nat} (h : mayStart s .ing l = true) (hb : bs.length = 64)
    (hc : ingClass s (asWhole l fd bs) = .fate v none) (hv : v.plain = true)
    (hcount : ∀ G w, Passing l fd bs v none G → wholeCount G w = bump code (some l) w) :
    ∃ t, exec (.linRxFrame [wholeSeg l fd bs] flt) s = .next t ∧ ∃ f, joined .ing l bs f s t ∧ f.fate = v ∧
      countedOnly code 1 s t ∧ sameBut [.ing, .que, .tel, .cnt, .evt] s t := by
  obtain ⟨t, hx, ⟨f, hj, hf⟩, w, hw, hcnt, -, hsame⟩ := linRx_passesOf (flt := flt) h hb hc hv hcount
  exact ⟨t, hx, f, hj, hf, countedOnly_bump (hw .cnt (by decide)) hcnt, sameBut_trans (sameBut_mono hw (by decide)) hsame⟩

/-- One that a SecY's statistic counts. -/
theorem linRx_countedOf {v : Fate} {code i : Nat} {y : Secy} (h : mayStart s .ing l = true) (hb : bs.length = 64) (hy : secyOf s l = some y)
    (hc : ingClass s (asWhole l fd bs) = .fate v (some i)) (hv : v.plain = true) (hcode : code < 0x54)
    (hcount : ∀ G w, Passing l fd bs v (some i) G → wholeCount G w = bump code (some l) (countStat l (some i) w)) :
    ∃ t, exec (.linRxFrame [wholeSeg l fd bs] flt) s = .next t ∧ ∃ f, joined .ing l bs f s t ∧ f.fate = v ∧
      counted code 1 s t ∧ secyOf t l = some (yStat i y) := by
  obtain ⟨t, hx, ⟨f, hj, hf⟩, w, hw, hcnt, hsec, -⟩ := linRx_passesOf (flt := flt) h hb hc hv hcount
  obtain ⟨hcount, hstat⟩ := counted_stat hcode hy (hw .cnt (by decide)) (hw .secys (by decide)) hcnt hsec
  exact ⟨t, hx, f, hj, hf, hcount, hstat⟩

/-- An MKA frame goes to CTQ where it fits (R147). -/
theorem tapFrame_fits {G : Frame} (hlen : G.bytes.length = 64) (w : State) (hq : queFits 4 (queOf w 4) 2 = true) :
    tapFrame G w = bump 0x29 (some G.link) (telBump 0x1D4 1 none
      (setQue 4 (Que.add { queOf w 4 with items := (queOf w 4).items ++ [bodyItem 2 G.pport G.link (now w) G.bytes] } 2) w)) := by
  have hun : itemUnits G.bytes = 2 := by rw [itemUnits, hlen]
  have hlong : ¬ 1536 < G.bytes.length := by omega
  simp only [tapFrame, hlong, if_false, queOffer, hun, hq, if_true]

theorem linRx_taps (h : mayStart s .ing l = true) (hb : bs.length = 64) (hc : ingClass s (asWhole l fd bs) = .fate .tapped none)
    (hq : queFits 4 (queOf s 4) 2 = true) :
    ∃ t, exec (.linRxFrame [wholeSeg l fd bs] flt) s = .next t ∧ ∃ f, joined .ing l bs f s t ∧ f.fate = .tapped ∧ countedOnly 0x29 1 s t ∧
      (queOf t 4).items = (queOf s 4).items ++ [bodyItem 2 (fd.toNat % 64) l (now s) bs] ∧ (queOf t 4).wr = (queOf s 4).wr + 2 ∧
      sameBut [.ing, .que, .tel, .cnt, .evt] s t := by
  obtain ⟨w, G, hw, hwq, hG, t, hx, ⟨f, hj, hf⟩, hsame, hque⟩ := linRx_passes (flt := flt) h hb hc rfl
  have hq4 : queOf w 4 = queOf s 4 := hwq 4 (by decide)
  have htap : wholeCount G w = _ := (show wholeCount G w = tapFrame G w by simp only [wholeCount, hG.fate]).trans
    (tapFrame_fits (by rw [hG.arrived.bytes, hb]) w (by rw [hq4]; exact hq))
  rw [hG.arrived.link, hG.arrived.bytes, hG.port, hq4, show now w = now s by rw [now, (hw .time (by decide) : w.time = s.time)]; rfl] at htap
  generalize hv : Que.add { queOf s 4 with items := (queOf s 4).items ++ [bodyItem 2 (fd.toNat % 64) l (now s) bs] } 2 = v at htap
  have hset : sameBut [.que] w (setQue 4 v w) := by intro p hp; cases p <;> simp_all [Part.same]
  have htel := sameBut_telBump 0x1D4 1 none (setQue 4 v w)
  have hbump := sameBut_bump 0x29 (some l) (telBump 0x1D4 1 none (setQue 4 v w))
  have hlast : queOf t 4 = v := by
    rw [hque 4 (by decide) (by decide), htap, queOf_que (hbump .que (by decide)), queOf_que (htel .que (by decide)), queOf_setQue, if_pos rfl]
  refine ⟨t, hx, f, hj, hf, countedOnly_bump (u := telBump 0x1D4 1 none (setQue 4 v w)) ?_ ((hsame .cnt (by decide)).trans (by rw [htap])),
    by rw [hlast, ← hv]; rfl, by rw [hlast, ← hv]; rfl, ?_⟩
  · exact (htel .cnt (by decide) : _ = (setQue 4 v w).cnt).trans (hw .cnt (by decide))
  · rw [htap] at hsame
    exact sameBut_trans (sameBut_mono hw (by decide)) (sameBut_trans (sameBut_mono hset (by decide)) (sameBut_trans (sameBut_mono htel (by decide))
      (sameBut_trans (sameBut_mono hbump (by decide)) (sameBut_mono hsame (by decide)))))

/-- At the in-flight limit of its link a frame waits for a position. -/
theorem linRx_full (h : mayEnter s .ing l = true) (hb : bs.length = 64)
    (hlim : 2048 ≤ (pathOf s .ing).frames.countP (fun x => x.link == l)) :
    ∃ t, exec (.linRxFrame [wholeSeg l fd bs] flt) s = .next t ∧ ∃ f, joined .ing l bs f s t ∧ f.fate = .wait none := by
  have henter := enters_of_mayEnter h
  obtain ⟨F, hp⟩ := parses_of_enters (fd := fd) (bs := bs) henter (by omega)
  have hlimF : 2048 ≤ (pathOf s .ing).frames.countP (fun x => x.link == (knownBy s F).link) := by
    rw [show (knownBy s F).link = l from hp.arrived.link]; exact hlim
  have hk := joins_knows (s := s) hp.joins
  have hlate : (knownBy s F).lateSa = none ∧ (knownBy s F).fate = .wait none := by obtain ⟨_, _, _, rfl⟩ := hp.whole; exact ⟨rfl, rfl⟩
  suffices hs : ∃ G, Joins .ing s G (ingParse l F.orderTag flt (entered .ing (wholeSeg l fd bs) bs s)) ∧ Arrived l bs G ∧
      G.fate = .wait none ∧ G.lateSa = none by
    obtain ⟨G, hj, hG, hf, hl⟩ := hs
    obtain ⟨t, hx, hE⟩ := linRx_quiet henter (by omega) (by omega) hp rfl hj hG (by simp [tallied, hf, inSump]) hl
    obtain ⟨b, hjoin⟩ := hE.frame
    exact ⟨t, hx, _, hjoin, hf⟩
  have hgone : ∀ {st p}, Arrived l bs { knownBy s F with stat := st, fate := .wait none, parked := p } := fun {st p} =>
    ⟨hp.arrived.link, hp.arrived.bytes, hp.arrived.ended, hp.arrived.good, hp.arrived.here⟩
  cases hc : ingClass s (asWhole l fd bs) with
  | disc code stat =>
    rw [ingParse_disc hp hc]
    exact ⟨_, ((hk.of_path (pathOf_countStat l stat _ _)).of_path (pathOf_bump _ _ _ _)).setFate_full (G := F) rfl rfl hlimF .discard, hgone,
      rfl, hlate.1⟩
  | fate v stat =>
    rw [ingParse_fate hp hc]
    exact ⟨_, (hk.modFrame (g := fun x => { x with stat := stat }) rfl rfl).setFate_full (G := knownBy s F) rfl rfl hlimF v, hgone, rfl, hlate.1⟩
  | look =>
    have hat : atLimit (entered .ing (wholeSeg l fd bs) bs s) .ing F = true := by
      rw [hp.joins.atLimit rfl rfl]; exact decide_eq_true hlimF
    rw [ingParse_look hp hc, if_pos hat]
    exact ⟨_, hk.of_path (pathOf_telBump _ _ _ _ _), arrived_known s hp.arrived, hlate.2, hlate.1⟩

/-! The verdicts, in the order of the checks. -/

theorem ingClass_rule {b : Bool} (hb : bs.length = 64) (hm : s.glb.mode ≠ .lockout) (hr : ruleOf s .ing l bs = some b) :
    ingClass s (asWhole l fd bs) = if b then .disc 0xB none else .fate .bypass none := by
  cases b <;> simp [ingClass, asWhole, wholeFrame, newFrame, hb, hm, hr]

/-- Past its SecY and its port, a frame without a SecTAG. -/
theorem ingClass_noTag {y : Secy} (hb : bs.length = 64) (hm : s.glb.mode ≠ .lockout) (hr : ruleOf s .ing l bs = none)
    (hc : s.glb.mode ≠ .cold) (hy : secyOf s l = some y) (hon : y.st = .on) (hport : bitAt s.glb.prt (fd.toNat % 64) = true)
    (ht : tagOf s bs (txpClear y.txp) (isXpn (txpSuite y.txp)) = none) :
    ingClass s (asWhole l fd bs) = if txpMka y.txp = true ∧ etypeAt s bs (txpClear y.txp) = 0x888E then .fate .tapped none
      else if s.glb.mode = .provision ∧ txpEarly y.txp = false then .disc 4 none else noTagFate y := by
  simp [ingClass, asWhole, wholeFrame, newFrame, hb, hm, hr, hc, hy, hon, hport, ht]

/-- One with a SecTAG. -/
theorem ingClass_tag {y : Secy} {k : Tag} (hb : bs.length = 64) (hm : s.glb.mode ≠ .lockout) (hr : ruleOf s .ing l bs = none)
    (hc : s.glb.mode ≠ .cold) (hy : secyOf s l = some y) (hon : y.st = .on) (hport : bitAt s.glb.prt (fd.toNat % 64) = true)
    (he : s.glb.mode = .provision → txpEarly y.txp = true) (ht : tagOf s bs (txpClear y.txp) (isXpn (txpSuite y.txp)) = some k) :
    ingClass s (asWhole l fd bs) = if k.good = false then .disc 0x10 (some 6)
      else if rxpVal y.rxp = 0 then (if k.bit 2 = true then .disc 0x17 none else .fate .unchecked none)
      else if txpPrio y.txp < s.ing.shed then .disc 0x11 none else .look := by
  have he' : ¬ (s.glb.mode = .provision ∧ txpEarly y.txp = false) := fun h => by simp [he h.1] at h
  simp [ingClass, asWhole, wholeFrame, newFrame, hb, hm, hr, hc, hy, hon, hport, ht, he']

end

end Sys2Proof.Machine
end

section
/-! The ingress lookups: steps 15 to 19 of R125. -/
namespace Sys2Proof.Machine

theorem lookLine_counted {s : State} {n : Nat} (h : isResident s n = true) (c : Nat) (miss : Option Nat) :
    lookLine (some c) miss n 0 s = (.hit, touchLine n (bump c none s)) := by
  simp [lookLine, h, bumpOpt]

/-- The frame and the state with which the ingress lookups begin. -/
structure IngLooks (s : State) (l : Nat) (fd : BitVec 16) (bs : List Byte) (y : Secy) (F : Frame) (v : State) : Prop where
  joins : Joins .ing s F v
  arrived : Arrived l bs F
  waits : F.fate = .wait none
  txp : F.txp = y.txp
  port : F.pport = fd.toNat % 64
  short : F.tooLong = false
  uncounted : F.counted = false
  unparked : F.parked = none
  unlate : F.lateSa = none
  same : sameBut [.ing, .que, .tel] s v

section
variable {s v : State} {l : Nat} {fd : BitVec 16} {bs : List Byte} {flt : FrameFaults} {F : Frame} {y : Secy}

theorem linRx_looks (h : mayStart s .ing l = true) (hb : bs.length = 64) (hy : secyOf s l = some y)
    (hc : ingClass s (asWhole l fd bs) = .look) :
    ∃ F₀ F v, Parses .ing s l fd bs F₀ (entered .ing (wholeSeg l fd bs) bs s) ∧ IngLooks s l fd bs y F v ∧
      ingParse l F₀.orderTag flt (entered .ing (wholeSeg l fd bs) bs s) = ingLookup F flt v := by
  obtain ⟨henter, hlim⟩ := enters_of_mayStart h
  obtain ⟨F, hp⟩ := parses_of_enters (fd := fd) (bs := bs) henter (by omega)
  have hbelow : atLimit (entered .ing (wholeSeg l fd bs) bs s) .ing F = false := by
    rw [hp.joins.atLimit rfl rfl, hp.arrived.link]; simpa using hlim
  have hparse := ingParse_look (flt := flt) hp hc
  rw [hbelow, if_neg (by decide)] at hparse
  have hk : (knownBy s F).txp = y.txp := by rw [knownBy, hp.arrived.link, hy]; rfl
  have harr := arrived_known s hp.arrived
  have hsame := sameBut_trans hp.same (sameBut_mono (sameBut_knows (s := s) F _) (by decide))
  have hj := joins_knows (s := s) hp.joins
  refine ⟨F, knownBy s F, _, hp, ?_, hparse⟩
  obtain ⟨_, _, _, rfl⟩ := hp.whole
  exact ⟨hj, harr, rfl, hk, rfl, rfl, rfl, rfl, rfl, hsame⟩

/-! The SecY's line. -/

/-- The frame in the state in which its SecY's line is found. -/
theorem IngLooks.touch (h : IngLooks s l fd bs y F v) (n : Nat) :
    Joins .ing s F (touchLine n v) ∧ sameBut [.ing, .que, .tel, .cis] s (touchLine n v) :=
  have ht := sameBut_touchLine n v
  ⟨h.joins.of_path (pathOf_same (ht .egr (by decide)) (ht .ing (by decide))),
    sameBut_trans (sameBut_mono h.same (by decide)) (sameBut_mono ht (by decide))⟩

theorem IngLooks.resident (h : IngLooks s l fd bs y F v) (n j : Nat) : isResident (touchLine n v) j = isResident s j := by
  rw [isResident, isResident, cline, cline, touchLine_lines, (h.same .cis (by decide) : v.cis = s.cis)]

theorem sciOf_congr {t : State} (h : t.sct = s.sct) (l : Nat) (bs : List Byte) (k : Tag) : sciOf t l bs k = sciOf s l bs k := by
  simp only [sciOf, scsOfLink, scOf, h]

theorem findSc_congr {t : State} (h : t.sct = s.sct) (l : Nat) (sci : W64) : findSc t l sci = findSc s l sci := by simp only [findSc, h]

/-- A frame with a good SecTAG whose SecY is resident, and the SCI that it names. -/
structure Tagged (s : State) (l : Nat) (bs : List Byte) (flt : FrameFaults) (y : Secy) (k : Tag) (sci : W64) : Prop where
  secy : secyOf s l = some y
  tag : tagOf s bs (txpClear y.txp) (isXpn (txpSuite y.txp)) = some k
  there : isResident s (secyLine l) = true
  sound : flt.secyEcc = 0
  sci : sciOf s l bs k = some sci

/-- What the lookup of the SecY's line gives. -/
structure Found (s : State) (l : Nat) (bs : List Byte) (y : Secy) (k : Tag) (sci : W64) (F : Frame) (u : State) : Prop where
  secy : secyOf u F.link = some y
  tag : tagOf u F.bytes (txpClear F.txp) (isXpn (txpSuite F.txp)) = some k
  names : sciOf u F.link F.bytes k = some sci
  sc : findSc u F.link sci = findSc s l sci
  rx : ∀ r, rxOf u r = rxOf s r

variable {k : Tag} {sci : W64}

theorem ingLookup_secy (h : IngLooks s l fd bs y F v) (hk : Tagged s l bs flt y k sci) :
    lookLine none none (secyLine F.link) flt.secyEcc v = (.hit, touchLine (secyLine l) v) ∧
      Found s l bs y k sci F (touchLine (secyLine l) v) := by
  have hr : isResident v (secyLine l) = true := by
    rw [isResident, cline, (h.same .cis (by decide) : v.cis = s.cis)]; exact hk.there
  have hs := (h.touch (secyLine l)).2
  have hsct : (touchLine (secyLine l) v).sct = s.sct := hs .sct (by decide)
  rw [h.arrived.link, hk.sound]
  refine ⟨lookLine_hit hr _, ?_, ?_, ?_, ?_, fun r => ?_⟩
  · rw [h.arrived.link]
    exact hk.secy ▸ congrArg (fun m => smGet none m l) (hs .secys (by decide) : (touchLine (secyLine l) v).secys = s.secys)
  · rw [h.arrived.bytes, h.txp, tagOf_ecfg (hs .ecfg (by decide))]; exact hk.tag
  · rw [h.arrived.link, h.arrived.bytes, sciOf_congr hsct]; exact hk.sci
  · rw [h.arrived.link, findSc_congr hsct]
  · exact congrArg (fun m => smGet none m r) (hs .rx (by decide) : (touchLine (secyLine l) v).rx = s.rx)

/-- No SC of the link has the frame's SCI. -/
theorem ingLookup_noSc (h : IngLooks s l fd bs y F v) (hk : Tagged s l bs flt y k sci) (hc : findSc s l sci = none) :
    ingLookup F flt v = uncheckedOr F y k 7 0x12 8 (touchLine (secyLine l) v) := by
  obtain ⟨hlook, hu⟩ := ingLookup_secy h hk
  simp only [ingLookup, hlook, hu.secy, hu.tag, hu.names, hu.sc, hc]

/-- The SC has no enabled SA at the frame's AN. -/
theorem ingLookup_noSa {c : Nat} (h : IngLooks s l fd bs y F v) (hk : Tagged s l bs flt y k sci) (hc : findSc s l sci = some c)
    (ha : ∀ a, rxOf s (4 * c + k.tci % 4) = some a → a.enabled = false) :
    ingLookup F flt v = uncheckedOr F y k 9 0x13 10 (touchLine (secyLine l) v) := by
  obtain ⟨hlook, hu⟩ := ingLookup_secy h hk
  simp only [ingLookup, hlook, hu.secy, hu.tag, hu.names, hu.sc, hc, hu.rx]
  cases hx : rxOf s (4 * c + k.tci % 4) with
  | none => rfl
  | some a => simp only [ha a hx, Bool.false_eq_true, if_false]

/-- The frame as it has selected its SA. -/
def selecting (r : Nat) (sci : W64) (F : Frame) : Frame := { F with saIdx := r, sci := sci }

theorem ingLookup_sa {c : Nat} {a : Sa} (h : IngLooks s l fd bs y F v) (hk : Tagged s l bs flt y k sci) (hc : findSc s l sci = some c)
    (ha : rxOf s (4 * c + k.tci % 4) = some a) (he : a.enabled = true) :
    ingLookup F flt v = ingFetch (selecting (4 * c + k.tci % 4) sci F) y k flt true (touchLine (secyLine l) v) := by
  obtain ⟨hlook, hu⟩ := ingLookup_secy h hk
  simp only [ingLookup, hlook, hu.secy, hu.tag, hu.names, hu.sc, hc, hu.rx, ha, he, if_true]
  rfl

/-! A frame that cannot be verified. -/

/-- Under CHECK, with C = 0, it is delivered unchecked. -/
theorem linRx_unchecked {i n m : Nat} (h : mayStart s .ing l = true) (hb : bs.length = 64) (hy : secyOf s l = some y)
    (hc : ingClass s (asWhole l fd bs) = .look) (hval : rxpVal y.rxp = 1) (hbit : k.bit 2 = false)
    (hlook : ∀ F v, IngLooks s l fd bs y F v → ingLookup F flt v = uncheckedOr F y k i n m (touchLine (secyLine l) v)) :
    ∃ t, exec (.linRxFrame [wholeSeg l fd bs] flt) s = .next t ∧ ∃ f, joined .ing l bs f s t ∧ f.fate = .unchecked ∧
      counted 0x38 1 s t ∧ secyOf t l = some (yStat i y) ∧ t.rx = s.rx := by
  obtain ⟨henter, hlim⟩ := enters_of_mayStart h
  obtain ⟨F₀, F, v, hp, hL, hw⟩ := linRx_looks (flt := flt) h hb hy hc
  obtain ⟨hj, hs⟩ := hL.touch (secyLine l)
  rw [hlook F v hL, uncheckedOr, if_pos (by rw [hval, hbit]; rfl)] at hw
  have hj' := (hj.modFrame (g := fun x => { x with stat := some i }) rfl rfl).setFate (G := F) rfl rfl
    (by rw [show ({ F with stat := some i } : Frame).link = l from hL.arrived.link]; exact hlim) .unchecked
  have hG : Passing l fd bs .unchecked (some i) { F with stat := some i, fate := .unchecked, started := F.started && Fate.unchecked != .discard } :=
    ⟨⟨hL.arrived.link, hL.arrived.bytes, hL.arrived.ended, hL.arrived.good, by simp [hL.arrived.here]⟩, rfl, rfl, hL.port, hL.short,
      hL.uncounted, hL.unparked, hL.unlate⟩
  obtain ⟨t, hx, ⟨b, hjoin⟩, hsame, -⟩ := linRx_counts henter (by omega) (by omega) hp hw hj' hG.arrived (hG.tallied rfl) hG.unlate
  have hmod : sameBut [.ing] (touchLine (secyLine l) v) (setFate .ing F .unchecked
      (modFrame .ing F.link F.orderTag (fun x => { x with stat := some i }) (touchLine (secyLine l) v))) :=
    sameBut_trans (sameBut_modFrame .ing _ _ _ _) (sameBut_setFate .ing _ _ _)
  have hall := sameBut_trans (sameBut_mono hs (by decide)) (sameBut_mono (qs := [.ing, .que, .tel, .cis]) hmod (by decide))
  generalize setFate .ing F .unchecked (modFrame .ing F.link F.orderTag (fun x => { x with stat := some i }) (touchLine (secyLine l) v)) = w at hsame hall
  rw [wholeCount_unchecked hG] at hsame
  have hbump := sameBut_bump 0x38 (some l) (countStat l (some i) w)
  have hstat := sameBut_secyStat l i w
  obtain ⟨hcount, hst⟩ := counted_stat (by decide) hy (hall .cnt (by decide)) (hall .secys (by decide)) (hsame .cnt (by decide))
    ((hsame .secys (by decide) : t.secys = _).trans (hbump .secys (by decide)))
  exact ⟨t, hx, _, hjoin, rfl, hcount, hst,
    (hsame .rx (by decide) : t.rx = _).trans ((hbump .rx (by decide)).trans ((hstat .rx (by decide)).trans (hall .rx (by decide))))⟩

/-- Otherwise it is discarded. -/
theorem linRx_unverified {i n m : Nat} (h : mayStart s .ing l = true) (hb : bs.length = 64) (hy : secyOf s l = some y)
    (hc : ingClass s (asWhole l fd bs) = .look) (hn : n < 0x20) (hval : rxpVal y.rxp = 2 ∨ k.bit 2 = true)
    (hlook : ∀ F v, IngLooks s l fd bs y F v → ingLookup F flt v = uncheckedOr F y k i n m (touchLine (secyLine l) v)) :
    ∃ t, exec (.linRxFrame [wholeSeg l fd bs] flt) s = .next t ∧ ∃ f, joined .ing l bs f s t ∧ f.fate = .discard ∧
      counted (0x20 + n) 1 s t ∧ secyOf t l = some (yStat m y) ∧ t.rx = s.rx := by
  obtain ⟨henter, hlim⟩ := enters_of_mayStart h
  obtain ⟨F₀, F, v, hp, hL, hw⟩ := linRx_looks (flt := flt) h hb hy hc
  obtain ⟨hj, hs⟩ := hL.touch (secyLine l)
  have hno : (rxpVal y.rxp = 1 && !k.bit 2) = false := by rcases hval with h | h <;> simp [h]
  rw [hlook F v hL, uncheckedOr, if_neg (by rw [hno]; decide), hL.arrived.link] at hw
  have hj' := joins_discard (code := n) (hj.of_path (pathOf_secyStat l m _ _)) (by rw [hL.arrived.link]; exact hlim)
  obtain ⟨t, hx, hE⟩ := linRx_quiet henter (by omega) (by omega) hp hw hj' (arrived_dropped hL.arrived) (by simp [tallied, isDead]) hL.unlate
  obtain ⟨b, hjoin⟩ := hE.frame
  have hstat := sameBut_secyStat l m (touchLine (secyLine l) v)
  have hdisc := sameBut_discardFrame .ing F n (secyStat l m (touchLine (secyLine l) v))
  obtain ⟨hcount, hst⟩ := counted_stat (code := 0x20 + n) (by omega) hy (hs .cnt (by decide)) (hs .secys (by decide))
    ((hE.same .cnt (by decide) : t.cnt = _).trans (discardFrame_cnt .ing F n _)) ((hE.same .secys (by decide) : t.secys = _).trans (hdisc .secys (by decide)))
  exact ⟨t, hx, _, hjoin, rfl, hcount, hst,
    (hE.same .rx (by decide) : t.rx = _).trans ((hdisc .rx (by decide)).trans ((hstat .rx (by decide)).trans (hs .rx (by decide))))⟩

/-! A frame that has selected its SA. -/

/-- The SC of the frame's SCI has an enabled SA `r` at its AN. -/
structure Selected (s : State) (l : Nat) (k : Tag) (sci : W64) (r : Nat) (a : Sa) : Prop where
  sc : ∃ c, findSc s l sci = some c ∧ r = 4 * c + k.tci % 4
  sa : rxOf s r = some a
  enabled : a.enabled = true

theorem ingLookup_selected {r : Nat} {a : Sa} (h : IngLooks s l fd bs y F v) (hk : Tagged s l bs flt y k sci) (ha : Selected s l k sci r a) :
    ingLookup F flt v = ingFetch (selecting r sci F) y k flt true (touchLine (secyLine l) v) := by
  obtain ⟨⟨c, hc, rfl⟩, hsa, hen⟩ := ha
  exact ingLookup_sa h hk hc hsa hen

/-- Its line is not resident: the frame waits in the sump. -/
theorem linRx_sump {r : Nat} {a : Sa} (h : mayStart s .ing l = true) (hb : bs.length = 64) (hc : ingClass s (asWhole l fd bs) = .look)
    (hk : Tagged s l bs flt y k sci) (ha : Selected s l k sci r a) (hr : isResident s (rxLine r) = false) (ho : s.cxm.oos = false)
    (hq : isQuar s (rxLine r) = false) :
    ∃ t, exec (.linRxFrame [wholeSeg l fd bs] flt) s = .next t ∧ ∃ f, joined .ing l bs f s t ∧ f.fate = .wait (some (rxLine r)) ∧
      f.saIdx = r ∧ f.sci = sci ∧ t.rx = s.rx ∧ counted 0x49 1 s t ∧ (fillOf t (rxLine r)).isSome = true := by
  obtain ⟨henter, -⟩ := enters_of_mayStart h
  obtain ⟨F₀, F, v, hp, hL, hw⟩ := linRx_looks (flt := flt) h hb hk.secy hc
  obtain ⟨hj, hs⟩ := hL.touch (secyLine l)
  have hcxm : (touchLine (secyLine l) v).cxm = s.cxm := hs .cxm (by decide)
  have hline := lookLine_miss (c := 0x49) (n := rxLine r) ((hL.resident (secyLine l) _).trans hr) (by rw [isQuar, hcxm]; exact hq)
    (by rw [hcxm]; exact ho) (some 0x48) flt.cisEcc
  have hbump := sameBut_bump 0x49 none (touchLine (secyLine l) v)
  have hfillSame := ctx_startFill (rxLine r) (bump 0x49 none (touchLine (secyLine l) v))
  have hfill := startFill_runs (rxLine r) (bump 0x49 none (touchLine (secyLine l) v))
  have hcnt : smGet 0 (startFill (rxLine r) (bump 0x49 none (touchLine (secyLine l) v))).cnt 0x49 = satAdd 63 (smGet 0 s.cnt 0x49) 1 := by
    rw [startFill_cnt (by decide) (by decide), bump, bumpN_cnt, if_pos rfl, (hs .cnt (by decide) : (touchLine (secyLine l) v).cnt = s.cnt)]
  have hpath : pathOf (startFill (rxLine r) (bump 0x49 none (touchLine (secyLine l) v))) .ing = pathOf (touchLine (secyLine l) v) .ing := by
    rw [pathOf_same (hfillSame .egr (by decide)) (hfillSame .ing (by decide)), pathOf_bump]
  rw [ingLookup_selected hL hk ha, ingFetch] at hw
  simp only [selecting, if_true, hline] at hw
  generalize startFill (rxLine r) (bump 0x49 none (touchLine (secyLine l) v)) = u at hw hfillSame hfill hcnt hpath
  have hnew : (F.fate == .wait (some (rxLine r))) = false := by rw [hL.waits]; rfl
  rw [ingSump, hnew] at hw
  have hmod := sameBut_modFrame .ing F.link F.orderTag (fun x => { x with fate := .wait (some (rxLine r)), saIdx := r, sci := sci }) u
  have htel := fun x => sameBut_telBump 0x1C8 1 (some F.link) x
  obtain ⟨t, hx, hE⟩ := linRx_quiet henter (by omega) (by omega) hp hw
    (((hj.of_path hpath).modFrame (g := fun x => { x with fate := .wait (some (rxLine r)), saIdx := r, sci := sci }) rfl rfl).of_path
      (pathOf_telBump _ _ _ _ _)) ⟨hL.arrived.link, hL.arrived.bytes, hL.arrived.ended, hL.arrived.good, hL.arrived.here⟩
    (by simp [tallied, inSump]) hL.unlate
  obtain ⟨b, hjoin⟩ := hE.frame
  have htu : sameBut [.ing, .que, .evt, .tel] u t := sameBut_trans (sameBut_mono hmod (by decide))
    (sameBut_trans (sameBut_mono (htel _) (by decide)) (sameBut_mono hE.same (by decide)))
  refine ⟨t, hx, _, hjoin, rfl, rfl, rfl, ?_, ?_, ?_⟩
  · exact (htu .rx (by decide) : t.rx = _).trans ((hfillSame .rx (by decide)).trans ((hbump .rx (by decide)).trans (hs .rx (by decide))))
  · rw [counted, (htu .cnt (by decide) : t.cnt = u.cnt)]; exact hcnt
  · rw [fillOf, (htu .cxm (by decide) : t.cxm = u.cxm)]; exact hfill

/-- The state in which the SA is found. -/
def saFound (l r : Nat) (v : State) : State := touchLine (rxLine r) (bump 0x48 none (touchLine (secyLine l) v))

theorem saFound_same (h : IngLooks s l fd bs y F v) (r : Nat) :
    Joins .ing s F (saFound l r v) ∧ sameBut [.ing, .que, .tel, .cis, .cnt] s (saFound l r v) ∧
      (∀ c, smGet 0 (saFound l r v).cnt c = if c = 0x48 then satAdd 63 (smGet 0 s.cnt 0x48) 1 else smGet 0 s.cnt c) := by
  obtain ⟨hj, hs⟩ := h.touch (secyLine l)
  have hbump := sameBut_bump 0x48 none (touchLine (secyLine l) v)
  have ht := sameBut_touchLine (rxLine r) (bump 0x48 none (touchLine (secyLine l) v))
  refine ⟨(hj.of_path (pathOf_bump _ _ _ _)).of_path (pathOf_same (ht .egr (by decide)) (ht .ing (by decide))),
    sameBut_trans (sameBut_mono hs (by decide)) (sameBut_trans (sameBut_mono hbump (by decide)) (sameBut_mono ht (by decide))), fun c => ?_⟩
  have hcnt : (saFound l r v).cnt = (bump 0x48 none (touchLine (secyLine l) v)).cnt := ht .cnt (by decide)
  rw [hcnt, bump, bumpN_cnt, (hs .cnt (by decide) : (touchLine (secyLine l) v).cnt = s.cnt)]

/-- Its line is resident: its PN is recovered. -/
theorem ingLookup_replay {r : Nat} {a : Sa} (h : IngLooks s l fd bs y F v) (hk : Tagged s l bs flt y k sci) (ha : Selected s l k sci r a)
    (hr : isResident s (rxLine r) = true) (hf : flt = noFaults) :
    ingLookup F flt v = ingReplay (selecting r sci F) r a y k false (saFound l r v) := by
  have hres : isResident (touchLine (secyLine l) v) (rxLine r) = true := (h.resident (secyLine l) _).trans hr
  have hline := lookLine_counted hres 0x48 (some 0x49)
  have hrx : rxOf (saFound l r v) r = some a :=
    (congrArg (fun m => smGet none m r) ((saFound_same h r).2.1 .rx (by decide) : (saFound l r v).rx = s.rx)).trans ha.sa
  rw [ingLookup_selected h hk ha, ingFetch, show flt.cisEcc = 0 by rw [hf]; rfl, show flt.vltPar = false by rw [hf]; rfl]
  simp only [selecting, if_true, hline]
  rw [show touchLine (rxLine r) (bump 0x48 none (touchLine (secyLine l) v)) = saFound l r v from rfl, hrx]

end

end Sys2Proof.Machine
end

section
/-! Replay protection and the key of a received frame, and the whole of the ingress checks. -/
namespace Sys2Proof.Machine

section
variable {s u : State} {l r : Nat} {fd : BitVec 16} {bs : List Byte} {flt : FrameFaults} {F : Frame} {y : Secy} {k : Tag} {sci : W64} {a : Sa}

/-! A late frame. -/

/-- The frame that step 19 has discarded, before its SA counts it. -/
def belated (r : Nat) (F : Frame) : Frame := { F with lateSa := some r, fate := .discard, started := F.started && Fate.discard != .discard }

/-- What step 19 does to a late frame that has come in whole. -/
theorem lateFrame_row (hu : Joins .ing s F u) (hF : Arrived l bs F)
    (hlim : (pathOf s .ing).frames.countP (fun x => x.link == l) < 2048) (sci : W64) :
    Joins .ing s (belated r F) (lateFrame (selecting r sci F) r u) ∧
      sameBut [.ing] (bump 0x35 (some l) (raiseL .ing 4 [l] u)) (lateFrame (selecting r sci F) r u) := by
  obtain rfl := hF.link
  have hend : (selecting r sci F).ended = true := hF.ended
  unfold lateFrame
  rw [if_pos hend]
  refine ⟨?_, sameBut_trans (sameBut_modFrame .ing _ _ _ _) (sameBut_setFate .ing _ _ _)⟩
  exact (((hu.of_path (pathOf_raiseL .ing 4 [F.link] u .ing)).of_path (pathOf_bump 0x35 (some F.link) _ _)).modFrame
    (g := fun x => { x with lateSa := some r }) rfl rfl).setFate (G := selecting r sci F) rfl rfl hlim .discard

/-- What the row's end does for it: its SA counts it unless a frame of its link waits to be committed before it. -/
theorem lateCount_belated {w : State} (hw : Joins .ing s (belated r F) w) (hF : Arrived l bs F) :
    lateCount (belated r F) w =
      if s.ing.frames.any (fun x => x.link == l && (x.fate == .crypt || inSump x)) then w
      else modFrame .ing F.link F.orderTag (fun x => { x with lateSa := none })
        (if (rxOf w r).isSome then dirtyLine (rxLine r) (modRx r (statOf 3 1) w) else w) := by
  have hfr : w.ing.frames = s.ing.frames ++ [belated r F] := hw.frames
  have hbefore : w.ing.frames.takeWhile (fun x => !(x.link == F.link && x.orderTag == F.orderTag)) = s.ing.frames := by
    rw [hfr, List.takeWhile_append_of_pos fun x hx => by rw [show (x.link == F.link && x.orderTag == F.orderTag) = false from hw.fresh x hx]; rfl]
    simp [belated]
  obtain rfl := hF.link
  simp only [lateCount, belated, hbefore, hF.ended, Bool.not_true, Bool.false_or]

/-- A late frame under REPLAY_PROTECT: discarded with its event; its SA counts it in its turn. -/
theorem linRx_late (h : mayStart s .ing l = true) (hb : bs.length = 64) (hc : ingClass s (asWhole l fd bs) = .look)
    (hk : Tagged s l bs flt y k sci) (ha : Selected s l k sci r a) (hr : isResident s (rxLine r) = true) (hf : flt = noFaults)
    (hrep : rxpReplay y.rxp = true)
    (hlate : recoverPn a.suite (lowPn a (rxpWindow y.rxp)) k.pn < lowPn a (rxpWindow y.rxp)) :
    ∃ t, exec (.linRxFrame [wholeSeg l fd bs] flt) s = .next t ∧ ∃ f, joined .ing l bs f s t ∧ f.fate = .discard ∧
      counted 0x35 1 s t ∧ eventSet t .ing 4 ∧ (rxOf t r).map (·.pn) = some a.pn ∧
      (s.ing.frames.any (fun x => x.link == l && (x.fate == .crypt || inSump x)) = false →
        (rxOf t r).map (fun x => smGet 0 x.stats 3) = some (Nat.min (smGet 0 a.stats 3 + 1) (2 ^ 64 - 1))) := by
  obtain ⟨henter, hlim⟩ := enters_of_mayStart h
  obtain ⟨F₀, F, v, hp, hL, hw⟩ := linRx_looks (flt := flt) h hb hk.secy hc
  obtain ⟨hj, hs, hcnt⟩ := saFound_same hL r
  rw [ingLookup_replay hL hk ha hr hf, ingReplay, if_pos ⟨hlate, hrep⟩] at hw
  obtain ⟨hj', hmod⟩ := lateFrame_row (r := r) hj hL.arrived hlim sci
  have hraise := sameBut_raiseL .ing 4 [l] (saFound l r v)
  have hbump := sameBut_bump 0x35 (some l) (raiseL .ing 4 [l] (saFound l r v))
  have hpend := raiseL_pends .ing (n := 4) [l] (saFound l r v) (by decide)
  generalize lateFrame (selecting r sci F) r (saFound l r v) = w at hw hj' hmod
  have hwcnt : smGet 0 w.cnt 0x35 = satAdd 63 (smGet 0 s.cnt 0x35) 1 := by
    rw [(hmod .cnt (by decide) : w.cnt = _), bump, bumpN_cnt, if_pos rfl, (hraise .cnt (by decide) : (raiseL .ing 4 [l] (saFound l r v)).cnt = _),
      hcnt, if_neg (by decide)]
  have hwevt : w.evt = (raiseL .ing 4 [l] (saFound l r v)).evt := (hmod .evt (by decide) : w.evt = _).trans (hbump .evt (by decide))
  have hwrx : w.rx = s.rx :=
    (hmod .rx (by decide) : w.rx = _).trans ((hbump .rx (by decide)).trans ((hraise .rx (by decide)).trans (hs .rx (by decide))))
  have hwr : rxOf w r = some a := (congrArg (fun m => smGet none m r) hwrx).trans ha.sa
  have hB : Arrived l bs (belated r F) := ⟨hL.arrived.link, hL.arrived.bytes, hL.arrived.ended, hL.arrived.good, by simp [belated]⟩
  have htally : ingWhole (belated r F) w = w := ingWhole_tallied (by simp [tallied, belated, isDead]) w
  have hcount := lateCount_belated hj' hL.arrived
  suffices hs : ∃ H x x', lateCount (belated r F) w = x ∧ Joins .ing s H x ∧ Arrived l bs H ∧ H.fate = .discard ∧
      smGet 0 x.cnt 0x35 = smGet 0 w.cnt 0x35 ∧ x.evt = w.evt ∧ rxOf x r = some x' ∧ x'.pn = a.pn ∧
      (s.ing.frames.any (fun x => x.link == l && (x.fate == .crypt || inSump x)) = false → x' = statOf 3 1 a) by
    obtain ⟨H, x, x', hx, hxj, hH, hHf, hxc, hxe, hxr, hxp, hxs⟩ := hs
    obtain ⟨t, hrun, hE⟩ := linRx_whole henter (by omega) (by omega) hp hw hj' hB (by rw [htally]; exact hj') (by rw [htally]; exact hx) hxj hH
    obtain ⟨b, hjoin⟩ := hE.frame
    have htr : rxOf t r = some x' := (congrArg (fun m => smGet none m r) (hE.same .rx (by decide) : t.rx = x.rx)).trans hxr
    refine ⟨t, hrun, _, hjoin, hHf, ?_, hE.shows .ing 4 (by decide) ?_, by rw [htr, Option.map_some, hxp], fun hn => ?_⟩
    · rw [counted, (hE.same .cnt (by decide) : t.cnt = x.cnt), hxc, hwcnt]
    · rw [hxe, hwevt]; exact hpend
    · rw [htr, Option.map_some, hxs hn, statOf]; simp
  rw [hcount]
  by_cases hany : s.ing.frames.any (fun x => x.link == l && (x.fate == .crypt || inSump x)) = true
  · rw [if_pos hany]
    exact ⟨_, w, a, rfl, hj', hB, rfl, rfl, rfl, hwr, rfl, fun hn => absurd (hn.symm.trans hany) (by decide)⟩
  · rw [if_neg hany, if_pos (by rw [hwr]; rfl)]
    have hmr : modRx r (statOf 3 1) w = setRx r (some (statOf 3 1 a)) w := by simp only [modRx, hwr]
    have hset : sameBut [.rx] w (setRx r (some (statOf 3 1 a)) w) := by intro p hp; cases p <;> simp_all [Part.same]
    have hdirty := ctx_dirtyLine (rxLine r) (setRx r (some (statOf 3 1 a)) w)
    have hmodF := sameBut_modFrame .ing F.link F.orderTag (fun x => { x with lateSa := none }) (dirtyLine (rxLine r) (setRx r (some (statOf 3 1 a)) w))
    have hpath : pathOf (dirtyLine (rxLine r) (setRx r (some (statOf 3 1 a)) w)) .ing = pathOf w .ing :=
      pathOf_same ((hdirty .egr (by decide)).trans (hset .egr (by decide))) ((hdirty .ing (by decide)).trans (hset .ing (by decide)))
    rw [hmr]
    refine ⟨_, _, statOf 3 1 a, rfl, (hj'.of_path hpath).modFrame (g := fun x => { x with lateSa := none }) rfl rfl,
      ⟨hB.link, hB.bytes, hB.ended, hB.good, hB.here⟩, rfl, ?_, ?_, ?_, rfl, fun _ => rfl⟩
    · rw [(hmodF .cnt (by decide) : (modFrame .ing F.link F.orderTag _ _).cnt = _), dirtyLine_cnt (by decide) (by decide),
        (hset .cnt (by decide) : (setRx r (some (statOf 3 1 a)) w).cnt = w.cnt)]
    · exact (hmodF .evt (by decide) : _ = _).trans ((hdirty .evt (by decide)).trans (hset .evt (by decide)))
    · have hrx := (hmodF .rx (by decide) : (modFrame .ing F.link F.orderTag (fun x => { x with lateSa := none }) _).rx = _).trans (hdirty .rx (by decide))
      exact (congrArg (fun m => smGet none m r) hrx).trans ((rxOf_setRx r _ w r).trans (if_pos rfl))

/-! A frame that goes to the lanes. -/

/-- The frame with its recovered PN and its SA's key. -/
def recovered (r pn : Nat) (a : Sa) (sci : W64) (key : List Byte) (F : Frame) : Frame :=
  { F with fate := .crypt, saIdx := r, pn := pn, kid := a.kid, key := key, sci := sci, ssci := a.ssci, salt := a.salt, suite := a.suite,
           offCode := a.offCode }

theorem linRx_recovers {j : Nat} (h : mayStart s .ing l = true) (hb : bs.length = 64) (hc : ingClass s (asWhole l fd bs) = .look)
    (hk : Tagged s l bs flt y k sci) (ha : Selected s l k sci r a) (hr : isResident s (rxLine r) = true) (hf : flt = noFaults)
    (hrep : recoverPn a.suite (lowPn a (rxpWindow y.rxp)) k.pn < lowPn a (rxpWindow y.rxp) → rxpReplay y.rxp = false)
    (hslot : kidSlot s a.kid = some j) (hld : (vslot s j).st = .loaded) (hat : (vslot s j).attr = .decOnly) :
    ∃ t, exec (.linRxFrame [wholeSeg l fd bs] flt) s = .next t ∧ ∃ f, joined .ing l bs f s t ∧ f.fate = .crypt ∧ f.saIdx = r ∧
      f.pn = recoverPn a.suite (lowPn a (rxpWindow y.rxp)) k.pn ∧ f.kid = a.kid ∧ f.key = keyAt s j ∧ f.sci = sci ∧ f.salt = a.salt ∧
      f.suite = a.suite ∧ counted 0x48 1 s t ∧ t.rx = s.rx ∧ t.tx = s.tx := by
  obtain ⟨henter, -⟩ := enters_of_mayStart h
  obtain ⟨F₀, F, v, hp, hL, hw⟩ := linRx_looks (flt := flt) h hb hk.secy hc
  obtain ⟨hj, hs, hcnt⟩ := saFound_same hL r
  have hvlt : (saFound l r v).vlt = s.vlt := hs .vlt (by decide)
  have hvs : vslot (saFound l r v) j = vslot s j := by rw [vslot, hvlt]; rfl
  have hkey : keyAt (saFound l r v) j = keyAt s j := by rw [keyAt, hvs]; rfl
  have hdel := deliverKey_loaded (attr := .decOnly) (l := F.link) ((kidSlot_congr hvlt a.kid).trans hslot) (hvs ▸ hld) (hvs ▸ hat)
  have hon : ¬ (recoverPn a.suite (lowPn a (rxpWindow y.rxp)) k.pn < lowPn a (rxpWindow y.rxp) ∧ rxpReplay y.rxp = true) := fun hn => by
    rw [hrep hn.1] at hn; exact absurd hn.2 (by decide)
  rw [ingLookup_replay hL hk ha hr hf, ingReplay, if_neg hon, show (selecting r sci F).link = F.link from rfl, hdel, hkey] at hw
  generalize hu : setVslot j { vslot (saFound l r v) j with used := now (saFound l r v) } (saFound l r v) = u at hw
  have hset : sameBut [.vlt] (saFound l r v) u := by subst hu; intro p hp; cases p <;> simp_all [Part.same]
  have hmod := sameBut_modFrame .ing F.link F.orderTag
    (recovered r (recoverPn a.suite (lowPn a (rxpWindow y.rxp)) k.pn) a sci (keyAt s j)) u
  obtain ⟨t, hx, hE⟩ := linRx_quiet henter (by omega) (by omega) hp hw
    ((hj.of_path (pathOf_same (hset .egr (by decide)) (hset .ing (by decide)))).modFrame
      (g := recovered r (recoverPn a.suite (lowPn a (rxpWindow y.rxp)) k.pn) a sci (keyAt s j)) rfl rfl)
    ⟨hL.arrived.link, hL.arrived.bytes, hL.arrived.ended, hL.arrived.good, hL.arrived.here⟩ (by simp [tallied, recovered]) hL.unlate
  obtain ⟨b, hjoin⟩ := hE.frame
  have hall : sameBut [.ing, .vlt, .que, .evt] (saFound l r v) t := sameBut_trans (sameBut_mono hset (by decide))
    (sameBut_trans (sameBut_mono hmod (by decide)) (sameBut_mono hE.same (by decide)))
  refine ⟨t, hx, _, hjoin, rfl, rfl, rfl, rfl, rfl, rfl, rfl, rfl, ?_, ?_, ?_⟩
  · rw [counted, (hall .cnt (by decide) : t.cnt = (saFound l r v).cnt), hcnt, if_pos rfl]
  · exact (hall .rx (by decide) : t.rx = _).trans (hs .rx (by decide))
  · exact (hall .tx (by decide) : t.tx = _).trans (hs .tx (by decide))

/-! The verdict of a frame with a good SecTAG. -/

theorem ingClass_look (hb : bs.length = 64) (hm : s.glb.mode ≠ .lockout) (hr : ruleOf s .ing l bs = none) (hc : s.glb.mode ≠ .cold)
    (hy : secyOf s l = some y) (hon : y.st = .on) (hport : bitAt s.glb.prt (fd.toNat % 64) = true)
    (he : s.glb.mode = .provision → txpEarly y.txp = true) (ht : tagOf s bs (txpClear y.txp) (isXpn (txpSuite y.txp)) = some k)
    (hg : k.good = true) (hv : rxpVal y.rxp ≠ 0) (hs : s.ing.shed ≤ txpPrio y.txp) : ingClass s (asWhole l fd bs) = .look := by
  rw [ingClass_tag hb hm hr hc hy hon hport he ht, hg, if_neg (by decide), if_neg hv, if_neg (Nat.not_lt.2 hs)]

theorem ingClass_untagged (hb : bs.length = 64) (hm : s.glb.mode ≠ .lockout) (hr : ruleOf s .ing l bs = none) (hc : s.glb.mode ≠ .cold)
    (hy : secyOf s l = some y) (hon : y.st = .on) (hport : bitAt s.glb.prt (fd.toNat % 64) = true)
    (ht : tagOf s bs (txpClear y.txp) (isXpn (txpSuite y.txp)) = none)
    (hmka : txpMka y.txp = true → etypeAt s bs (txpClear y.txp) ≠ 0x888E) (he : s.glb.mode = .provision → txpEarly y.txp = true) :
    ingClass s (asWhole l fd bs) = noTagFate y := by
  have hmka' : ¬ (txpMka y.txp = true ∧ etypeAt s bs (txpClear y.txp) = 0x888E) := fun h => hmka h.1 h.2
  have he' : ¬ (s.glb.mode = .provision ∧ txpEarly y.txp = false) := fun h => by simp [he h.1] at h
  rw [ingClass_noTag hb hm hr hc hy hon hport ht, if_neg hmka', if_neg he']

end

/-- Settles O34: the verdict of each check (`ingClass_rule`, `ingClass_noTag`, `ingClass_tag`), what a row does with each kind of verdict
(`linRx_discards`, `linRx_counted`, `linRx_taps`), the lookups' outcomes (`linRx_unchecked`, `linRx_unverified`, `linRx_sump`, `linRx_late`,
`linRx_recovers`), and the wait for a position (`linRx_full`). -/
theorem ingressClassification : Obligations.IngressClassification := by
  unfold Obligations.IngressClassification
  refine ⟨?_, ?_, ?_, ?_, ?_, ?_, ?_, ?_, ?_, ?_, ?_, ?_, ?_, ?_, ?_, ?_, ?_, ?_, ?_, ?_, ?_, ?_, ?_, ?_⟩
  · exact fun s l fd bs flt h h0 hb => linRx_discards h h0 hb.le (code := 1) (by simp [ingClass, asWhole, wholeFrame, newFrame, hb])
  · exact fun s l fd bs flt h hb hm => linRx_discards h (by omega) hb.le (code := 4)
      (by simp [ingClass, asWhole, wholeFrame, newFrame, hb, hm])
  · exact fun s l fd bs flt h hb hm hr => linRx_discards h (by omega) hb.le (code := 0xB) (ingClass_rule hb hm hr)
  · exact fun s l fd bs flt h hb hm hr => linRx_counted h hb (ingClass_rule hb hm hr) rfl fun G w hG => wholeCount_bypass hG w
  · exact fun s l fd bs flt h hb hm hr => linRx_discards h (by omega) hb.le (code := 4)
      (by simp [ingClass, asWhole, wholeFrame, newFrame, hb, hm, hr])
  · exact fun s l fd bs flt h hb hm hr hc hy => linRx_discards h (by omega) hb.le (code := 6)
      (by simp [ingClass, asWhole, wholeFrame, newFrame, hb, hm, hr, hc, hy])
  · exact fun s l fd bs flt y h hb hm hr hc hy hon => linRx_discards h (by omega) hb.le (code := 7)
      (by simp [ingClass, asWhole, wholeFrame, newFrame, hb, hm, hr, hc, hy, hon])
  · exact fun s l fd bs flt y h hb hm hr hc hy hon hport => linRx_discards h (by omega) hb.le (code := 8)
      (by simp [ingClass, asWhole, wholeFrame, newFrame, hb, hm, hr, hc, hy, hon, hport])
  · exact fun s l fd bs flt y h hb hm hr hc hy hon hport ht hmka het hq =>
      linRx_taps h hb ((ingClass_noTag hb hm hr hc hy hon hport ht).trans (if_pos ⟨hmka, het⟩)) hq
  · exact fun s l fd bs flt y h hb hm hr hc hy hon hport ht hmka hp he => linRx_discards h (by omega) hb.le (code := 4)
      ((ingClass_noTag hb hm hr hc hy hon hport ht).trans ((if_neg fun h => hmka h.1 h.2).trans (if_pos ⟨hp, he⟩)))
  · exact fun s l fd bs flt y h hb hm hr hc hy hon hport ht hmka he hv => linRx_countedOf h hb hy
      ((ingClass_untagged hb hm hr hc hy hon hport ht hmka he).trans (by rw [noTagFate, if_neg hv])) rfl (by decide)
      fun G w hG => wholeCount_unmodified hG w
  · intro s l fd bs flt y h hb hm hr hc hy hon hport ht hmka he hv
    have hcls := (ingClass_untagged hb hm hr hc hy hon hport ht hmka he).trans (by rw [noTagFate, if_pos hv])
    cases hn : rxpNoTag y.rxp with
    | true => exact linRx_countedOf h hb hy (hcls.trans (by rw [hn]; rfl)) rfl (by decide) fun G w hG => wholeCount_uncontrolled hG w
    | false => exact linRx_discardsOf h hb hy (code := 0xD) (by decide) (hcls.trans (by rw [hn]; rfl))
  · exact fun s l fd bs flt y k h hb hm hr hc hy hon hport he ht hg => linRx_discardsOf h hb hy (code := 0x10) (by decide)
      ((ingClass_tag hb hm hr hc hy hon hport he ht).trans (if_pos hg))
  · exact fun s l fd bs flt y k h hb hm hr hc hy hon hport he ht hg hv hbit => linRx_discards h (by omega) hb.le (code := 0x17)
      ((ingClass_tag hb hm hr hc hy hon hport he ht).trans (by rw [hg, if_neg (by decide), if_pos hv, if_pos hbit]))
  · exact fun s l fd bs flt y k h hb hm hr hc hy hon hport he ht hg hv hbit => linRx_counted h hb
      ((ingClass_tag hb hm hr hc hy hon hport he ht).trans (by rw [hg, if_neg (by decide), if_pos hv, hbit, if_neg (by decide)])) rfl
      fun G w hG => wholeCount_unchecked hG w
  · exact fun s l fd bs flt y k h hb hm hr hc hy hon hport he ht hg hv hshed => linRx_discards h (by omega) hb.le (code := 0x11)
      ((ingClass_tag hb hm hr hc hy hon hport he ht).trans (by rw [hg, if_neg (by decide), if_neg hv, if_pos hshed]))
  · exact fun s l fd bs flt y k sci h hb hm hr hc hy hon hport he ht hg hres hecc hv hshed hsci hfind hval hbit =>
      linRx_unchecked h hb hy (ingClass_look hb hm hr hc hy hon hport he ht hg hv hshed) hval hbit
        fun F v hL => ingLookup_noSc hL ⟨hy, ht, hres, hecc, hsci⟩ hfind
  · exact fun s l fd bs flt y k sci h hb hm hr hc hy hon hport he ht hg hres hecc hv hshed hsci hfind hval =>
      linRx_unverified h hb hy (ingClass_look hb hm hr hc hy hon hport he ht hg hv hshed) (n := 0x12) (by decide) hval
        fun F v hL => ingLookup_noSc hL ⟨hy, ht, hres, hecc, hsci⟩ hfind
  · exact fun s l fd bs flt y k sci c h hb hm hr hc hy hon hport he ht hg hres hecc hv hshed hsci hfind hno hval hbit =>
      linRx_unchecked h hb hy (ingClass_look hb hm hr hc hy hon hport he ht hg hv hshed) hval hbit
        fun F v hL => ingLookup_noSa hL ⟨hy, ht, hres, hecc, hsci⟩ hfind hno
  · exact fun s l fd bs flt y k sci c h hb hm hr hc hy hon hport he ht hg hres hecc hv hshed hsci hfind hno hval =>
      linRx_unverified h hb hy (ingClass_look hb hm hr hc hy hon hport he ht hg hv hshed) (n := 0x13) (by decide) hval
        fun F v hL => ingLookup_noSa hL ⟨hy, ht, hres, hecc, hsci⟩ hfind hno
  · exact fun s l fd bs flt y k sci c r a h hb hm hr hc hy hon hport he ht hg hres hecc hv hshed hsci hfind hidx hsa hen hline hoos hq =>
      linRx_sump h hb (ingClass_look hb hm hr hc hy hon hport he ht hg hv hshed) ⟨hy, ht, hres, hecc, hsci⟩ ⟨⟨c, hfind, hidx⟩, hsa, hen⟩
        hline hoos hq
  · exact fun s l fd bs flt y k sci c r a h hb hm hr hc hy hon hport he ht hg hres hecc hv hshed hsci hfind hidx hsa hen hline hf hrep hlate =>
      linRx_late h hb (ingClass_look hb hm hr hc hy hon hport he ht hg hv hshed) ⟨hy, ht, hres, hecc, hsci⟩ ⟨⟨c, hfind, hidx⟩, hsa, hen⟩
        hline hf hrep hlate
  · exact fun s l fd bs flt y k sci c r a j h hb hm hr hc hy hon hport he ht hg hres hecc hv hshed hsci hfind hidx hsa hen hline hf hrep hk hld
      hat => linRx_recovers h hb (ingClass_look hb hm hr hc hy hon hport he ht hg hv hshed) ⟨hy, ht, hres, hecc, hsci⟩
        ⟨⟨c, hfind, hidx⟩, hsa, hen⟩ hline hf hrep hk hld hat
  · exact fun s l fd bs flt h hb hlim => linRx_full h hb hlim

end Sys2Proof.Machine
end

section
/-! The tick: what a cycle of the fabric clock moves where nothing else is due. -/
namespace Sys2Proof.Machine

/-- Two paths that differ in what the lanes hold and in the segment and the skid that their ports have in hand. -/
structure PathIdles (p q : Path) : Prop where
  frames : q.frames.map (fun f => { f with groups := [] }) = p.frames.map (fun f => { f with groups := [] })
  order : q.order = p.order
  isOpen : q.isOpen = p.isOpen
  shed : q.shed = p.shed
  lanes : q.lanes = p.lanes
  rules : q.rules = p.rules

theorem PathIdles.refl (p : Path) : PathIdles p p := ⟨rfl, rfl, rfl, rfl, rfl, rfl⟩

theorem PathIdles.trans {p q r : Path} (h : PathIdles p q) (k : PathIdles q r) : PathIdles p r :=
  ⟨k.frames.trans h.frames, k.order.trans h.order, k.isOpen.trans h.isOpen, k.shed.trans h.shed, k.lanes.trans h.lanes, k.rules.trans h.rules⟩

/-- The parts that a cycle moves, fabric time and the divider apart. -/
def idleParts : List Part := [.evt, .tel, .fab, .egr, .ing, .lne]

/-- What the stages of a tick keep. -/
structure Idles (s t : State) : Prop where
  same : sameBut idleParts s t
  fab : t.fab = { s.fab with ports := t.fab.ports, pair := { s.fab.pair with mirAge := t.fab.pair.mirAge } }
  path : ∀ d, PathIdles (pathOf s d) (pathOf t d)

namespace Idles
variable {s t u : State}

theorem refl (s : State) : Idles s s := ⟨sameBut_refl _ _, rfl, fun _ => .refl _⟩

theorem trans (h : Idles s t) (k : Idles t u) : Idles s u := by
  refine ⟨sameBut_trans h.same k.same, ?_, fun d => (h.path d).trans (k.path d)⟩
  have hk := k.fab
  rw [h.fab] at hk
  exact hk

/-- A stage that leaves fabric and paths alone. -/
theorem of_same {ps : List Part} (h : sameBut ps s t) (hp : ∀ p ∈ ps, p ∈ [Part.evt, .tel, .lne]) : Idles s t := by
  have h' := sameBut_mono (qs := [.evt, .tel, .lne]) h hp
  refine ⟨sameBut_mono h' (by decide), ?_, fun d => ?_⟩
  · rw [(h' .fab (by decide) : t.fab = s.fab)]
  · rw [pathOf_same (h' .egr (by decide)) (h' .ing (by decide))]; exact .refl _

theorem foldl {α : Type} {f : State → α → State} (hf : ∀ s a, Idles s (f s a)) (l : List α) (s : State) : Idles s (l.foldl f s) := by
  induction l generalizing s with
  | nil => exact .refl s
  | cons a l ih => exact (hf s a).trans (ih _)

end Idles

theorem idles_telBump (c n : Nat) (l : Option Nat) (s : State) : Idles s (telBump c n l s) :=
  .of_same (sameBut_telBump c n l s) (by decide)

/-! The stages. -/

theorem evt_only (s : State) (e : Evts) : sameBut [.evt] s { s with evt := e } := by
  intro p hp; cases p <;> simp_all [Part.same]

theorem idles_esc (s : State) : Idles s (tickEsc s) := by
  unfold tickEsc
  split
  · exact .refl s
  · exact Idles.foldl (fun t u => .of_same (evt_only t _) (by decide)) subs s

theorem idles_levels (s : State) : Idles s (tickLevels s) := by
  refine Idles.foldl (fun t u => ?_) subs s
  extract_lets n
  split
  · exact .refl t
  · exact Idles.foldl (fun x i => idles_telBump _ n none x) _ t

theorem tel_only (s : State) (v : Tel) : sameBut [.tel] s { s with tel := v } := by
  intro p hp; cases p <;> simp_all [Part.same]

theorem idles_ledger (b : Nat) (x y : Ledger) (s : State) : Idles s (bumpLedger b x y s) :=
  ((idles_telBump _ _ _ _).trans (idles_telBump _ _ _ _)).trans ((idles_telBump _ _ _ _).trans (idles_telBump _ _ _ _))

theorem idles_ledgers (s : State) : Idles s (tickLedgers s) := by
  unfold tickLedgers
  split
  · exact .refl s
  · exact (((Idles.of_same (tel_only s _) (by decide)).trans (idles_telBump _ _ _ _)).trans (idles_ledger _ _ _ _)).trans (idles_ledger _ _ _ _)

theorem idles_ready (s : State) : Idles s (tickReady s) := by
  have hlow : ∀ (c : Nat) (b : Bool) (t : State), Idles t (if b then telBump c 8 none t else t) := fun c b t => by
    cases b
    · exact .refl t
    · exact idles_telBump c 8 none t
  unfold tickReady
  split
  · exact .refl s
  · exact (((hlow _ _ s).trans (hlow _ _ _)).trans (hlow _ _ _)).trans (hlow _ _ _)

/-- A stage that changes one path. -/
theorem idles_setPath {s : State} {d : Dir} {p : Path} (h : PathIdles (pathOf s d) p) : Idles s (setPath d p s) := by
  refine ⟨sameBut_mono (setPath_only d p s) (by cases d <;> decide), by cases d <;> rfl, fun e => ?_⟩
  cases d <;> cases e
  case' egr.egr | ing.ing => exact h
  all_goals exact .refl _

theorem idles_port (d : Dir) (s : State) : Idles s (tickPort d s) := idles_setPath ⟨rfl, rfl, rfl, rfl, rfl, rfl⟩

theorem fab_idles {s : State} {f : Fab} (h : f = { s.fab with ports := f.ports, pair := { s.fab.pair with mirAge := f.pair.mirAge } }) :
    Idles s { s with fab := f } :=
  ⟨sameBut_mono (fab_only s f) (by decide), h, fun d => by cases d <;> exact .refl _⟩

theorem idles_mirror (s : State) : Idles s (tickMirror s) := by
  refine fab_idles ?_
  dsimp only
  split <;> rfl

theorem idles_fabric (s : State) : Idles s (tickFabric s) := by
  refine Idles.foldl (fun t p => ?_) _ s
  have hport : ∀ f : Port → Port, Idles t (modPort p f t) := fun f => fab_idles rfl
  split
  · exact hport _
  · exact hport _

/-! The lanes. -/

theorem idles_groups (d : Dir) (l o n : Nat) (s : State) : Idles s (modFrame d l o (fun f => { f with groups := f.groups ++ [n] }) s) := by
  refine idles_setPath ⟨?_, rfl, rfl, rfl, rfl, rfl⟩
  simp only [mapWhere, List.map_map]
  refine List.map_congr_left fun f _ => ?_
  simp only [Function.comp]
  split <;> rfl

theorem idles_laneCycle (d : Dir) (s : State) : Idles s (laneCycle d s) := by
  unfold laneCycle
  extract_lets p free taken put s1
  exact Idles.trans (t := s1) (idles_setPath ⟨rfl, rfl, rfl, rfl, rfl, rfl⟩) (Idles.foldl (fun t g => idles_groups d _ _ _ t) _ _)

theorem idles_laneCycles (d : Dir) (n : Nat) (s : State) : Idles s (laneCycles d n s) := by
  induction n generalizing s with
  | zero => exact .refl s
  | succ n ih =>
    unfold laneCycles
    split
    · exact .refl s
    · exact (idles_laneCycle d s).trans (ih _)

theorem idles_bookSlots (d : Dir) (a b c : Nat) (s : State) : Idles s (bookSlots d a b c s) := by
  cases d <;> exact .of_same (tel_only s _) (by decide)

theorem idles_lanes (d : Dir) (s : State) : Idles s (tickLanes d s) := by
  have hback : Idles s (bookAged d (laneCycles d 8 s)) := (idles_laneCycles d 8 s).trans (idles_bookSlots d _ _ _ _)
  have hredo : ∀ (t : State) (v : Lne), Idles t { t with lne := v } := fun t v => .of_same (lne_only t v) (by decide)
  unfold tickLanes
  extract_lets p stall s1 s2
  split
  · exact hback.trans (hredo _ _)
  · exact (hback.trans (hredo _ _)).trans (idles_bookSlots _ _ _ _ _)

/-- All of them. -/
theorem idles_stages (s : State) :
    Idles s (tickFabric (tickMirror (tickPort .ing (tickPort .egr (tickReady (tickLedgers (tickLanes .ing (tickLanes .egr
      (tickLevels (tickEsc s)))))))))) :=
  ((((((((idles_esc s).trans (idles_levels _)).trans (idles_lanes _ _)).trans (idles_lanes _ _)).trans (idles_ledgers _)).trans
    (idles_ready _)).trans (idles_port _ _)).trans (idles_port _ _)).trans ((idles_mirror _).trans (idles_fabric _))

/-- The state of a cycle before the counter renewal, the test port and the check engines have their turn. -/
def ticking (s : State) : State :=
  tickFabric (tickMirror (tickPort .ing (tickPort .egr (tickReady (tickLedgers (tickLanes .ing (tickLanes .egr
    (tickLevels (tickEsc (tickTime (tickDivider s)))))))))))

theorem idles_ticking (s : State) : Idles (tickTime (tickDivider s)) (ticking s) := idles_stages _

theorem sameBut_clock (s : State) : sameBut [.time, .frac, .aon] s (tickTime (tickDivider s)) := by
  intro p hp; cases p <;> simp_all [Part.same, tickTime, tickDivider]

theorem sameBut_ticking (s : State) : sameBut [.time, .frac, .aon, .evt, .tel, .fab, .egr, .ing, .lne] s (ticking s) :=
  sameBut_trans (sameBut_mono (sameBut_clock s) (by decide)) (sameBut_mono (idles_ticking s).same (by decide))

/-- An empty queue's step, with rst_por_n high. -/
theorem step_tick {s : State} (hp : s.pending = []) (hr : s.aon.porLow = false) :
    step s = .next (settle (chkPump (tapTick (renewCheck (ticking s))))) := by
  simp only [step, hp, tick, hr, Bool.false_eq_true, if_false]
  rfl

/-! What is not due does nothing. -/

theorem renewCheck_early {s : State} (h : s.cxm.topCtr < 2 ^ 56 - 2 ^ 32) : renewCheck s = s := if_neg fun hn => absurd hn.1 (Nat.not_le.2 h)

theorem tapTick_still {s : State} (hk : s.tst.tck = s.tst.tckWas) (hs : s.tst.scanClk = s.tst.scanWas) (ht : s.tst.trstN = true) :
    tapTick s = s := by
  have htck : ({ s with tst := { s.tst with tckWas := s.tst.tck } } : State) = s := by rw [hk]
  have hscan : ({ s with tst := { s.tst with scanWas := s.tst.scanClk } } : State) = s := by rw [hs]
  have hstill : scanTick s = s := by
    unfold scanTick
    dsimp only
    rw [hscan, if_neg (by rw [hs]; cases s.tst.scanWas <;> simp)]
  unfold tapTick
  dsimp only
  rw [htck, ht, hk]
  cases s.tst.tckWas <;> exact hstill

theorem chkPump_idle {s : State} (h : ∀ k, (chkOf s k).prog = none) : chkPump s = s := by
  have hnext : ∀ k r, chkNext s k r = none := fun k r => by simp only [chkNext, h k]
  have hone : ∀ k, chkJnl k (chkCis k (chkCxm k s)) = s := fun k => by
    rw [show chkCxm k s = s by simp only [chkCxm, hnext], show chkCis k s = s by simp only [chkCis, hnext]]
    simp only [chkJnl, hnext]
  simp [chkPump, List.range_succ, hone]

/-- A cycle in which nothing else is due. -/
theorem tick_idle {s : State} (hk : s.tst.tck = s.tst.tckWas) (hs : s.tst.scanClk = s.tst.scanWas) (ht : s.tst.trstN = true)
    (hj : ∀ k, (chkOf s k).prog = none) (hc : s.cxm.topCtr < 2 ^ 56 - 2 ^ 32) :
    chkPump (tapTick (renewCheck (ticking s))) = ticking s := by
  have hsame := sameBut_ticking s
  have htst : (ticking s).tst = s.tst := hsame .tst (by decide)
  have hcxm : (ticking s).cxm = s.cxm := hsame .cxm (by decide)
  have hchk : ∀ k, chkOf (ticking s) k = chkOf s k := fun k => congrArg (fun m => smGet _ m k) (hsame .chk (by decide) : (ticking s).chk = s.chk)
  rw [renewCheck_early (by rw [hcxm]; exact hc), tapTick_still (by rw [htst]; exact hk) (by rw [htst]; exact hs) (by rw [htst]; exact ht)]
  exact chkPump_idle fun k => by rw [hchk]; exact hj k

/-! The test port (R419). -/

theorem cxm_only (s : State) (c : Cxm) : sameBut [.cxm] s { s with cxm := c } := by
  intro p hp; cases p <;> simp_all [Part.same]

theorem sameBut_draw (s : State) : sameBut [.rng, .vlt] s (draw s).2 := by
  unfold draw bootDraw
  split
  · intro p hp; cases p <;> simp_all [Part.same]
  · split
    all_goals (intro p hp; cases p <;> simp_all [Part.same])

theorem sameBut_rebuildAll (s : State) : sameBut [.cxm, .evt, .tel] s (rebuildAll s) := by
  intro p hp; cases p <;> simp_all [Part.same, rebuildAll]

theorem sameBut_renewCheck (s : State) : sameBut [.rng, .vlt, .cxm, .evt, .tel] s (renewCheck s) := by
  unfold renewCheck
  split
  · refine sameBut_trans (sameBut_mono (sameBut_draw s) (by decide)) (sameBut_trans ?_ (sameBut_mono (sameBut_rebuildAll _) (by decide)))
    exact sameBut_mono (cxm_only (draw s).2 _) (by decide)
  · exact sameBut_refl _ _

/-- What the check engines' reads write. -/
def chkParts : List Part := [.cxm, .tel, .out, .chk, .rng, .jnl]

theorem sameBut_setChk (k : Nat) (c : Chk) (s : State) : sameBut chkParts s (setChk k c s) := by
  intro p hp; cases p <;> simp_all [Part.same, chkParts, setChk]

theorem sameBut_chkFeed (k : Nat) (bs : List Byte) (s : State) : sameBut chkParts s (chkFeed k bs s) := by
  unfold chkFeed
  extract_lets c
  split
  · exact sameBut_setChk _ _ _
  · exact sameBut_refl _ _

theorem sameBut_chkBad (k : Nat) (s : State) : sameBut chkParts s (chkBad k s) := by
  unfold chkBad
  split
  · exact sameBut_setChk _ _ _
  · exact sameBut_refl _ _

theorem sameBut_chkCxm (k : Nat) (s : State) : sameBut chkParts s (chkCxm k s) := by
  unfold chkCxm
  split
  · split
    · exact sameBut_refl _ _
    · refine sameBut_trans ?_ (sameBut_mono (sameBut_telBump _ _ _ _) (by decide))
      exact sameBut_trans (sameBut_mono (cxm_only s _) (by decide)) (sameBut_mono (sameBut_emit _ _) (by decide))
  · exact sameBut_refl _ _

theorem sameBut_chkCis (k : Nat) (s : State) : sameBut chkParts s (chkCis k s) := by
  have hrng : ∀ n, sameBut chkParts s { s with rng := n } := fun n => by intro p hp; cases p <;> simp_all [Part.same, chkParts]
  unfold chkCis
  split
  · extract_lets slot
    split
    · exact sameBut_chkBad _ _
    · split
      · exact sameBut_chkFeed _ _ _
      · exact sameBut_trans (hrng _) (sameBut_chkFeed _ _ _)
  · exact sameBut_refl _ _

theorem sameBut_chkJnl (k : Nat) (s : State) : sameBut chkParts s (chkJnl k s) := by
  have hjnl : ∀ j : Jnl, sameBut chkParts s { s with jnl := j } := fun j => by intro p hp; cases p <;> simp_all [Part.same, chkParts]
  unfold chkJnl
  extract_lets used
  split
  · split
    · exact sameBut_refl _ _
    · exact sameBut_trans (hjnl _) (sameBut_mono (sameBut_emit _ _) (by decide))
  · exact sameBut_refl _ _

theorem sameBut_chkPump (s : State) : sameBut chkParts s (chkPump s) :=
  sameBut_foldl _ (fun t k => sameBut_trans (sameBut_trans (sameBut_chkCxm k t) (sameBut_chkCis k _)) (sameBut_chkJnl k _)) _ s

/-- Before its turn in a cycle the test port is as the pins have it. -/
theorem sameBut_beforeTap (s : State) :
    (renewCheck (ticking s)).tst = s.tst ∧ (renewCheck (ticking s)).glb = s.glb := by
  have h1 := sameBut_ticking s
  have h2 := sameBut_renewCheck (ticking s)
  exact ⟨(h2 .tst (by decide) : _ = (ticking s).tst).trans (h1 .tst (by decide)), (h2 .glb (by decide) : _ = (ticking s).glb).trans (h1 .glb (by decide))⟩

/-- After it nothing of the cycle touches it. -/
theorem tst_afterTap (s : State) : (settle (chkPump s)).tst = s.tst :=
  (sameBut_settle (chkPump s) .tst (by decide) : _ = (chkPump s).tst).trans (sameBut_chkPump s .tst (by decide))

/-- The scan chains leave the controller alone, and without test mode their own outputs too. -/
theorem scanTick_tst (s : State) : ∃ so, (scanTick s).tst = { s.tst with scanWas := s.tst.scanClk, so := so } ∧ (s.glb.testMode = false → so = s.tst.so) := by
  unfold scanTick
  dsimp only
  split
  · next h => exact ⟨_, rfl, fun hm => by rw [hm] at h; simp at h⟩
  · exact ⟨s.tst.so, rfl, fun _ => rfl⟩

theorem tapTick_reset {s : State} (h : s.tst.trstN = false) :
    (tapTick s).tst.tap = .logicReset ∧ (tapTick s).tst.ir = 0x1F ∧ (tapTick s).tst.tdo = false := by
  unfold tapTick
  dsimp only
  rw [h, if_pos (by decide)]
  obtain ⟨so, hso, -⟩ := scanTick_tst { s with tst := { s.tst with tckWas := s.tst.tck, trstN := false, tap := .logicReset, ir := 0x1F, tdo := false } }
  dsimp only at hso
  rw [hso]
  exact ⟨rfl, rfl, rfl⟩

theorem tckRise_glb (s : State) : (tckRise s).glb = s.glb := rfl

theorem tapTick_rise {s : State} (ht : s.tst.trstN = true) (hk : s.tst.tck = true) (hw : s.tst.tckWas = false) :
    (tapTick s).tst.tap = s.tst.tap.next s.tst.tms ∧ (tapTick s).tst.tckWas = true ∧ (tapTick s).tst.tdo = s.tst.tdo ∧
      (s.tst.tap = .shiftDr → (tapTick s).tst.sr = shiftIn (drLen s.tst.ir) s.tst.tdi s.tst.sr) ∧
      (s.glb.testMode = false → (tapTick s).tst.so = s.tst.so) := by
  obtain ⟨so, hso, hkeep⟩ := scanTick_tst (tckRise { s with tst := { s.tst with tckWas := s.tst.tck } })
  have htap : tapTick s = scanTick (tckRise { s with tst := { s.tst with tckWas := s.tst.tck } }) := by
    unfold tapTick
    dsimp only
    rw [ht, hk, hw]
    rfl
  rw [htap, hso]
  refine ⟨rfl, hk, rfl, fun hd => ?_, hkeep⟩
  show (tckRise { s with tst := { s.tst with tckWas := s.tst.tck } }).tst.sr = _
  simp only [tckRise, hd]

/-- Settles O3: an idle cycle is its stages alone (`tick_idle`, `idles_ticking`); in any cycle the test port moves as `tapTick` has it. -/
theorem emptyQueueTicks : Obligations.EmptyQueueTicks := by
  unfold Obligations.EmptyQueueTicks
  refine ⟨?idle, ?trst, ?rise, rfl, rfl, ?por⟩
  case idle =>
    intro s hp
    cases hr : s.aon.porLow with
    | true =>
      refine ⟨s, ?_, fun _ => rfl, fun h => by simp at h⟩
      simp only [step, hp, tick, hr, if_true]
    | false =>
      refine ⟨_, step_tick hp hr, fun h => by simp at h, fun _ hk hs ht hj hc => ?_⟩
      rw [tick_idle hk hs ht hj hc]
      have hset := sameBut_settle (ticking s)
      have hi := idles_ticking s
      have htime : (settle (ticking s)).time = (tickTime (tickDivider s)).time := (hset .time (by decide)).trans (hi.same .time (by decide))
      have hfrac : (settle (ticking s)).frac = (tickTime (tickDivider s)).frac := (hset .frac (by decide)).trans (hi.same .frac (by decide))
      have haon : (settle (ticking s)).aon = (tickTime (tickDivider s)).aon := (hset .aon (by decide)).trans (hi.same .aon (by decide))
      have hfab : (settle (ticking s)).fab = (ticking s).fab := hset .fab (by decide)
      refine ⟨⟨htime, hfrac⟩, haon, by rw [hfab]; exact hi.fab, fun d => ?_,
        sameBut_trans (sameBut_ticking s) (sameBut_mono hset (by decide))⟩
      have hpath := hi.path d
      have hbase : pathOf (tickTime (tickDivider s)) d = pathOf s d := by cases d <;> rfl
      rw [pathOf_settle]
      rw [hbase] at hpath
      exact ⟨hpath.frames, hpath.order, hpath.isOpen, hpath.shed, hpath.lanes, hpath.rules⟩
  case trst =>
    intro s hp hr ht
    obtain ⟨htst, -⟩ := sameBut_beforeTap s
    refine ⟨_, step_tick hp hr, ?_⟩
    rw [tst_afterTap]
    exact tapTick_reset (by rw [htst]; exact ht)
  case rise =>
    intro s hp hr ht hk hw
    obtain ⟨htst, hglb⟩ := sameBut_beforeTap s
    refine ⟨_, step_tick hp hr, ?_⟩
    have h := tapTick_rise (s := renewCheck (ticking s)) (by rw [htst]; exact ht) (by rw [htst]; exact hk) (by rw [htst]; exact hw)
    rw [htst, hglb] at h
    rw [tst_afterTap]
    exact h
  case por => exact fun s => ⟨_, rfl, rfl, rfl⟩

end Sys2Proof.Machine
end

section
/-! Escalation where a clear of the qualifying source waits. -/
namespace Sys2Proof.Machine

/-- A set whose source 0 has severity 1, for which action 3 is set: its timer runs, and a clear of its bits waits for the cycle that ends
the next step. -/
def clearedSet : EvSet := { EvSet.reset 1 with stat := 1, raw := 1, clr := 1, escAct := 0x30, escState := .running }

/-- The engine after reset, with that set at CXM. -/
def clearWaits : State := { State.reset with evt := State.reset.evt.put .cxm clearedSet }

theorem escDue_clearWaits : escDue clearWaits .cxm = [3] := by decide

/-- The expiry takes CXM out of service, whose own source has no action; with the clear nothing qualifies, and the timer is idle. -/
theorem escState_clearWaits {t : State} (h : exec (.escalationExpiry 8) clearWaits = .next t) : (t.evt.get .cxm).escState = .idle := by
  have ht : Host.Outcome.next t = exec (.escalationExpiry 8) clearWaits := h.symm
  injection ht with ht
  rw [ht]
  decide

/-- Refutes O57, at its third clause: where a clear of the only qualifying source waits (`clearWaits`), the step at which the timer fires
also clears the source, and the timer is idle (R378), not fired. No run reaches such a state, since every step ends with its clears
taken, but the clause bars none. -/
theorem not_escalationServiceAndGates : ¬ Obligations.EscalationServiceAndGates := by
  unfold Obligations.EscalationServiceAndGates
  rintro ⟨-, -, hdegrade, -⟩
  obtain ⟨t, ht, -, -, hfired, -⟩ := hdegrade clearWaits 8 (by decide) (by decide) (by decide) (by decide) escDue_clearWaits
  rw [escState_clearWaits ht] at hfired
  exact absurd hfired (by decide)

end Sys2Proof.Machine
end

section
/-! The root secret: eight words, least significant first, make the value that the vault then holds in two shares. -/
namespace Sys2Proof.Machine

/-! Bytes of a number. -/

theorem beBytes_length (n v : Nat) : (beBytes n v).length = n := by
  induction n generalizing v with
  | zero => rfl
  | succ n ih => rw [beBytes, List.length_cons, ih]

/-- The bytes of a number hold what of it fits in them. -/
theorem beNat_beBytes (n v : Nat) : beNat (beBytes n v) = v % 256 ^ n := by
  induction n with
  | zero => simp [beBytes, beNat, Nat.mod_one]
  | succ n ih =>
    have h8 : (BitVec.ofNat 8 (v / 256 ^ n)).toNat = v / 256 ^ n % 256 := by simp
    rw [beBytes, beNat, beBytes_length, ih, h8, Nat.pow_succ, Nat.mod_mul, Nat.mul_comm, Nat.add_comm]

theorem slice_full {bs : List Byte} {n : Nat} (h : bs.length = n) : slice bs 0 n = bs := by
  simp [slice, List.take_of_length_le (Nat.le_of_eq h), h]

/-- A 256-bit number survives its way through the bytes of a key. -/
theorem key256_beBytes {v : Nat} (h : v < 2 ^ 256) : key256 (beBytes 32 v) = BitVec.ofNat 256 v := by
  rw [key256, slice_full (beBytes_length 32 v), beNat_beBytes, Nat.mod_eq_of_lt (by omega)]

/-! The words. -/

theorem rootValue_cons (w : BitVec 32) (ws : List (BitVec 32)) : rootValue (w :: ws) = w.toNat + 2 ^ 32 * rootValue ws := rfl

theorem rootValue_lt (ws : List (BitVec 32)) : rootValue ws < 2 ^ (32 * ws.length) := by
  induction ws with
  | nil => exact Nat.one_pos
  | cons w ws ih =>
    have hw := w.isLt
    have hlen : 2 ^ (32 * (w :: ws).length) = 2 ^ 32 * 2 ^ (32 * ws.length) := by
      rw [List.length_cons, Nat.mul_succ, Nat.pow_add, Nat.mul_comm]
    rw [rootValue_cons, hlen]
    calc w.toNat + 2 ^ 32 * rootValue ws
      _ < 2 ^ 32 * (rootValue ws + 1) := by omega
      _ ≤ 2 ^ 32 * 2 ^ (32 * ws.length) := Nat.mul_le_mul_left _ ih

/-- Word `k` stands in bits [32k+31:32k]. -/
theorem rootValue_word (ws : List (BitVec 32)) (k : Nat) : rootValue ws / 2 ^ (32 * k) % 2 ^ 32 = (ws.getD k 0).toNat := by
  induction ws generalizing k with
  | nil => simp [rootValue]
  | cons w ws ih =>
    have hw := w.isLt
    rw [rootValue_cons]
    cases k with
    | zero => simp only [List.getD_cons_zero]; omega
    | succ k =>
      have hdiv : (w.toNat + 2 ^ 32 * rootValue ws) / 2 ^ 32 = rootValue ws := by omega
      rw [List.getD_cons_succ, ← ih k, Nat.mul_succ, Nat.add_comm (32 * k), Nat.pow_add, ← Nat.div_div_eq_div_mul, hdiv]

theorem rootValue_zero (ws : List (BitVec 32)) : rootValue ws = 0 ↔ ws.all (· == 0) = true := by
  induction ws with
  | nil => simp [rootValue]
  | cons w ws ih =>
    have hw : w.toNat = 0 ↔ w = 0 := by simp [← BitVec.toNat_inj]
    rw [rootValue_cons, List.all_cons, Bool.and_eq_true, beq_iff_eq, ← ih, ← hw]
    omega

theorem rootValue_ones (ws : List (BitVec 32)) :
    rootValue ws = 2 ^ (32 * ws.length) - 1 ↔ ws.all (· == 0xFFFFFFFF) = true := by
  induction ws with
  | nil => simp [rootValue]
  | cons w ws ih =>
    have hlt := w.isLt
    have hbound := rootValue_lt ws
    have hw : w.toNat = 2 ^ 32 - 1 ↔ w = 0xFFFFFFFF := by simp [← BitVec.toNat_inj]
    have hlen : 2 ^ (32 * (w :: ws).length) = 2 ^ 32 * 2 ^ (32 * ws.length) := by
      rw [List.length_cons, Nat.mul_succ, Nat.pow_add, Nat.mul_comm]
    rw [rootValue_cons, List.all_cons, Bool.and_eq_true, beq_iff_eq, ← ih, ← hw, hlen]
    omega

/-! A key written to a slot. -/

/-- Drawing a mask counts what the generators gave. -/
theorem drawMask_vlt (s : State) :
    (drawMask s).2.vlt = { s.vlt with remaskIdx := (drawMask s).2.vlt.remaskIdx, bootIdx := (drawMask s).2.vlt.bootIdx } := by
  unfold drawMask
  split
  · rfl
  · unfold bootDraw
    split <;> rfl

theorem vslot_writeKey (n : Nat) (a : Attr) (k e : Bool) (r : Role) (o : Nat) (ks : List Byte) (s : State) :
    let v := vslot (writeKey n a k e r o ks s) n
    v.st = .loaded ∧ v.role = r ∧ v.attr = a ∧ v.shareA ^^^ v.shareB = key256 ks := by
  have hv : ∀ v, smGet .reset (smSet VSlot.reset (drawMask s).2.vlt.slots n v) n = v := fun v => by simp
  refine ⟨?_, ?_, ?_, ?_⟩ <;> simp only [writeKey, vslot, setVslot, hv]
  rw [BitVec.xor_comm, BitVec.xor_assoc, BitVec.xor_self, BitVec.xor_zero]

theorem vslot_writeKey_other {n j : Nat} (h : j ≠ n) (a : Attr) (k e : Bool) (r : Role) (o : Nat) (ks : List Byte) (s : State) :
    vslot (writeKey n a k e r o ks s) j = vslot s j := by
  have hd : (drawMask s).2.vlt.slots = s.vlt.slots := by rw [drawMask_vlt]
  simp only [writeKey, vslot, setVslot, smGet_smSet, if_neg h, hd]

theorem writeKey_rootOk (n : Nat) (a : Attr) (k e : Bool) (r : Role) (o : Nat) (ks : List Byte) (s : State) :
    (writeKey n a k e r o ks s).vlt.rootOk = s.vlt.rootOk := by
  show (drawMask s).2.vlt.rootOk = _
  rw [drawMask_vlt]

/-! The rows. -/

/-- The vault as it takes the root secret: the boot generator at stage 1, the secret unmasked in its slot (R202, R223). -/
def rootHeld (v : Nat) (s : State) : State :=
  setVslot rootSlot
    { VSlot.reset with st := .loaded, attr := .deriveOnly, k256 := true, role := .system, origin := 4, shareB := key256 (beBytes 32 v),
                       par := rowParity 0 (key256 (beBytes 32 v)) 0 }
    { s with vlt := { s.vlt with bootKey := some (bootKeyOf (beBytes 32 v) 1 0), bootStage := 1, bootV := 0, bootIdx := 0, rootOk := true } }

theorem rootTaken_eq (v : Nat) (s : State) :
    rootTaken v s = rootDecided (writeKey rootSlot .deriveOnly true false .system 4 (beBytes 32 v) (rootHeld v s)) := rfl

theorem sameBut_rootHeld (v : Nat) (s : State) : sameBut [.vlt] s (rootHeld v s) := vlt_only s _

theorem rootkeyWord_exec {s : State} (w : BitVec 32) (e : Bool) (hl : resetLow s = false) (hr : s.aon.rootReq = true) :
    exec (.rootkeyWord w e) s = done
      (if e then rootMissing s
       else if (s.aon.rootWords ++ [w]).length < 8 then { s with aon := { s.aon with rootWords := s.aon.rootWords ++ [w] } }
       else if rootValue (s.aon.rootWords ++ [w]) = 0 ∨ rootValue (s.aon.rootWords ++ [w]) = 2 ^ 256 - 1 then rootMissing s
       else rootTaken (rootValue (s.aon.rootWords ++ [w])) s) := by
  refine (run_high hl).trans ?_
  rw [hr]
  rfl

/-- Without the secret start-up goes on, with RESUME 5 and the level event of its absence (R69). -/
theorem rootMissing_shows (s : State) :
    eventSet (settle (rootMissing s)) .aon 5 ∧
      settled { s with aon := { s.aon with rootReq := false, rootWords := [], up := true, rootAbsent := true },
                       glb := { s.glb with bootStage := 1, resume := 5, ramping := [1, 2, 3] } } (settle (rootMissing s)) := by
  refine ⟨level_shows (settled_settle (rootMissing s)) ?_ (by decide), settled_settle _⟩
  rw [levelOf_settle]
  simp [levelOf, rootMissing, rootDecided, setStage, setResume, bitIf]

/-- Settles O8: the words stand in the value in their order (`rootValue_word`), a value of all zeros or all ones is one of words of all
zeros or all ones (`rootValue_zero`, `rootValue_ones`), and the slot's shares sum to the key that was written (`vslot_writeKey`). -/
theorem rootSecret : Obligations.RootSecret := by
  unfold Obligations.RootSecret
  refine ⟨?word, ?taken, ?refused, ?deadline⟩
  case word =>
    intro s w hl hr hlen
    refine ⟨_, rootkeyWord_exec w false hl hr, ?_⟩
    have h8 : (s.aon.rootWords ++ [w]).length < 8 := by rw [List.length_append, List.length_singleton]; omega
    rw [if_neg (by decide), if_pos h8]
    exact settled_settle _
  case taken =>
    intro s w hl hr hlen hzero hones
    have h8 : (s.aon.rootWords ++ [w]).length = 8 := by rw [List.length_append, List.length_singleton, hlen]
    have hx := rootkeyWord_exec w false hl hr
    generalize s.aon.rootWords ++ [w] = ws at *
    have hlt : rootValue ws < 2 ^ 256 := by have := rootValue_lt ws; rwa [h8] at this
    have hgood : ¬(rootValue ws = 0 ∨ rootValue ws = 2 ^ 256 - 1) := by
      have hnot : ∀ c : BitVec 32, ws.any (· != c) = true → ¬ws.all (· == c) = true := fun c h => by
        obtain ⟨x, hx, hc⟩ := List.any_eq_true.1 h
        exact fun ha => (bne_iff_ne.1 hc) (beq_iff_eq.1 (List.all_eq_true.1 ha x hx))
      rw [rootValue_zero, show (256 : Nat) = 32 * ws.length by rw [h8], rootValue_ones]
      exact not_or.2 ⟨hnot 0 hzero, hnot _ hones⟩
    rw [if_neg (by decide), if_neg (by omega), if_neg hgood, rootTaken_eq] at hx
    generalize hu : writeKey rootSlot .deriveOnly true false .system 4 (beBytes 32 (rootValue ws)) (rootHeld (rootValue ws) s) = u at hx
    obtain ⟨hst, hrole, hattr, hkey⟩ := vslot_writeKey rootSlot .deriveOnly true false .system 4 (beBytes 32 (rootValue ws)) (rootHeld (rootValue ws) s)
    have hfr := sameBut_writeKey rootSlot .deriveOnly true false .system 4 (beBytes 32 (rootValue ws)) (rootHeld (rootValue ws) s)
    have hok := writeKey_rootOk rootSlot .deriveOnly true false .system 4 (beBytes 32 (rootValue ws)) (rootHeld (rootValue ws) s)
    rw [hu] at hst hrole hattr hkey hfr hok
    have hsame : sameBut [.vlt, .rng] s u := sameBut_trans (sameBut_mono (sameBut_rootHeld _ s) (by decide)) hfr
    have haon : u.aon = s.aon := hsame .aon (by decide)
    have hglb : u.glb = s.glb := hsame .glb (by decide)
    have hslot : ∀ n, vslot (settle (rootDecided u)) n = vslot u n := fun n => rfl
    refine ⟨_, hx, hok, ?_⟩
    simp only [hslot]
    refine ⟨hst, hrole, hattr, fun k hk => ?_, ?_, ?_, fun n hn => ?_, ?_⟩
    · rw [show (8192 : Nat) = rootSlot from rfl, hkey, key256_beBytes hlt, ← BitVec.toNat_inj, ← rootValue_word,
        BitVec.extractLsb'_toNat, BitVec.toNat_ofNat, Nat.mod_eq_of_lt hlt, Nat.shiftRight_eq_div_pow]
    · rw [← haon]; rfl
    · rw [← hglb]; rfl
    · rw [← hu, vslot_writeKey_other (n := rootSlot) hn, rootHeld, vslot_setVslot, if_neg (show n ≠ rootSlot from hn)]
      rfl
    · refine settle_keeps (sameBut_trans (sameBut_mono hsame (by decide)) ?_) (by decide)
      intro x hx; cases x <;> simp_all [Part.same, rootDecided]
  case refused =>
    intro s w e hl hr hbad
    refine ⟨_, rootkeyWord_exec w e hl hr, ?_⟩
    rcases hbad with rfl | ⟨hlen, hval⟩
    · exact rootMissing_shows s
    · have h8 : (s.aon.rootWords ++ [w]).length = 8 := by rw [List.length_append, List.length_singleton, hlen]
      have hv : rootValue (s.aon.rootWords ++ [w]) = 0 ∨ rootValue (s.aon.rootWords ++ [w]) = 2 ^ 256 - 1 := by
        rw [rootValue_zero, show (256 : Nat) = 32 * (s.aon.rootWords ++ [w]).length by rw [h8], rootValue_ones]; exact hval
      rw [if_neg (by omega : ¬(s.aon.rootWords ++ [w]).length < 8), if_pos hv, ite_self]
      exact rootMissing_shows s
  case deadline =>
    intro s hl hr
    refine ⟨settle (rootMissing s), ?_, rootMissing_shows s⟩
    refine (run_high hl).trans ?_
    rw [hr]
    rfl

end Sys2Proof.Machine
end

section
/-! Tampers: what reaches the latch, and LOCKOUT with every slot of the vault zeroized. -/
namespace Sys2Proof.Machine

/-- PD00's meanings take place while rst_por_n is high. -/
theorem runAon_high {s t : State} (h : s.aon.porLow = false) : runAon s t = done t := by unfold runAon; rw [h]; rfl

theorem bitIf_getLsbD {i : Nat} (hi : i < 72) (b : Bool) (n : Nat) : (bitIf b n).getLsbD i = (b && decide (n = i)) := by
  cases b
  · simp [bitIf]
  · have hone : bitIf true n = BitVec.ofNat 72 (1 <<< n) := by simp [bitIf]
    rw [hone, BitVec.getLsbD_ofNat, Nat.one_shiftLeft, Nat.testBit_two_pow]
    simp [hi]

/-! Zeroized slots. -/

/-- A slot that holds nothing: EMPTY, both shares zero. -/
def VSlot.Blank (v : VSlot) : Prop := v.st = .empty ∧ v.shareA = 0 ∧ v.shareB = 0

theorem blank_zeroSlot (n : Nat) (s : State) {j : Nat} (h : j = n ∨ (vslot s j).Blank) : (vslot (zeroSlot n s) j).Blank := by
  rw [vslot_zeroSlot]
  split
  · exact ⟨rfl, rfl, rfl⟩
  next hne => exact h.resolve_left hne

theorem blank_foldl (ns : List Nat) (s : State) {j : Nat} (h : j ∈ ns ∨ (vslot s j).Blank) :
    (vslot (ns.foldl (fun t n => zeroSlot n t) s) j).Blank := by
  induction ns generalizing s with
  | nil => exact h.resolve_left (by simp)
  | cons n ns ih =>
    refine ih _ ?_
    rcases h with h | h
    · rcases List.mem_cons.1 h with rfl | h
      · exact .inr (blank_zeroSlot j s (.inl rfl))
      · exact .inl h
    · exact .inr (blank_zeroSlot n s (.inr h))

/-- A full zeroization leaves nothing in any slot: one that the vault does not list is EMPTY already. -/
theorem blank_zeroizeAll (s : State) (j : Nat) : (vslot (zeroizeAll s) j).Blank := by
  refine blank_foldl _ s ?_
  by_cases h : vslot s j = .reset
  · exact .inr (h ▸ ⟨rfl, rfl, rfl⟩)
  · exact .inl (List.mem_filter.2 ⟨List.mem_map.2 ⟨_, mem_of_smGet h, rfl⟩, rfl⟩)

/-! LOCKOUT. -/

/-- What entering LOCKOUT does after the zeroization: the flushes, the fabric, the stores. -/
theorem lockout_flow (s : State) :
    let t := lockoutStores (leaveFabric (flushPath .ing (flushPath .egr (zeroizeAll s))))
    t.glb = s.glb ∧ t.vlt = (zeroizeAll s).vlt := by
  have hz := sameBut_zeroizeAll s
  have he := sameBut_flushPath .egr (zeroizeAll s)
  have hi := sameBut_flushPath .ing (flushPath .egr (zeroizeAll s))
  have hf := sameBut_leaveFabric (flushPath .ing (flushPath .egr (zeroizeAll s)))
  have hs := sameBut_lockoutStores (leaveFabric (flushPath .ing (flushPath .egr (zeroizeAll s))))
  exact ⟨(hs .glb (by decide)).trans ((hf .glb (by decide)).trans ((hi .glb (by decide)).trans ((he .glb (by decide)).trans
      (hz .glb (by decide))))),
    (hs .vlt (by decide)).trans ((hf .vlt (by decide)).trans ((hi .vlt (by decide)).trans (he .vlt (by decide))))⟩

theorem lockout_enters {s : State} (cause : Nat) (b : Bool) (hm : s.glb.mode ≠ .lockout) :
    let t := lockout cause b s
    t.glb.mode = .lockout ∧ t.glb.cause = BitVec.ofNat 8 cause ∧ t.glb.prev = s.glb.mode ∧ t.glb.tampered = b ∧
      ∀ n, (vslot t n).Blank := by
  have hab := (abortAll_keeps (if b then stTampered else stAborted) (fun _ => true) s).1
  obtain ⟨hglb, hvlt⟩ := lockout_flow (abortAll (if b then stTampered else stAborted) (fun _ => true) s)
  have hglb' := hglb.trans (hab .glb (by decide))
  have hne : (s.glb.mode == .lockout) = false := by simpa using hm
  intro t
  simp only [t, lockout, hne, Bool.false_eq_true, if_false]
  refine ⟨rfl, rfl, congrArg Glb.mode hglb', rfl, fun n => ?_⟩
  have hslot := blank_zeroizeAll (abortAll (if b then stTampered else stAborted) (fun _ => true) s) n
  rw [vslot, ← hvlt] at hslot
  exact hslot

/-! The latch. -/

/-- A tamper that is latched waits while the engine is in reset, and has done its work in LOCKOUT. -/
theorem tamperCheck_rests {s : State} (h : released s = false ∨ s.glb.mode = .lockout ∨ s.aon.tmpLatched = 0) : tamperCheck s = s := by
  unfold tamperCheck
  rcases h with h | h | h
  · simp [h]
  · simp [lockout, h]
  · simp [h]

theorem tamperCheck_enters {s : State} (hr : released s = true) (ht : s.aon.tmpLatched ≠ 0) : tamperCheck s = lockout 6 true s := by
  rw [tamperCheck, if_pos (by rw [hr, Bool.and_true, bne_iff_ne]; exact ht)]

/-- Settles O10: a latched tamper does nothing more (`tamperCheck_rests`) or enters LOCKOUT (`tamperCheck_enters`, `lockout_enters`),
whatever the event sets hold; the clock's condition is a level. -/
theorem tamperAndClock : Obligations.TamperAndClock := by
  unfold Obligations.TamperAndClock
  refine ⟨?rests, ?glitchRests, ?enters, ?glitchEnters, ?clock⟩
  case rests =>
    intro s v hp h
    refine ⟨_, (runAon_high hp).trans (congrArg done (tamperCheck_rests ?_)), settled_settle _⟩
    exact h
  case glitchRests =>
    intro s hp h
    refine ⟨_, (runAon_high hp).trans (congrArg done (tamperCheck_rests ?_)), settled_settle _⟩
    exact h.imp id .inl
  case enters =>
    intro s v hp hr hm ht
    refine ⟨_, (runAon_high hp).trans (congrArg done (tamperCheck_enters ?_ ?_)), ?_⟩
    · exact hr
    · exact ht
    · exact lockout_enters 6 true hm
  case glitchEnters =>
    intro s hp hr hm
    refine ⟨_, (runAon_high hp).trans (congrArg done (tamperCheck_enters ?_ ?_)), ?_⟩
    · exact hr
    · intro h
      have hbit : (s.aon.tmpLatched ||| 0x10#5).getLsbD 4 = false := by rw [show s.aon.tmpLatched ||| 0x10#5 = 0#5 from h]; rfl
      simp at hbit
    · exact lockout_enters 6 true hm
  case clock =>
    intro s b hp
    have hbit : (levelOf { s with aon := { s.aon with clkBad := b } } .aon).getLsbD 7 = b := by
      simp only [levelOf, BitVec.getLsbD_or, bitIf_getLsbD (show 7 < 72 by decide)]
      simp
    refine ⟨_, runAon_high hp, settled_settle _, by rw [levelOf_settle]; exact hbit, ?_⟩
    rintro rfl
    exact level_shows (settled_settle _) (by rw [levelOf_settle]; exact hbit) (by decide)

end Sys2Proof.Machine
end

section
/-! The ports' states and the steering handshake. -/
namespace Sys2Proof.Machine

/-! Fields of a word. -/

theorem fld_or (v w : W64) (lo n : Nat) : fld (v ||| w) lo n = fld v lo n ||| fld w lo n := by
  simp only [fld, BitVec.toNat_or, Nat.shiftRight_or_distrib]
  exact Nat.or_mod_two_pow

/-- A value placed in a field is read there as far as it fits. -/
theorem fld_put_same {lo n : Nat} (v : Nat) (h : lo + n ≤ 64) : fld (put v lo n) lo n = v % 2 ^ n := by
  have hlt : v % 2 ^ n * 2 ^ lo < 2 ^ 64 :=
    calc v % 2 ^ n * 2 ^ lo
      _ < 2 ^ n * 2 ^ lo := Nat.mul_lt_mul_of_pos_right (Nat.mod_lt _ (Nat.two_pow_pos n)) (Nat.two_pow_pos lo)
      _ = 2 ^ (lo + n) := by rw [Nat.pow_add, Nat.mul_comm]
      _ ≤ 2 ^ 64 := Nat.pow_le_pow_right (by decide) h
  rw [fld, put, BitVec.toNat_ofNat, Nat.shiftLeft_eq, Nat.mod_eq_of_lt hlt, Nat.shiftRight_eq_div_pow,
    Nat.mul_div_cancel _ (Nat.two_pow_pos lo), Nat.mod_mod]

/-- A field below another leaves it zero. -/
theorem fld_put_below {lo n k : Nat} (v m : Nat) (h : lo + n ≤ k) : fld (put v lo n) k m = 0 := by
  have hlt : v % 2 ^ n * 2 ^ lo < 2 ^ k :=
    calc v % 2 ^ n * 2 ^ lo
      _ < 2 ^ n * 2 ^ lo := Nat.mul_lt_mul_of_pos_right (Nat.mod_lt _ (Nat.two_pow_pos n)) (Nat.two_pow_pos lo)
      _ = 2 ^ (lo + n) := by rw [Nat.pow_add, Nat.mul_comm]
      _ ≤ 2 ^ k := Nat.pow_le_pow_right (by decide) h
  rw [fld, put, BitVec.toNat_ofNat, Nat.shiftLeft_eq, Nat.shiftRight_eq_div_pow,
    Nat.div_eq_of_lt (Nat.lt_of_le_of_lt (Nat.mod_le _ _) hlt), Nat.zero_mod]

theorem fld_putB_below {i k : Nat} (b : Bool) (m : Nat) (h : i < k) : fld (putB b i) k m = 0 := by
  cases b
  · simp [putB, fld]
  · exact fld_put_below 1 m h

/-! PEER events. -/

/-- The word that a PEER event logs (R321). -/
theorem peerEvent_log {port cause : Nat} (hc : cause < 16) (peer : Option Nat) (s : State) :
    fld (peerEvent port cause peer s).fab.peerLog 60 4 = cause := by
  have hlog : (peerEvent port cause peer s).fab.peerLog =
      put cause 60 4 ||| put port 57 3 ||| putB peer.isSome 54 ||| put (peer.getD 0) 48 6 ||| put (now s) 0 48 := by simp [peerEvent]
  rw [hlog]
  simp only [fld_or]
  rw [fld_put_same cause (by decide), fld_put_below port 4 (by decide), fld_putB_below _ 4 (by decide), fld_put_below _ 4 (by decide),
    fld_put_below _ 4 (by decide)]
  simpa using hc

/-- A PEER event writes its log and nothing else of the fabric. -/
theorem peerEvent_fab (port cause : Nat) (peer : Option Nat) (s : State) :
    (peerEvent port cause peer s).fab = { s.fab with peerLog := (peerEvent port cause peer s).fab.peerLog } := by
  simp [peerEvent]

theorem sameBut_peerEvent (port cause : Nat) (peer : Option Nat) (s : State) :
    sameBut [.fab, .evt, .tel] s (peerEvent port cause peer s) :=
  sameBut_trans (sameBut_mono (fab_only s _) (by decide)) (sameBut_mono (sameBut_raiseL _ _ _ _) (by decide))

theorem fab_defined {n : Nat} (h : n < 32) : Sub.fab.defined.getLsbD n = true := by interval_cases n <;> rfl

/-- A raised cause waits for the end of the step. -/
theorem raiseL_waits {u : Sub} {n : Nat} (hn : n < 72) (ls : List Nat) (s : State) :
    ((raiseL u n ls s).evt.get u).pendReal.getLsbD n = true := by
  have hb : (BitVec.ofNat 72 (1 <<< n)).getLsbD n = true := by
    rw [BitVec.getLsbD_ofNat]; simp [hn, Nat.testBit_shiftLeft]
  rw [raiseL_evt, if_pos rfl]
  exact (BitVec.getLsbD_or ..).trans (Bool.or_eq_true_iff.2 (.inr hb))

/-- The partner's PEER event, at the port of the route toward it: cause 9 of a protocol error, 7 of an unanswered request (R73, R74). -/
theorem partnerEvent_shows {cause : Nat} (hc : cause < 16) {s u : State} (hp : u.fab.pair = s.fab.pair) (hq : u.fab.peers = s.fab.peers)
    (hs : sameBut [.fab, .evt, .tel] s u) :
    let t := settle (partnerEvent cause u)
    t.fab = { u.fab with peerLog := t.fab.peerLog } ∧ fld t.fab.peerLog 60 4 = cause ∧
      (peerPort s s.fab.pair.partner < 8 → eventSet t .fab (4 * peerPort s s.fab.pair.partner + 3)) ∧ sameBut [.fab, .evt, .tel] s t := by
  have hport : peerPort u u.fab.pair.partner = peerPort s s.fab.pair.partner := by
    have hpeer : ∀ a, peerOf u a = peerOf s a := fun a => by simp only [peerOf, hq]
    rw [hp]
    cases s.fab.pair.partner with
    | none => rfl
    | some a => simp only [peerPort, hpeer]
  refine ⟨peerEvent_fab _ _ _ u, peerEvent_log hc _ u, fun h => ?_, settle_keeps (sameBut_trans hs (sameBut_peerEvent _ _ _ u)) (by decide)⟩
  rw [← hport] at h ⊢
  exact waiting_shows (fab_defined (by omega)) (raiseL_waits (by omega) _ _)

/-! The handshake. -/

/-- The steering port at rest: no request, no acknowledge. -/
def atRest (s : State) : State := { s with fab := { s.fab with steer := { s.fab.steer with ack := false, draining := false } } }

theorem steerAckFall_exec {s : State} (h : resetLow s = false) : exec .steerAckFall s = done (steerPump (atRest s)) := run_high h

theorem steerPump_idle {s : State} (ht : s.fab.steer.needTake = false) (hy : s.fab.steer.needYield = false) :
    steerPump s = s := by simp [steerPump, ht, hy]

section
variable {s : State} {p : Nat} (hr : s.fab.steer.req = false) (ha : s.fab.steer.ack = false) (hp : s.fab.pair.partner = some p)
  (hm : s.glb.mode ≠ .lockout)
include hr ha hp hm

/-- A held TAKE goes first (R74). -/
theorem steerPump_take (ht : s.fab.steer.needTake = true) (hd : s.glb.mode ≠ .doze) :
    steerPump s = { s with fab := { s.fab with steer := { s.fab.steer with req := true, code := 1, peer := p, needTake := false } } } := by
  simp [steerPump, steerRaise, modSteer, hr, ha, hp, hm, ht, hd]

theorem steerPump_yield (ht : s.fab.steer.needTake = false) (hy : s.fab.steer.needYield = true) :
    steerPump s = { s with fab := { s.fab with steer :=
      { s.fab.steer with req := true, code := 2, peer := p, needYield := false, handover := false } } } := by
  simp [steerPump, steerRaise, modSteer, hr, ha, hp, hm, ht, hy]

end

/-- Outside DOZE and with no change of mode in progress there is nothing to wake. -/
theorem beginWake_awake {s : State} (hm : s.glb.mode ≠ .doze) (hc : s.glb.change = none) : beginWake s = s := by
  simp [beginWake, hm, hc]

/-- Settles O13: the ports' states wake the engine in DOZE alone (`beginWake_awake`), each edge of the acknowledge is one case of the
handshake, a need that is held goes out when the port is at rest (`steerPump_take`, `steerPump_yield`), and a break of the protocol is the
partner's PEER event (`partnerEvent_shows`). -/
theorem portsAndSteering : Obligations.PortsAndSteering := by
  unfold Obligations.PortsAndSteering
  refine ⟨?awake, ?wakes, ?rise, ?unasked, ?rest, ?take, ?yield, ?late, ?stuck⟩
  case awake =>
    intro s v hl hm hc
    refine ⟨_, (run_high hl).trans (congrArg done ?_), settled_settle _⟩
    rw [beginWake_awake (s := { s with glb := { s.glb with prt := v } }) hm hc, ite_self]
  case wakes =>
    intro s v hl hm hc hv hw
    have hx : exec (.prtUpChange v) s = done (beginWake { s with glb := { s.glb with prt := v } }) := by
      refine (run_high hl).trans (congrArg done (if_pos ?_))
      rw [Bool.and_eq_true, bne_iff_ne]
      exact ⟨hv, hw⟩
    have hb : beginWake { s with glb := { s.glb with prt := v } } =
        { s with aon := { s.aon with wakeLatched := true }
                 glb := { s.glb with prt := v, change := some { kind := .waking, cmd := none },
                                     ramping := s.glb.ramping.filter (fun n => decide (52 ≤ n)) ++ wakeDomains s } } := by
      simp only [beginWake, hm, hc, beq_self_eq_true, Option.isNone_none, Bool.and_self, if_true]
      rfl
    rw [hb] at hx
    refine ⟨_, hx, rfl, rfl, rfl, ?_⟩
    intro x hx; cases x <;> simp_all [Part.same]
  case rise =>
    intro s hl hr
    refine ⟨_, (run_high hl).trans (congrArg done (if_pos hr)), settled_settle _⟩
  case unasked =>
    intro s hl hr
    refine ⟨_, (run_high hl).trans (congrArg done (if_neg (by simp [hr]))), ?_⟩
    exact partnerEvent_shows (cause := 9) (by decide) rfl rfl (sameBut_mono (fab_only s _) (by decide))
  case rest =>
    intro s hl ht hy
    exact ⟨_, (steerAckFall_exec hl).trans (congrArg done (steerPump_idle (s := atRest s) ht hy)), settled_settle _⟩
  case take =>
    intro s p hl hr hp ht hd hm
    exact ⟨_, (steerAckFall_exec hl).trans (congrArg done (steerPump_take (s := atRest s) hr rfl hp hm ht hd)), settled_settle _⟩
  case yield =>
    intro s p hl hr hp ht hy hm
    exact ⟨_, (steerAckFall_exec hl).trans (congrArg done (steerPump_yield (s := atRest s) hr rfl hp hm ht hy)), settled_settle _⟩
  case late =>
    intro s hl hr ha
    refine ⟨_, (run_high hl).trans (congrArg done (if_pos (by simp [hr, ha]))), ?_⟩
    exact partnerEvent_shows (cause := 7) (by decide) rfl rfl (sameBut_refl _ s)
  case stuck =>
    intro s hl ha hd
    refine ⟨_, (run_high hl).trans (congrArg done (if_pos (by simp [hd, ha]))), ?_⟩
    exact partnerEvent_shows (cause := 9) (by decide) rfl rfl (sameBut_refl _ s)

end Sys2Proof.Machine
end

section
/-! Queues: a flush and a pointer mismatch, by the class of the queue. -/
namespace Sys2Proof.Machine

@[simp] theorem queOf_settle (s : State) (q : Nat) : queOf (settle s) q = queOf s q := rfl

/-! A packet queue is cut off. -/

/-- Items that a flush of a queue loses: those that it holds, what its markers tell of, and `cut` that were being written (R360). -/
def lostItems (v : Que) (cut : Nat) : Nat := v.items.foldl (fun n it => n + (if it.splice then it.dropped else 1)) cut

/-- One splice marker at the old WR is all that a flush leaves. -/
theorem queFlush_fields (time cut : Nat) (v : Que) :
    let w := queFlush time cut v
    w.items = [spliceItem (lostItems v cut) 0 0 time] ∧ w.rd = v.wr ∧ w.wr = v.wr + 1 ∧ w.cmt = v.wr + 1 ∧ w.mismatch = v.mismatch := by
  simp [queFlush, queSplice, Que.add, Que.mark, lostItems]

/-- The open frame that is being written into CTQ counts as one item there, and is discarded. -/
theorem cutWriting_spec (q : Nat) (s : State) :
    (cutWriting q s).1 = (if q = 4 then (tapOpen s).toList.length else 0) ∧ sameBut [.ing] s (cutWriting q s).2 ∧
      (q ≠ 4 → (cutWriting q s).2 = s) := by
  unfold cutWriting
  cases tapOpen s with
  | none => exact ⟨by simp, sameBut_refl _ s, fun _ => rfl⟩
  | some f =>
    by_cases hq : q = 4
    · simp only [hq, if_true]
      exact ⟨rfl, sameBut_setFate .ing f .discard s, fun h => absurd rfl h⟩
    · simp only [hq, if_false]
      exact ⟨trivial, sameBut_refl _ s, fun _ => trivial⟩

/-- The flush of a packet queue that is on. -/
theorem flushQueue_on {q : Nat} {s : State} (hq : isPacketQue q = true) (hd : pdIsOn s (queDomain q) = true) :
    ∃ u, flushQueue q s = modQue q (queFlush (now s) (if q = 4 then (tapOpen s).toList.length else 0)) u ∧
      sameBut [.ing, .tel, .evt] s u ∧ (q ≠ 4 → u.ing = s.ing) := by
  obtain ⟨hn, hs, hi⟩ := cutWriting_spec q s
  have hx : flushQueue q s = modQue q (queFlush (now s) (cutWriting q s).1)
      (if (cutWriting q s).1 = 0 then (cutWriting q s).2 else raise .que 7 (cutWriting q s).2) := by
    simp [flushQueue, hq, hd]
  have hraise : sameBut [.tel, .evt] (cutWriting q s).2
      (if (cutWriting q s).1 = 0 then (cutWriting q s).2 else raise .que 7 (cutWriting q s).2) := by
    split
    · exact sameBut_refl _ _
    · exact sameBut_raiseL _ _ _ _
  rw [← hn]
  exact ⟨_, hx, sameBut_trans (sameBut_mono hs (by decide)) (sameBut_mono hraise (by decide)), fun h4 =>
    (hraise .ing (by decide)).trans (congrArg State.ing (hi h4))⟩

theorem flushQueue_none {q : Nat} {s : State} (h : isPacketQue q = false ∨ pdIsOn s (queDomain q) = false) : flushQueue q s = s := by
  rcases h with h | h <;> simp [flushQueue, h]

/-! Frames that a buffer or a sump loses. -/

theorem killFrame_frames (d : Dir) (f : Frame) (s : State) : (pathOf (killFrame d f s) d).frames = (pathOf s d).frames := by
  unfold killFrame
  split
  · cases d <;> simp only [cutFrame, pathOf_sendFrame]
  · rfl

/-- The frames of a path once `f` is discarded: each is dead, or it is another frame that is as it was. -/
theorem setFate_discard {d : Dir} {f x : Frame} {s : State} (h : x ∈ (pathOf (setFate d f .discard s) d).frames) :
    isDead x = true ∨ x ∈ (pathOf s d).frames ∧ (x.link == f.link && x.orderTag == f.orderTag) = false := by
  rw [setFate, pathOf_modFrame] at h
  obtain ⟨y, hy, rfl⟩ := List.mem_map.1 h
  by_cases hk : (y.link == f.link && y.orderTag == f.orderTag) = true
  · rw [if_pos hk]
    refine .inl ?_
    split <;> simp [isDead]
  · rw [if_neg hk]
    exact .inr ⟨hy, by simpa using hk⟩

/-- What a reset of a buffer or sump does for one of the frames that it loses (R361). -/
def loseFrame (d : Dir) (s : State) (f : Frame) : State :=
  setFate d f .discard { killFrame d f s with lne := { (killFrame d f s).lne with
    redo := (killFrame d f s).lne.redo.filter (fun r => !(r.dir == d && r.link == f.link && r.order == f.orderTag)) } }

theorem loseFrames_eq (d : Dir) (p : Frame → Bool) (s : State) :
    loseFrames d p s = ((pathOf s d).frames.filter (fun f => !isDead f && p f)).foldl (loseFrame d) s := rfl

theorem loseFrame_frames {d : Dir} {f x : Frame} {s : State} (h : x ∈ (pathOf (loseFrame d s f) d).frames) :
    isDead x = true ∨ x ∈ (pathOf s d).frames ∧ (x.link == f.link && x.orderTag == f.orderTag) = false := by
  refine (setFate_discard h).imp id fun ⟨hm, hk⟩ => ⟨?_, hk⟩
  have hp : ∀ l, pathOf { killFrame d f s with lne := l } d = pathOf (killFrame d f s) d := fun l => by cases d <;> rfl
  rwa [hp, killFrame_frames] at hm

theorem foldl_loseFrame {d : Dir} {x : Frame} (gs : List Frame) (s : State) (h : x ∈ (pathOf (gs.foldl (loseFrame d) s) d).frames) :
    isDead x = true ∨ x ∈ (pathOf s d).frames ∧ ∀ g ∈ gs, (x.link == g.link && x.orderTag == g.orderTag) = false := by
  induction gs generalizing s with
  | nil => exact .inr ⟨h, by simp⟩
  | cons g gs ih =>
    rcases ih _ h with hd | ⟨hm, hk⟩
    · exact .inl hd
    · refine (loseFrame_frames hm).imp id fun ⟨hm', hk'⟩ => ⟨hm', fun y hy => ?_⟩
      rcases List.mem_cons.1 hy with rfl | hy
      · exact hk'
      · exact hk y hy

/-- Every frame that satisfies `p` is dead once the buffer or sump has lost them. -/
theorem loseFrames_dead {d : Dir} {p : Frame → Bool} {s : State} {x : Frame} (h : x ∈ (pathOf (loseFrames d p s) d).frames)
    (hp : p x = true) : isDead x = true := by
  rw [loseFrames_eq] at h
  rcases foldl_loseFrame _ s h with hd | ⟨hm, hk⟩
  · exact hd
  · by_contra hn
    have := hk x (List.mem_filter.2 ⟨hm, by simp [hn, hp]⟩)
    simp at this

theorem sameBut_loseFrames (d : Dir) (p : Frame → Bool) (s : State) : sameBut [dirPart d, .lne, .out] s (loseFrames d p s) := by
  have hkill : ∀ f t, sameBut [dirPart d, .lne, .out] t (killFrame d f t) := fun f t => by
    unfold killFrame
    split
    · cases d <;> exact sameBut_mono (sameBut_sendFrame _ _ _ _ _ t) (by decide)
    · exact sameBut_refl _ t
  rw [loseFrames_eq]
  refine sameBut_foldl _ (fun t f => ?_) _ s
  exact sameBut_trans (sameBut_trans (hkill f t) (sameBut_mono (lne_only _ _) (by simp))) (sameBut_mono (sameBut_setFate d f _ _) (by simp))

/-! A mismatch. -/

theorem que_defined {n : Nat} (h : n < 8) : Sub.que.defined.getLsbD n = true := by interval_cases n <;> rfl

/-- A mismatch is counted at its queue. -/
def countMismatch (v : Que) : Que := { v with mismatch := satAdd 16 v.mismatch 1 }

theorem pointerMismatch_exec {q : Nat} {s : State} (hl : resetLow s = false) (hq : q < 24) (hd : pdIsOn s (queDomain q) = true) :
    exec (.pointerMismatch q) s = done (modQue q countMismatch (resetQueue q (raise .que (mismatchSource q) s))) := by
  refine (run_high hl).trans (congrArg done (if_neg ?_))
  simp [hd, hq]

/-- A queue's event shows whatever the reset of its contents does beside the event sets. -/
theorem mismatch_shows {n : Nat} {s u : State} (hn : n < 8) (h : u.evt.get .que = (raise .que n s).evt.get .que) :
    eventSet (settle u) .que n := by
  refine waiting_shows (que_defined hn) ?_
  rw [h]
  exact raiseL_waits (by omega) [] s

/-- The frames that a reset of a buffer or sump loses count as dropped. -/
def dropLost (d : Dir) (p : Frame → Bool) (s : State) (v : Que) : Que :=
  { v with dropped := satAdd 32 v.dropped ((pathOf s d).frames.filter (fun f => !isDead f && p f)).length }

theorem sameBut_syncBuffer (d : Dir) (s : State) : sameBut [.que] s (syncBuffer d s) := by
  have h : ∀ v, sameBut [.que] s (setQue (bufQue d) v s) := fun v => by intro x hx; cases x <;> simp_all [Part.same]
  exact h _

/-- A frame buffer or sump, queue `q`, whose frames are lost: the other of the two follows (`sync`). -/
theorem lostFrames_state {d : Dir} {p : Frame → Bool} {q e : Nat} {sync : State → State} (hsync : ∀ u, sameBut [.que] u (sync u))
    (hother : ∀ u, queOf (sync u) q = queOf u q) (s : State) :
    let u := sync (modQue q (dropLost d p (raise .que e s)) (loseFrames d p (raise .que e s)))
    sameBut [.que] (loseFrames d p (raise .que e s)) u ∧ (queOf u q).mismatch = (queOf s q).mismatch := by
  have hr : sameBut [.tel, .evt] s (raise .que e s) := sameBut_raiseL .que e [] s
  have hf := sameBut_loseFrames d p (raise .que e s)
  refine ⟨sameBut_trans (sameBut_modQue q _ _) (hsync _), ?_⟩
  rw [hother, queOf_modQue, if_pos rfl, show ∀ v, (dropLost d p (raise .que e s) v).mismatch = v.mismatch from fun _ => rfl,
    queOf_que (hf .que (by cases d <;> decide)), queOf_que (hr .que (by decide))]

/-- Its pointers return to 0, and of its frames none leaves. -/
theorem mismatch_frames {d : Dir} {p : Frame → Bool} {q e : Nat} {s u : State} (he : e < 8)
    (h : sameBut [.que] (loseFrames d p (raise .que e s)) u ∧ (queOf u q).mismatch = (queOf s q).mismatch) :
    let t := settle (modQue q countMismatch (modQue q zeroPtrs u))
    eventSet t .que e ∧ (∀ f ∈ (pathOf t d).frames, p f = true → isDead f = true) ∧ (queOf t q).rd = 0 ∧ (queOf t q).wr = 0 ∧
      (queOf t q).cmt = 0 ∧ (queOf t q).mismatch = satAdd 16 (queOf s q).mismatch 1 ∧
      sameBut [dirPart d, .lne, .out, .que, .tel, .evt] s t := by
  obtain ⟨hs, hmis⟩ := h
  have hr : sameBut [.tel, .evt] s (raise .que e s) := sameBut_raiseL .que e [] s
  have hf := sameBut_loseFrames d p (raise .que e s)
  have hevt : u.evt = (raise .que e s).evt := (hs .evt (by decide)).trans (hf .evt (by cases d <;> decide))
  have hpath : pathOf u d = pathOf (loseFrames d p (raise .que e s)) d := pathOf_same (hs .egr (by decide)) (hs .ing (by decide))
  have ht : queOf (settle (modQue q countMismatch (modQue q zeroPtrs u))) q = countMismatch (zeroPtrs (queOf u q)) := by
    rw [queOf_settle, queOf_modQue, if_pos rfl, queOf_modQue, if_pos rfl]
  dsimp only
  rw [ht]
  refine ⟨mismatch_shows he (congrArg (fun m : Evts => m.get .que) hevt), fun f hf' hp => ?_, rfl, rfl, rfl,
    congrArg (fun n => satAdd 16 n 1) hmis, ?_⟩
  · rw [pathOf_settle, pathOf_modQue, pathOf_modQue, hpath] at hf'
    exact loseFrames_dead hf' hp
  · have hq := sameBut_trans (sameBut_modQue q zeroPtrs u) (sameBut_modQue q countMismatch _)
    refine settle_keeps (sameBut_trans (sameBut_trans (sameBut_trans (sameBut_mono hr ?_) (sameBut_mono hf ?_))
      (sameBut_mono hs ?_)) (sameBut_mono hq ?_)) ?_ <;> simp

/-! Commands that the command queue loses. -/

theorem deliver_cmdq (q : QCmd) (st : Nat) (ws : List W64) (o k : Nat) (s : State) :
    (deliver q st ws o k s).mci.cmdq = s.mci.cmdq := by
  unfold deliver
  dsimp only
  split
  · simp [raise, quePass, setHostSlot]
  · have h : ∀ a m t, (sendTo a m t).mci = t.mci := fun a m t => sameBut_sendTo a m t .mci (by decide)
    rw [h]; simp
  · simp

theorem complete_cmdq (q : QCmd) (st : Nat) (ws : List W64) (s : State) :
    (complete q st ws s).mci.cmdq = s.mci.cmdq.filter (fun c => c.id != q.id) := by
  unfold complete completeWith
  rw [deliver_cmdq]

/-- What becomes of one command that the queue has lost (R362). -/
def loseCommand (t : State) (c : QCmd) : State :=
  match c.pkt.req with
  | .hq _ => fail c stAborted t
  | _ => { t with mci := { t.mci with cmdq := t.mci.cmdq.filter (fun x => x.id != c.id) } }

theorem loseCommand_spec (t : State) (c : QCmd) :
    (loseCommand t c).mci.cmdq = t.mci.cmdq.filter (fun x => x.id != c.id) ∧
      (loseCommand t c).evt.get .que = t.evt.get .que := by
  unfold loseCommand
  split
  · exact ⟨complete_cmdq _ _ _ _, (complete_keeps _ _ _ _).2 .que (by decide)⟩
  · exact ⟨rfl, rfl⟩

theorem foldl_loseCommand (cs : List QCmd) (t : State) :
    (cs.foldl loseCommand t).mci.cmdq = t.mci.cmdq.filter (fun x => cs.all (fun c => x.id != c.id)) ∧
      (cs.foldl loseCommand t).evt.get .que = t.evt.get .que := by
  induction cs generalizing t with
  | nil => simp
  | cons c cs ih =>
    obtain ⟨hq, he⟩ := loseCommand_spec t c
    obtain ⟨ihq, ihe⟩ := ih (loseCommand t c)
    rw [List.foldl_cons, ihq, ihe, hq, he, List.filter_filter]
    simp [Bool.and_comm]

/-- With numbers that differ, the commands lost are those of hosts and peers, and no other. -/
theorem filter_lost {cs : List QCmd} (h : (cs.map (·.id)).Nodup) :
    cs.filter (fun x => (cs.filter (fun c => !isSvc c.pkt.req)).all (fun c => x.id != c.id)) = cs.filter (fun c => isSvc c.pkt.req) := by
  refine List.filter_congr fun x hx => Bool.eq_iff_iff.2 ⟨fun ha => ?_, fun hs => ?_⟩
  · by_contra hn
    have := List.all_eq_true.1 ha x (List.mem_filter.2 ⟨hx, by simpa using hn⟩)
    simp at this
  · refine List.all_eq_true.2 fun c hc => ?_
    obtain ⟨hm, hns⟩ := List.mem_filter.1 hc
    rw [bne_iff_ne]
    intro hid
    rw [List.inj_on_of_nodup_map h hx hm hid] at hs
    rw [hs] at hns
    cases hns

theorem loseCommands_eq (s : State) :
    let lost := s.mci.cmdq.filter (fun c => !isSvc c.pkt.req)
    let u := lost.foldl loseCommand s
    loseCommands s = modQue 6 (fun v => { v with rd := 0, wr := u.mci.cmdq.length, cmt := u.mci.cmdq.length,
                                                 dropped := satAdd 32 v.dropped lost.length }) u := rfl

/-! Packet queues. -/

/-- A packet queue after its mismatch: the pointers at 0, and a marker in the first unit (R362). -/
def cutOff (time cut : Nat) (v : Que) : Que :=
  { queFlush time cut { v with wr := v.rd, cmt := v.rd } with rd := 0, wr := 1, cmt := 1 }

theorem cutOff_fields (time cut : Nat) (v : Que) :
    (cutOff time cut v).items = [spliceItem (lostItems v cut) 0 0 time] ∧ (cutOff time cut v).mismatch = v.mismatch := by
  obtain ⟨hi, -, -, -, hm⟩ := queFlush_fields time cut { v with wr := v.rd, cmt := v.rd }
  exact ⟨hi, hm⟩

theorem resetQueue_packet {q : Nat} (h : isPacketQue q = true) (s : State) :
    resetQueue q s = modQue q (cutOff (now s) (cutWriting q s).1) (cutWriting q s).2 := by
  have hne : q ≠ 0 ∧ q ≠ 1 ∧ q ≠ 2 ∧ q ≠ 3 ∧ q ≠ 6 ∧ q ≠ 7 := by
    simp only [isPacketQue, Bool.or_eq_true, Bool.and_eq_true, beq_iff_eq, decide_eq_true_eq] at h; omega
  obtain ⟨h0, h1, h2, h3, h6, h7⟩ := hne
  unfold resetQueue
  split <;> first | contradiction | rfl

theorem packetQue_lt {q : Nat} (h : isPacketQue q = true) : q < 24 := by
  simp only [isPacketQue, Bool.or_eq_true, Bool.and_eq_true, beq_iff_eq, decide_eq_true_eq] at h; omega

/-- The class of a packet queue's event (R364). -/
theorem mismatchSource_packet {q : Nat} (h : isPacketQue q = true) : mismatchSource q = if q ≤ 5 then 2 else 4 := by
  simp only [isPacketQue, Bool.or_eq_true, Bool.and_eq_true, beq_iff_eq, decide_eq_true_eq] at h
  unfold mismatchSource
  split_ifs <;> omega

theorem tapOpen_ing {s t : State} (h : t.ing = s.ing) : tapOpen t = tapOpen s := by
  unfold tapOpen openFrame
  rw [show pathOf t .ing = pathOf s .ing from h]

/-- Settles O40: a flush leaves one marker (`queFlush_fields`), a mismatch of a buffer or sump discards its frames
(`mismatch_frames`, `loseFrames_dead`), and the command queue keeps the service's own commands (`filter_lost`). -/
theorem queueFlushAndMismatch : Obligations.QueueFlushAndMismatch := by
  unfold Obligations.QueueFlushAndMismatch
  refine ⟨?flush, ?flushNone, ?blocked, ?off, ?rxBuffer, ?txBuffer, ?txSump, ?rxSump, ?replies, ?packets, ?commands, ?nothing⟩
  case flush =>
    intro s q hl ht hp hq hd
    obtain ⟨u, hu, hs, hi⟩ := flushQueue_on hq hd
    have hx : exec (.queueFlush q) s = .next (settle (csrOkay (flushQueue q s))) :=
      (csrRun_open ⟨hl, ht, hp⟩ _).trans (by rw [if_pos (packetQue_lt hq)])
    rw [hu] at hx
    obtain ⟨hitems, hrd, hwr, hcmt, -⟩ := queFlush_fields (now s) (if q = 4 then (tapOpen s).toList.length else 0) (queOf u q)
    have hque : ∀ j, queOf u j = queOf s j := queOf_que (hs .que (by decide))
    refine ⟨_, hx, ?_, ?_, ?_, ?_, fun j hj => ?_, ?_, fun h4 => hi h4, ?_⟩
    · rw [csrOkay, queOf_settle_emit, queOf_modQue, if_pos rfl, hitems, hque]; rfl
    · rw [csrOkay, queOf_settle_emit, queOf_modQue, if_pos rfl, hrd, hque]
    · rw [csrOkay, queOf_settle_emit, queOf_modQue, if_pos rfl, hwr, hque]
    · rw [csrOkay, queOf_settle_emit, queOf_modQue, if_pos rfl, hcmt, hque]
    · rw [csrOkay, queOf_settle_emit, queOf_modQue, if_neg hj, hque]
    · have hout : u.out = s.out := hs .out (by decide)
      simp [csrOkay, hout]
    · refine settle_keeps (sameBut_trans (sameBut_trans (sameBut_mono hs (by decide)) (sameBut_mono (sameBut_modQue q _ u) (by decide)))
        (sameBut_mono (sameBut_emit _ _) (by decide))) (by decide)
  case flushNone =>
    intro s q hl ht hp hnone
    have hx := csrRun_open (s := s) ⟨hl, ht, hp⟩ (fun t => if q < 24 then csrOkay (flushQueue q t) else csrNomap t)
    refine ⟨_, hx, ?_, ?_⟩
    · split <;> simp [csrOkay, csrNomap, flushQueue_none hnone]
    · refine settle_keeps ?_ (by decide)
      split
      · rw [flushQueue_none hnone]; exact sameBut_mono (sameBut_emit _ _) (by decide)
      · exact sameBut_mono (sameBut_emit _ _) (by decide)
  case blocked =>
    intro s q hl ht
    refine ⟨_, (run_high hl).trans (congrArg done (if_pos ht)), by simp [csrBlocked], ?_⟩
    exact settle_keeps (sameBut_mono (sameBut_emit _ _) (by decide)) (by decide)
  case off =>
    intro s q hl ht hp
    refine ⟨_, (run_high hl).trans (congrArg done ?_), settled_settle s⟩
    simp [csrGate, ht, hp]
  case rxBuffer =>
    intro s hl hd
    obtain ⟨he, hf, hrd, hwr, hcmt, hmis, hs⟩ := mismatch_frames (d := .ing) (p := fun _ => true) (q := 0) (e := 0) (s := s) (by decide)
      (lostFrames_state (sync := syncSump .ing) (fun u => sameBut_modQue _ _ u) (fun u => (queOf_modQue _ _ u 0).trans (if_neg (by decide))) s)
    exact ⟨_, pointerMismatch_exec (q := 0) hl (by decide) hd, he, fun f h => hf f h rfl, hrd, hwr, hcmt, hmis, hs .egr (by decide), hs .mci (by decide)⟩
  case txBuffer =>
    intro s hl hd
    obtain ⟨he, hf, hrd, hwr, hcmt, hmis, hs⟩ := mismatch_frames (d := .egr) (p := fun _ => true) (q := 1) (e := 0) (s := s) (by decide)
      (lostFrames_state (sync := syncSump .egr) (fun u => sameBut_modQue _ _ u) (fun u => (queOf_modQue _ _ u 1).trans (if_neg (by decide))) s)
    exact ⟨_, pointerMismatch_exec (q := 1) hl (by decide) hd, he, fun f h => hf f h rfl, hrd, hwr, hcmt, hmis, hs .ing (by decide), hs .mci (by decide)⟩
  case txSump =>
    intro s hl hd
    obtain ⟨he, hf, hrd, hwr, hcmt, hmis, hs⟩ := mismatch_frames (d := .egr) (p := inSump) (q := 2) (e := 1) (s := s) (by decide)
      (lostFrames_state (sync := syncBuffer .egr) (fun u => sameBut_syncBuffer .egr u) (fun u => (queOf_setQue _ _ u 2).trans (if_neg (by decide))) s)
    exact ⟨_, pointerMismatch_exec (q := 2) hl (by decide) hd, he, hf, hrd, hwr, hcmt, hmis, hs .ing (by decide), hs .mci (by decide)⟩
  case rxSump =>
    intro s hl hd
    obtain ⟨he, hf, hrd, hwr, hcmt, hmis, hs⟩ := mismatch_frames (d := .ing) (p := inSump) (q := 3) (e := 1) (s := s) (by decide)
      (lostFrames_state (sync := syncBuffer .ing) (fun u => sameBut_syncBuffer .ing u) (fun u => (queOf_setQue _ _ u 3).trans (if_neg (by decide))) s)
    exact ⟨_, pointerMismatch_exec (q := 3) hl (by decide) hd, he, hf, hrd, hwr, hcmt, hmis, hs .egr (by decide), hs .mci (by decide)⟩
  case replies =>
    intro s hl hd
    have hr : sameBut [.tel, .evt] s (raise .que 3 s) := sameBut_raiseL .que 3 [] s
    have hq : ∀ j, queOf (raise .que 3 s) j = queOf s j := queOf_que (hr .que (by decide))
    have ht : ∀ j, queOf (settle (modQue 7 countMismatch (modQue 7 zeroPtrs (raise .que 3 s)))) j =
        if j = 7 then countMismatch (zeroPtrs (queOf s 7)) else queOf s j := fun j => by
      show queOf (modQue 7 countMismatch (modQue 7 zeroPtrs (raise .que 3 s))) j = _
      simp only [queOf_modQue, hq]
      split <;> simp_all
    have hs := sameBut_trans (sameBut_modQue 7 zeroPtrs (raise .que 3 s)) (sameBut_modQue 7 countMismatch _)
    have hall : sameBut [.que, .tel, .evt] s (settle (modQue 7 countMismatch (modQue 7 zeroPtrs (raise .que 3 s)))) :=
      settle_keeps (sameBut_trans (sameBut_mono hr (by decide)) (sameBut_mono hs (by decide))) (by decide)
    have hx : exec (.pointerMismatch 7) s = .next (settle (modQue 7 countMismatch (modQue 7 zeroPtrs (raise .que 3 s)))) :=
      pointerMismatch_exec (q := 7) hl (by decide) hd
    refine ⟨_, hx, mismatch_shows (by decide) (congrArg (fun e : Evts => e.get .que) (hs .evt (by decide))), ?_, ?_, ?_,
      hall .mci (by decide), fun j hj => (ht j).trans (if_neg hj), hall⟩
    · rw [ht, if_pos rfl]; rfl
    · rw [ht, if_pos rfl]; rfl
    · rw [ht, if_pos rfl]; rfl
  case packets =>
    intro s q hl hq hd
    have hr : sameBut [.tel, .evt] s (raise .que (mismatchSource q) s) := sameBut_raiseL _ _ [] s
    have hx := pointerMismatch_exec hl (packetQue_lt hq) hd
    rw [resetQueue_packet hq] at hx
    obtain ⟨hn, hs, -⟩ := cutWriting_spec q (raise .que (mismatchSource q) s)
    generalize (cutWriting q (raise .que (mismatchSource q) s)).2 = u at hx hs
    rw [hn, tapOpen_ing (hr .ing (by decide) : (raise .que (mismatchSource q) s).ing = s.ing)] at hx
    have hque : ∀ j, queOf u j = queOf s j := fun j =>
      (queOf_que (hs .que (by decide)) j).trans (queOf_que (hr .que (by decide)) j)
    have htime : now (raise .que (mismatchSource q) s) = now s := by
      rw [now, (hr .time (by decide) : (raise .que (mismatchSource q) s).time = s.time), ← now]
    rw [htime] at hx
    obtain ⟨hitems, hmis⟩ := cutOff_fields (now s) (if q = 4 then (tapOpen s).toList.length else 0) (queOf s q)
    refine ⟨_, hx, ?_, ?_, ?_, ?_, ?_, fun j hj => ?_, ?_⟩
    · rw [← mismatchSource_packet hq]
      refine mismatch_shows ?_ (congrArg (fun e : Evts => e.get .que) (hs .evt (by decide)))
      rw [mismatchSource_packet hq]
      split <;> decide
    · simp [countMismatch, cutOff]
    · simp [countMismatch, cutOff]
    · simp only [queOf_settle, queOf_modQue, if_true, countMismatch, hque, hitems]
      rfl
    · simp only [queOf_settle, queOf_modQue, if_true, countMismatch, hque, hmis]
    · simp only [queOf_settle, queOf_modQue, if_neg hj, hque]
    · exact settle_keeps (sameBut_trans (sameBut_trans (sameBut_trans (sameBut_mono hr (by decide)) (sameBut_mono hs (by decide)))
        (sameBut_mono (sameBut_modQue q _ _) (by decide))) (sameBut_mono (sameBut_modQue q _ _) (by decide))) (by decide)
  case commands =>
    intro s hl hd hn
    have hr : sameBut [.tel, .evt] s (raise .que 3 s) := sameBut_raiseL .que 3 [] s
    have hmci : (raise .que 3 s).mci = s.mci := hr .mci (by decide)
    obtain ⟨hq, he⟩ := foldl_loseCommand (s.mci.cmdq.filter (fun c => !isSvc c.pkt.req)) (raise .que 3 s)
    have hx : exec (.pointerMismatch 6) s = done (modQue 6 countMismatch (loseCommands (raise .que 3 s))) :=
      pointerMismatch_exec (q := 6) hl (by decide) hd
    rw [loseCommands_eq, hmci] at hx
    rw [hmci] at hq
    generalize (s.mci.cmdq.filter (fun c => !isSvc c.pkt.req)).foldl loseCommand (raise .que 3 s) = u at hx hq he
    refine ⟨_, hx, mismatch_shows (s := s) (by decide) ?_, ?_, ?_, ?_⟩
    · rw [← he]; simp
    · simp only [settle_frame, modQue_frame, hq, filter_lost hn]
    · simp [countMismatch]
    · simp [countMismatch]
  case nothing =>
    intro s q hl h
    refine ⟨_, (run_high hl).trans (congrArg done (if_pos ?_)), settled_settle s⟩
    rcases h with h | h <;> simp [h]

end Sys2Proof.Machine
end

section
/-! Bring-up of a port that the engine does not have. -/
namespace Sys2Proof.Machine

/-- A port in LOCK whose next failure reaches every limit. -/
def lastAttempt : Port := { Port.reset with st := .lock, fails := 15 }

/-- The engine after reset, with that port at number 8, where R284 ends at port 7. -/
def ninthPort : State := { State.reset with fab := { State.reset.fab with ports := [(8, lastAttempt)] } }

theorem failLimit_ninthPort : failLimit ninthPort ≤ (portOf ninthPort 8).fails + 1 := by decide

/-- Its attempt fails for good, and no source of FAB is its ABSENT event: the manual defines 32, four for each of eight ports. -/
theorem phaseTimeout_ninthPort {t : State} (h : exec (.phaseTimeout 8) ninthPort = .next t) :
    (t.evt.get .fab).stat.getLsbD 33 = false := by
  have ht : Host.Outcome.next t = exec (.phaseTimeout 8) ninthPort := h.symm
  injection ht with ht
  rw [ht]
  decide

/-- Refutes O52, at its clause on PHASE_TIMEOUT at the limit: the clause takes any number for a port, and for one past FP7
(`ninthPort`) the ABSENT event has no source in FAB (R376), so it does not show. -/
theorem not_portBringUp : ¬ Obligations.PortBringUp := by
  unfold Obligations.PortBringUp
  rintro ⟨-, -, -, -, -, -, -, -, -, -, -, -, -, -, -, -, -, -, -, -, -, -, -, -, -, -, -, hlimit, -⟩
  obtain ⟨t, ht, -, ⟨hstat, -⟩, -⟩ := hlimit ninthPort 8 (by decide) (.inr (.inl (by decide))) (by decide) failLimit_ninthPort
  rw [phaseTimeout_ninthPort ht] at hstat
  exact absurd hstat (by decide)

end Sys2Proof.Machine
end

section
/-! Fabric ports: what rows leave of a port when they send, complete commands or find new routes; a cycle of a port. -/
namespace Sys2Proof.Machine

/-! A table written twice. -/

theorem smErase_smErase {α : Type} (m : SMap α) (k : Nat) : smErase (smErase m k) k = smErase m k := by
  induction m with
  | nil => rfl
  | cons e m ih =>
    obtain ⟨j, v⟩ := e
    by_cases h : k = j <;> simp [smErase, h]
    · simpa [h] using ih
    · exact ih

theorem smErase_smInsert {α : Type} (m : SMap α) (k : Nat) (v : α) : smErase (smInsert k v m) k = smErase m k := by
  induction m with
  | nil => simp [smInsert, smErase]
  | cons e m ih =>
    obtain ⟨j, w⟩ := e
    simp only [smInsert]
    split
    · rw [smErase, if_pos rfl]
    · rw [smErase, smErase, ih]

theorem smErase_smSet {α : Type} [DecidableEq α] (d : α) (m : SMap α) (k : Nat) (v : α) : smErase (smSet d m k v) k = smErase m k := by
  unfold smSet
  split
  · exact smErase_smErase m k
  · rw [smErase_smInsert, smErase_smErase]

/-- The later write counts. -/
theorem smSet_smSet {α : Type} [DecidableEq α] (d : α) (m : SMap α) (k : Nat) (v w : α) : smSet d (smSet d m k v) k w = smSet d m k w := by
  rw [smSet, smErase_smSet, smSet]

/-- A change of what a key holds rests on that value alone. -/
theorem smMod_congr {α : Type} [DecidableEq α] {d : α} {m : SMap α} {k : Nat} {f g : α → α} (h : f (smGet d m k) = g (smGet d m k)) :
    smMod d m k f = smMod d m k g := by rw [smMod, smMod, h]

theorem setPort_setPort (n : Nat) (x y : Port) (s : State) : setPort n x (setPort n y s) = setPort n x s := by
  simp only [setPort, smSet_smSet]

theorem portOf_setPort_same (n : Nat) (x : Port) (s : State) : portOf (setPort n x s) n = x := by rw [portOf_setPort, if_pos rfl]

theorem portOf_fab {s t : State} (h : t.fab = s.fab) (p : Nat) : portOf t p = portOf s p := by rw [portOf, portOf, h]

@[simp] theorem portOf_settle (s : State) (p : Nat) : portOf (settle s) p = portOf s p := rfl
@[simp] theorem portOf_emit (o : Out) (s : State) (p : Nat) : portOf (emit o s) p = portOf s p := rfl

/-! Ports that only send. -/

/-- Every port is as it was but for the blocks that wait to be sent and its link's next number. -/
def Sends (s t : State) : Prop := ∀ p, ∃ q n, portOf t p = { portOf s p with txq := q, lseq := n }

namespace Sends
variable {s t u : State}

theorem refl (s : State) : Sends s s := fun p => ⟨(portOf s p).txq, (portOf s p).lseq, rfl⟩

theorem trans (h : Sends s t) (k : Sends t u) : Sends s u := fun p => by
  obtain ⟨q, n, hp⟩ := h p
  obtain ⟨q', n', hp'⟩ := k p
  exact ⟨q', n', by rw [hp', hp]⟩

theorem of_ports (h : ∀ p, portOf t p = portOf s p) : Sends s t := fun p => ⟨(portOf s p).txq, (portOf s p).lseq, by rw [h p]⟩

theorem of_fab (h : t.fab = s.fab) : Sends s t := of_ports (portOf_fab h)

theorem foldl {α : Type} {f : State → α → State} (hf : ∀ s a, Sends s (f s a)) (l : List α) (s : State) : Sends s (l.foldl f s) := by
  induction l generalizing s with
  | nil => exact refl s
  | cons a l ih => exact (hf s a).trans (ih _)

theorem st (h : Sends s t) (p : Nat) : (portOf t p).st = (portOf s p).st := by obtain ⟨q, n, hp⟩ := h p; rw [hp]
theorem exiting (h : Sends s t) (p : Nat) : (portOf t p).exiting = (portOf s p).exiting := by obtain ⟨q, n, hp⟩ := h p; rw [hp]

end Sends

theorem sends_setPort (p : Nat) (q : List TxItem) (n : Nat) (s : State) :
    Sends s (setPort p { portOf s p with txq := q, lseq := n } s) := fun j => by
  by_cases h : j = p
  · subst h; exact ⟨q, n, portOf_setPort_same ..⟩
  · exact ⟨(portOf s j).txq, (portOf s j).lseq, by rw [portOf_setPort, if_neg h]⟩

theorem sendFrom_fab (src : Option Nat) (p dst ttl : Nat) (m : FabMsg) (s : State) :
    (sendFrom src p dst ttl m s).fab = s.fab ∨
      ∃ q n, (sendFrom src p dst ttl m s).fab = (setPort p { portOf s p with txq := q, lseq := n } s).fab := by
  unfold sendFrom
  dsimp only
  split
  · refine .inr ⟨?q, ?n, ?eq⟩
    case eq =>
      simp only [telBump_frame, emit_frame, quePass, modQue_frame]
      rfl
  · exact .inl rfl

theorem sends_sendFrom (src : Option Nat) (p dst ttl : Nat) (m : FabMsg) (s : State) : Sends s (sendFrom src p dst ttl m s) := by
  rcases sendFrom_fab src p dst ttl m s with h | ⟨q, n, h⟩
  · exact .of_fab h
  · exact (sends_setPort p q n s).trans (.of_fab h)

theorem sends_sendTo (a : Nat) (m : FabMsg) (s : State) : Sends s (sendTo a m s) := by
  unfold sendTo
  split
  · exact .refl s
  · split
    · exact sends_sendFrom _ _ _ _ _ s
    · exact .of_fab (by simp)

theorem sends_deliver (q : QCmd) (st : Nat) (ws : List W64) (o k : Nat) (s : State) : Sends s (deliver q st ws o k s) := by
  unfold deliver
  dsimp only
  split
  · exact .of_fab (by simp [raise, quePass])
  · exact (Sends.of_fab (by simp)).trans (sends_sendTo _ _ _)
  · exact .of_fab (by simp)

theorem sends_complete (q : QCmd) (st : Nat) (ws : List W64) (s : State) : Sends s (complete q st ws s) := by
  unfold complete completeWith
  refine Sends.trans (.of_fab ?_) (sends_deliver _ _ _ _ _ _)
  dsimp only
  split <;> simp

theorem sends_completeWhere (f : Wait → Bool) (st : Nat) (ws : List W64) (s : State) : Sends s (completeWhere f st ws s) :=
  Sends.foldl (fun t _ => sends_complete _ st ws t) _ s

theorem sends_lsaOriginate (s : State) : Sends s (lsaOriginate s) := by
  unfold lsaOriginate
  split
  · exact .refl s
  · exact Sends.trans (t := { s with fab := { s.fab with lsaSeq := (s.fab.lsaSeq + 1) % 2 ^ 32 } }) (.of_ports fun _ => rfl)
      (Sends.foldl (fun t p => sends_sendFrom _ p _ _ _ t) _ _)

/-! Routes leave the ports alone. -/

theorem portOf_foldl {α : Type} {f : State → α → State} (hf : ∀ s a p, portOf (f s a) p = portOf s p) (l : List α) (s : State) (p : Nat) :
    portOf (l.foldl f s) p = portOf s p := by
  induction l generalizing s with
  | nil => rfl
  | cons a l ih => rw [List.foldl_cons, ih, hf]

theorem portOf_peerEvent (port cause : Nat) (peer : Option Nat) (s : State) (p : Nat) :
    portOf (peerEvent port cause peer s) p = portOf s p := by
  rw [portOf, peerEvent_fab]; rfl

theorem portOf_setMaster (s : State) (p : Nat) : portOf (setMaster s) p = portOf s p := by
  unfold setMaster
  dsimp only
  split <;> rfl

theorem portOf_quarEvents (old s : State) (p : Nat) : portOf (quarEvents old s) p = portOf s p := by
  refine portOf_foldl (fun t a j => ?_) _ s p
  dsimp only
  split
  · exact portOf_peerEvent _ _ _ t j
  · rfl

theorem portOf_reroute (s : State) (p : Nat) : portOf (reroute s) p = portOf s p := by
  have hpeers : ∀ (rs : List Route) (as : List Nat), portOf (as.foldl (fun t a =>
      if s.fab.addr = some a ∧ !addrConflict s a then setPeer a .reset t else setPeer a (peerRecord s rs a) t) s) p = portOf s p :=
    fun rs as => portOf_foldl (fun t a j => by split <;> rfl) as s p
  unfold reroute
  dsimp only
  rw [portOf_setMaster, portOf_quarEvents, hpeers]

/-- The parts that new routes write. -/
def routeParts : List Part := [.fab, .servo, .evt, .tel]

theorem sameBut_setMaster (s : State) : sameBut routeParts s (setMaster s) := by
  unfold setMaster
  dsimp only
  split
  · intro x hx; cases x <;> simp_all [Part.same, routeParts]
  · exact sameBut_mono (fab_only s _) (by decide)

theorem sameBut_quarEvents (old s : State) : sameBut routeParts s (quarEvents old s) := by
  refine sameBut_foldl _ (fun t p => ?_) _ s
  dsimp only
  split
  · exact sameBut_mono (sameBut_peerEvent _ _ _ t) (by decide)
  · exact sameBut_refl _ t

theorem sameBut_reroute (s : State) : sameBut routeParts s (reroute s) := by
  unfold reroute
  dsimp only
  generalize hpeers : List.foldl _ s (List.range 64) = t
  have hst : sameBut routeParts s t := hpeers ▸ sameBut_foldl _ (fun u a => by
    split <;> exact sameBut_mono (fab_only u _) (by decide)) _ s
  exact sameBut_trans hst (sameBut_trans (sameBut_quarEvents s t) (sameBut_setMaster _))

theorem sends_reroute (s : State) : Sends s (reroute s) := .of_ports (portOf_reroute s)

/-! Commands that end. -/

theorem deliver_running (q : QCmd) (st : Nat) (ws : List W64) (o k : Nat) (s : State) :
    (deliver q st ws o k s).mci.running = s.mci.running := by
  unfold deliver
  dsimp only
  split
  · simp [raise, quePass, setHostSlot]
  · have h : ∀ a m t, (sendTo a m t).mci = t.mci := fun a m t => sameBut_sendTo a m t .mci (by decide)
    rw [h]; simp
  · simp

theorem complete_running (q : QCmd) (st : Nat) (ws : List W64) (s : State) :
    (complete q st ws s).mci.running = s.mci.running.filter (fun r => r.cmd.id != q.id) := by
  unfold complete completeWith
  rw [deliver_running]

theorem foldl_complete_running (rs : List Running) (st : Nat) (ws : List W64) (s : State) :
    ∀ r ∈ (rs.foldl (fun t r => complete r.cmd st ws t) s).mci.running, r ∈ s.mci.running ∧ ∀ x ∈ rs, r.cmd.id ≠ x.cmd.id := by
  induction rs generalizing s with
  | nil => exact fun r h => ⟨h, by simp⟩
  | cons x rs ih =>
    intro r hr
    obtain ⟨hm, hne⟩ := ih _ r hr
    rw [complete_running] at hm
    obtain ⟨hm, hx⟩ := List.mem_filter.1 hm
    exact ⟨hm, List.forall_mem_cons.2 ⟨by simpa using hx, hne⟩⟩

/-- No command waits so any more. -/
theorem completeWhere_running {f : Wait → Bool} {st : Nat} {ws : List W64} {s : State} :
    ∀ r ∈ (completeWhere f st ws s).mci.running, f r.wait = false := by
  intro r hr
  obtain ⟨hm, hne⟩ := foldl_complete_running _ st ws s r hr
  by_contra hf
  exact hne r (List.mem_filter.2 ⟨hm, by simpa using hf⟩) rfl

theorem sendHop_mci (p : Nat) (m : FabMsg) (s : State) : (sendHop p m s).mci = s.mci := by
  unfold sendHop sendPort sendFrom
  dsimp only
  split
  · simp [quePass]
  · rfl

theorem lsaOriginate_mci (s : State) : (lsaOriginate s).mci = s.mci := by
  have hall : ∀ m (ps : List Nat) t, (ps.foldl (fun t p => sendHop p m t) t).mci = t.mci := fun m ps => by
    induction ps with
    | nil => exact fun t => rfl
    | cons p ps ih => exact fun t => (ih _).trans (sendHop_mci p m t)
  unfold lsaOriginate
  split
  · rfl
  · exact hall _ _ _

/-! What the ports carry out is added to. -/

/-- Nothing of what the ports have carried out is taken back. -/
def Speaks (s t : State) : Prop := ∃ os, t.out = s.out ++ os

namespace Speaks
variable {s t u : State}

theorem of_out (h : t.out = s.out) : Speaks s t := ⟨[], by rw [h, List.append_nil]⟩

theorem trans (h : Speaks s t) (k : Speaks t u) : Speaks s u := by
  obtain ⟨os, h⟩ := h
  obtain ⟨os', k⟩ := k
  exact ⟨os ++ os', by rw [k, h, List.append_assoc]⟩

theorem foldl {α : Type} {f : State → α → State} (hf : ∀ s a, Speaks s (f s a)) (l : List α) (s : State) : Speaks s (l.foldl f s) := by
  induction l generalizing s with
  | nil => exact of_out rfl
  | cons a l ih => exact (hf s a).trans (ih _)

end Speaks

theorem speaks_deliver (q : QCmd) (st : Nat) (ws : List W64) (o k : Nat) (s : State) : Speaks s (deliver q st ws o k s) := by
  have hfrom : ∀ src p d ttl m t, Speaks t (sendFrom src p d ttl m t) := fun src p d ttl m t => by
    unfold sendFrom
    dsimp only
    split
    · refine ⟨?os, ?eq⟩
      case eq =>
        simp only [telBump_frame, quePass, setPort]
        rfl
    · exact .of_out rfl
  have hto : ∀ a m t, Speaks t (sendTo a m t) := fun a m t => by
    unfold sendTo
    split
    · exact .of_out rfl
    · split
      · exact hfrom _ _ _ _ _ t
      · exact .of_out (by simp)
  unfold deliver
  dsimp only
  split
  · exact .of_out (by simp [raise, quePass])
  · exact (Speaks.of_out (by simp)).trans (hto _ _ _)
  · exact .of_out (by simp)

theorem speaks_complete (q : QCmd) (st : Nat) (ws : List W64) (s : State) : Speaks s (complete q st ws s) := by
  unfold complete completeWith
  refine Speaks.trans (.of_out ?_) (speaks_deliver _ _ _ _ _ _)
  dsimp only
  split <;> simp

theorem speaks_completeWhere (f : Wait → Bool) (st : Nat) (ws : List W64) (s : State) : Speaks s (completeWhere f st ws s) :=
  Speaks.foldl (fun t _ => speaks_complete _ st ws t) _ s

end Sys2Proof.Machine
end

section
/-! IDLE, the PRBS test and the cycle of a fabric port. -/
namespace Sys2Proof.Machine

/-! A leader on a lane. -/

theorem blkSync_not (b : Blk) : blkSync (~~~b) = 3 - blkSync b := by
  have hb := b.isLt
  simp only [blkSync, BitVec.toNat_not]
  omega

theorem plainLeader_sync {b : Blk} {m : Leader} (h : plainLeader b = some m) : blkSync b = 2 := by
  by_contra hn
  simp [plainLeader, hn] at h

/-- A leader has a valid sync header, also on a swapped pair. -/
theorem leaderOf_syncOk {b : Blk} {m : Leader} (h : leaderOf b = some m) : syncOk b = true := by
  have hsync : blkSync b = 2 ∨ blkSync b = 1 := by
    unfold leaderOf at h
    split at h
    next hp => exact .inl (plainLeader_sync hp)
    next =>
      obtain ⟨x, hx, -⟩ := Option.map_eq_some_iff.1 h
      have := plainLeader_sync hx
      rw [blkSync_not] at this
      exact .inr (by omega)
  rcases hsync with h | h <;> simp [syncOk, h]

/-- The one block of a lane's bus that is a leader is taken once its header has counted. -/
theorem leads_exec {s : State} {p l : Nat} {bus : BitVec 132} {m : Leader} (hl : resetLow s = false) (h : leads s p l bus m) :
    exec (.leaderReceived p l ⟨1, bus⟩) s = done (takeLeader p l m (setPort p (portHears l bus (portOf s p)) s)) := by
  obtain ⟨hp, hlane, hm⟩ := h
  have hbus : modPort p (fun t => { t with rxBlk := smSet 0 t.rxBlk l bus, rxCnt := smSet 0 t.rxCnt l 1 }) s =
      setPort p { portOf s p with rxBlk := smSet 0 (portOf s p).rxBlk l bus, rxCnt := smSet 0 (portOf s p).rxCnt l 1 } s := rfl
  have hheard : modPort p (fun t => { t with hdrs := smSet 0 t.hdrs l (Nat.min 64 (smGet 0 t.hdrs l + 1)) })
      (setPort p { portOf s p with rxBlk := smSet 0 (portOf s p).rxBlk l bus, rxCnt := smSet 0 (portOf s p).rxCnt l 1 } s) =
      setPort p (portHears l bus (portOf s p)) s := by
    rw [modPort, setPort_setPort, portOf_setPort_same]; rfl
  have hblks : busBlks 1 bus = [bus.extractLsb' 0 66] := rfl
  refine (run_high hl).trans (congrArg done ?_)
  rw [if_neg (by simp [hlane, hp])]
  simp only [hbus, hblks, List.foldl_cons, List.foldl_nil]
  unfold takeBlk
  rw [portOf_setPort_same, show ∀ a c, straight { portOf s p with rxBlk := a, rxCnt := c } l = straight (portOf s p) l from fun _ _ => rfl]
  simp only [leaderOf_syncOk hm, Bool.not_true, Bool.false_eq_true, if_false, hheard, hm]

theorem takeLeader_idle {s : State} {p l : Nat} {m : Leader} {x : Port} (h : x.st = .idle) :
    takeLeader p l m (setPort p x s) =
      (let s1 := if m.phase = 5 then idleLeave p (setPort p x s) else setPort p x s
       if (portOf s1 p).exiting then setPort p { portOf s1 p with
          lockRun := if m.rxLocked then (portOf s1 p).lockRun + 1 else 0 } s1 else s1) := by
  unfold takeLeader
  rw [portOf_setPort_same]
  simp only [h]

theorem idleLeave_leaving {s : State} {p : Nat} (h : (portOf s p).exiting = true) : idleLeave p s = s := by simp [idleLeave, h]

theorem idleLeave_idle {s : State} {p : Nat} (h : (portOf s p).st = .idle) (hx : (portOf s p).exiting = false) :
    idleLeave p s = emit (.leader p 5) (setPort p { portOf s p with exiting := true, lockRun := 0 } s) := by simp [idleLeave, h, hx]

/-! Into IDLE and out of it. -/

/-- The commands that wait for a port have ended, and of the port only what it sends has changed since `x`. -/
theorem sent_port {s t : State} {p : Nat} {x : Port} (h : Sends (setPort p x s) t) : (portOf t p).st = x.st ∧ (portOf t p).exiting = x.exiting := by
  have hx := portOf_setPort_same p x s
  exact ⟨(h.st p).trans (by rw [hx]), (h.exiting p).trans (by rw [hx])⟩

theorem portWaits_end {p st : Nat} {ws : List W64} {s : State} :
    ∀ r ∈ (completeWhere (fun w => w == .port p) st ws s).mci.running, r.wait ≠ .port p := fun r hr => by
  simpa using completeWhere_running r hr

theorem enterIdle_spec (p : Nat) (s : State) :
    let t := enterIdle p s
    (portOf t p).st = .idle ∧ (portOf t p).exiting = false ∧ ∀ r ∈ t.mci.running, r.wait ≠ .port p := by
  have hroute := sends_reroute (setPort p { portOf s p with st := .idle, exiting := false, lockRun := 0 } s)
  obtain ⟨hst, hx⟩ := sent_port (hroute.trans (sends_completeWhere (fun w => w == .port p) stOk [] _))
  unfold enterIdle
  exact ⟨hst, hx, portWaits_end⟩

theorem idleLost_spec (p : Nat) (s : State) :
    let t := idleLost p s
    (portOf t p).st = .train ∧ (portOf t p).exiting = false ∧ ∀ r ∈ t.mci.running, r.wait ≠ .port p := by
  obtain ⟨hst, hx⟩ := sent_port (sends_completeWhere (fun w => w == .port p) stTimeout [] (setPort p (portOf s p).toTrain s))
  unfold idleLost
  exact ⟨hst, hx, portWaits_end⟩

theorem portActive_spec (p : Nat) (s : State) :
    let t := portActive p s
    (portOf t p).st = .active ∧ (portOf t p).exiting = false ∧ ∀ r ∈ t.mci.running, r.wait ≠ .port p := by
  have hclaim : ∀ (b : Bool) u, Sends u (if b then { u with fab := { u.fab with claiming := true } } else u) := fun b u => by
    cases b <;> exact .of_ports fun _ => rfl
  have hends : ∀ u, Sends u (completeWhere (fun w => w == .port p) stOk [] (reroute u)) := fun u =>
    (sends_reroute u).trans (sends_completeWhere (fun w => w == .port p) stOk [] (reroute u))
  have hlast : ∀ (b : Bool) u, Sends u (if b then u else lsaOriginate u) ∧ (if b then u else lsaOriginate u).mci = u.mci := fun b u => by
    cases b
    · exact ⟨sends_lsaOriginate u, lsaOriginate_mci u⟩
    · exact ⟨.refl u, rfl⟩
  unfold portActive
  dsimp only
  generalize hs1 : setPort p { portOf s p with st := .active, fails := 0, probing := false, exiting := false, adj := true } s = s1
  generalize hs2 : (if (s1.fab.addr.isNone && s1.fab.engineId != 0) = true then { s1 with fab := { s1.fab with claiming := true } } else s1) = s2
  have h12 : Sends s1 s2 := hs2 ▸ hclaim _ s1
  have h23 := hends s2
  have hrun := portWaits_end (p := p) (st := stOk) (ws := []) (s := reroute s2)
  generalize completeWhere (fun w => w == .port p) stOk [] (reroute s2) = s3 at h23 hrun ⊢
  obtain ⟨h34, hmci⟩ := hlast (portOf s p).adj s3
  rw [← hs1] at h12
  obtain ⟨hst, hx⟩ := sent_port ((h12.trans h23).trans h34)
  exact ⟨hst, hx, by rw [hmci]; exact hrun⟩

theorem speaks_enterIdle (p : Nat) (s : State) : Speaks s (enterIdle p s) := by
  have hroute : ∀ t, Speaks t (reroute t) := fun t => .of_out (sameBut_reroute t .out (by decide))
  refine Speaks.trans (t := setPort p { portOf s p with st := .idle, exiting := false, lockRun := 0 } s) (.of_out rfl) ?_
  unfold enterIdle
  exact (hroute _).trans (speaks_completeWhere (fun w => w == .port p) stOk [] _)

theorem idleExit_exec {s : State} {p : Nat} (hl : resetLow s = false) (hst : (portOf s p).st = .idle) :
    exec (.idleExit p) s = done (if (portOf s p).exiting = false then
        (match (portOf s p).peerAddr with
         | some a => if (peerOf s a).reach then s else idleLeave p s
         | none => idleLeave p s)
      else if (portOf s p).lockRun ≠ 0 then portActive p s else idleLost p s) := by
  refine (run_high hl).trans (congrArg done ?_)
  rw [if_neg (by simp [hst])]
  cases (portOf s p).exiting <;> rfl

/-! A cycle of a port. -/

/-- What every element of a fold keeps, the whole keeps. -/
theorem foldl_keeps {α β γ : Type} {g : β → γ} {f : β → α → β} (hf : ∀ b a, g (f b a) = g b) (l : List α) (b : β) :
    g (l.foldl f b) = g b := by
  induction l generalizing b with
  | nil => rfl
  | cons a l ih => rw [List.foldl_cons, ih, hf]

/-- The pins of a port that its blocks do not move: electrical idle, and the blocks that each lane takes. -/
def txPins (t : Port) : BitVec 4 × Nat := (t.eidle, t.take)

theorem txPins_nextBlks (p : Nat) (t : Port) : txPins (nextBlks p t).2 = txPins t := by
  unfold nextBlks
  dsimp only
  split
  · rfl
  · rfl
  · refine foldl_keeps (g := fun acc : List Blk × Port => txPins acc.2) ?_ _ _
    exact fun acc a => rfl

theorem txPins_testBlks (t : Port) : txPins (testBlks t).2 = txPins t := by
  unfold testBlks
  dsimp only
  split
  · rfl
  · refine foldl_keeps (g := fun acc : List Blk × Port => txPins acc.2) ?_ _ _
    exact fun acc a => rfl

/-- A port that is quiet is in electrical idle, and its SerDes takes nothing (R65). -/
theorem portTx_quiet {p : Nat} {x : Port} (h : quiet x = true) : (portTx p x).eidle = 0xF ∧ (portTx p x).take = 0 := by
  have hq : quiet { x with slip := 0, rxCnt := [] } = true := h
  unfold portTx
  dsimp only
  rw [if_pos (by rw [hq]; rfl)]
  exact ⟨if_pos hq, rfl⟩

/-- A port with a lane that is enabled and ready sends what its lanes take in this fc (R66). -/
theorem portTx_sends {p : Nat} {x : Port} (hq : quiet x = false) (hr : x.rdy &&& laneEn x ≠ 0) :
    (portTx p x).eidle = ~~~laneEn x ∧ (portTx p x).tx.length = laneCount x.width ∧
      (portTx p x).take = (x.txAcc + (if x.rate then 125 else 50)) / 64 := by
  have hgo : ¬(quiet x || x.rdy &&& laneEn x == 0) = true := by
    rw [hq, Bool.false_or, beq_iff_eq]; exact hr
  have hpins : ∀ (ns : List Nat) (y : Port), txPins (ns.foldl (fun (acc : List (List Blk) × Port) _ =>
      let r := if x.test then testBlks acc.2 else nextBlks p acc.2
      (acc.1 ++ [r.1], r.2)) ([], y)).2 = txPins y := fun ns y =>
    foldl_keeps (g := fun acc : List (List Blk) × Port => txPins acc.2) (fun acc a => by
      dsimp only
      split
      · exact txPins_testBlks _
      · exact txPins_nextBlks p _) ns _
  rw [show portTx p x = _ from if_neg hgo]
  obtain ⟨he, ht⟩ := Prod.mk.inj (hpins (List.range ((x.txAcc + (if x.rate then 125 else 50)) / 64))
    { x with slip := 0, rxCnt := [], txAcc := (x.txAcc + (if x.rate then 125 else 50)) % 64,
             take := (x.txAcc + (if x.rate then 125 else 50)) / 64, eidle := ~~~laneEn x })
  exact ⟨he, by simp, ht⟩

/-! A cycle of the engine, as the ports see it. -/

/-- What a cycle's stages before the ports' turn write. -/
def stageParts : List Part := [.time, .frac, .aon, .evt, .tel, .egr, .ing, .lne]

theorem stage_telBump (c n : Nat) (l : Option Nat) (s : State) : sameBut stageParts s (telBump c n l s) :=
  sameBut_mono (sameBut_telBump c n l s) (by decide)

theorem stage_setPath (d : Dir) (p : Path) (s : State) : sameBut stageParts s (setPath d p s) :=
  sameBut_mono (sameBut_setPath d p s) (by decide)

theorem stage_esc (s : State) : sameBut stageParts s (tickEsc s) := by
  unfold tickEsc
  split
  · exact sameBut_refl _ s
  · exact sameBut_foldl _ (fun t u => sameBut_mono (evt_only t _) (by decide)) subs s

theorem stage_levels (s : State) : sameBut stageParts s (tickLevels s) := by
  refine sameBut_foldl _ (fun t u => ?_) subs s
  extract_lets n
  split
  · exact sameBut_refl _ t
  · exact sameBut_foldl _ (fun x i => stage_telBump _ n none x) _ t

theorem stage_ledgers (s : State) : sameBut stageParts s (tickLedgers s) := by
  have hledger : ∀ b x y t, sameBut stageParts t (bumpLedger b x y t) := fun b x y t =>
    sameBut_trans (sameBut_trans (stage_telBump _ _ _ t) (stage_telBump _ _ _ _)) (sameBut_trans (stage_telBump _ _ _ _) (stage_telBump _ _ _ _))
  unfold tickLedgers
  split
  · exact sameBut_refl _ s
  · exact sameBut_trans (sameBut_trans (sameBut_trans (sameBut_mono (tel_only s _) (by decide)) (stage_telBump _ _ _ _)) (hledger _ _ _ _))
      (hledger _ _ _ _)

theorem stage_ready (s : State) : sameBut stageParts s (tickReady s) := by
  have hlow : ∀ (c : Nat) (b : Bool) (t : State), sameBut stageParts t (if b then telBump c 8 none t else t) := fun c b t => by
    cases b
    · exact sameBut_refl _ t
    · exact stage_telBump c 8 none t
  unfold tickReady
  split
  · exact sameBut_refl _ s
  · exact sameBut_trans (sameBut_trans (hlow _ _ s) (hlow _ _ _)) (sameBut_trans (hlow _ _ _) (hlow _ _ _))

theorem stage_laneCycles (d : Dir) (n : Nat) (s : State) : sameBut stageParts s (laneCycles d n s) := by
  induction n generalizing s with
  | zero => exact sameBut_refl _ s
  | succ n ih =>
    unfold laneCycles
    split
    · exact sameBut_refl _ s
    · refine sameBut_trans ?_ (ih _)
      unfold laneCycle
      exact sameBut_trans (stage_setPath d _ s) (sameBut_foldl _ (fun t g => stage_setPath d _ t) _ _)

theorem stage_lanes (d : Dir) (s : State) : sameBut stageParts s (tickLanes d s) := by
  have hbook : ∀ a b c t, sameBut stageParts t (bookSlots d a b c t) := fun a b c t => by
    cases d <;> exact sameBut_mono (tel_only t _) (by decide)
  have hback : sameBut stageParts s (bookAged d (laneCycles d 8 s)) := sameBut_trans (stage_laneCycles d 8 s) (hbook _ _ _ _)
  have hredo : ∀ (t : State) (v : Lne), sameBut stageParts t { t with lne := v } := fun t v => sameBut_mono (lne_only t v) (by decide)
  unfold tickLanes
  extract_lets p stall s1 s2
  split
  · exact sameBut_trans hback (hredo _ _)
  · exact sameBut_trans (sameBut_trans hback (hredo _ _)) (hbook _ _ _ _)

/-- The cycle up to the fabric's turn. -/
theorem stage_all (s : State) : sameBut stageParts s
    (tickPort .ing (tickPort .egr (tickReady (tickLedgers (tickLanes .ing (tickLanes .egr (tickLevels (tickEsc (tickTime (tickDivider s))))))))))
      := by
  have hport : ∀ d t, sameBut stageParts t (tickPort d t) := fun d t => stage_setPath d _ t
  exact sameBut_trans (sameBut_mono (sameBut_clock s) (by decide)) (sameBut_trans (sameBut_trans (sameBut_trans (sameBut_trans
    (sameBut_trans (sameBut_trans (sameBut_trans (stage_esc _) (stage_levels _)) (stage_lanes _ _)) (stage_lanes _ _)) (stage_ledgers _))
    (stage_ready _)) (hport _ _)) (hport _ _))

/-- The turn of one port in a cycle. -/
def portTurn (t : State) (p : Nat) : State :=
  if !pdIsOn t (portDomain p) then modPort p (fun x => { x with take := 0, tx := [], slip := 0, rxCnt := [] }) t
  else modPort p (portTx p) t

theorem portTurn_glb (t : State) (p : Nat) : (portTurn t p).glb = t.glb := by
  unfold portTurn
  split <;> rfl

theorem portOf_portTurn_ne {t : State} {p q : Nat} (h : q ≠ p) : portOf (portTurn t p) q = portOf t q := by
  unfold portTurn modPort
  split <;> rw [portOf_setPort, if_neg h]

theorem portOf_portTurn {t : State} {p : Nat} (h : pdIsOn t (portDomain p) = true) : portOf (portTurn t p) p = portTx p (portOf t p) := by
  rw [portTurn, if_neg (by simp [h]), modPort, portOf_setPort_same]

theorem portOf_turns (ps : List Nat) {t : State} {p : Nat} (h : pdIsOn t (portDomain p) = true) (hnd : ps.Nodup) :
    portOf (ps.foldl portTurn t) p = if p ∈ ps then portTx p (portOf t p) else portOf t p := by
  induction ps generalizing t with
  | nil => rfl
  | cons q ps ih =>
    obtain ⟨hq, hnd⟩ := List.nodup_cons.1 hnd
    have hon : pdIsOn (portTurn t q) (portDomain p) = true := by rw [pdIsOn, portTurn_glb]; exact h
    rw [List.foldl_cons, ih hon hnd]
    by_cases hpq : p = q
    · subst hpq; simp [hq, portOf_portTurn h]
    · simp [hpq, portOf_portTurn_ne hpq]

/-- Each port whose domain is on has its cycle, once. -/
theorem portOf_tickFabric {s : State} {p : Nat} (hp : p < 8) (hd : pdIsOn s (portDomain p) = true) :
    portOf (tickFabric s) p = portTx p (portOf s p) :=
  (portOf_turns (List.range 8) hd List.nodup_range).trans (if_pos (List.mem_range.2 hp))

theorem portOf_tickMirror (s : State) (p : Nat) : portOf (tickMirror s) p = portOf s p := rfl

/-- The test port between two edges of tst_tck leaves the fabric alone. -/
theorem tapTick_fab {s : State} (h : s.tst.tck = s.tst.tckWas) : (tapTick s).fab = s.fab := by
  have hscan : ∀ t, (scanTick t).fab = t.fab := fun t => by
    unfold scanTick
    dsimp only
    split <;> rfl
  unfold tapTick
  dsimp only
  rw [h, hscan]
  cases s.tst.trstN <;> cases s.tst.tckWas <;> rfl

/-- A cycle in which the test port's clock has no edge gives each port whose domain is on its turn. -/
theorem step_port {s : State} {p : Nat} (hq : s.pending = []) (hr : s.aon.porLow = false) (hk : s.tst.tck = s.tst.tckWas) (hp : p < 8)
    (hd : pdIsOn s (portDomain p) = true) : ∃ t, step s = .next t ∧ portOf t p = portTx p (portOf s p) := by
  have htst : (renewCheck (ticking s)).tst = s.tst :=
    (sameBut_renewCheck _ .tst (by decide)).trans (sameBut_ticking s .tst (by decide))
  have hlate : (chkPump (tapTick (renewCheck (ticking s)))).fab = (ticking s).fab :=
    ((sameBut_chkPump _ .fab (by decide)).trans (tapTick_fab (by rw [htst]; exact hk))).trans (sameBut_renewCheck _ .fab (by decide))
  refine ⟨_, step_tick hq hr, ?_⟩
  rw [portOf_settle, portOf_fab hlate]
  have hstage := stage_all s
  have hfab := hstage .fab (by decide)
  have hglb := hstage .glb (by decide)
  unfold ticking
  generalize tickPort .ing _ = u at hfab hglb ⊢
  have hon : pdIsOn (tickMirror u) (portDomain p) = true := by
    rw [pdIsOn, show (tickMirror u).glb = s.glb from hglb]; exact hd
  rw [portOf_tickFabric hp hon, portOf_tickMirror, portOf_fab hfab]

end Sys2Proof.Machine
end

section
/-! The rows of IDLE and of the PRBS test. -/
namespace Sys2Proof.Machine

/-- A row that ends in `u` has settled it. -/
theorem exec_settled {c : Instr} {s u : State} (h : exec c s = done u) : ∃ t, exec c s = .next t ∧ settled u t :=
  ⟨settle u, h, settled_settle u⟩

theorem refreshTimer_exec {s : State} (p : Nat) (hl : resetLow s = false) :
    exec (.refreshTimer p) s = done (if (portOf s p).st = .active then emit (.leader p 4) (modPort p (pushRun 4) s) else s) :=
  (run_high hl).trans (by simp only [beq_iff_eq])

theorem idleReq_exec {s : State} (p : Nat) (hl : resetLow s = false) :
    exec (.idleReq p) s = done (if (portOf s p).st = .active then
      enterIdle p (emit (.idleAck p) (modPort p (pushBlks [idleAckBlk]) s)) else s) :=
  (run_high hl).trans (by simp only [beq_iff_eq])

theorem idleAck_exec {s : State} (p : Nat) (hl : resetLow s = false) :
    exec (.idleAck p) s = done (if (portOf s p).st = .active then enterIdle p s else s) :=
  (run_high hl).trans (by simp only [beq_iff_eq])

/-- A port that enters IDLE, or leaves it, ends the command that waits for it. -/
def leftFor (x : PortSt) (p : Nat) (t : State) : Prop :=
  (portOf t p).st = x ∧ (portOf t p).exiting = false ∧ ∀ r ∈ t.mci.running, r.wait ≠ .port p

theorem leftFor_settle {x : PortSt} {p : Nat} {t : State} (h : leftFor x p t) : leftFor x p (settle t) := h

/-- The acknowledge is the first of what an accepted request sends. -/
theorem idleReq_answers {s : State} {p : Nat} (hl : resetLow s = false) (h : (portOf s p).st = .active) :
    ∃ t, exec (.idleReq p) s = .next t ∧ (portOf t p).st = .idle ∧ (portOf t p).exiting = false ∧
      t.out.take (s.out.length + 1) = s.out ++ [.idleAck p] ∧ (∀ r ∈ t.mci.running, r.wait ≠ .port p) := by
  obtain ⟨hst, hx, hrun⟩ := leftFor_settle (enterIdle_spec p (emit (.idleAck p) (modPort p (pushBlks [idleAckBlk]) s)))
  obtain ⟨os, ho⟩ := speaks_enterIdle p (emit (.idleAck p) (modPort p (pushBlks [idleAckBlk]) s))
  have hout : (emit (.idleAck p) (modPort p (pushBlks [idleAckBlk]) s)).out = s.out ++ [.idleAck p] := rfl
  rw [hout] at ho
  refine ⟨_, (idleReq_exec p hl).trans (congrArg done (if_pos h)), hst, hx, ?_, hrun⟩
  rw [show ∀ u : State, (settle u).out = u.out from fun _ => rfl, ho, List.take_left' (by simp)]

/-- A leader on a lane of an IDLE port. -/
theorem idleLeader_exec {s : State} {p l : Nat} {bus : BitVec 132} {m : Leader} (hl : resetLow s = false) (h : leads s p l bus m)
    (hst : (portOf s p).st = .idle) :
    let u := setPort p (portHears l bus (portOf s p)) s
    let v := if m.phase = 5 then idleLeave p u else u
    exec (.leaderReceived p l ⟨1, bus⟩) s = done (if (portOf v p).exiting then setPort p { portOf v p with
      lockRun := if m.rxLocked then (portOf v p).lockRun + 1 else 0 } v else v) := by
  have hidle : (portHears l bus (portOf s p)).st = .idle := hst
  exact (leads_exec hl h).trans (congrArg done (takeLeader_idle hidle))

/-- The partner's leader of phase 5 wakes the port, which answers with the same. -/
theorem leader_wakes {s : State} {p l : Nat} {bus : BitVec 132} {m : Leader} (hl : resetLow s = false) (h : leads s p l bus m)
    (hst : (portOf s p).st = .idle) (hx : (portOf s p).exiting = false) (hm : m.phase = 5) :
    ∃ t, exec (.leaderReceived p l ⟨1, bus⟩) s = .next t ∧ (portOf t p).exiting = true ∧ (portOf t p).st = .idle ∧
      t.out = s.out ++ [.leader p 5] := by
  have hp := portOf_setPort_same p (portHears l bus (portOf s p)) s
  have hleave := idleLeave_idle (s := setPort p (portHears l bus (portOf s p)) s) (p := p) (by rw [hp]; exact hst) (by rw [hp]; exact hx)
  have hrow := idleLeader_exec hl h hst
  dsimp only at hrow
  rw [if_pos hm, hleave, portOf_emit, portOf_setPort_same, if_pos rfl] at hrow
  refine ⟨_, hrow, ?_, ?_, rfl⟩ <;> rw [portOf_settle, portOf_setPort_same]
  rw [hp]; exact hst

theorem leader_ignored {s : State} {p l : Nat} {bus : BitVec 132} {m : Leader} (hl : resetLow s = false) (h : leads s p l bus m)
    (hst : (portOf s p).st = .idle) (hx : (portOf s p).exiting = false) (hm : m.phase ≠ 5) :
    ∃ t, exec (.leaderReceived p l ⟨1, bus⟩) s = .next t ∧ settled (setPort p (portHears l bus (portOf s p)) s) t := by
  have hrow := idleLeader_exec hl h hst
  dsimp only at hrow
  have hquiet : ¬(portHears l bus (portOf s p)).exiting = true := by rw [show (portHears l bus (portOf s p)).exiting = false from hx]; decide
  rw [if_neg hm, portOf_setPort_same, if_neg hquiet] at hrow
  exact exec_settled hrow

theorem leader_counted {s : State} {p l : Nat} {bus : BitVec 132} {m : Leader} (hl : resetLow s = false) (h : leads s p l bus m)
    (hst : (portOf s p).st = .idle) (hx : (portOf s p).exiting = true) :
    ∃ t, exec (.leaderReceived p l ⟨1, bus⟩) s = .next t ∧
      settled (setPort p ({ portHears l bus (portOf s p) with lockRun := if m.rxLocked then (portOf s p).lockRun + 1 else 0 }) s) t := by
  have hleaves : (portHears l bus (portOf s p)).exiting = true := hx
  have hrow := idleLeader_exec hl h hst
  dsimp only at hrow
  rw [idleLeave_leaving (by rw [portOf_setPort_same]; exact hx), ite_self, portOf_setPort_same, if_pos hleaves, setPort_setPort] at hrow
  exact exec_settled hrow

theorem prbsChecker_exec {s : State} {p l bits errs : Nat} {f : Prbs → Prbs} (hl : resetLow s = false) (ht : (portOf s p).test = true)
    (hc : bitAt (portOf s p).prbsCtl 6 = true) (hlane : l < laneCount (portOf s p).width)
    (h : prbsStep bits errs (smGet .reset (portOf s p).prbs l) = f (smGet .reset (portOf s p).prbs l)) :
    ∃ t, exec (.prbsChecker p l bits errs) s = .next t ∧
      settled (setPort p { portOf s p with prbs := smMod .reset (portOf s p).prbs l f } s) t := by
  refine exec_settled ((run_high hl).trans (congrArg done ?_))
  rw [if_pos (by simp [ht, hc, hlane]), smMod_congr h]

theorem prbsStep_unlocked {bits errs : Nat} {c : Prbs} (h : c.lock = false) : prbsStep bits errs c =
    if errs ≠ 0 then { c with run := 0 }
    else if 1024 ≤ c.run + bits then { c with lock := true, run := 0, bits := 0, bad := 0 }
    else { c with run := c.run + bits } := by rw [prbsStep, h]; rfl

theorem prbsStep_locked {bits errs : Nat} {c : Prbs} (h : c.lock = true) : prbsStep bits errs c =
    if 64 ≤ c.bad + errs then { c with errs := Nat.min 32767 (c.errs + errs), lock := false, run := 0, bits := 0, bad := 0 }
    else if 1024 ≤ c.bits + bits then { c with errs := Nat.min 32767 (c.errs + errs), bits := 0, bad := 0 }
    else { c with errs := Nat.min 32767 (c.errs + errs), bits := c.bits + bits, bad := c.bad + errs } := by
  rw [prbsStep, h]
  simp only [if_true]

/-- Settles O53, row by row; a port's turn in a cycle once the stages before it are seen to leave the ports alone. -/
theorem portIdleAndTest : Obligations.PortIdleAndTest := by
  unfold Obligations.PortIdleAndTest
  refine ⟨?refresh, ?refreshOff, ?req, ?ack, ?reqOff, ?ackOff, fun s p l bus m => leader_wakes, fun s p l bus m => leader_ignored,
    fun s p l bus m => leader_counted, ?reached, ?leaves, ?returns, ?lost, ?notIdle, ?inject, ?injectOff, ?locks, ?starts, ?runs, ?counts,
    ?unlocks, ?window, ?noChecker, fun s p => step_port, ?off, fun p x => portTx_sends⟩
  case refresh => exact fun s p hl h => exec_settled ((refreshTimer_exec p hl).trans (congrArg done (if_pos h)))
  case refreshOff => exact fun s p hl h => exec_settled ((refreshTimer_exec p hl).trans (congrArg done (if_neg h)))
  case req => exact fun s p => idleReq_answers
  case ack => exact fun s p hl h => ⟨_, (idleAck_exec p hl).trans (congrArg done (if_pos h)), leftFor_settle (enterIdle_spec p s)⟩
  case reqOff => exact fun s p hl h => exec_settled ((idleReq_exec p hl).trans (congrArg done (if_neg h)))
  case ackOff => exact fun s p hl h => exec_settled ((idleAck_exec p hl).trans (congrArg done (if_neg h)))
  case reached =>
    intro s p a hl hst hx ha hr
    refine exec_settled ((idleExit_exec hl hst).trans (congrArg done ?_))
    rw [if_pos hx, ha]
    exact if_pos hr
  case leaves =>
    intro s p a hl hst hx ha hr
    refine exec_settled ((idleExit_exec hl hst).trans (congrArg done ?_))
    rw [if_pos hx, ha, ← idleLeave_idle hst hx]
    exact if_neg (by simp [hr])
  case returns =>
    intro s p hl hst hx hrun
    refine ⟨_, (idleExit_exec hl hst).trans (congrArg done ((if_neg (by simp [hx])).trans (if_pos hrun))), leftFor_settle (portActive_spec p s)⟩
  case lost =>
    intro s p hl hst hx hrun
    refine ⟨_, (idleExit_exec hl hst).trans (congrArg done ((if_neg (by simp [hx])).trans (if_neg (by simp [hrun])))),
      leftFor_settle (idleLost_spec p s)⟩
  case notIdle => exact fun s p hl h => exec_settled ((run_high hl).trans (congrArg done (if_pos (by simpa using h))))
  case inject => exact fun s p hl ht hc => exec_settled ((run_high hl).trans (congrArg done (if_pos (by simp [ht, hc]))))
  case injectOff =>
    exact fun s p hl h => exec_settled ((run_high hl).trans (congrArg done (if_neg (by rcases h with h | h <;> simp [h]))))
  case locks =>
    intro s p l bits errs hl ht hc hlane hk he hrun
    exact prbsChecker_exec hl ht hc hlane (by rw [prbsStep_unlocked hk, if_neg (by simp [he]), if_pos hrun])
  case starts =>
    intro s p l bits errs hl ht hc hlane hk he
    exact prbsChecker_exec hl ht hc hlane (by rw [prbsStep_unlocked hk, if_pos he])
  case runs =>
    intro s p l bits errs hl ht hc hlane hk he hrun
    exact prbsChecker_exec hl ht hc hlane (by rw [prbsStep_unlocked hk, if_neg (by simp [he]), if_neg (by omega)])
  case counts =>
    intro s p l bits errs hl ht hc hlane hk hb hn
    exact prbsChecker_exec hl ht hc hlane (by rw [prbsStep_locked hk, if_neg (by omega), if_neg (by omega)])
  case unlocks =>
    intro s p l bits errs hl ht hc hlane hk hb
    exact prbsChecker_exec hl ht hc hlane (by rw [prbsStep_locked hk, if_pos hb])
  case window =>
    intro s p l bits errs hl ht hc hlane hk hb hn
    exact prbsChecker_exec hl ht hc hlane (by rw [prbsStep_locked hk, if_neg (by omega), if_pos hn])
  case noChecker =>
    refine fun s p l bits errs hl h => exec_settled ((run_high hl).trans (congrArg done (if_neg ?_)))
    rcases h with h | h | h <;> simp [h]
  case off => exact fun p x h ht => portTx_quiet (by rcases h with h | h <;> simp [quiet, ht, h])

end Sys2Proof.Machine
end

section
/-! The journal port: reads, confirmations and failures. -/
namespace Sys2Proof.Machine

theorem jslot_setJslot (n : Nat) (v : JSlot) (s : State) (j : Nat) : jslot (setJslot n v s) j = if j = n then v else jslot s j := by
  simp [jslot, setJslot]

theorem jslot_slots {s t : State} (h : t.jnl.slots = s.jnl.slots) (j : Nat) : jslot t j = jslot s j := by rw [jslot, jslot, h]

theorem leBytes_length (n v : Nat) : (leBytes n v).length = n := by
  induction n generalizing v with
  | zero => rfl
  | succ n ih => simp [leBytes, ih]

theorem jnl_defined {n : Nat} (h : n < 8) : Sub.jnl.defined.getLsbD n = true := by interval_cases n <;> rfl

/-! Reads. -/

/-- Only start-up reads have been issued. -/
def PumpsReads (s t : State) : Prop := t = { s with out := t.out, jnl := { s.jnl with reads := t.jnl.reads, nextRead := t.jnl.nextRead } }

theorem pumpsReads_trans {s t u : State} (h : PumpsReads s t) (k : PumpsReads t u) : PumpsReads s u := by
  unfold PumpsReads at *
  rw [k, h]

theorem jReadPump_pumps (n : Nat) (s : State) : PumpsReads s (jReadPump n s) := by
  induction n generalizing s with
  | zero => rfl
  | succ n ih =>
    unfold jReadPump
    dsimp only
    split
    · rfl
    · split
      · refine pumpsReads_trans ?_ (ih _); rfl
      · rfl

/-- What is known of a slot once its read has ended. -/
def readSlot (v : Option JRec) (blank : Bool) : JSlot := { JSlot.reset with wcnt := v.map (·.wcnt), record := v, blank := blank }

/-- The slot of a read, known. -/
def slotKnown (r : JRead) (v : Option JRec) (blank : Bool) (s : State) : State :=
  setJslot r.slot (readSlot v blank)
    { s with jnl := { s.jnl with reads := s.jnl.reads.filter (fun x => x.tag != r.tag), readDone := s.jnl.readDone + 1 } }

/-- What the end of a read with the record `v` leaves in its slot; an invalid one that is not blank shows its event (R196). -/
theorem slotKnown_spec (r : JRead) (v : Option JRec) (blank : Bool) (s : State) :
    let t := settle (jReadPump 8 (if v.isNone && !blank then raise .jnl 7 (slotKnown r v blank s) else slotKnown r v blank s))
    jslot t r.slot = readSlot v blank ∧ (v = none → blank = false → eventSet t .jnl 7) ∧ (∀ j, j ≠ r.slot → jslot t j = jslot s j) ∧
      t.jnl.readDone = s.jnl.readDone + 1 ∧ t.jnl.errCnt = s.jnl.errCnt ∧ t.jnl.tmoCnt = s.jnl.tmoCnt := by
  generalize hu : (if v.isNone && !blank then raise .jnl 7 (slotKnown r v blank s) else slotKnown r v blank s) = u
  have hjnl : u.jnl = (slotKnown r v blank s).jnl := by
    rw [← hu]
    split
    · simp
    · rfl
  have hpump := jReadPump_pumps 8 u
  have hslots : ∀ j, jslot (jReadPump 8 u) j = if j = r.slot then readSlot v blank else jslot s j := fun j => by
    have h : (jReadPump 8 u).jnl.slots = (slotKnown r v blank s).jnl.slots := by rw [hpump, ← hjnl]
    rw [jslot_slots h]
    exact jslot_setJslot ..
  refine ⟨(hslots _).trans (if_pos rfl), fun hv hb => waiting_shows (jnl_defined (by decide)) ?_, fun j hj => (hslots j).trans (if_neg hj),
    ?_, ?_, ?_⟩
  · have hev : (jReadPump 8 u).evt = u.evt := by rw [hpump]
    rw [hev, ← hu, if_pos (by simp [hv, hb])]
    exact raiseL_waits (by decide) _ _
  all_goals
    simp only [settle_frame]
    rw [hpump, hjnl]
    rfl

/-! Rows of a read. -/

theorem readBeat_exec {s : State} {tag : Nat} {data : W64} {e : Bool} {r : JRead} (hl : resetLow s = false)
    (h : s.jnl.reads.find? (fun x => x.tag == tag) = some r) (hchk : r.chk = none) (hn : r.bytes.length = 56) (he : r.err = false) :
    exec (.jnlReadBeat tag data e) s = done (jReadEnd { r with bytes := r.bytes ++ leBytes 8 data.toNat, err := e } (!e)
      (if e then { s with jnl := { s.jnl with errCnt := satAdd 16 s.jnl.errCnt 1 } } else s)) := by
  refine (run_high hl).trans (congrArg done ?_)
  rw [h]
  dsimp only
  rw [if_neg (by simp [hn, leBytes_length]), jReadStop]
  simp only [hchk, he, Bool.false_or, Bool.not_false, Bool.and_true]

theorem readTimeout_exec {s : State} {tag : Nat} {r : JRead} (hl : resetLow s = false)
    (h : s.jnl.reads.find? (fun x => x.tag == tag) = some r) (hchk : r.chk = none) :
    exec (.jnlReadTimeout tag) s = done (jReadEnd r false { s with jnl := { s.jnl with tmoCnt := satAdd 16 s.jnl.tmoCnt 1 } }) := by
  refine (run_high hl).trans (congrArg done ?_)
  rw [h]
  dsimp only
  rw [jReadStop, hchk]

/-- A read that ends without a record shows its event. -/
theorem readEnd_bad (r : JRead) (s : State) :
    let t := settle (jReadEnd r false s)
    jslot t r.slot = { JSlot.reset with blank := false } ∧ t.jnl.readDone = s.jnl.readDone + 1 ∧ t.jnl.errCnt = s.jnl.errCnt ∧
      t.jnl.tmoCnt = s.jnl.tmoCnt ∧ eventSet t .jnl 7 := by
  obtain ⟨hslot, hevent, -, hdone, herr, htmo⟩ := slotKnown_spec r none false s
  exact ⟨hslot, hdone, herr, htmo, hevent rfl rfl⟩

/-! Degraded causes. -/

theorem setDeg_deg (b : Nat) (s : State) : (setDeg b s).glb.deg = s.glb.deg ||| BitVec.ofNat 8 (2 ^ b) := by
  have h : ∀ t, (steerYield false t).glb = t.glb := fun t => sameBut_steerYield false t .glb (by decide)
  unfold setDeg
  dsimp only
  split <;> split <;> simp [h, setMode]

theorem setDeg_sets (s : State) : (setDeg 6 s).glb.deg.getLsbD 6 = true := by
  rw [setDeg_deg, BitVec.getLsbD_or, Bool.or_eq_true]
  exact .inr rfl

theorem setDeg_other (s : State) : (setDeg 5 s).glb.deg.getLsbD 6 = s.glb.deg.getLsbD 6 := by
  rw [setDeg_deg, BitVec.getLsbD_or, show (BitVec.ofNat 8 (2 ^ 5)).getLsbD 6 = false from rfl, Bool.or_false]

theorem setDeg_jnl (b : Nat) (s : State) : (setDeg b s).jnl = s.jnl := sameBut_setDeg b s .jnl (by decide)

theorem liveSlots_jnl {s t : State} (hs : t.jnl.slots = s.jnl.slots) (hp : t.jnl.portOos = s.jnl.portOos) : liveSlots t = liveSlots s := by
  simp only [liveSlots, hs, hp]

theorem readOnly_jnl {s t : State} (hs : t.jnl.slots = s.jnl.slots) (hp : t.jnl.portOos = s.jnl.portOos)
    (hd : t.glb.deg.getLsbD 6 = s.glb.deg.getLsbD 6) : readOnly t = readOnly s := by rw [readOnly, readOnly, liveSlots_jnl hs hp, hd]

/-- The parts that the thresholds of L write. -/
theorem sameBut_jnlWear (s : State) : sameBut (.glb :: sendParts) s (jnlWear s) := by
  have hset : ∀ (c : Bool) (b : Nat) (t : State), sameBut (.glb :: sendParts) t (if c then setDeg b t else t) := fun c b t => by
    cases c
    · exact sameBut_refl _ t
    · exact sameBut_setDeg b t
  exact sameBut_trans (hset _ 5 s) (hset _ 6 _)

/-- While the journal may be written, the thresholds leave it so. -/
theorem jnlWear_writable {s : State} (h : readOnly s = false) : readOnly (jnlWear s) = false := by
  have h5 : readOnly (setDeg 5 s) = false := by
    rw [readOnly_jnl (s := s) (by rw [setDeg_jnl]) (by rw [setDeg_jnl]) (setDeg_other s), h]
  unfold jnlWear
  dsimp only
  split
  · rw [h5]; exact h5
  · rw [h]; exact h

/-- A journal that may not be written any more has JNL_RO set. -/
theorem jnlWear_readOnly {s : State} (h : readOnly s = true) : (jnlWear s).glb.deg.getLsbD 6 = true := by
  have hlast : ∀ t, readOnly t = true → (if readOnly t && !t.glb.deg.getLsbD 6 then setDeg 6 t else t).glb.deg.getLsbD 6 = true := fun t ht => by
    rw [ht]
    cases hd : t.glb.deg.getLsbD 6
    · exact setDeg_sets t
    · exact hd
  have h5 : readOnly (setDeg 5 s) = true := by
    rw [readOnly_jnl (s := s) (by rw [setDeg_jnl]) (by rw [setDeg_jnl]) (setDeg_other s), h]
  unfold jnlWear
  dsimp only
  split
  · exact hlast _ h5
  · exact hlast _ h

/-! Entries of a table that a predicate picks. -/

theorem countP_smInsert {α : Type} (p : α → Bool) (k : Nat) (v : α) (m : SMap α) :
    (smInsert k v m).countP (fun e => p e.2) = m.countP (fun e => p e.2) + bn (p v) := by
  induction m with
  | nil => cases h : p v <;> simp [smInsert, h, bn]
  | cons e m ih =>
    obtain ⟨j, w⟩ := e
    simp only [smInsert]
    split
    · cases h : p v <;> simp [h, bn]
    · simp only [List.countP_cons, ih]
      omega

theorem countP_smErase {α : Type} {p : α → Bool} {d : α} (hd : p d = false) (m : SMap α) (k : Nat) :
    (smErase m k).countP (fun e => p e.2) + bn (p (smGet d m k)) ≤ m.countP (fun e => p e.2) := by
  induction m with
  | nil => simp [smErase, smGet, hd, bn]
  | cons e m ih =>
    obtain ⟨j, w⟩ := e
    simp only [smErase, smGet]
    split
    · cases h : p w <;> simp [h, bn] <;> omega
    · simp only [List.countP_cons]
      omega

/-- A value that the predicate does not pick anew leaves no more of them. -/
theorem countP_smSet_le {α : Type} [DecidableEq α] {p : α → Bool} {d : α} (hd : p d = false) (m : SMap α) {k : Nat} {v : α}
    (hv : p v = p (smGet d m k)) : (smSet d m k v).countP (fun e => p e.2) ≤ m.countP (fun e => p e.2) := by
  have herase := countP_smErase hd m k
  unfold smSet
  split
  · omega
  · rw [countP_smInsert, hv]
    exact herase

/-! A write that failed. -/

/-- The slot of a failed write, as it is known from now on (R195). -/
def slotFailed (w : JWrite) (s : State) : JSlot :=
  { jslot s w.slot with wcnt := some (slotWrites s w.slot + 1), record := none, skip := some w.lap, blank := false }

/-- The failure noted. -/
def failNoted (w : JWrite) (s : State) : State :=
  raise .jnl 5 (setJslot w.slot (slotFailed w s) { s with jnl := { s.jnl with wr := none, wrStamps := stampAdd s.jnl.wrStamps (now s) } })

theorem failNoted_jnl (w : JWrite) (s : State) : (failNoted w s).jnl =
    { s.jnl with wr := none, wrStamps := stampAdd s.jnl.wrStamps (now s), slots := smSet .reset s.jnl.slots w.slot (slotFailed w s) } := by
  simp [failNoted, setJslot]

theorem jslot_failNoted (w : JWrite) (s : State) (j : Nat) : jslot (failNoted w s) j = if j = w.slot then slotFailed w s else jslot s j := by
  rw [jslot, failNoted_jnl]
  simp [jslot]

theorem failNoted_waits (w : JWrite) (s : State) : ((failNoted w s).evt.get .jnl).pendReal.getLsbD 5 = true := raiseL_waits (by decide) _ _

/-- Out of service for good (R195). -/
theorem writeFailed_permanent {w : JWrite} {s : State} (h : isPermanent s.jnl.retryCfg (stampAdd s.jnl.wrStamps (now s)) = true) :
    writeFailed w s = refuseWork (jnlWear { failNoted w s with jnl := { (failNoted w s).jnl with
      work := w.works ++ (failNoted w s).jnl.work, portOos := true } }) := if_pos h

/-- The record goes out again (R195). -/
theorem writeFailed_again {w : JWrite} {s : State} (h : isPermanent s.jnl.retryCfg (stampAdd s.jnl.wrStamps (now s)) = false)
    (ht : w.record.typ ≠ 8) (he : slotWrites (failNoted w s) (writeSlot (failNoted w s)) + 1 < endurance (failNoted w s))
    (hr : readOnly (failNoted w s) = false) :
    writeFailed w s = jWrite (writeSlot (failNoted w s)) w.record.typ w.record.obj w.record.payload w.works (failNoted w s) := by
  refine (if_neg (by simp [h])).trans (if_neg ?_)
  rintro (h | h | h)
  · exact ht h
  · exact absurd h (Nat.not_le.2 he)
  · exact absurd (hr.symm.trans h) (by decide)

/-- A failure retires no slot. -/
theorem failNoted_liveSlots (w : JWrite) (s : State) : liveSlots s ≤ liveSlots (failNoted w s) := by
  have hcount := countP_smSet_le (p := JSlot.retired) (d := JSlot.reset) rfl s.jnl.slots (k := w.slot) (v := slotFailed w s) rfl
  simp only [liveSlots, failNoted_jnl, ← List.countP_eq_length_filter]
  split
  · exact Nat.le_refl 0
  · omega

theorem failNoted_writable {w : JWrite} {s : State} (h : readOnly s = false) : readOnly (failNoted w s) = false := by
  have hlive := failNoted_liveSlots w s
  have hglb : (failNoted w s).glb = s.glb := by simp [failNoted, setJslot]
  simp only [readOnly, Bool.or_eq_false_iff, decide_eq_false_iff_not, hglb] at h ⊢
  exact ⟨by omega, h.2⟩

theorem smGet_or_default {α : Type} (d : α) (m : SMap α) (k : Nat) : smGet d m k = d ∨ ∃ e ∈ m, e.2 = smGet d m k := by
  induction m with
  | nil => exact .inl rfl
  | cons e m ih =>
    obtain ⟨j, w⟩ := e
    simp only [smGet]
    split
    · exact .inr ⟨(j, w), by simp, rfl⟩
    · rcases ih with h | ⟨e, he, h⟩
      · exact .inl h
      · exact .inr ⟨e, List.mem_cons_of_mem _ he, h⟩

/-- Where every slot stands two writes before its end, so does one that is not listed. -/
theorem slotWrites_lt {s : State} (h2 : 2 < endurance s)
    (hall : s.jnl.slots.all (fun e => decide (e.2.wcnt.getD 0 + 2 < endurance s)) = true) (n : Nat) :
    slotWrites s n + 2 < endurance s := by
  rw [slotWrites, jslot]
  rcases smGet_or_default JSlot.reset s.jnl.slots n with h | ⟨e, he, h⟩
  · rw [h]; exact h2
  · rw [← h]; exact of_decide_eq_true (List.all_eq_true.1 hall e he)

theorem failNoted_slotWrites {w : JWrite} {s : State} (h2 : 2 < endurance s)
    (hall : s.jnl.slots.all (fun e => decide (e.2.wcnt.getD 0 + 2 < endurance s)) = true) (n : Nat) :
    slotWrites (failNoted w s) n + 1 < endurance (failNoted w s) := by
  have hend : endurance (failNoted w s) = endurance s := by rw [endurance, endurance, failNoted_jnl]
  have hw := slotWrites_lt h2 hall w.slot
  have hn := slotWrites_lt h2 hall n
  rw [hend, slotWrites, jslot_failNoted]
  split
  · exact hw
  · exact (Nat.lt_succ_self _).trans hn

/-- What a failed write leaves that goes out again: the same record under the next SEQ, and its old slot without one. -/
def rewritten (w : JWrite) (s t : State) : Prop :=
  (∃ x, t.jnl.wr = some x ∧ x.works = w.works ∧ x.record.typ = w.record.typ ∧ x.record.obj = w.record.obj ∧
    x.record.payload = slice w.record.payload 0 40 ∧ x.record.seq = s.jnl.seq ∧
      t.out = s.out ++ [.jnlWrite x.slot (recBytes (keyAt s jnlKeySlot) x.slot x.record)]) ∧
    t.jnl.seq = s.jnl.seq + 1 ∧ t.jnl.errCnt = s.jnl.errCnt ∧ t.jnl.tmoCnt = s.jnl.tmoCnt ∧ eventSet t .jnl 5 ∧
    (jslot t w.slot).record = none ∧ (jslot t w.slot).wcnt = some (slotWrites s w.slot + 1)

theorem rewritten_jWrite (w : JWrite) (n : Nat) (s : State) :
    rewritten w s (settle (jWrite n w.record.typ w.record.obj w.record.payload w.works (failNoted w s))) := by
  have hout : (failNoted w s).out = s.out := by simp [failNoted, setJslot]
  have hkey : keyAt (failNoted w s) jnlKeySlot = keyAt s jnlKeySlot := by simp [keyAt, vslot, failNoted, setJslot]
  have hseq : (failNoted w s).jnl.seq = s.jnl.seq := by rw [failNoted_jnl]
  have herr : (failNoted w s).jnl.errCnt = s.jnl.errCnt := by rw [failNoted_jnl]
  have htmo : (failNoted w s).jnl.tmoCnt = s.jnl.tmoCnt := by rw [failNoted_jnl]
  have hslot : jslot (settle (jWrite n w.record.typ w.record.obj w.record.payload w.works (failNoted w s))) w.slot = slotFailed w s :=
    (jslot_failNoted w s w.slot).trans (if_pos rfl)
  refine ⟨⟨_, rfl, rfl, rfl, rfl, rfl, hseq, ?_⟩, congrArg (· + 1) hseq, ?_, ?_, waiting_shows (jnl_defined (by decide)) (failNoted_waits w s),
    ?_, ?_⟩
  · rw [← hout, ← hkey]; rfl
  · exact herr
  · exact htmo
  · rw [hslot]; rfl
  · rw [hslot]; rfl

/-- A failed write of a journal that may be written and is not worn goes out again (R195). -/
theorem rewritten_writeFailed {w : JWrite} {s : State} (ht : w.record.typ ≠ 8) (hr : readOnly s = false) (h2 : 2 < endurance s)
    (hall : s.jnl.slots.all (fun e => decide (e.2.wcnt.getD 0 + 2 < endurance s)) = true)
    (hp : isPermanent s.jnl.retryCfg (stampAdd s.jnl.wrStamps (now s)) = false) : rewritten w s (settle (writeFailed w s)) := by
  rw [writeFailed_again hp ht (failNoted_slotWrites h2 hall _) (failNoted_writable hr)]
  exact rewritten_jWrite w _ s

/-! The port out of service. -/

/-- Where no cut waits for an image or a lease, none goes on. -/
theorem armingPump_idle {s t : State} (h : quietLease s = true) (ht : t.secys = s.secys) : armingPump t = t := by
  simp only [quietLease, Bool.and_eq_true] at h
  have hnone : (secyLinks t).filter (fun l => match secyOf t l with | some y => y.cut == .arming | none => false) = [] := by
    refine List.filter_eq_nil_iff.2 fun l hl => ?_
    rw [secyLinks, ht] at hl
    have hcut := List.all_eq_true.1 h.2 l hl
    rw [secyOf, ht, ← secyOf]
    cases hy : secyOf s l with
    | none => simp
    | some y => simpa [hy] using hcut
  exact congrArg (List.foldl (fun t l => cutPump l t) t) hnone

/-- With nothing that waits, nothing is refused. -/
theorem refuseWork_idle {s : State} (hw : s.jnl.work = []) (ha : s.jnl.asks = []) (h : armingPump s = s) : refuseWork s = s := by
  have hsame : ({ s with jnl := { s.jnl with work := [], asks := [] } } : State) = s := by rw [← hw, ← ha]
  unfold refuseWork
  split
  · rfl
  · rw [hw, List.foldl_nil]
    dsimp only
    rw [ha, List.foldl_nil, hsame, h]

/-- The engine with its journal out of service. -/
def portGone (w : JWrite) (s : State) : State :=
  jnlWear { failNoted w s with jnl := { (failNoted w s).jnl with work := w.works ++ (failNoted w s).jnl.work, portOos := true } }

theorem portGone_jnl (w : JWrite) (s : State) : (portGone w s).jnl =
    { (failNoted w s).jnl with work := w.works ++ (failNoted w s).jnl.work, portOos := true } :=
  sameBut_jnlWear _ .jnl (by decide)

theorem portGone_deg (w : JWrite) (s : State) : (portGone w s).glb.deg.getLsbD 6 = true :=
  jnlWear_readOnly (by simp [readOnly, liveSlots])

theorem portGone_secys (w : JWrite) (s : State) : (portGone w s).secys = s.secys :=
  (sameBut_jnlWear _ .secys (by decide)).trans (by simp [failNoted, setJslot])

theorem portGone_idle {w : JWrite} {s : State} (hw : w.works = []) (hwork : s.jnl.work = []) (hasks : s.jnl.asks = [])
    (hq : quietLease s = true) : refuseWork (portGone w s) = portGone w s := by
  have hjnl := portGone_jnl w s
  rw [failNoted_jnl] at hjnl
  exact refuseWork_idle (by rw [hjnl, hw, hwork]; rfl) (by rw [hjnl]; exact hasks) (armingPump_idle hq (portGone_secys w s))

theorem writeFailed_gone {w : JWrite} {s : State} (hp : isPermanent s.jnl.retryCfg (stampAdd s.jnl.wrStamps (now s)) = true) (hw : w.works = [])
    (hwork : s.jnl.work = []) (hasks : s.jnl.asks = []) (hq : quietLease s = true) :
    let t := settle (writeFailed w s)
    t.jnl.portOos = true ∧ t.glb.deg.getLsbD 6 = true ∧ eventSet t .jnl 6 ∧ eventSet t .jnl 5 ∧ readOnly t = true ∧ t.jnl.wr = none := by
  have hidle := portGone_idle hw hwork hasks hq
  have hjnl := portGone_jnl w s
  have hdeg := portGone_deg w s
  have hev : (portGone w s).evt = (failNoted w s).evt := sameBut_jnlWear _ .evt (by decide)
  rw [writeFailed_permanent hp, ← portGone, hidle]
  generalize portGone w s = u at hjnl hdeg hev ⊢
  have hoos : u.jnl.portOos = true := by rw [hjnl]
  refine ⟨hoos, hdeg, level_shows (settled_settle u) ?_ (jnl_defined (by decide)), waiting_shows (jnl_defined (by decide)) ?_, ?_, ?_⟩
  · simp only [levelOf, BitVec.getLsbD_or]
    rw [show (settle u).jnl.portOos = true from hoos, show (bitIf true 6).getLsbD 6 = true from rfl, Bool.or_true]
  · rw [hev]; exact failNoted_waits w s
  · exact Bool.or_eq_true_iff.2 (.inr hdeg)
  · rw [show (settle u).jnl = u.jnl from rfl, hjnl, failNoted_jnl]

/-! A write that is confirmed. -/

/-- What the slots hold, and whether the port is in service, is as it was. -/
def SlotsKept (s t : State) : Prop := t.jnl.slots = s.jnl.slots ∧ t.jnl.portOos = s.jnl.portOos

namespace SlotsKept
variable {s t u : State}

theorem refl (s : State) : SlotsKept s s := ⟨rfl, rfl⟩

theorem trans (h : SlotsKept s t) (k : SlotsKept t u) : SlotsKept s u := ⟨k.1.trans h.1, k.2.trans h.2⟩

end SlotsKept

theorem slotsKept_jIssue (s : State) : SlotsKept s (jIssue s) := by
  unfold jIssue
  split
  · exact .refl s
  · split
    · exact ⟨rfl, rfl⟩
    · exact .refl s

theorem slotsKept_capDrop (s : State) : SlotsKept s (capDrop s) := by
  have hraise : SlotsKept s (raise .jnl 2 { s with jnl := { s.jnl with overCap := true } }) := ⟨by simp, by simp⟩
  have hmark : ∀ k t, SlotsKept t (dropMark k t) := fun k t => by
    unfold dropMark
    dsimp only
    split <;> exact ⟨rfl, rfl⟩
  unfold capDrop
  generalize raise .jnl 2 { s with jnl := { s.jnl with overCap := true } } = t at hraise ⊢
  refine hraise.trans ?_
  dsimp only
  split
  · exact ⟨rfl, rfl⟩
  · split
    · exact ⟨rfl, rfl⟩
    · split
      · exact hmark _ t
      · exact .refl t

theorem slotsKept_capFix (s : State) : SlotsKept s (capFix s) := by
  have hdrops : ∀ n t, SlotsKept t (capDrops n t) := fun n => by
    induction n with
    | zero => exact fun t => .refl t
    | succ n ih =>
      intro t
      unfold capDrops
      split
      · exact .refl t
      · exact (slotsKept_capDrop t).trans (ih _)
  exact hdrops _ s

theorem sameBut_modTx (i : Nat) (f : Sa → Sa) (s : State) : sameBut [.tx] s (modTx i f s) := by
  unfold modTx
  split
  · exact tx_only s _
  · exact sameBut_refl _ s

/-- The record in its slot once its write is confirmed. -/
def slotWritten (w : JWrite) : JSlot :=
  { wcnt := some w.record.wcnt, record := some w.record, retired := w.record.typ == 8, skip := none, blank := false }

theorem recordKept_slots (w : JWrite) (s : State) : (recordKept w s).jnl.slots = smSet .reset s.jnl.slots w.slot (slotWritten w) := by
  unfold recordKept
  dsimp only
  split
  · exact congrArg Jnl.slots (sameBut_modTx _ _ _ .jnl (by decide))
  · rfl

theorem sameBut_recordKept (w : JWrite) (s : State) : sameBut [.tx, .jnl] s (recordKept w s) := by
  unfold recordKept
  dsimp only
  split
  · exact sameBut_trans (sameBut_mono (jnl_only s _) (by decide)) (sameBut_mono (sameBut_modTx _ _ _) (by decide))
  · exact sameBut_mono (jnl_only s _) (by decide)

/-- What a confirmed write without work writes. -/
def confirmParts : List Part := [.tx, .jnl, .glb, .fab, .out, .tel, .que, .cnt, .evt]

theorem writeConfirmed_spec {w : JWrite} {s : State} (hw : w.works = []) (hr : readOnly (recordKept w s) = false) :
    (writeConfirmed w s).jnl.slots = smSet .reset s.jnl.slots w.slot (slotWritten w) ∧ sameBut confirmParts s (writeConfirmed w s) := by
  generalize hs1 : telBump 0x1D0 1 none (recordKept w s) = s1
  have htel : sameBut [.tel] (recordKept w s) s1 := hs1 ▸ sameBut_telBump _ _ _ _
  have hr1 : readOnly s1 = false := by
    rw [readOnly_jnl (s := recordKept w s) (by rw [htel .jnl (by decide)]) (by rw [htel .jnl (by decide)]) (by rw [htel .glb (by decide)]), hr]
  have hwear := sameBut_jnlWear s1
  have hworked : JWorked (jnlWear s1) (jIssue (capFix (jnlWear s1))) := worked_jIssue (worked_capFix (.refl _))
  have hkept : SlotsKept (jnlWear s1) (jIssue (capFix (jnlWear s1))) := (slotsKept_capFix _).trans (slotsKept_jIssue _)
  have hlast : readOnly (jIssue (capFix (jnlWear s1))) = false := by
    rw [readOnly_jnl hkept.1 hkept.2 (by rw [hworked.same .glb (by decide)]), jnlWear_writable hr1]
  have heq : writeConfirmed w s = jIssue (capFix (jnlWear s1)) := by
    unfold writeConfirmed
    dsimp only
    rw [hs1, hw, List.foldl_nil, refuseWork, hlast]
    rfl
  rw [heq]
  refine ⟨?_, ?_⟩
  · rw [hkept.1, hwear .jnl (by decide), htel .jnl (by decide), recordKept_slots]
  · exact sameBut_trans (sameBut_trans (sameBut_mono (sameBut_recordKept w s) (by decide)) (sameBut_mono htel (by decide)))
      (sameBut_trans (sameBut_mono hwear (by decide)) (sameBut_mono hworked.same (by decide)))

/-! The rows. -/

theorem writeDone_exec {s : State} {w : JWrite} (b : Bool) (hl : resetLow s = false) (h : s.jnl.wr = some w) :
    exec (.jnlWriteDone b) s =
      done (if b then writeFailed w { s with jnl := { s.jnl with errCnt := satAdd 16 s.jnl.errCnt 1 } } else writeConfirmed w s) :=
  (run_high hl).trans (congrArg done (by rw [h]))

theorem writeTimeout_exec {s : State} {w : JWrite} (hl : resetLow s = false) (h : s.jnl.wr = some w) :
    exec .jnlWriteTimeout s = done (writeFailed w { s with jnl := { s.jnl with tmoCnt := satAdd 16 s.jnl.tmoCnt 1 } }) :=
  (run_high hl).trans (congrArg done (by rw [h]))

/-- Settles O45, row by row: what the end of a read leaves (`slotKnown_spec`, `readEnd_bad`), a confirmation (`writeConfirmed_spec`) and
a failure, with the record out again (`rewritten_writeFailed`) or the port out of service (`writeFailed_gone`). -/
theorem journalPort : Obligations.JournalPort := by
  unfold Obligations.JournalPort
  refine ⟨?strayBeat, ?beat, ?last, ?lastBad, ?lateRead, ?strayTimeout, ?confirmed, ?failed, ?late, ?gone, ?idleDone, ?idleTimeout⟩
  case strayBeat => exact fun s tag data e hl h => ⟨_, (run_high hl).trans (congrArg done (by rw [h])), settled_settle s⟩
  case beat =>
    intro s tag data r hl h hn
    refine ⟨_, (run_high hl).trans (congrArg done ?_), settled_settle _⟩
    rw [h]
    dsimp only
    rw [if_pos (by simpa [leBytes_length] using hn), Bool.or_false]
    rfl
  case last =>
    intro s tag data r hl h hchk hn he
    obtain ⟨hslot, hevent, hother, hdone, -, -⟩ := slotKnown_spec { r with bytes := r.bytes ++ leBytes 8 data.toNat, err := false }
      (readRec (keyAt s jnlKeySlot) r.slot (r.bytes ++ leBytes 8 data.toNat)) (isBlank (r.bytes ++ leBytes 8 data.toNat)) s
    exact ⟨_, readBeat_exec hl h hchk hn he, ⟨hslot, hevent⟩, hdone, hother⟩
  case lastBad =>
    intro s tag data r hl h hchk hn he
    obtain ⟨hslot, hdone, herr, -, hevent⟩ := readEnd_bad { r with bytes := r.bytes ++ leBytes 8 data.toNat, err := true }
      { s with jnl := { s.jnl with errCnt := satAdd 16 s.jnl.errCnt 1 } }
    exact ⟨_, readBeat_exec hl h hchk hn he, hslot, hdone, herr, hevent⟩
  case lateRead =>
    intro s tag r hl h hchk
    obtain ⟨hslot, hdone, -, htmo, hevent⟩ := readEnd_bad r { s with jnl := { s.jnl with tmoCnt := satAdd 16 s.jnl.tmoCnt 1 } }
    exact ⟨_, readTimeout_exec hl h hchk, hslot, hdone, htmo, hevent⟩
  case strayTimeout => exact fun s tag hl h => ⟨_, (run_high hl).trans (congrArg done (by rw [h])), settled_settle s⟩
  case confirmed =>
    intro s w hl hwr hw hr
    obtain ⟨hslots, hrest⟩ := writeConfirmed_spec hw hr
    have hslot : ∀ j, jslot (settle (writeConfirmed w s)) j = if j = w.slot then slotWritten w else jslot s j := fun j => by
      rw [jslot, show (settle (writeConfirmed w s)).jnl = (writeConfirmed w s).jnl from rfl, hslots, smGet_smSet]; rfl
    exact ⟨_, writeDone_exec false hl hwr, (hslot _).trans (if_pos rfl), fun j hj => (hslot j).trans (if_neg hj),
      hrest .secys (by decide), hrest .rx (by decide), hrest .vlt (by decide)⟩
  case failed =>
    intro s w hl hwr ht hr h2 hall hp
    obtain ⟨hrec, hseq, herr, -, hrest⟩ := rewritten_writeFailed (w := w)
      (s := { s with jnl := { s.jnl with errCnt := satAdd 16 s.jnl.errCnt 1 } }) ht hr h2 hall hp
    exact ⟨_, writeDone_exec true hl hwr, hrec, hseq, herr, hrest⟩
  case late =>
    intro s w hl hwr ht hr h2 hall hp
    obtain ⟨hrec, hseq, -, htmo, hrest⟩ := rewritten_writeFailed (w := w)
      (s := { s with jnl := { s.jnl with tmoCnt := satAdd 16 s.jnl.tmoCnt 1 } }) ht hr h2 hall hp
    exact ⟨_, writeTimeout_exec hl hwr, hrec, hseq, htmo, hrest⟩
  case gone =>
    intro s w hl hwr hp hw hwork hasks hq
    exact ⟨_, writeTimeout_exec hl hwr,
      writeFailed_gone (s := { s with jnl := { s.jnl with tmoCnt := satAdd 16 s.jnl.tmoCnt 1 } }) hp hw hwork hasks hq⟩
  case idleDone => exact fun s b hl h => ⟨_, (run_high hl).trans (congrArg done (by rw [h])), settled_settle s⟩
  case idleTimeout => exact fun s hl h => ⟨_, (run_high hl).trans (congrArg done (by rw [h])), settled_settle s⟩

end Sys2Proof.Machine
end

section
/-! A fill that fails for a frame of a link that the engine does not have. -/
namespace Sys2Proof.Machine

/-- The fill of line 5,120 whose line has been read once, in vain. -/
def retriedFill : Fill := { newFill 5120 false false false with lineRetry := true }

/-- The second read of its line. -/
def secondRead : CxmRead := { tag := 0, line := 5120, leaf := false, offset := 0, held := false, bad := false, chk := none }

/-- The engine after reset with a SecY on link 1,024, past the last link 1,023, so that the SecY's line is line 5,120 (R265), and
a frame of that link that waits for the line. -/
def pastLinks : State :=
  { State.reset with
    secys := [(1024, some (newSecy 0 0 0))]
    egr := { State.reset.egr with frames := [{ newFrame 1024 0 0 0 with fate := .wait (some 5120) }] }
    cxm := { State.reset.cxm with trusted := true, fills := [retriedFill], reads := [secondRead] } }

/-- The discard of the frame counts in its SecY, whose line is brought in again: a fill of line 5,120 runs after the one that failed. -/
theorem readTimeout_pastLinks {t : State} (h : exec (.cxmReadTimeout 0) pastLinks = .next t) : fillOf t 5120 = some (newFill 5120 false false false) := by
  have ht : Host.Outcome.next t = exec (.cxmReadTimeout 0) pastLinks := h.symm
  injection ht with ht
  rw [ht]
  decide

/-- Refutes O41, at its clause on a second timeout of a line's read: the clause leaves out the SecY lines of the 1,024 links, but
takes frames of any link number; the SecY of a frame of link 1,024 (`pastLinks`) has line 5,120, and the frame's discard starts a new
fill of the line whose fill has just failed. -/
theorem not_contextPort : ¬ Obligations.ContextPort := by
  unfold Obligations.ContextPort
  rintro ⟨-, -, -, -, -, -, -, -, htimeout, -⟩
  obtain ⟨t, ht, hnone, -⟩ := htimeout pastLinks 0 secondRead retriedFill (by decide) (by decide) rfl rfl rfl rfl (by decide) (by decide)
    (by decide) (by decide)
  have hgone : fillOf t 5120 = none := hnone (.inr (by decide))
  exact absurd (hgone.symm.trans (readTimeout_pastLinks ht)) (by simp)

end Sys2Proof.Machine
end

section
/-! Commands refused by the engine's mode or by their requester's privilege. -/
namespace Sys2Proof.Machine

/-- A host's command has the privilege of its packet (R324). -/
theorem hasPriv_newCmd {op n : Nat} {p : Pkt} {s : State} (hr : p.req = .hq n) : hasPriv (newCmd op p s) = p.priv := by
  have hpk : (newCmd op p s).pkt = p := rfl
  simp [hasPriv, hpk, hr]

/-- A host's command whose form is right is in the opcode table. -/
theorem reaches_opInfo {op n : Nat} {p : Pkt} {s : State} (hop : op < 256) (h : reaches op n p s = true) : ∃ o, opInfo op = some o := by
  simp only [reaches, Bool.and_eq_true, Option.isNone_iff_eq_none] at h
  obtain ⟨⟨⟨⟨⟨-, hform⟩, -⟩, -⟩, -⟩, -⟩ := h
  cases ho : opInfo op with
  | some o => exact ⟨o, rfl⟩
  | none => simp [checkForm, newCmd_opcode hop, ho] at hform

/-- A row that the checks of R327 refuse answers with their status, and beside the reply nothing changes. -/
theorem row_refused {c : Instr} {op n st : Nat} {p : Pkt} {s : State} (hc : mciOf c = some (op, p)) (hreach : reaches op n p s = true)
    (hst : checkRun (newCmd op p s) s = some st) : ∃ t, exec c s = .next t ∧ answered op n p st [] s t := by
  obtain ⟨eff, hexec, -⟩ := exec_mciOf hc s
  obtain ⟨hn, hr, hrow⟩ := runRow_refused eff hreach hst
  refine ⟨_, hexec.trans (run_high (reaches_high hreach)), ?_⟩
  rw [hrow]
  exact complete_answered hn hr _ _

section
variable {op n : Nat} {p : Pkt} {s : State} {o : OpInfo} (hop : op < 256) (ho : opInfo op = some o) (hr : p.req = .hq n)
include hop ho hr

/-- Step 4 of R327: a privileged command of a requester without privilege. -/
theorem checkRun_unprivileged (hpriv : o.priv = true) (hp : p.priv = false) : checkRun (newCmd op p s) s = some stPrivDenied := by
  simp [checkRun, newCmd_opcode hop, ho, hasPriv_newCmd hr, hpriv, hp]

/-- Step 5 in LOCKOUT (R79). -/
theorem checkRun_lockout (hpriv : (o.priv && !p.priv) = false) (hm : s.glb.mode = .lockout) (h2 : op ≠ 0x02) (h4 : op ≠ 0x04) :
    checkRun (newCmd op p s) s = some (lockoutStatus s) := by
  simp [checkRun, newCmd_opcode hop, ho, hasPriv_newCmd hr, hpriv, hm, h2, h4]

/-- Step 5 in COLD. -/
theorem checkRun_cold (hpriv : (o.priv && !p.priv) = false) (hm : s.glb.mode = .cold) (hcold : o.cold = false) :
    checkRun (newCmd op p s) s = some stWrongMode := by
  simp [checkRun, newCmd_opcode hop, ho, hasPriv_newCmd hr, hpriv, hm, hcold]

end

/-- Settles O14: step 5 of R327 refuses the command (`checkRun_lockout`). -/
theorem lockoutReplies : Obligations.LockoutReplies := by
  unfold Obligations.LockoutReplies
  intro c op n p s hc hreach hm h2 h4 hpriv
  obtain ⟨-, -, hop⟩ := exec_mciOf hc s
  obtain ⟨o, ho⟩ := reaches_opInfo hop hreach
  have hp : (o.priv && !p.priv) = false := by
    rcases hpriv with h | h
    · simp [h]
    · simp [h o ho]
  exact row_refused hc hreach (checkRun_lockout hop ho (reaches_req hreach).1 hp hm h2 h4)

/-- Settles O15: step 4 of R327 looks at the privilege (`checkRun_unprivileged`), step 5 at the mode (`checkRun_cold`). -/
theorem privilegeAndColdReplies : Obligations.PrivilegeAndColdReplies := by
  unfold Obligations.PrivilegeAndColdReplies
  refine ⟨?unprivileged, ?cold⟩
  case unprivileged =>
    intro c op n p s o hc hreach ho hpriv hp
    obtain ⟨-, -, hop⟩ := exec_mciOf hc s
    exact row_refused hc hreach (checkRun_unprivileged hop ho (reaches_req hreach).1 hpriv hp)
  case cold =>
    intro c op n p s o hc hreach hm ho hcold hpriv
    obtain ⟨-, -, hop⟩ := exec_mciOf hc s
    have hp : (o.priv && !p.priv) = false := by
      cases h : o.priv
      · rfl
      · rw [hpriv h]; rfl
    exact row_refused hc hreach (checkRun_cold hop ho (reaches_req hreach).1 hp hm hcold)

end Sys2Proof.Machine
end

section
/-! An acknowledge of a shared cut that others still have to acknowledge. -/
namespace Sys2Proof.Machine

/-- The state in which a message is acted on: it has passed through its port's queue and is counted. -/
def msgCounted (p : Nat) (s : State) : State := telBump 0x1D8 1 none (quePass (8 + p) 1 s)

theorem sameBut_msgCounted (p : Nat) (s : State) : sameBut [.que, .tel] s (msgCounted p s) :=
  sameBut_trans (sameBut_mono (sameBut_modQue _ _ s) (by decide)) (sameBut_mono (sameBut_telBump _ _ _ _) (by decide))

theorem isMember_congr {s t : State} (h : t.fab = s.fab) (a : Nat) : isMember t a = isMember s a := by simp [isMember, peerOf, h]

/-- A message that is heard from a member is acted on (R286, R287). -/
theorem recvFrom_heard {s : State} {h : MsgHdr} {m : FabMsg} {a : Nat} (hh : heardFrom s h m a) (eff : Nat → State → State) :
    recvFrom h m eff s = eff a (msgCounted h.port s) := by
  obtain ⟨⟨-, hst, hmac, hquar, haddr⟩, hsrc, hmem⟩ := hh
  have hm : isMember (msgCounted h.port s) a = true := by
    rw [isMember_congr (sameBut_msgCounted h.port s .fab (by decide))]; exact hmem
  have h1 : (!((portOf s h.port).st == .active || ((portOf s h.port).st == .caps && msgTyp m == 0x0C))) = false := by rw [hst]; rfl
  have h2 : (msgHasMac m && h.mac != msgMac s h m) = false := by
    cases hb : msgHasMac m
    · rfl
    · simp [hmac hb]
  have h3 : (msgTyp m != 0x01 && msgTyp m != 0x02 && msgTyp m != 0x0C && fromQuarantine s h) = false := by
    by_cases hb : msgTyp m ≠ 0x01 ∧ msgTyp m ≠ 0x02 ∧ msgTyp m ≠ 0x0C
    · simp [hquar hb.1 hb.2.1 hb.2.2]
    · simp only [Bool.and_eq_false_iff, bne_eq_false_iff_eq]; tauto
  have h4 : (!msgIsHop m && (h.hop || s.fab.addr != some h.dst)) = false := by
    cases hb : msgIsHop m
    · simp [haddr hb]
    · rfl
  simp only [recvFrom, recvMsg, h1, h2, h3, h4, hsrc, Bool.false_eq_true, if_false]
  exact if_pos hm

/-- With no command running no schedule is complete. -/
theorem timedReply_idle {s : State} (h : s.mci.running = []) : timedReply s = s := by simp [timedReply, h]

/-- An offer that more engines have to acknowledge stays, with the acknowledge noted. -/
theorem takeAck_awaits {s : State} {a : Nat} {m : CutMsg} {o : Offer} (hrun : s.mci.running = []) (hm : m.status = 0)
    (ho : s.fab.offers.find? (fun o => o.sa == m.sa && o.an == m.an && o.waiting.contains a) = some o)
    (hw : o.waiting.all (fun x => (setAdd a o.acked).contains x) = false) :
    (takeAck a m s).fab.offers = s.fab.offers.map (fun x => if x == o then { o with acked := setAdd a o.acked } else x) := by
  simp only [takeAck, ho, hm, if_true, offerAcked, hw, Bool.not_false, Bool.or_true]
  rw [timedReply_idle]
  exact hrun

/-- A message under its own MAC is heard: the MAC does not cover its own word. -/
theorem heardFrom_sealed {s : State} {h : MsgHdr} {m : FabMsg} {a : Nat} (hl : resetLow s = false) (hst : (portOf s h.port).st = .active)
    (hq : fromQuarantine s h = false) (hd : h.hop = false ∧ s.fab.addr = some h.dst) (hsrc : h.src = some a) (hmem : isMember s a = true) :
    heardFrom s { h with mac := msgMac s h m } m a :=
  ⟨⟨hl, hst, fun _ => rfl, fun _ _ _ => hq, fun _ => hd⟩, hsrc, hmem⟩

/-- An offer of the key service to engines 6 and 7. -/
def offerToTwo : Offer := { links := [1], link := 1, an := 1, sa := 4, t := 700, waiting := [6, 7], acked := [], cmd := none }

/-- The home, engine 2, with engine 6 behind port 3 and its offer out. -/
def homeOfTwo : State :=
  { State.reset with
    fab := { Fab.reset with
      addr := some 2, ickKid := some 0, offers := [offerToTwo], peers := [(6, { Peer.reset with reach := true })],
      ports := [(3, { Port.reset with st := .active, peerClass := fabClass, peerKeyOk := true })] } }

/-- Engine 6 acknowledges. -/
def ackOfSix : CutMsg := { home := 2, sa := 4, an := 1, t := 700, key := [], status := 0 }

/-- The header of its message before it is sealed, and with its MAC. -/
def ackUnsealed : MsgHdr := { port := 3, src := some 6, hop := false, dst := 2, ttl := 4, lseq := 0, mac := 0 }
def ackHeader : MsgHdr := { ackUnsealed with mac := msgMac homeOfTwo ackUnsealed (.cutAck ackOfSix) }

theorem ackOfSix_heard : heardFrom homeOfTwo ackHeader (.cutAck ackOfSix) 6 :=
  heardFrom_sealed (h := ackUnsealed) rfl rfl (by decide) ⟨rfl, rfl⟩ rfl (by decide)

/-- Engine 7 has still to acknowledge: the offer stays. -/
theorem ackOfSix_exec {t : State} (h : exec (.cutAck ackHeader ackOfSix) homeOfTwo = .next t) :
    t.fab.offers = [{ offerToTwo with acked := [6] }] := by
  have hrow : exec (.cutAck ackHeader ackOfSix) homeOfTwo =
      run homeOfTwo (recvFrom ackHeader (.cutAck ackOfSix) (fun a t => takeAck a ackOfSix t) homeOfTwo) := rfl
  have hfab : (msgCounted 3 homeOfTwo).fab = homeOfTwo.fab := sameBut_msgCounted 3 homeOfTwo .fab (by decide)
  rw [hrow, run_high rfl, recvFrom_heard ackOfSix_heard] at h
  obtain rfl := Host.Outcome.next.inj h
  have hack := takeAck_awaits (s := msgCounted 3 homeOfTwo) (a := 6) (m := ackOfSix) (o := offerToTwo)
    (by rw [sameBut_msgCounted 3 homeOfTwo .mci (by decide)]; rfl) rfl (by rw [hfab]; decide) (by decide)
  rw [hfab] at hack
  exact hack

/-- Refutes O49, at its clause on the last CUT_ACK of a service's offer: the quantifier over `o.waiting` reaches over the rest of the
clause, so that it speaks of any acknowledge from which one engine's is due; engine 6 acknowledges an offer that engine 7 still has to
acknowledge (`homeOfTwo`), and the offer stays. -/
theorem not_cuts : ¬ Obligations.Cuts := by
  unfold Obligations.Cuts
  rintro ⟨-, -, -, -, -, -, -, -, -, -, -, -, -, -, hack, -⟩
  obtain ⟨t, ht, hgone, -⟩ := hack homeOfTwo ackHeader ackOfSix 6 offerToTwo rfl ackOfSix_heard rfl (by decide) rfl 6 (by decide)
    (.inl rfl) rfl
  rw [ackOfSix_exec ht] at hgone
  exact absurd hgone (by decide)

end Sys2Proof.Machine
end

section
/-! A frame that is still arriving when the frames held at DOZE entry are discarded. -/
namespace Sys2Proof.Machine

/-- A whole frame of link 0, and one of link 1 that is still arriving. -/
def wholeAndArriving : List Frame := [{ newFrame 0 0 0 0 with ended := true }, newFrame 1 0 0 0]

/-- The engine on its way to DOZE with both on the egress path. -/
def dozeArriving : State :=
  { State.reset with
    glb := { Glb.reset with mode := .protect, change := some ⟨.toDoze, none⟩ }
    egr := { Path.reset with frames := wholeAndArriving, isOpen := true } }

/-- The frame that is still arriving stays, marked as discarded. -/
theorem dozeHeldTimeout_arriving {t : State} (h : exec .dozeHeldTimeout dozeArriving = .next t) :
    t.egr.frames = [{ newFrame 1 0 0 0 with fate := .discard }] := by
  have ht : Host.Outcome.next t = exec .dozeHeldTimeout dozeArriving := h.symm
  injection ht with ht
  rw [ht]
  decide

/-- Refutes O51, at its first clause: the quantifier over the frames reaches over the rest of the clause, so that one whole frame among
those held is enough; a frame that is still arriving beside it (`dozeArriving`) stays on its path. -/
theorem not_dozeAndWake : ¬ Obligations.DozeAndWake := by
  unfold Obligations.DozeAndWake
  rintro ⟨hheld, -⟩
  obtain ⟨t, ht, hgone, -⟩ := hheld dozeArriving none rfl rfl { newFrame 0 0 0 0 with ended := true } (by decide) rfl
  rw [dozeHeldTimeout_arriving ht] at hgone
  exact absurd hgone (by decide)

end Sys2Proof.Machine
end

section
/-! The two resets and their release. -/
namespace Sys2Proof.Machine

/-- After POWER_ON_RESET no level condition holds. -/
theorem levelOf_powerOn {s : State} (hv : s.vlt = Vlt.reset) (ha : s.aon = { Aon.reset with porLow := true }) (hg : s.glb = Glb.reset)
    (hc : s.cis = Cis.reset) (hx : s.cxm = Cxm.reset) (he : s.egr = Path.reset) (hi : s.ing = Path.reset) (ht : s.sct = ScTab.reset)
    (hl : s.lne = Lne.reset) (hj : s.jnl = Jnl.reset) (u : Sub) : levelOf s u = 0 := by
  cases u <;> simp only [levelOf, lanePermMask, wornLow, readOnly, liveSlots, hv, ha, hg, hc, hx, he, hi, ht, hl, hj] <;> decide

/-- An event set as reset leaves it holds no cause and no bit. -/
theorem evts_reset_empty (u : Sub) : (Evts.reset.get u).pendReal = 0 ∧ (Evts.reset.get u).pendForced = 0 ∧
    (Evts.reset.get u).stat = 0 ∧ (Evts.reset.get u).raw = 0 := by cases u <;> exact ⟨rfl, rfl, rfl, rfl⟩

/-- Zeroizing leaves the resets' inputs in AON as they are. -/
theorem zeroizeAll_resets (s : State) : (zeroizeAll s).aon.porLow = s.aon.porLow ∧ (zeroizeAll s).aon.sysLow = s.aon.sysLow := by
  have h : (zeroSlots (fun _ => true) s).aon = s.aon :=
    sameBut_foldl (fun t n => zeroSlot n t) (fun t n => sameBut_zeroSlot n t) _ s .aon (by decide)
  show (zeroSlots _ s).aon.porLow = _ ∧ (zeroSlots _ s).aon.sysLow = _
  rw [h]
  exact ⟨rfl, rfl⟩

/-- So does LOCKOUT. -/
theorem lockout_resets (cause : Nat) (b : Bool) (s : State) :
    (lockout cause b s).aon.porLow = s.aon.porLow ∧ (lockout cause b s).aon.sysLow = s.aon.sysLow := by
  unfold lockout
  split
  · exact ⟨rfl, rfl⟩
  · have hab : ∀ n, (abortAll n (fun _ => true) s).aon = s.aon := fun n => (abortAll_keeps n _ s).1 .aon (by decide)
    have hflow : ∀ v, (lockoutStores (leaveFabric (flushPath .ing (flushPath .egr (zeroizeAll v))))).aon = (zeroizeAll v).aon := fun v =>
      (sameBut_lockoutStores _ .aon (by decide)).trans ((sameBut_leaveFabric _ .aon (by decide)).trans
        ((sameBut_flushPath .ing _ .aon (by decide)).trans (sameBut_flushPath .egr _ .aon (by decide))))
    simp only [setMode_frame, hflow, zeroizeAll_resets, hab, and_self]

/-- The state as RESET_RELEASE makes it where start-up begins. -/
def resetReleased (s : State) : State :=
  { s with aon := { s.aon with porLow := false, sysLow := false, rootReq := true, rootWords := [] },
           glb := { s.glb with booting := true } }

/-- RESET_RELEASE before any start-up and outside test mode looks at the tamper latch. -/
theorem resetRelease_exec {s : State} (hb : s.glb.booting = false) (hst : s.glb.bootStage = 0) (ht : s.glb.testMode = false) :
    exec .resetRelease s = done (tamperCheck (resetReleased s)) := by
  have hstart : ¬(s.glb.booting || s.glb.bootStage != 0) = true := by rw [hb, hst]; decide
  exact congrArg done ((if_neg hstart).trans (if_neg (by rw [ht]; decide)))

/-- Settles O7, row by row: a reset is read off `State.reset`; a release enters LOCKOUT where a tamper is latched
(`tamperCheck_enters`, `lockout_booting`) and otherwise leaves what it has made of the state. -/
theorem resets : Obligations.Resets := by
  unfold Obligations.Resets
  refine ⟨?powerOn, ?system, ?release, ?tampered, ?test, ?late⟩
  case powerOn =>
    intro s
    refine ⟨_, rfl, ?_, rfl, rfl, rfl, rfl, fun u => ?_⟩
    · intro p hp
      cases p <;> first | rfl | exact absurd (by decide) hp
    · obtain ⟨hreal, hforced, hstat, hraw⟩ := evts_reset_empty u
      rw [settle_evt]
      exact cycle_still u _ _ _ (levelOf_powerOn rfl rfl rfl rfl rfl rfl rfl rfl rfl rfl u) hreal hforced hstat hraw
  case system =>
    intro s hp ht
    have hrow : exec .systemReset s = done (sysReset s) := congrArg done (if_neg (by rw [hp, ht]; decide))
    refine ⟨_, hrow, ?_, rfl, rfl, rfl, rfl, rfl, rfl, rfl, rfl, ?_⟩
    · intro p hp
      cases p <;> first | rfl | exact absurd (by decide) hp
    · rw [levelOf_settle]
      rfl
  case release =>
    intro s hb hst ht htmp
    refine ⟨_, (resetRelease_exec hb hst ht).trans (congrArg done (tamperCheck_rests (.inr (.inr ?_)))), settled_settle _⟩
    exact htmp
  case tampered =>
    intro s hb hst ht htmp hm
    obtain ⟨hmode, hcause, htamper, hstage⟩ := lockout_booting (s := resetReleased s) 6 true hm rfl
    obtain ⟨hpor, hsys⟩ := lockout_resets 6 true (resetReleased s)
    exact ⟨_, (resetRelease_exec hb hst ht).trans (congrArg done (tamperCheck_enters rfl htmp)), hmode, hcause, htamper, hstage,
      hpor, hsys⟩
  case test =>
    intro s hb hst ht
    have hstart : ¬(s.glb.booting || s.glb.bootStage != 0) = true := by rw [hb, hst]; decide
    exact ⟨_, congrArg done ((if_neg hstart).trans (if_pos ht)), settled_settle _⟩
  case late =>
    intro s h
    have hstart : (s.glb.booting || s.glb.bootStage != 0) = true := by rw [Bool.or_eq_true, bne_iff_ne]; exact h
    exact ⟨_, congrArg done (if_pos hstart), settled_settle _⟩

end Sys2Proof.Machine
end

section
/-! Commands that complete at once in a state that their effect has changed. -/
namespace Sys2Proof.Machine

/-- A command of a host that starts now is its row's effect on the accepted state. -/
theorem row_now {c : Instr} {op n : Nat} {p : Pkt} {s : State} {eff : QCmd → State → State} (hrow : exec c s = run s (runRow op eff p s))
    (h : startsNow op n p s = true) : exec c s = done (eff (newCmd op p s) (accepted s)) := by
  rw [hrow, run_high (startsNow_high h), runRow_now eff h]

theorem accepted_eq (s : State) : accepted s =
    { s with mci := { s.mci with nextId := s.mci.nextId + 1 }, tel := (accepted s).tel, que := (accepted s).que } := by
  unfold accepted telBump
  split <;> rfl

theorem accepted_glb (s : State) : (accepted s).glb = s.glb := by simp

theorem sameBut_accepted (s : State) : sameBut [.mci, .tel, .que] s (accepted s) := by
  rw [accepted_eq]
  intro p hp
  cases p <;> simp_all [Part.same]

/-- Telemetry and queues of an accepted packet rest on these fields alone. -/
theorem accepted_tel_que {s v : State} (ht : v.tel = s.tel) (hp : v.glb.pdOn = s.glb.pdOn) (hq : v.que = s.que) :
    (accepted v).tel = (accepted s).tel ∧ (accepted v).que = (accepted s).que := by
  have hon : ∀ m, telOn { v with mci := m } = telOn s := fun m => congrArg (fun b => BitVec.getLsbD b 55) hp
  have hon' : ∀ m, telOn { s with mci := m } = telOn s := fun _ => rfl
  simp only [accepted, telBump, hon, hon']
  split <;> simp [quePass, modQue, setQue, queOf, ht, hq]

section
variable {op n : Nat} {p : Pkt} {s u v : State} (hn : n < 4) (hr : p.req = .hq n)
include hn hr

/-- The reply to a command whose effect makes `v` of the state: `u` is `v` with the packet accepted. -/
theorem complete_changed
    (hu : u = { v with mci := { v.mci with nextId := v.mci.nextId + 1 }, tel := (accepted s).tel, que := (accepted s).que })
    (hid : v.mci.nextId = s.mci.nextId) (ht : v.tel = s.tel) (hp : v.glb.pdOn = s.glb.pdOn) (hq : v.que = s.que) (st : Nat)
    (ws : List W64) : answered op n p st ws v (settle (complete (newCmd op p s) st ws u)) := by
  obtain ⟨htel, hque⟩ := accepted_tel_que ht hp hq
  have hcmd : newCmd op p s = newCmd op p v := by rw [newCmd, newCmd, hid]
  rw [hcmd, hu, ← htel, ← hque, ← accepted_eq]
  exact complete_answered hn hr st ws

/-- The reply to a command, and the frame of its effect. -/
theorem complete_replies {ps : List Part} {st : Nat} {ws : List W64} (hs : u.mci.slots = s.mci.slots) (hu : sameBut ps s u)
    (hps : ∀ x ∈ [Part.mci, .evt, .tel, .cnt, .que], x ∈ ps) :
    replyIn op n p st ws s (settle (complete (newCmd op p s) st ws u)) ∧ sameBut ps s (settle (complete (newCmd op p s) st ws u)) :=
  ⟨complete_reply hn hr ws hs, sameBut_trans hu (sameBut_mono (complete_frame hr ws) hps)⟩

end

end Sys2Proof.Machine
end

section
/-! Modes and the bypass rules. -/
namespace Sys2Proof.Machine

/-- A target of SYS_SET_MODE without RESUME has no bit that is not allowed, and its field is the target. -/
theorem target_word {w : W64} {k : Nat} (h : w = BitVec.ofNat 64 k) (hk : k < 8) :
    onlyBits 0x107#64 w = true ∧ fld w 0 3 = k ∧ bitAt w 8 = false := by
  subst h
  interval_cases k <;> decide

section
variable {p : Pkt} {v s : State}

/-- PROVISION to PROTECT or DEGRADED (R83). -/
theorem sysSetModeEff_protect (h : wordAt p.words 0 = 2) (hm : s.glb.mode = .provision) :
    sysSetModeEff (newCmd 0x03 p v) s = ok (newCmd 0x03 p v) (enterWorking 1 s) := by
  obtain ⟨hbits, hfld, hres⟩ := target_word (k := 2) h (by decide)
  have hw : (newCmd 0x03 p v).w 0 = wordAt p.words 0 := rfl
  simp [sysSetModeEff, hw, hbits, hfld, hres, hm]

/-- COLD to PROVISION (R83). -/
theorem sysSetModeEff_provision (h : wordAt p.words 0 = 1) (hm : s.glb.mode = .cold) :
    sysSetModeEff (newCmd 0x03 p v) s = ok (newCmd 0x03 p v) (enterProvision s) := by
  obtain ⟨hbits, hfld, hres⟩ := target_word (k := 1) h (by decide)
  have hw : (newCmd 0x03 p v).w 0 = wordAt p.words 0 := rfl
  simp [sysSetModeEff, hw, hbits, hfld, hres, hm]

/-- PROTECT or DEGRADED to DOZE (R92). -/
theorem sysSetModeEff_doze (h : wordAt p.words 0 = 4) (hm : s.glb.mode = .protect ∨ s.glb.mode = .degraded) :
    sysSetModeEff (newCmd 0x03 p v) s = beginChange .toDoze (newCmd 0x03 p v) s := by
  obtain ⟨hbits, hfld, hres⟩ := target_word (k := 4) h (by decide)
  have hw : (newCmd 0x03 p v).w 0 = wordAt p.words 0 := rfl
  rcases hm with hm | hm <;> simp [sysSetModeEff, hw, hbits, hfld, hres, hm]

/-- No mode is left for LOCKOUT by a command (R83). -/
theorem sysSetModeEff_lockout (h : wordAt p.words 0 = 5) :
    sysSetModeEff (newCmd 0x03 p v) s = fail (newCmd 0x03 p v) stWrongMode s := by
  obtain ⟨hbits, hfld, hres⟩ := target_word (k := 5) h (by decide)
  have hw : (newCmd 0x03 p v).w 0 = wordAt p.words 0 := rfl
  cases hm : s.glb.mode <;> simp [sysSetModeEff, hw, hbits, hfld, hres, hm]

end

/-- Entering PROTECT or DEGRADED while the DRBG generates (R83, R84). -/
theorem enterWorking_glb {s : State} (c : Nat) (h : s.vlt.drbgStop = false) : enterWorking c s =
    { s with glb := { s.glb with prev := s.glb.mode, mode := if s.glb.deg = 0 then .protect else .degraded,
                                 cause := BitVec.ofNat 8 c, locked := true } } := by
  by_cases hd : s.glb.deg = 0
  · simp [enterWorking, setMode, h, hd]
  · have hd' : ¬s.glb.deg = 0#8 := hd
    simp [enterWorking, setMode, h, hd']

theorem pumpWrites_cxm (n : Nat) (s : State) : (pumpWrites n s).cxm = { s.cxm with writes := (pumpWrites n s).cxm.writes } := by
  induction n generalizing s with
  | zero => rfl
  | succ n ih =>
    simp only [pumpWrites]
    split
    · rfl
    · split
      · rw [ih]; simp
      · rfl

theorem buildRegion_cxm (s : State) : (buildRegion s).cxm.trusted = true ∧ (buildRegion s).cxm.rebuild = true := by
  unfold buildRegion cxmPutAll
  rw [pumpWrites_cxm]
  exact ⟨rfl, rfl⟩

/-- What a build of the region writes. -/
def buildParts : List Part := [.rng, .vlt, .cxm, .out, .tel]

theorem build_pumpWrites (n : Nat) (s : State) : sameBut buildParts s (pumpWrites n s) := by
  induction n generalizing s with
  | zero => exact sameBut_refl _ _
  | succ n ih =>
    simp only [pumpWrites]
    split
    · exact sameBut_refl _ _
    · split
      · exact sameBut_trans (sameBut_mono (cxm_only s _) (by decide)) (sameBut_trans (sameBut_mono (sameBut_emit _ _) (by decide))
          (sameBut_trans (sameBut_mono (sameBut_telBump _ _ _ _) (by decide)) (ih _)))
      · exact sameBut_refl _ _

theorem sameBut_buildRegion (s : State) : sameBut buildParts s (buildRegion s) := by
  unfold buildRegion cxmPutAll
  exact sameBut_trans (sameBut_mono (sameBut_draw s) (by decide)) (sameBut_trans (sameBut_mono (cxm_only _ _) (by decide))
    (sameBut_trans (sameBut_mono (cxm_only _ _) (by decide)) (build_pumpWrites 32 _)))

theorem sameBut_drawHashKeys (s : State) : sameBut [.rng, .vlt, .cis, .sct] s (drawHashKeys s) := by
  unfold drawHashKeys
  split
  · exact sameBut_refl _ _
  · refine sameBut_trans (sameBut_mono (sameBut_draw s) (by decide)) (sameBut_trans (sameBut_mono (sameBut_draw _) (by decide)) ?_)
    intro p hp
    cases p <;> simp_all [Part.same]

/-- Hash keys that are there are kept (R134, R259). -/
theorem drawHashKeys_kept {s : State} (h : s.cis.setKey ≠ 0) : drawHashKeys s = s := if_pos (by rw [Bool.or_eq_true, bne_iff_ne]; exact .inl h)

/-- What COLD to PROVISION writes. -/
def provisionParts : List Part := [.glb, .cis, .sct, .rng, .vlt, .cxm, .out, .tel]

theorem sameBut_enterProvision (s : State) : sameBut provisionParts s (enterProvision s) := by
  have hdraw : sameBut provisionParts s (drawHashKeys s) := sameBut_mono (sameBut_drawHashKeys s) (by decide)
  refine sameBut_trans ?_ (sameBut_mono (glb_only _ _) (by decide))
  split
  · exact hdraw
  · exact sameBut_trans hdraw (sameBut_mono (sameBut_buildRegion _) (by decide))

/-- The state before the mode changes. -/
def provisioned (s : State) : State := if s.cxm.trusted then drawHashKeys s else buildRegion (drawHashKeys s)

theorem provisioned_glb (s : State) : (provisioned s).glb = s.glb := by
  have hdraw : (drawHashKeys s).glb = s.glb := sameBut_drawHashKeys s .glb (by decide)
  unfold provisioned
  split
  · exact hdraw
  · exact (sameBut_buildRegion _ .glb (by decide)).trans hdraw

theorem enterProvision_glb (s : State) : (enterProvision s).glb = { s.glb with prev := s.glb.mode, mode := .provision, cause := 1 } := by
  have h : (enterProvision s).glb = { (provisioned s).glb with
      prev := (provisioned s).glb.mode, mode := .provision, cause := 1,
      locked := (provisioned s).glb.locked || Mode.provision == .protect || Mode.provision == .degraded } := rfl
  have hp : (Mode.provision == .protect) = false ∧ (Mode.provision == .degraded) = false := ⟨rfl, rfl⟩
  rw [h, provisioned_glb, hp.1, hp.2, Bool.or_false, Bool.or_false]

theorem enterProvision_trusted (s : State) : (enterProvision s).cxm.trusted = true := by
  show (provisioned s).cxm.trusted = true
  unfold provisioned
  split
  next h => rw [sameBut_drawHashKeys s .cxm (by decide)]; exact h
  · exact (buildRegion_cxm _).1

/-- Hash keys drawn before stay. -/
theorem enterProvision_keys {s : State} (h : s.cis.setKey ≠ 0) : (enterProvision s).cis.setKey = s.cis.setKey ∧
    (enterProvision s).sct = s.sct := by
  show (provisioned s).cis.setKey = _ ∧ (provisioned s).sct = _
  unfold provisioned
  rw [drawHashKeys_kept h]
  split
  · exact ⟨rfl, rfl⟩
  · exact ⟨congrArg Cis.setKey (sameBut_buildRegion s .cis (by decide)), sameBut_buildRegion s .sct (by decide)⟩

/-! SYS_SET_POLICY. -/

/-- The bypass rules of a direction with a packet's part written over them (R338). -/
def rulesWith (p : Pkt) (d : Dir) (s : State) : List (W64 × W64) :=
  (pathOf s d).rules.take (fld (wordAt p.words 0) 8 5) ++ partRules p.words (fld (wordAt p.words 0) 16 6) ++
    (pathOf s d).rules.drop (fld (wordAt p.words 0) 8 5 + fld (wordAt p.words 0) 16 6)

/-- The part that a packet of SYS_SET_POLICY carries is in range, and it is for direction `d`. -/
structure PartFits (p : Pkt) (d : Dir) : Prop where
  bits : onlyBits 0x3F1F07 (wordAt p.words 0) = true
  dir : d = if bitAt (wordAt p.words 0) 0 then .ing else .egr
  count : fld (wordAt p.words 0) 16 6 ≤ 31
  room : fld (wordAt p.words 0) 8 5 + fld (wordAt p.words 0) 16 6 ≤ 32
  rules : (partRules p.words (fld (wordAt p.words 0) 16 6)).all ruleOk = true

section
variable {p : Pkt} {d : Dir} {n : Nat} {s v : State} (h : PartFits p d) (hr : p.req = .hq n)
include h

/-- The checks of a part that fits are passed. -/
theorem PartFits.checks : ¬(!onlyBits 0x3F1F07 (wordAt p.words 0) ∨ 31 < fld (wordAt p.words 0) 16 6 ∨
    32 < fld (wordAt p.words 0) 8 5 + fld (wordAt p.words 0) 16 6 ∨
    ¬(partRules p.words (fld (wordAt p.words 0) 16 6)).all ruleOk = true) := by
  simp only [h.bits, Bool.not_true, Bool.false_eq_true, h.rules, not_true, false_or, or_false, not_or, Nat.not_lt]
  exact ⟨h.count, h.room⟩

/-- The staging set is another requester's (R338). -/
theorem PartFits.busy {g : Staging} (hst : stageOf v d = some g) (hown : g.owner ≠ p.req) :
    sysSetPolicyEff (newCmd 0x05 p s) v = fail (newCmd 0x05 p s) stBusy v := by
  have hw : (newCmd 0x05 p s).w 0 = wordAt p.words 0 := rfl
  have hpk : (newCmd 0x05 p s).pkt = p := rfl
  unfold sysSetPolicyEff
  simp only [hw, hpk]
  rw [← h.dir, if_neg h.checks]
  simp only [hst]
  rw [if_pos (by simpa using hown)]

theorem PartFits.unstaged (hst : stageOf v d = none) : sysSetPolicyEff (newCmd 0x05 p s) v =
    if bitAt (wordAt p.words 0) 1 then
      ok (newCmd 0x05 p s) (setStageOf d none (setPath d { pathOf v d with rules := rulesWith p d v } v))
    else ok (newCmd 0x05 p s) (setStageOf d (some { owner := p.req, rules := rulesWith p d v }) v) := by
  have hlen : (partRules p.words (fld (wordAt p.words 0) 16 6)).length = fld (wordAt p.words 0) 16 6 := by simp [partRules]
  have hw : (newCmd 0x05 p s).w 0 = wordAt p.words 0 := rfl
  have hpk : (newCmd 0x05 p s).pkt = p := rfl
  have hrules : putRules (pathOf v d).rules (fld (wordAt p.words 0) 8 5) (partRules p.words (fld (wordAt p.words 0) 16 6)) =
      rulesWith p d v := by
    rw [putRules, hlen]
    rfl
  unfold sysSetPolicyEff
  simp only [hw, hpk]
  rw [← h.dir, if_neg h.checks]
  simp only [hst]
  rw [if_neg (by decide), ite_self, hrules]

end

/-- Nothing but the mode changes where the region is trusted and the hash keys are there. -/
theorem enterProvision_again {s : State} (ht : s.cxm.trusted = true) (hk : s.cis.setKey ≠ 0) :
    enterProvision s = { s with glb := { s.glb with prev := s.glb.mode, mode := .provision, cause := 1 } } := by
  have h : enterProvision s = { provisioned s with glb := (enterProvision s).glb } := rfl
  rw [h, enterProvision_glb, provisioned, if_pos ht, drawHashKeys_kept hk]

theorem sameBut_waitFor (q : QCmd) (w : Wait) (s : State) : sameBut [.mci] s (waitFor q w s) := by
  intro x hx
  cases x <;> simp_all [Part.same, waitFor]

theorem sameBut_beginChange (k : ChangeKind) (q : QCmd) (s : State) : sameBut [.mci, .glb] s (beginChange k q s) :=
  sameBut_trans (sameBut_mono (glb_only s _) (by decide)) (sameBut_mono (sameBut_waitFor q .mode _) (by decide))

theorem stageOf_accepted (s : State) (d : Dir) : stageOf (accepted s) d = stageOf s d := by
  rw [accepted_eq]
  cases d <;> rfl

theorem pathOf_accepted (s : State) (d : Dir) : pathOf (accepted s) d = pathOf s d := by
  rw [accepted_eq]
  cases d <;> rfl

/-- Settles O21: what each target of SYS_SET_MODE comes to (the lemmas `sysSetModeEff_…`), and what a part of the bypass rules
that fits (`PartFits.busy`, `PartFits.unstaged`); the reply follows from the state that the effect makes (`complete_changed`). -/
theorem modesAndPolicy : Obligations.ModesAndPolicy := by
  unfold Obligations.ModesAndPolicy
  refine ⟨?protect, ?provision, ?provisionAgain, ?doze, ?target5, ?commit, ?stage, ?busy, ?timeout⟩
  case protect =>
    intro p s n hstart hw hm hstop
    obtain ⟨hn, hr⟩ := startsNow_req hstart
    refine ⟨_, row_now rfl hstart, ?_⟩
    rw [sysSetModeEff_protect hw (by rw [accepted_glb, hm])]
    refine complete_changed (s := s) hn hr ?_ (by rfl) (by rfl) (by rfl) (by rfl) _ _
    rw [enterWorking_glb 1 (by simpa using hstop), accepted_glb, hm]
    exact congrArg (fun t : State => { t with glb := { s.glb with
      prev := .provision, mode := if s.glb.deg = 0 then .protect else .degraded, cause := 1, locked := true } }) (accepted_eq s)
  case provision =>
    intro p s n hstart hw hm
    obtain ⟨hn, hr⟩ := startsNow_req hstart
    refine ⟨_, row_now rfl hstart, ?_⟩
    rw [sysSetModeEff_provision hw (by rw [accepted_glb, hm])]
    have hacc := sameBut_accepted s
    have hframe := sameBut_enterProvision (accepted s)
    obtain ⟨hreply, hsame⟩ := complete_replies (ps := [.mci, .evt, .tel, .cnt, .que, .glb, .cis, .sct, .rng, .vlt, .cxm, .out])
      (op := 0x03) (st := stOk) (ws := []) (s := s) (u := enterProvision (accepted s)) hn hr
      (by rw [hframe .mci (by decide), accepted_mci])
      (sameBut_trans (sameBut_mono hacc (by decide)) (sameBut_mono hframe (by decide))) (by decide)
    have hdone := complete_frame (op := 0x03) (st := stOk) (s := s) (u := enterProvision (accepted s)) hr []
    refine ⟨hreply, ?_, ?_, fun hkey => ?_, hsame⟩
    · have hglb := enterProvision_glb (accepted s)
      rw [accepted_glb, hm] at hglb
      exact (hdone .glb (by decide)).trans hglb
    · exact (congrArg Cxm.trusted (hdone .cxm (by decide))).trans (enterProvision_trusted _)
    · have hcis : (accepted s).cis = s.cis := hacc .cis (by decide)
      obtain ⟨hset, hsct⟩ := enterProvision_keys (s := accepted s) (by rw [hcis]; exact hkey)
      exact ⟨(congrArg Cis.setKey (hdone .cis (by decide))).trans (hset.trans (congrArg Cis.setKey hcis)),
        (hdone .sct (by decide)).trans (hsct.trans (hacc .sct (by decide)))⟩
  case provisionAgain =>
    intro p s n hstart hw hm htr hkey
    obtain ⟨hn, hr⟩ := startsNow_req hstart
    refine ⟨_, row_now rfl hstart, ?_⟩
    rw [sysSetModeEff_provision hw (by rw [accepted_glb, hm])]
    have hcis : (accepted s).cis = s.cis := sameBut_accepted s .cis (by decide)
    have hcxm : (accepted s).cxm = s.cxm := sameBut_accepted s .cxm (by decide)
    refine complete_changed (s := s) hn hr ?_ (by rfl) (by rfl) (by rfl) (by rfl) _ _
    rw [enterProvision_again (by rw [hcxm, htr]) (by rw [hcis]; exact hkey), accepted_glb, hm]
    exact congrArg (fun t : State => { t with glb := { s.glb with prev := .cold, mode := .provision, cause := 1 } }) (accepted_eq s)
  case doze =>
    intro p s n hstart hw hm
    refine ⟨_, row_now rfl hstart, ?_⟩
    rw [sysSetModeEff_doze hw (by rwa [accepted_glb])]
    have hframe := sameBut_beginChange .toDoze (newCmd 0x03 p s) (accepted s)
    refine ⟨⟨⟨newCmd 0x03 p s, .mode⟩, ?_, rfl, rfl⟩, ?_, ?_⟩
    · rw [show (settle _).mci = _ from sameBut_settle _ .mci (by decide)]
      show (accepted s).mci.running ++ _ = _
      rw [accepted_mci]
    · have hglb := accepted_glb s
      exact (sameBut_settle _ .glb (by decide)).trans
        (congrArg (fun g : Glb => { g with change := some { kind := .toDoze, cmd := some s.mci.nextId } }) hglb)
    · exact sameBut_trans (sameBut_mono (sameBut_accepted s) (by decide))
        (sameBut_trans (sameBut_mono hframe (by decide)) (sameBut_mono (sameBut_settle _) (by decide)))
  case target5 =>
    intro p s n hstart hw
    obtain ⟨hn, hr⟩ := startsNow_req hstart
    refine ⟨_, row_now rfl hstart, ?_⟩
    rw [sysSetModeEff_lockout hw]
    exact complete_answered hn hr _ _
  case commit =>
    intro p s n d hstart hbits hd hcount hroom hrules hst hc
    obtain ⟨hn, hr⟩ := startsNow_req hstart
    have hfit : PartFits p d := ⟨hbits, hd, hcount, hroom, hrules⟩
    refine ⟨_, row_now rfl hstart, ?_⟩
    rw [hfit.unstaged (by rw [stageOf_accepted, hst]), if_pos hc]
    have hnone : ∀ t : State, stageOf t d = none → setStageOf d none t = t := by
      intro t ht
      cases d <;> simp only [stageOf] at ht <;> rw [setStageOf, ← ht]
    rw [hnone _ (by rw [← hst, ← stageOf_accepted s]; cases d <;> rfl), rulesWith, pathOf_accepted]
    refine complete_changed (s := s) hn hr (v := setPath d _ s) ?_ (by cases d <;> rfl) (by cases d <;> rfl) (by cases d <;> rfl)
      (by cases d <;> rfl) _ _
    cases d <;> exact congrArg (setPath _ _) (accepted_eq s)
  case stage =>
    intro p s n d hstart hbits hd hcount hroom hrules hst hc
    obtain ⟨hn, hr⟩ := startsNow_req hstart
    have hfit : PartFits p d := ⟨hbits, hd, hcount, hroom, hrules⟩
    refine ⟨_, row_now rfl hstart, ?_⟩
    rw [hfit.unstaged (by rw [stageOf_accepted, hst]), if_neg (by rw [hc]; decide), rulesWith, pathOf_accepted, hr]
    refine complete_changed (s := s) hn hr (v := setStageOf d _ s) ?_ (by cases d <;> rfl) (by cases d <;> rfl) (by cases d <;> rfl)
      (by cases d <;> rfl) _ _
    cases d <;> exact congrArg (setStageOf _ _) (accepted_eq s)
  case busy =>
    intro p s n d g hstart hbits hd hcount hroom hrules hst hown
    obtain ⟨hn, hr⟩ := startsNow_req hstart
    have hfit : PartFits p d := ⟨hbits, hd, hcount, hroom, hrules⟩
    refine ⟨_, row_now rfl hstart, ?_⟩
    rw [hfit.busy (g := g) (by rw [stageOf_accepted, hst]) (by rw [hr]; exact hown)]
    exact complete_answered hn hr _ _
  case timeout =>
    exact fun s d hl => ⟨_, run_high hl, settled_settle _⟩

end Sys2Proof.Machine
end

section
/-! SecYs: creation, parameters, states and the end of one. -/
namespace Sys2Proof.Machine

/-! Tables that a step leaves. -/

theorem secyOf_congr {s t : State} (h : t.secys = s.secys) (l : Nat) : secyOf t l = secyOf s l := congrArg (fun m => smGet none m l) h

theorem txOfLink_congr {s t : State} (h : t.tx = s.tx) (l : Nat) : txOfLink t l = txOfLink s l := by
  have htx : ∀ i, txOf t i = txOf s i := txOf_of_tx h
  simp only [txOfLink, htx]

theorem rxOfLink_congr {s t : State} (hr : t.rx = s.rx) (hs : t.sct = s.sct) (l : Nat) : rxOfLink t l = rxOfLink s l := by
  have hsc : ∀ i, scOf t i = scOf s i := fun i => by rw [scOf, scOf, hs]
  simp only [rxOfLink, rxLink, hr, hsc]

theorem scsOfLink_congr {s t : State} (h : t.sct = s.sct) (l : Nat) : scsOfLink t l = scsOfLink s l := by
  rw [scsOfLink, scsOfLink, h]

theorem sameBut_setSecy (l : Nat) (y : Option Secy) (s : State) : sameBut [.secys] s (setSecy l y s) := secys_only s _

theorem modSecy_some {s : State} {l : Nat} {y : Secy} (h : secyOf s l = some y) (f : Secy → Secy) : modSecy l f s = setSecy l (some (f y)) s := by
  rw [modSecy, h]

/-- What a SecY's change writes: its record and its line. -/
def secyParts : List Part := [.secys, .cis, .cxm, .out, .cnt, .tel]

theorem secyParts_dirty (l : Nat) (y : Option Secy) (s : State) : sameBut secyParts s (dirtyLine (secyLine l) (setSecy l y s)) :=
  sameBut_trans (sameBut_mono (sameBut_setSecy l y s) (by decide)) (sameBut_mono (ctx_dirtyLine _ _) (by decide))

theorem secyOf_dirty (l : Nat) (y : Option Secy) (s : State) (j : Nat) :
    secyOf (dirtyLine (secyLine l) (setSecy l y s)) j = if j = l then y else secyOf s j := by
  rw [secyOf_congr (ctx_dirtyLine _ _ .secys (by decide)), secyOf_setSecy]

section
variable {op n : Nat} {p : Pkt} {s u : State} {l : Nat} {y : Option Secy} (hn : n < 4) (hr : p.req = .hq n)
include hn hr

/-- The reply to a command that has written one SecY. -/
theorem secy_replies {ps : List Part} (hs : u.mci.slots = s.mci.slots) (hu : sameBut ps s u) (hy : ∀ j, secyOf u j = if j = l then y else secyOf s j)
    (hps : ∀ x ∈ [Part.mci, .evt, .tel, .cnt, .que], x ∈ ps) :
    replyIn op n p stOk [] s (settle (ok (newCmd op p s) u)) ∧ secyOf (settle (ok (newCmd op p s) u)) l = y ∧
      (∀ j, j ≠ l → secyOf (settle (ok (newCmd op p s) u)) j = secyOf s j) ∧ sameBut ps s (settle (ok (newCmd op p s) u)) := by
  obtain ⟨hreply, hsame⟩ := complete_replies (op := op) (st := stOk) (ws := []) hn hr hs hu hps
  have hsecy : ∀ j, secyOf (settle (ok (newCmd op p s) u)) j = if j = l then y else secyOf s j := fun j =>
    (secyOf_congr (complete_frame hr [] .secys (by decide)) j).trans (hy j)
  exact ⟨hreply, (hsecy l).trans (if_pos rfl), fun j hj => (hsecy j).trans (if_neg hj), hsame⟩

/-- The same of a command that has changed the accepted state. -/
theorem secy_changed {ps qs : List Part} (hu : sameBut qs (accepted s) u) (hy : ∀ j, secyOf u j = if j = l then y else secyOf (accepted s) j)
    (hqs : ∀ x ∈ qs, x ∈ ps) (hmci : Part.mci ∉ qs) (hps : ∀ x ∈ [Part.mci, .evt, .tel, .cnt, .que], x ∈ ps) :
    replyIn op n p stOk [] s (settle (ok (newCmd op p s) u)) ∧ secyOf (settle (ok (newCmd op p s) u)) l = y ∧
      (∀ j, j ≠ l → secyOf (settle (ok (newCmd op p s) u)) j = secyOf s j) ∧ sameBut ps s (settle (ok (newCmd op p s) u)) := by
  have hacc : sameBut ps s (accepted s) := sameBut_mono (sameBut_accepted s) fun x hx => hps x (by revert hx; revert x; decide)
  have hslots : u.mci.slots = s.mci.slots := by rw [hu .mci hmci, accepted_mci]
  refine secy_replies hn hr hslots (sameBut_trans hacc (sameBut_mono hu hqs)) (fun j => ?_) hps
  rw [hy, secyOf_congr (sameBut_accepted s .secys (by decide))]

end

/-! The lease that an SA of a draining SecY keeps (R176). -/

/-- The SA asks for nothing more. -/
def heldSa (a : Sa) : Sa := { a with lease := match a.lease with | .wait => .none | .fetch => .one | v => v }

theorem heldSa_heldSa (a : Sa) : heldSa (heldSa a) = heldSa a := by cases h : a.lease <;> simp [heldSa, h]

theorem txOf_leaseHold (i : Nat) (s : State) (j : Nat) : txOf (leaseHold i s) j = if j = i then (txOf s i).map heldSa else txOf s j := by
  unfold leaseHold modTx
  cases h : txOf s i with
  | none => by_cases hj : j = i <;> simp [hj, h]
  | some a =>
    rw [txOf_setTx]
    cases hl : a.lease <;> simp [heldSa, hl] <;> cases a <;> cases hl <;> rfl

theorem sameBut_leaseHold (i : Nat) (s : State) : sameBut [.tx] s (leaseHold i s) := by
  unfold leaseHold modTx
  split
  · exact tx_only _ _
  · exact sameBut_refl _ _

/-- Every SA of the list holds. -/
theorem txOf_leaseHolds (is : List Nat) (s : State) (j : Nat) :
    txOf (is.foldl (fun t i => leaseHold i t) s) j = if j ∈ is then (txOf s j).map heldSa else txOf s j := by
  induction is generalizing s with
  | nil => simp
  | cons i is ih =>
    rw [List.foldl_cons, ih, txOf_leaseHold]
    by_cases hji : j = i
    · subst hji
      by_cases hmem : j ∈ is <;> cases txOf s j <;> simp [hmem, heldSa_heldSa]
    · simp [hji]

theorem mem_txOfLink {s : State} {l i : Nat} : i ∈ txOfLink s l ↔ saLink i = l ∧ (txOf s i).isSome = true := by
  simp only [txOfLink, List.mem_filter, List.mem_map, List.mem_range, saLink]
  exact and_congr_left fun _ => ⟨fun ⟨a, ha, hi⟩ => by omega, fun h => ⟨i - 4 * l, by omega, by omega⟩⟩

/-- The SAs of a SecY that drains hold; the others stay. -/
theorem txOf_linkHolds (l : Nat) (s : State) (j : Nat) :
    txOf ((txOfLink s l).foldl (fun t i => leaseHold i t) s) j = if saLink j = l then (txOf s j).map heldSa else txOf s j := by
  rw [txOf_leaseHolds]
  simp only [mem_txOfLink]
  cases h : txOf s j <;> simp

/-! The end of a SecY (R243, R340). -/

theorem completeWhere_none {f : Wait → Bool} {st : Nat} {ws : List W64} {s : State} (h : ∀ r ∈ s.mci.running, f r.wait = false) :
    completeWhere f st ws s = s := by
  have hnil : s.mci.running.filter (fun r => f r.wait) = [] := List.filter_eq_nil_iff.2 fun r hr => by simp [h r hr]
  rw [completeWhere, hnil]
  rfl

theorem sameBut_setVslot (n : Nat) (v : VSlot) (s : State) : sameBut [.vlt] s (setVslot n v s) := vlt_only s _

theorem sameBut_retireKey (kid : Nat) (s : State) : sameBut [.vlt] s (retireKey kid s) := by
  unfold retireKey
  dsimp only
  split
  · split
    · exact sameBut_setVslot _ _ _
    · exact sameBut_refl _ _
  · exact sameBut_refl _ _

theorem svc_only (s : State) (v : Svc) : sameBut [.svc] s { s with svc := v } := by
  intro x hx
  cases x <;> simp_all [Part.same]

theorem sameBut_mkaEnd (l : Nat) (s : State) : sameBut [.svc, .vlt] s (mkaEnd l s) := by
  have hforget : sameBut [.svc, .vlt] s (poolForget l [] s) := by
    refine sameBut_trans (sameBut_mono (svc_only s _) (by decide)) (sameBut_foldl _ (fun t k => ?_) _ _)
    split
    · exact sameBut_mono (sameBut_zeroSlot _ _) (by decide)
    · exact sameBut_refl _ _
  have hpart : ∀ t p, sameBut [.svc, .vlt] t (retirePart p t) := fun t p =>
    sameBut_foldl _ (fun u k => sameBut_mono (sameBut_retireKey k u) (by decide)) _ _
  exact sameBut_trans hforget (sameBut_trans (sameBut_foldl _ (fun t p => hpart t p) _ _) (sameBut_mono (svc_only _ _) (by decide)))

/-- Nothing retires on a link that has nothing. -/
theorem retireLink_none {l : Nat} {s : State} (ht : txOfLink s l = []) (hr : rxOfLink s l = []) (hc : scsOfLink s l = []) :
    retireLink l s = s := by
  simp only [retireLink, ht, List.foldl_nil, hr, hc]

/-- The SecY as SECY_DELETE leaves it before it goes. -/
def Secy.ending (y : Secy) : Secy := { y with deleting := true }.noCut

/-- Without a cut and with no other command, SECY_DELETE only marks the SecY and ends its CA before the pump. -/
theorem secyDeleteNow_idle {l : Nat} {s : State} {y : Secy} {r : Running} (hy : secyOf s l = some y) (hcut : y.cut = .none)
    (hrun : s.mci.running = [r]) (hr : r.wait = .secyDelete l) (htx : txOfLink s l = []) (hrx : rxOfLink s l = [])
    (hsc : scsOfLink s l = []) :
    secyDeleteNow l s = deletePump l (mkaEnd l (setSecy l (some y.ending) (setSecy l (some { y with deleting := true }) s))) := by
  have hmod : modSecy l (fun y => { y with deleting := true }) s = setSecy l (some { y with deleting := true }) s := modSecy_some hy _
  have hcancel : ∀ t, secyOf t l = some { y with deleting := true } → cutCancel l t = t := fun t ht => by simp [cutCancel, ht, hcut]
  have hend : ∀ t : State, secyOf t l = some { y with deleting := true } → t.mci.running = [r] →
      cutEnd l stAborted t = setSecy l (some y.ending) t := by
    intro t ht hrt
    have hnone : completeWhere (fun w => w == .cut l) stAborted [] (modSecy l Secy.noCut t) = setSecy l (some y.ending) t := by
      rw [modSecy_some ht]
      refine completeWhere_none fun x hx => ?_
      rw [List.mem_singleton.1 (hrt ▸ hx : x ∈ [r]), hr]
      rfl
    have hrun' : (setSecy l (some y.ending) t).mci.running = [r] := hrt
    rw [cutEnd, hnone, if_neg (by decide), hrun']
    simp [hr]
  have hframe := sameBut_mkaEnd l (setSecy l (some y.ending) (setSecy l (some { y with deleting := true }) s))
  have htx' := hframe .tx (by decide)
  have hrx' := hframe .rx (by decide)
  have hsct' := hframe .sct (by decide)
  rw [secyDeleteNow, hmod, hcancel _ (by simp), hend (setSecy l (some { y with deleting := true }) s) (by simp) hrun, retireLink_none]
  · exact (txOfLink_congr htx' l).trans htx
  · exact (rxOfLink_congr hrx' hsct' l).trans hrx
  · exact (scsOfLink_congr hsct' l).trans hsc

/-- Without SAs, SCs and work of the journal the SecY goes and its command replies. -/
theorem deletePump_goes {l : Nat} {s : State} {y : Secy} {r : Running} (hy : secyOf s l = some y) (hdel : y.deleting = true)
    (hrun : s.mci.running = [r]) (hr : r.wait = .secyDelete l) (htx : txOfLink s l = []) (hrx : rxOfLink s l = [])
    (hsc : scsOfLink s l = []) (hwork : s.jnl.work = []) (hwr : s.jnl.wr = none) :
    deletePump l s = ok r.cmd (freeLine (secyLine l) (setSecy l none
      { s with svc := { s.svc with manual := s.svc.manual.filter (· != l) } })) := by
  have hidle : ∀ f, workPending s f = false := fun f => by simp [workPending, hwork, hwr]
  have hsc' : scsOfLink { s with svc := { s.svc with manual := s.svc.manual.filter (· != l) } } l = [] := hsc
  have hfree : ∀ t : State, (freeLine (secyLine l) t).mci = t.mci := fun t => ctx_freeLine _ t .mci (by decide)
  have hall : ([r] : List Running).filter (fun x => x.wait == .secyDelete l) = [r] := by simp [hr]
  unfold deletePump
  simp only [hy]
  rw [if_pos (by rw [hdel, hidle, htx, hrx]; rfl), hsc', completeWhere, hfree]
  show List.foldl _ _ (List.filter _ s.mci.running) = _
  rw [hrun, hall]
  rfl

/-- SECY_DELETE of a SecY without cut, SAs and SCs, alone: the command replies, and beside the SecY only the service's records and
the vault have changed. -/
theorem secyDeleteNow_goes {l : Nat} {s : State} {y : Secy} {r : Running} (hy : secyOf s l = some y) (hcut : y.cut = .none)
    (hrun : s.mci.running = [r]) (hr : r.wait = .secyDelete l) (htx : txOfLink s l = []) (hrx : rxOfLink s l = [])
    (hsc : scsOfLink s l = []) (hwork : s.jnl.work = []) (hwr : s.jnl.wr = none) :
    ∃ u, secyDeleteNow l s = ok r.cmd (freeLine (secyLine l) u) ∧ sameBut [.secys, .svc, .vlt] s u ∧
      ∀ j, secyOf u j = if j = l then none else secyOf s j := by
  have hframe : sameBut [.secys, .svc, .vlt] s
      (mkaEnd l (setSecy l (some y.ending) (setSecy l (some { y with deleting := true }) s))) :=
    sameBut_trans (sameBut_mono (sameBut_setSecy _ _ _) (by decide)) (sameBut_trans (sameBut_mono (sameBut_setSecy _ _ _) (by decide))
      (sameBut_mono (sameBut_mkaEnd _ _) (by decide)))
  have hsecy : ∀ j, secyOf (mkaEnd l (setSecy l (some y.ending) (setSecy l (some { y with deleting := true }) s))) j =
      if j = l then some y.ending else secyOf s j := fun j => by
    rw [secyOf_congr (sameBut_mkaEnd _ _ .secys (by decide)), secyOf_setSecy, secyOf_setSecy]
    split <;> rfl
  have hjnl := hframe .jnl (by decide)
  have hmci := hframe .mci (by decide)
  have htx' := hframe .tx (by decide)
  have hrx' := hframe .rx (by decide)
  have hsct' := hframe .sct (by decide)
  refine ⟨_, (secyDeleteNow_idle hy hcut hrun hr htx hrx hsc).trans (deletePump_goes (y := y.ending) ?_ rfl ?_ hr ?_ ?_ ?_ ?_ ?_),
    sameBut_trans hframe (sameBut_trans (sameBut_mono (svc_only _ _) (by decide)) (sameBut_mono (sameBut_setSecy _ _ _) (by decide))),
    fun j => ?_⟩
  · exact (hsecy l).trans (if_pos rfl)
  · exact (congrArg Mci.running hmci).trans hrun
  · exact (txOfLink_congr htx' l).trans htx
  · exact (rxOfLink_congr hrx' hsct' l).trans hrx
  · exact (scsOfLink_congr hsct' l).trans hsc
  · exact (congrArg Jnl.work hjnl).trans hwork
  · exact (congrArg Jnl.wr hjnl).trans hwr
  · rw [secyOf_setSecy]
    split
    · rfl
    next hj => exact (hsecy j).trans (if_neg hj)

/-! The effects of the commands. -/

section
variable {p : Pkt} {s v : State} {y : Secy}

theorem secyCreateEff_free (hb : onlyBits 0x3FF (wordAt p.words 0) = true) (ht : txpOk (wordAt p.words 2) = true)
    (hr : rxpOk (wordAt p.words 3) = true) (hs : sciOk (wordAt p.words 1) (wordAt p.words 2) = true)
    (hy : secyOf v (fld (wordAt p.words 0) 0 10) = none) :
    secyCreateEff (newCmd 0x10 p s) v = ok (newCmd 0x10 p s) (pinLine (secyLine (fld (wordAt p.words 0) 0 10))
      (setSecy (fld (wordAt p.words 0) 0 10) (some (newSecy (wordAt p.words 1) (wordAt p.words 2) (wordAt p.words 3))) v)) := by
  have hw : ∀ k, (newCmd 0x10 p s).w k = wordAt p.words k := fun _ => rfl
  simp only [secyCreateEff, hw]
  rw [if_neg (by rw [hb, ht, hr, hs]; decide), if_neg (by rw [hy]; decide)]

theorem secyCreateEff_there (hb : onlyBits 0x3FF (wordAt p.words 0) = true) (ht : txpOk (wordAt p.words 2) = true)
    (hr : rxpOk (wordAt p.words 3) = true) (hs : sciOk (wordAt p.words 1) (wordAt p.words 2) = true)
    (hy : (secyOf v (fld (wordAt p.words 0) 0 10)).isSome = true) :
    secyCreateEff (newCmd 0x10 p s) v = fail (newCmd 0x10 p s) stWrongState v := by
  have hw : ∀ k, (newCmd 0x10 p s).w k = wordAt p.words k := fun _ => rfl
  simp only [secyCreateEff, hw]
  rw [if_neg (by rw [hb, ht, hr, hs]; decide), if_pos hy]

/-- The SecY of SECY_MODIFY with the words that it names. -/
def modified (p : Pkt) (y : Secy) : Secy := { y with
  sci := (if bitAt (wordAt p.words 0) 16 then wordAt p.words 1 else y.sci),
  txp := (if bitAt (wordAt p.words 0) 17 then wordAt p.words 2 else y.txp),
  rxp := (if bitAt (wordAt p.words 0) 18 then wordAt p.words 3 else y.rxp) }

/-- An OFF SecY without SAs and SCs takes every word; its MKA and its offset stay, so nothing else follows. -/
theorem secyModifyEff_off (hb : onlyBits 0x703FF (wordAt p.words 0) = true) (ht : txpOk (wordAt p.words 2) = true)
    (hr : rxpOk (wordAt p.words 3) = true) (hs : sciOk (modified p y).sci (modified p y).txp = true)
    (hy : secyOf v (fld (wordAt p.words 0) 0 10) = some y) (hoff : y.st = .off)
    (htx : txOfLink v (fld (wordAt p.words 0) 0 10) = []) (hrx : rxOfLink v (fld (wordAt p.words 0) 0 10) = [])
    (hsc : scsOfLink v (fld (wordAt p.words 0) 0 10) = []) (hmka : txpMka (modified p y).txp = txpMka y.txp)
    (hofs : txpOff (modified p y).txp = txpOff y.txp) :
    secyModifyEff (newCmd 0x11 p s) v = ok (newCmd 0x11 p s) (dirtyLine (secyLine (fld (wordAt p.words 0) 0 10))
      (setSecy (fld (wordAt p.words 0) 0 10) (some (modified p y)) v)) := by
  have hw : ∀ k, (newCmd 0x11 p s).w k = wordAt p.words k := fun _ => rfl
  have hform : (!onlyBits 0x703FF (wordAt p.words 0) || !txpOk (wordAt p.words 2) || !rxpOk (wordAt p.words 3) ||
      (bitAt (wordAt p.words 0) 16 && bitAt (wordAt p.words 0) 17 && !sciOk (wordAt p.words 1) (wordAt p.words 2))) = false := by
    rw [hb, ht, hr]
    cases h16 : bitAt (wordAt p.words 0) 16 <;> cases h17 : bitAt (wordAt p.words 0) 17 <;> simp [modified, h16, h17] at hs ⊢
    exact hs
  have hfixed : ∀ b : Bool, (b && (y.st != .off || !(txOfLink v (fld (wordAt p.words 0) 0 10)).isEmpty ||
      !(rxOfLink v (fld (wordAt p.words 0) 0 10)).isEmpty || !(scsOfLink v (fld (wordAt p.words 0) 0 10)).isEmpty)) = false := by
    intro b
    rw [hoff, htx, hrx, hsc]
    exact Bool.and_false b
  have hmka' : (txpMka y.txp && !txpMka (modified p y).txp) = false := by rw [hmka, Bool.and_not_self]
  have hofs' : (!txpMka (modified p y).txp && txpOff (modified p y).txp != txpOff y.txp) = false := by rw [hofs, bne_self_eq_false, Bool.and_false]
  have hsci : (!sciOk (modified p y).sci (modified p y).txp) = false := by rw [hs]; rfl
  unfold secyModifyEff
  simp only [hw, hy]
  exact (if_neg (ne_true_of_eq_false hform)).trans ((if_neg (ne_true_of_eq_false hsci)).trans
    ((if_neg (ne_true_of_eq_false (hfixed _))).trans (congrArg (ok (newCmd 0x11 p s))
      ((if_neg (ne_true_of_eq_false hofs')).trans (if_neg (ne_true_of_eq_false hmka'))))))

section
variable (hb : onlyBits 0x3FF (wordAt p.words 0) = true) (hy : secyOf v (fld (wordAt p.words 0) 0 10) = some y)
include hb hy

theorem secyEnableEff_off (hst : y.st = .off) (htx : txOfLink v (fld (wordAt p.words 0) 0 10) = []) :
    secyEnableEff (newCmd 0x12 p s) v = ok (newCmd 0x12 p s) (dirtyLine (secyLine (fld (wordAt p.words 0) 0 10))
      (setSecy (fld (wordAt p.words 0) 0 10) (some { y with st := .on, pendEn := false }) v)) := by
  have hw : ∀ k, (newCmd 0x12 p s).w k = wordAt p.words k := fun _ => rfl
  have htx' := (txOfLink_congr (secyParts_dirty (fld (wordAt p.words 0) 0 10) (some { y with st := .on, pendEn := false }) v .tx
    (by decide)) (fld (wordAt p.words 0) 0 10)).trans htx
  unfold secyEnableEff
  simp only [hw, hy, hst]
  rw [if_neg (by rw [hb]; decide), secyStart, modSecy_some hy, htx']
  rfl

theorem secyEnableEff_on (hst : y.st = .on) : secyEnableEff (newCmd 0x12 p s) v = ok (newCmd 0x12 p s) v := by
  have hw : ∀ k, (newCmd 0x12 p s).w k = wordAt p.words k := fun _ => rfl
  unfold secyEnableEff
  simp only [hw, hy, hst]
  rw [if_neg (by rw [hb]; decide)]

theorem secyEnableEff_draining (hst : y.st = .draining) : secyEnableEff (newCmd 0x12 p s) v =
    complete (newCmd 0x12 p s) stDeferred [] (setSecy (fld (wordAt p.words 0) 0 10) (some { y with pendEn := true }) v) := by
  have hw : ∀ k, (newCmd 0x12 p s).w k = wordAt p.words k := fun _ => rfl
  unfold secyEnableEff
  simp only [hw, hy, hst]
  rw [if_neg (by rw [hb]; decide)]

/-- SECY_DISABLE stops the SecY that is there. -/
theorem secyDisableEff_stop : secyDisableEff (newCmd 0x13 p s) v = ok (newCmd 0x13 p s) (secyStop (fld (wordAt p.words 0) 0 10) v) := by
  have hw : ∀ k, (newCmd 0x13 p s).w k = wordAt p.words k := fun _ => rfl
  simp only [secyDisableEff, hw, hy]
  rw [if_neg (by rw [hb]; decide), if_neg (c := (some y).isNone = true) Bool.false_ne_true]

theorem secyDeleteEff_off (hst : y.st = .off) : secyDeleteEff (newCmd 0x14 p s) v =
    secyDeleteNow (fld (wordAt p.words 0) 0 10) (waitFor (newCmd 0x14 p s) (.secyDelete (fld (wordAt p.words 0) 0 10)) v) := by
  have hw : ∀ k, (newCmd 0x14 p s).w k = wordAt p.words k := fun _ => rfl
  unfold secyDeleteEff
  simp only [hw, hy, hst]
  rw [if_neg (by rw [hb]; decide), if_neg (by decide)]

end

end

/-- An ON SecY without a cut drains, and its SAs hold. -/
theorem secyStop_on {l : Nat} {v : State} {y : Secy} (hy : secyOf v l = some y) (hst : y.st = .on) (hcut : y.cut = .none) :
    secyStop l v = (txOfLink v l).foldl (fun t i => leaseHold i t)
      (dirtyLine (secyLine l) (setSecy l (some { y with st := .draining, pendEn := false }) v)) := by
  have hlink : ∀ z, txOfLink (dirtyLine (secyLine l) (setSecy l z v)) l = txOfLink v l := fun z =>
    txOfLink_congr (secyParts_dirty l z v .tx (by decide)) l
  have hpump : ∀ (t : State) (z : Secy), secyOf t l = some z → z.cut = .none → cutPump l t = t := fun t z hz hc => by simp [cutPump, hz, hc]
  unfold secyStop
  simp only [hy, hst, hlink]
  refine hpump _ { y with st := .draining, pendEn := false } ?_ hcut
  rw [secyOf_congr (sameBut_foldl (ps := [.tx]) _ (fun t i => sameBut_leaseHold i t) _ _ .secys (by decide)), secyOf_dirty, if_pos rfl]

/-- Settles O22: each command's effect is one change of the SecY and its line (the lemmas `secy…Eff_…`, `secyStop_on`,
`deletePump_goes`), after which it replies (`secy_changed`, `complete_changed`). -/
theorem secyCommands : Obligations.SecyCommands := by
  unfold Obligations.SecyCommands
  have hsecys : ∀ s, (accepted s).secys = s.secys := fun s => sameBut_accepted s .secys (by decide)
  have htxs : ∀ s, (accepted s).tx = s.tx := fun s => sameBut_accepted s .tx (by decide)
  have hrxs : ∀ s, (accepted s).rx = s.rx := fun s => sameBut_accepted s .rx (by decide)
  have hscts : ∀ s, (accepted s).sct = s.sct := fun s => sameBut_accepted s .sct (by decide)
  refine ⟨?create, ?createThere, ?modify, ?enableOff, ?enableOn, ?enableDraining, ?disableOn, ?disableDraining, ?disableOff, ?delete⟩
  case create =>
    intro p s n hstart hb ht hrp hs hy
    obtain ⟨hn, hr⟩ := startsNow_req hstart
    refine ⟨_, row_now rfl hstart, ?_⟩
    rw [secyCreateEff_free hb ht hrp hs (by rw [secyOf_congr (hsecys s), hy])]
    refine secy_changed (qs := secyParts) hn hr (sameBut_trans (sameBut_mono (sameBut_setSecy _ _ _) (by decide))
      (sameBut_mono (ctx_pinLine _ _) (by decide))) (fun j => ?_) (by decide) (by decide) (by decide)
    rw [secyOf_congr (ctx_pinLine _ _ .secys (by decide)), secyOf_setSecy]
  case createThere =>
    intro p s n hstart hb ht hrp hs hy
    obtain ⟨hn, hr⟩ := startsNow_req hstart
    refine ⟨_, row_now rfl hstart, ?_⟩
    rw [secyCreateEff_there hb ht hrp hs (by rw [secyOf_congr (hsecys s), hy])]
    exact complete_answered hn hr _ _
  case modify =>
    intro p s n y z hstart hb hy hz ht hrp hs hoff htx hrx hsc hmka hofs
    obtain ⟨hn, hr⟩ := startsNow_req hstart
    obtain rfl : z = modified p y := hz
    refine ⟨_, row_now rfl hstart, ?_⟩
    rw [secyModifyEff_off hb ht hrp hs (by rw [secyOf_congr (hsecys s), hy]) hoff (by rw [txOfLink_congr (htxs s), htx])
      (by rw [rxOfLink_congr (hrxs s) (hscts s), hrx]) (by rw [scsOfLink_congr (hscts s), hsc]) hmka hofs]
    exact secy_changed hn hr (secyParts_dirty _ _ _) (secyOf_dirty _ _ _) (by decide) (by decide) (by decide)
  case enableOff =>
    intro p s n y hstart hb hy hst htx
    obtain ⟨hn, hr⟩ := startsNow_req hstart
    refine ⟨_, row_now rfl hstart, ?_⟩
    rw [secyEnableEff_off hb (by rw [secyOf_congr (hsecys s), hy]) hst (by rw [txOfLink_congr (htxs s), htx])]
    exact secy_changed hn hr (secyParts_dirty _ _ _) (secyOf_dirty _ _ _) (by decide) (by decide) (by decide)
  case enableOn =>
    intro p s n y hstart hb hy hst
    obtain ⟨hn, hr⟩ := startsNow_req hstart
    refine ⟨_, row_now rfl hstart, ?_⟩
    rw [secyEnableEff_on hb (by rw [secyOf_congr (hsecys s), hy]) hst]
    exact complete_answered hn hr _ _
  case enableDraining =>
    intro p s n y hstart hb hy hst
    obtain ⟨hn, hr⟩ := startsNow_req hstart
    refine ⟨_, row_now rfl hstart, ?_⟩
    rw [secyEnableEff_draining hb (by rw [secyOf_congr (hsecys s), hy]) hst]
    refine complete_changed (s := s) hn hr ?_ (by rfl) (by rfl) (by rfl) (by rfl) _ _
    exact congrArg (setSecy _ _) (accepted_eq s)
  case disableOn =>
    intro p s n y hstart hb hy hst hcut
    obtain ⟨hn, hr⟩ := startsNow_req hstart
    have hy' : secyOf (accepted s) (fld (wordAt p.words 0) 0 10) = some y := by rw [secyOf_congr (hsecys s), hy]
    refine ⟨_, row_now rfl hstart, ?_⟩
    rw [secyDisableEff_stop hb hy', secyStop_on hy' hst hcut]
    have hdirty := secyParts_dirty (fld (wordAt p.words 0) 0 10) (some { y with st := .draining, pendEn := false }) (accepted s)
    have hhold := fun t : State => sameBut_foldl (ps := [.tx]) _ (fun t i => sameBut_leaseHold i t)
      (txOfLink (accepted s) (fld (wordAt p.words 0) 0 10)) t
    obtain ⟨hreply, hsecy, hrest, hsame⟩ := secy_changed (op := 0x13) (l := fld (wordAt p.words 0) 0 10) (qs := .tx :: secyParts)
      (y := some { y with st := .draining, pendEn := false })
      (ps := [.mci, .evt, .tel, .cnt, .que, .secys, .cis, .cxm, .out, .tx]) hn hr
      (sameBut_trans (sameBut_mono hdirty (by decide)) (sameBut_mono (hhold _) (by decide)))
      (fun j => by rw [secyOf_congr (hhold _ .secys (by decide)), secyOf_dirty]) (by decide) (by decide) (by decide)
    refine ⟨hreply, hsecy, hrest, fun i => ?_, hsame⟩
    have hlink := txOfLink_congr (hdirty .tx (by decide)) (fld (wordAt p.words 0) 0 10)
    refine (txOf_of_tx (complete_frame hr [] .tx (by decide)) i).trans ?_
    rw [← hlink, txOf_linkHolds, txOf_of_tx (hdirty .tx (by decide)), txOf_of_tx (htxs s)]
    rfl
  case disableDraining =>
    intro p s n y hstart hb hy hst
    obtain ⟨hn, hr⟩ := startsNow_req hstart
    have hy' : secyOf (accepted s) (fld (wordAt p.words 0) 0 10) = some y := by rw [secyOf_congr (hsecys s), hy]
    refine ⟨_, row_now rfl hstart, ?_⟩
    rw [secyDisableEff_stop hb hy', show secyStop (fld (wordAt p.words 0) 0 10) (accepted s) =
      setSecy (fld (wordAt p.words 0) 0 10) (some { y with pendEn := false }) (accepted s) by simp only [secyStop, hy', hst]]
    refine complete_changed (s := s) hn hr ?_ (by rfl) (by rfl) (by rfl) (by rfl) _ _
    exact congrArg (setSecy _ _) (accepted_eq s)
  case disableOff =>
    intro p s n y hstart hb hy hst
    obtain ⟨hn, hr⟩ := startsNow_req hstart
    have hy' : secyOf (accepted s) (fld (wordAt p.words 0) 0 10) = some y := by rw [secyOf_congr (hsecys s), hy]
    refine ⟨_, row_now rfl hstart, ?_⟩
    rw [secyDisableEff_stop hb hy', show secyStop (fld (wordAt p.words 0) 0 10) (accepted s) = accepted s by simp only [secyStop, hy', hst]]
    exact complete_answered hn hr _ _
  case delete =>
    intro p s n y hstart hb hy hst hcut htx hrx hsc hrun hq hwork hwr
    obtain ⟨hn, hr⟩ := startsNow_req hstart
    have hy' : secyOf (accepted s) (fld (wordAt p.words 0) 0 10) = some y := by rw [secyOf_congr (hsecys s), hy]
    obtain ⟨u, heff, hframe, hsecy⟩ := secyDeleteNow_goes (l := fld (wordAt p.words 0) 0 10)
      (s := waitFor (newCmd 0x14 p s) (.secyDelete (fld (wordAt p.words 0) 0 10)) (accepted s))
      (r := ⟨newCmd 0x14 p s, .secyDelete (fld (wordAt p.words 0) 0 10)⟩) hy' hcut
      (by rw [waitFor, accepted_mci, hrun]; rfl) rfl ((txOfLink_congr (htxs s) _).trans htx)
      ((rxOfLink_congr (hrxs s) (hscts s) _).trans hrx) ((scsOfLink_congr (hscts s) _).trans hsc)
      ((congrArg Jnl.work (sameBut_accepted s .jnl (by decide))).trans hwork)
      ((congrArg Jnl.wr (sameBut_accepted s .jnl (by decide))).trans hwr)
    have hfree := ctx_freeLine (secyLine (fld (wordAt p.words 0) 0 10)) u
    have hmci : (freeLine (secyLine (fld (wordAt p.words 0) 0 10)) u).mci = { s.mci with
        nextId := s.mci.nextId + 1, running := s.mci.running ++ [⟨newCmd 0x14 p s, .secyDelete (fld (wordAt p.words 0) 0 10)⟩] } :=
      (hfree .mci (by decide)).trans ((hframe .mci (by decide)).trans (by simp only [waitFor, accepted_mci]))
    have hwait := sameBut_waitFor (newCmd 0x14 p s) (.secyDelete (fld (wordAt p.words 0) 0 10)) (accepted s)
    obtain ⟨hreply, hgone, hrest, hsame⟩ := secy_replies (op := 0x14) (l := fld (wordAt p.words 0) 0 10) (y := none) (s := s)
      (u := freeLine (secyLine (fld (wordAt p.words 0) 0 10)) u)
      (ps := [.mci, .evt, .tel, .cnt, .que, .secys, .cis, .cxm, .out, .svc, .vlt]) hn hr (by rw [hmci])
      (sameBut_trans (sameBut_mono (sameBut_accepted s) (by decide)) (sameBut_trans (sameBut_mono hwait (by decide))
        (sameBut_trans (sameBut_mono hframe (by decide)) (sameBut_mono hfree (by decide)))))
      (fun j => by
        rw [secyOf_congr (hfree .secys (by decide)), hsecy]
        exact ite_congr rfl (fun _ => rfl) fun _ => secyOf_congr (hsecys s) j) (by decide)
    refine ⟨_, row_now rfl hstart, ?_⟩
    rw [secyDeleteEff_off hb hy' hst, heff]
    refine ⟨hreply, hgone, hrest, ?_, hsame⟩
    have hdone : (settle (ok (newCmd 0x14 p s) (freeLine (secyLine (fld (wordAt p.words 0) 0 10)) u))).mci =
        (ok (newCmd 0x14 p s) (freeLine (secyLine (fld (wordAt p.words 0) 0 10)) u)).mci := sameBut_settle _ .mci (by decide)
    rw [hdone, ok, complete_running, hmci, hrun]
    simp

end Sys2Proof.Machine
end

section
/-! The end of a SecY's drain. -/
namespace Sys2Proof.Machine

/-- A DRAINING SecY without transmit SAs is OFF, or ON again where an enable is pending. -/
theorem secyOffNow_free {l : Nat} {s : State} {y : Secy} (hy : secyOf s l = some y) (htx : txOfLink s l = []) :
    sameBut secyParts s (secyOffNow l s) ∧ ∀ j, secyOf (secyOffNow l s) j =
      if j = l then some (if y.pendEn then { y with st := .on, pendEn := false } else { y with st := .off }) else secyOf s j := by
  have hoff : secyOf (dirtyLine (secyLine l) (setSecy l (some { y with st := .off }) s)) l = some { y with st := .off } := by
    rw [secyOf_dirty, if_pos rfl]
  have hframe := secyParts_dirty l (some { y with st := .off }) s
  unfold secyOffNow
  simp only [hy, htx, List.foldl_nil, modSecy_some hy]
  by_cases hp : y.pendEn = true
  case neg =>
    simp only [if_neg hp]
    exact ⟨hframe, secyOf_dirty _ _ _⟩
  case pos =>
    have hagain := secyParts_dirty l (some { y with st := .on, pendEn := false })
      (dirtyLine (secyLine l) (setSecy l (some { y with st := .off }) s))
    have hstart : secyStart l (dirtyLine (secyLine l) (setSecy l (some { y with st := .off }) s)) = dirtyLine (secyLine l)
        (setSecy l (some { y with st := .on, pendEn := false }) (dirtyLine (secyLine l) (setSecy l (some { y with st := .off }) s))) := by
      have hlink := ((txOfLink_congr (hagain .tx (by decide)) l).trans (txOfLink_congr (hframe .tx (by decide)) l)).trans htx
      rw [secyStart, modSecy_some hoff, hlink]
      rfl
    simp only [if_pos hp, hstart]
    refine ⟨sameBut_trans hframe hagain, fun j => ?_⟩
    rw [secyOf_dirty, secyOf_dirty]
    split <;> rfl

/-- A whole frame that has not started, held alone in its direction, is discarded and counted. -/
theorem discardHeldAll_one {d : Dir} {q : Frame → Bool} {f : Frame} {s : State} (hf : (pathOf s d).frames = [f]) (hq : q f = true)
    (hend : f.ended = true) (hstart : f.started = false) (hdead : isDead f = false) :
    discardHeldAll d q s = syncPath d (dropFrame d f.link f.orderTag (bump (dirCnt d 5) (some f.link) s)) := by
  have hone : [f].filter q = [f] := by simp [hq]
  rw [discardHeldAll, hf, hone, List.foldl_cons, List.foldl_nil, discardHeld, if_neg (by rw [hdead]; decide), if_pos hend, killFrame,
    if_neg (by rw [hstart]; decide)]

/-- Of the egress direction: no frame is left, EGR_DISC_ABORT counts it, and the buffer follows. -/
theorem discardHeldAll_alone {q : Frame → Bool} {f : Frame} {s : State} (hf : s.egr.frames = [f]) (hq : q f = true)
    (hend : f.ended = true) (hstart : f.started = false) (hdead : isDead f = false) :
    (discardHeldAll .egr q s).egr.frames = [] ∧
    (∀ c, smGet 0 (discardHeldAll .egr q s).cnt c = if c = 5 then satAdd 63 (smGet 0 s.cnt c) 1 else smGet 0 s.cnt c) ∧
    sameBut [.egr, .tel, .cnt, .que, .lne] s (discardHeldAll .egr q s) := by
  have hbump := sameBut_bump 5 (some f.link) s
  have hdrop := sameBut_dropFrame .egr f.link f.orderTag (bump 5 (some f.link) s)
  have hsync := sameBut_syncPath .egr (dropFrame .egr f.link f.orderTag (bump 5 (some f.link) s))
  rw [discardHeldAll_one (d := .egr) hf hq hend hstart hdead]
  refine ⟨?_, fun c => ?_, ?_⟩
  · have hegr : (bump 5 (some f.link) s).egr = s.egr := hbump .egr (by decide)
    have hleft : (dropFrame .egr f.link f.orderTag (bump 5 (some f.link) s)).egr.frames =
        (bump 5 (some f.link) s).egr.frames.filter (fun x => !(x.link == f.link && x.orderTag == f.orderTag)) := rfl
    refine (congrArg Path.frames (hsync .egr (by decide))).trans (hleft.trans ?_)
    rw [hegr, hf]
    simp
  · have hcnt := (hsync .cnt (by decide)).trans (hdrop .cnt (by decide))
    refine (congrArg (fun m => smGet 0 m c) hcnt).trans ((bumpN_cnt 5 1 _ s c).trans ?_)
    split
    next h => rw [h]
    next => rfl
  · exact sameBut_trans (sameBut_mono hbump (by decide)) (sameBut_trans (sameBut_mono hdrop (by decide)) (sameBut_mono hsync (by decide)))

theorem discardHeldAll_none {d : Dir} {q : Frame → Bool} {s : State} (hf : (pathOf s d).frames = []) :
    discardHeldAll d q s = syncPath d s := by
  rw [discardHeldAll, hf]
  rfl

/-- Settles O23: what a SecY without frames becomes is `secyOffNow_free`, what the timeout does to its frame `discardHeldAll_one`. -/
theorem drainingSecys : Obligations.DrainingSecys := by
  unfold Obligations.DrainingSecys
  refine ⟨?complete, ?inFlight, ?timeout⟩
  case complete =>
    intro s l y hl hy hst hegr hing htx
    obtain ⟨hframe, hsecy⟩ := secyOffNow_free hy htx
    have hexec : exec (.secyDrainComplete l) s = run s (secyOffNow l s) := by
      show execSecyDrainComplete l s = _
      unfold execSecyDrainComplete
      simp only [hy, hst, hegr, hing]
      rfl
    have hsettle : ∀ j, secyOf (settle (secyOffNow l s)) j = secyOf (secyOffNow l s) j :=
      secyOf_congr (sameBut_settle _ .secys (by decide))
    refine ⟨_, hexec.trans (run_high hl), ?_, fun j hj => ?_, ?_⟩
    · rw [hsettle, hsecy, if_pos rfl]
    · rw [hsettle, hsecy, if_neg hj]
    · exact sameBut_trans (sameBut_mono hframe (by decide)) (sameBut_mono (sameBut_settle _) (by decide))
  case inFlight =>
    intro s l y hl hy hst hflight
    have hexec : exec (.secyDrainComplete l) s = run s s := by
      show execSecyDrainComplete l s = _
      unfold execSecyDrainComplete
      simp only [hy]
      rw [if_neg]
      simp only [Bool.and_eq_true, beq_iff_eq, not_and]
      exact fun h hing => hflight.elim (absurd h.2) (absurd hing)
    exact ⟨_, hexec.trans (run_high hl), settled_settle _⟩
  case timeout =>
    intro s l y f hl hy hst hegr hing hlink hend hstart hdead
    obtain ⟨hframes, hcnt, hsame⟩ := discardHeldAll_alone (q := fun f => f.link == l) hegr (beq_iff_eq.2 hlink) hend hstart hdead
    have hing' : (discardHeldAll .egr (fun f => f.link == l) s).ing = s.ing := hsame .ing (by decide)
    have hexec : exec (.secyDrainTimeout l) s = run s (syncPath .ing (discardHeldAll .egr (fun f => f.link == l) s)) := by
      show execSecyDrainTimeout l s = _
      unfold execSecyDrainTimeout
      simp only [hy, hst]
      rw [if_pos (by decide), discardHeldAll_none (d := .ing) ((congrArg Path.frames hing').trans hing)]
    have hrest := sameBut_trans (sameBut_mono (sameBut_syncPath .ing (discardHeldAll .egr (fun f => f.link == l) s)) (qs := [.que, .evt])
      (by decide)) (sameBut_mono (sameBut_settle _) (by decide))
    have hcnts := hrest .cnt (by decide)
    refine ⟨_, hexec.trans (run_high hl), (congrArg Path.frames (hrest .egr (by decide))).trans hframes, ?_, fun c hc => ?_, ?_⟩
    · exact (congrArg (fun m => smGet 0 m 5) hcnts).trans ((hcnt 5).trans (if_pos rfl))
    · exact (congrArg (fun m => smGet 0 m c) hcnts).trans ((hcnt c).trans (if_neg hc))
    · exact sameBut_trans (sameBut_mono hsame (by decide)) (sameBut_mono hrest (by decide))

end Sys2Proof.Machine
end

section
/-! The journal's resolution. -/
namespace Sys2Proof.Machine

/-! What a degraded cause leaves of start-up. -/

/-- What a step leaves of start-up and of a change of mode; the engine stays in COLD or outside it. -/
structure BootKept (s t : State) : Prop where
  stage : t.glb.bootStage = s.glb.bootStage
  resume : t.glb.resume = s.glb.resume
  change : t.glb.change = s.glb.change
  cold : t.glb.mode = .cold ↔ s.glb.mode = .cold

theorem BootKept.of_glb {s t : State} (h : t.glb = s.glb) : BootKept s t := by constructor <;> simp [h]

theorem BootKept.trans {s t u : State} (h : BootKept s t) (k : BootKept t u) : BootKept s u :=
  ⟨k.stage.trans h.stage, k.resume.trans h.resume, k.change.trans h.change, k.cold.trans h.cold⟩

theorem bootKept_setDeg (b : Nat) (s : State) : BootKept s (setDeg b s) := by
  have h : ∀ t, (steerYield false t).glb = t.glb := fun t => sameBut_steerYield false t .glb (by decide)
  unfold setDeg
  dsimp only
  constructor <;> split <;> split <;> simp_all [setMode]

theorem bootKept_jnlWear (s : State) : BootKept s (jnlWear s) := by
  have hset : ∀ (c : Bool) (b : Nat) (t : State), BootKept t (if c then setDeg b t else t) := fun c b t => by
    cases c
    · exact .of_glb rfl
    · exact bootKept_setDeg b t
  exact (hset _ 5 s).trans (hset _ 6 _)

theorem jnlWear_jnl (s : State) : (jnlWear s).jnl = s.jnl := by
  have hset : ∀ (c : Bool) (b : Nat) (t : State), (if c then setDeg b t else t).jnl = t.jnl := fun c b t => by
    cases c
    · rfl
    · exact setDeg_jnl b t
  exact (hset _ 6 _).trans (hset _ 5 s)

/-! What the resolution writes. -/

/-- The state with the tables that the records give. -/
def tabled (s : State) : State := resolvePtr (resolveTables (resolveSlots s))

theorem tabled_only (s : State) : sameBut [.jnl] s (tabled s) := by
  have hptr : ∀ t, sameBut [.jnl] t (resolvePtr t) := fun t => by
    unfold resolvePtr
    split <;> exact jnl_only t _
  exact sameBut_trans (jnl_only s _) (sameBut_trans (jnl_only _ _) (hptr _))

/-- Resolved, with the epoch of the newest record of the pair. -/
def resolvedAt (e : Nat) (s : State) : State :=
  modPair (fun p => { p with epoch := e }) { s with jnl := { s.jnl with resolved := true, reads := [] } }

theorem resolvedAt_only (e : Nat) (s : State) : sameBut [.jnl, .fab] s (resolvedAt e s) :=
  sameBut_trans (sameBut_mono (jnl_only s _) (by decide)) (sameBut_mono (fab_only _ _) (by decide))

theorem resolveJournal_eq (s : State) : ∃ e, resolveJournal s = capFix (jnlWear (resolvedAt e (tabled s))) := by
  simp only [resolveJournal, resolvedAt, tabled]
  exact ⟨_, rfl⟩

/-- The parts that the resolution writes. -/
def resolveParts : List Part := [.glb, .jnl, .fab, .out, .tel, .que, .cnt, .evt]

theorem sameBut_resolveJournal (s : State) : sameBut resolveParts s (resolveJournal s) := by
  obtain ⟨e, he⟩ := resolveJournal_eq s
  rw [he]
  exact sameBut_trans (sameBut_mono (tabled_only s) (by decide)) (sameBut_trans (sameBut_mono (resolvedAt_only e _) (by decide))
    (sameBut_trans (sameBut_mono (sameBut_jnlWear _) (by decide)) (sameBut_mono (worked_capFix (.refl _)).same (by decide))))

theorem bootKept_resolveJournal (s : State) : BootKept s (resolveJournal s) := by
  obtain ⟨e, he⟩ := resolveJournal_eq s
  rw [he]
  have hbefore : BootKept s (resolvedAt e (tabled s)) :=
    .of_glb ((resolvedAt_only e _ .glb (by decide)).trans (tabled_only s .glb (by decide)))
  exact (hbefore.trans (bootKept_jnlWear _)).trans (.of_glb ((worked_capFix (.refl _)).same .glb (by decide)))

/-- Giving way leaves the journal resolved. -/
theorem capDrop_resolved (s : State) : (capDrop s).jnl.resolved = s.jnl.resolved := by
  have hraise : (raise .jnl 2 { s with jnl := { s.jnl with overCap := true } }).jnl.resolved = s.jnl.resolved := by simp
  unfold capDrop
  generalize raise .jnl 2 { s with jnl := { s.jnl with overCap := true } } = t at hraise ⊢
  dsimp only
  split
  · exact hraise
  · split
    · exact hraise
    · split
      · unfold dropMark
        dsimp only
        split <;> exact hraise
      · exact hraise

theorem resolveJournal_resolved (s : State) : (resolveJournal s).jnl.resolved = true := by
  have hdrops : ∀ n t, (capDrops n t).jnl.resolved = t.jnl.resolved := fun n => by
    induction n with
    | zero => exact fun t => rfl
    | succ n ih =>
      intro t
      unfold capDrops
      split
      · rfl
      · exact (ih _).trans (capDrop_resolved t)
  obtain ⟨e, he⟩ := resolveJournal_eq s
  rw [he, capFix, hdrops, jnlWear_jnl]
  rfl

/-! Without any record. -/

/-- Nothing in the tables that the resolution fills. -/
structure Bare (j : Jnl) : Prop where
  resolved : j.resolved = true
  seq : j.seq = 1
  hw : j.hw = []
  pmark : j.pmark = []
  floors : j.floors = []
  image : j.image = none

/-- There is nothing to give. -/
theorem bare_capDrop {s : State} (h : Bare s.jnl) : Bare (capDrop s).jnl := by
  have hraise : Bare (raise .jnl 2 { s with jnl := { s.jnl with overCap := true } }).jnl := by
    have hjnl : (raise .jnl 2 { s with jnl := { s.jnl with overCap := true } }).jnl = { s.jnl with overCap := true } := by simp
    rw [hjnl]
    exact ⟨h.resolved, h.seq, h.hw, h.pmark, h.floors, h.image⟩
  unfold capDrop
  generalize raise .jnl 2 { s with jnl := { s.jnl with overCap := true } } = t at hraise ⊢
  have hmark : markToDrop t = none := by simp [markToDrop, hraise.hw, hraise.pmark, smKeys]
  simp only [hraise.floors, hraise.image, hmark]
  exact hraise

theorem bare_capFix {s : State} (h : Bare s.jnl) : Bare (capFix s).jnl := by
  have hdrops : ∀ n t, Bare t.jnl → Bare (capDrops n t).jnl := fun n => by
    induction n with
    | zero => exact fun t ht => ht
    | succ n ih =>
      intro t ht
      unfold capDrops
      split
      · exact ht
      · exact ih _ (bare_capDrop ht)
  exact hdrops _ s h

/-- No slot holds a record. -/
def NoRecord (s : State) : Prop := ∀ e ∈ s.jnl.slots, e.2.record = none

theorem noRecord_resolveSlots {s : State} (h : NoRecord s) : NoRecord (resolveSlots s) := by
  have hslot : ∀ n, (jslot s n).record = none := fun n => by
    by_cases hn : jslot s n = .reset
    · rw [hn]; rfl
    · exact h _ (mem_of_smGet hn)
  intro e he
  simp only [resolveSlots, List.mem_map] at he
  obtain ⟨n, -, rfl⟩ := he
  exact hslot n

theorem resolveTables_slots (s : State) : (resolveTables s).jnl.slots = s.jnl.slots := rfl

theorem NoRecord.validRecs {s : State} (h : NoRecord s) : validRecs s = [] := by
  refine List.filterMap_eq_nil_iff.2 fun e he => ?_
  rw [h e he]
  split <;> rfl

theorem NoRecord.allRecs {s : State} (h : NoRecord s) : allRecs s = [] :=
  List.filterMap_eq_nil_iff.2 fun e he => by rw [h e he]; rfl

theorem NoRecord.tables {s : State} (h : NoRecord s) : (resolveTables s).jnl.hw = [] ∧ (resolveTables s).jnl.pmark = [] ∧
    (resolveTables s).jnl.floors = [] ∧ (resolveTables s).jnl.image = none := by
  have hcopies : latestCopies s = [] := by simp [latestCopies, copies, h.validRecs]
  have himage : ∀ cs, resolveImage s cs = none := fun cs => by simp [resolveImage, newestHdr, newestOf, h.validRecs]
  simp only [resolveTables, hcopies, himage, List.filter_nil, List.foldl_nil, and_self]

theorem bare_resolveJournal {s : State} (h : NoRecord s) : Bare (resolveJournal s).jnl := by
  obtain ⟨e, he⟩ := resolveJournal_eq s
  have hslots := noRecord_resolveSlots h
  obtain ⟨hhw, hpmark, hfloors, himage⟩ := hslots.tables
  have hall : allRecs (resolveTables (resolveSlots s)) = [] := NoRecord.allRecs fun x hx => hslots x (resolveTables_slots _ ▸ hx)
  rw [he]
  refine bare_capFix ?_
  rw [jnlWear_jnl]
  have htabled : ∀ t, allRecs t = [] → (resolvePtr t) = { t with jnl := { t.jnl with seq := 1, ptr := nextLive t 0 } } := fun t ht => by
    unfold resolvePtr
    rw [ht]
    rfl
  rw [tabled, htabled _ hall]
  generalize resolveTables (resolveSlots s) = t at hhw hpmark hfloors himage
  exact ⟨rfl, rfl, hhw, hpmark, hfloors, himage⟩

/-! What follows the resolution. -/

/-- With the DRBG on, the hash keys are drawn and a resume begins or not. -/
theorem afterResolution_on {s : State} (h : drbgOn s = true) : afterResolution (resolveJournal s) = startupResume (drawHashKeys (resolveJournal s)) := by
  have hon : drbgOn (resolveJournal s) = drbgOn s := by
    rw [drbgOn, drbgOn, sameBut_resolveJournal s .vlt (by decide)]
  rw [afterResolution, if_pos (by rw [hon, h])]

/-- The state in which start-up decides on a resume. -/
def resolvedOn (s : State) : State := drawHashKeys (resolveJournal s)

theorem resolvedOn_jnl (s : State) : (resolvedOn s).jnl = (resolveJournal s).jnl := sameBut_drawHashKeys _ .jnl (by decide)

theorem resolvedOn_boot (s : State) : BootKept s (resolvedOn s) :=
  (bootKept_resolveJournal s).trans (.of_glb (sameBut_drawHashKeys _ .glb (by decide)))

theorem resolvedOn_aon (s : State) : (resolvedOn s).aon = s.aon :=
  (sameBut_drawHashKeys _ .aon (by decide)).trans (sameBut_resolveJournal s .aon (by decide))

/-- JOURNAL_RESOLUTION with the DRBG on. -/
theorem journalResolution_exec {s : State} (hl : resetLow s = false) (hr : s.jnl.resolved = false) (hd : s.jnl.readDone = 4096)
    (hm : s.glb.mode ≠ .lockout) (hon : drbgOn s = true) : exec .journalResolution s = done (startupResume (resolvedOn s)) := by
  have hnot : (s.jnl.resolved || s.jnl.readDone != 4096 || s.glb.mode == .lockout) = false := by simp [hr, hd, hm]
  have hexec : exec .journalResolution s = run s (afterResolution (resolveJournal s)) := by
    show execJournalResolution s = _
    rw [execJournalResolution, if_neg (by rw [hnot]; decide)]
  rw [hexec, afterResolution_on hon, run_high hl]
  rfl

end Sys2Proof.Machine
end

section
/-! What key agreement leaves alone: the mode, and which commands run. -/
namespace Sys2Proof.Machine

/-- What holds of the state that a function returns. -/
theorem snd_keeps {α : Type} {P : State → Prop} {x : α × State} {a : α} {t : State} (h : P x.2) (heq : x = (a, t)) : P t := by
  rwa [heq] at h

/-- What a new SAK's way through vault, context store and journal writes. -/
def sakParts : List Part := [.rng, .vlt, .svc, .tel, .que, .rx, .jnl, .out, .evt, .cis, .cxm, .cnt, .sct]

theorem sak_svc (s : State) (v : Svc) : sameBut sakParts s { s with svc := v } := sameBut_mono (svc_only s v) (by decide)
theorem sak_setVslot (n : Nat) (v : VSlot) (s : State) : sameBut sakParts s (setVslot n v s) := sameBut_mono (sameBut_setVslot n v s) (by decide)
theorem sak_zeroSlot (n : Nat) (s : State) : sameBut sakParts s (zeroSlot n s) := sameBut_mono (sameBut_zeroSlot n s) (by decide)
theorem sak_telBump (c n : Nat) (l : Option Nat) (s : State) : sameBut sakParts s (telBump c n l s) := sameBut_mono (sameBut_telBump c n l s) (by decide)
theorem sak_dirtyLine (n : Nat) (s : State) : sameBut sakParts s (dirtyLine n s) := sameBut_mono (ctx_dirtyLine n s) (by decide)
theorem sak_setPart (l : Nat) (b : Bool) (p : Option MkPart) (s : State) : sameBut sakParts s (setPart l b p s) := sak_svc s _

theorem sak_writeKey (n : Nat) (a : Attr) (k e : Bool) (r : Role) (o : Nat) (ks : List Byte) (s : State) :
    sameBut sakParts s (writeKey n a k e r o ks s) := sameBut_mono (sameBut_writeKey n a k e r o ks s) (by decide)

/-- Work taken in by the journal. -/
theorem sak_worked {s t : State} (h : JWorked s t) : sameBut sakParts s t := sameBut_mono h.same (by decide)

theorem sak_freeSlot (lo n : Nat) (s : State) : sameBut sakParts s (freeSlot lo n s).2 := by
  intro x hx
  cases x <;> simp_all [Part.same, sakParts, freeSlot, pickFree]

theorem sak_poolRoom (busy : List Nat) (s : State) : sameBut sakParts s (poolRoom busy s).2 := by
  have hfree := sak_freeSlot 8264 184 s
  unfold poolRoom
  split
  next n s1 heq => rwa [heq] at hfree
  next s1 heq =>
    rw [heq] at hfree
    split
    · exact hfree
    · exact sameBut_trans hfree (sak_zeroSlot _ _)

theorem sak_poolPut (l : Nat) (ckn : List Byte) (role : Role) (k256 : Bool) (o : Nat) (busy : List Nat) (k : List Byte) (s : State) :
    sameBut sakParts s (poolPut l ckn role k256 o busy k s) := by
  have hroom := sak_poolRoom busy s
  unfold poolPut
  split
  next n s1 heq =>
    rw [heq] at hroom
    exact sameBut_trans hroom (sameBut_trans (sak_writeKey _ _ _ _ _ _ _ _) (sak_svc _ _))
  next s1 heq => rwa [heq] at hroom

theorem sak_poolCak (l : Nat) (p : MkPart) (s : State) : sameBut sakParts s (poolCak l p s).2 := by
  unfold poolCak
  split
  · exact sak_setVslot _ _ _
  · split
    · exact sameBut_refl _ _
    · split
      · exact sameBut_trans (sak_telBump _ _ _ _) (sak_poolPut _ _ _ _ _ _ _ _)
      · exact sameBut_refl _ _

theorem sak_poolDerived (l : Nat) (p : MkPart) (kek : Bool) (s : State) : sameBut sakParts s (poolDerived l p kek s).2 := by
  have hcak := sak_poolCak l p s
  unfold poolDerived
  dsimp only
  split
  · exact sak_setVslot _ _ _
  · split
    · exact sameBut_refl _ _
    · split
      next c s1 heq =>
        rw [heq] at hcak
        exact sameBut_trans hcak (sak_poolPut _ _ _ _ _ _ _ _)
      next s1 heq => rwa [heq] at hcak

theorem sak_distSak (l : Nat) (p : MkPart) (s : State) : sameBut sakParts s (distSak l p s).2 := by
  have hkek := sak_poolDerived l p true s
  unfold distSak
  split
  · split
    · split
      next kek s1 heq => rwa [heq] at hkek
      next s1 heq => rwa [heq] at hkek
    · exact sameBut_refl _ _
  · exact sameBut_refl _ _

theorem sak_mkaPdu (l : Nat) (p : MkPart) (s : State) : sameBut sakParts s (mkaPdu l p s).2 := by
  have hick := sameBut_trans (sak_distSak l p s) (sak_poolDerived l p false (distSak l p s).2)
  unfold mkaPdu
  dsimp only
  split
  next ick s2 heq => rwa [heq] at hick
  next s2 heq => rwa [heq] at hick

theorem sak_partSend (l : Nat) (b : Bool) (s : State) : sameBut sakParts s (partSend l b s) := by
  unfold partSend
  split
  · split
    · dsimp only
      split
      next body s1 heq =>
        have hs1 : sameBut sakParts s s1 := snd_keeps (sak_mkaPdu _ _ _) heq
        split
        · exact sameBut_trans hs1 (sameBut_trans (sak_setPart _ _ _ _) (sameBut_mono (sameBut_modQue _ _ _) (by decide)))
        · exact hs1
      next s1 heq => exact snd_keeps (P := sameBut sakParts s) (sak_mkaPdu _ _ _) heq
    · exact sameBut_refl _ _
  · exact sameBut_refl _ _

theorem sak_mkaSend (l : Nat) (s : State) : sameBut sakParts s (mkaSend l s) := sameBut_trans (sak_partSend _ _ _) (sak_partSend _ _ _)

theorem sak_placeKey (a : Attr) (k e : Bool) (r : Role) (o : Nat) (ks : List Byte) (s : State) : sameBut sakParts s (placeKey a k e r o ks s).2 := by
  have hfree : sameBut sakParts s (if r = .traffic then freeSlot 0 8192 s else freeSlot 8200 64 s).2 := by
    split <;> exact sak_freeSlot _ _ _
  unfold placeKey
  split
  next n s1 heq =>
    rw [heq] at hfree
    exact sameBut_trans hfree (sak_writeKey _ _ _ _ _ _ _ _)
  next s1 heq => rwa [heq] at hfree

theorem sak_placeSak (suite o : Nat) (key : List Byte) (s : State) : sameBut sakParts s (placeSak suite o key s).2 := by
  have henc := sak_placeKey .encOnly (suite256 suite) false .traffic o key s
  unfold placeSak
  split
  next e s1 heq =>
    rw [heq] at henc
    have hdec := sak_placeKey .decOnly (suite256 suite) false .traffic o key s1
    split
    next d s2 heq2 => rw [heq2] at hdec; exact sameBut_trans henc hdec
    next s2 heq2 => rw [heq2] at hdec; exact sameBut_trans henc hdec
  next s1 heq => rwa [heq] at henc

theorem sak_setRx (r : Nat) (a : Option Sa) (s : State) : sameBut sakParts s (setRx r a s) := by
  intro x hx
  cases x <;> simp_all [Part.same, sakParts]

theorem sak_modRx (r : Nat) (f : Sa → Sa) (s : State) : sameBut sakParts s (modRx r f s) := by
  unfold modRx
  split
  · exact sak_setRx _ _ _
  · exact sameBut_refl _ _

theorem sak_addRef (k : Nat) (u : Bool) (s : State) : sameBut sakParts s (addRef k u s) := sameBut_mono (sameBut_addRef k u s) (by decide)

theorem sak_installRx (r : Nat) (a : Sa) (s : State) : sameBut sakParts s (installRx r a s) := by
  have hset := sameBut_trans (sak_addRef a.kid true s) (sak_setRx r (some { a with tInst := now s }) (addRef a.kid true s))
  have hline : ∀ (c : Bool) (t : State), sameBut sakParts t (if c then writeLine (rxLine r) t else t) := fun c t => by
    cases c
    · exact sameBut_refl _ _
    · exact sameBut_mono (ctx_writeLine _ _) (by decide)
  unfold installRx
  dsimp only
  split
  · exact sameBut_trans hset (hline _ _)
  · exact sameBut_trans (sameBut_trans hset (hline _ _)) (sak_worked (worked_jIssue (worked_jAdd _ _ _ (worked_jnl rfl))))

theorem sak_mkaInstallRx (l : Nat) (p : MkPart) (kid : Nat) (key : List Byte) (s : State) : sameBut sakParts s (mkaInstallRx l p kid key s) := by
  refine sameBut_foldl _ (fun t x => ?_) _ _
  split
  · dsimp only
    split
    · exact sameBut_refl _ _
    · exact sameBut_trans (sak_installRx _ _ _) (sameBut_trans (sak_modRx _ _ _) (sak_dirtyLine _ _))
  · exact sameBut_refl _ _

theorem sak_retirePart (p : MkPart) (s : State) : sameBut sakParts s (retirePart p s) :=
  sameBut_foldl _ (fun t k => sameBut_mono (sameBut_retireKey k t) (by decide)) _ _

theorem sak_retireRx (r : Nat) (s : State) : sameBut sakParts s (retireRx r s) := sameBut_trans (sak_modRx _ _ _) (sak_dirtyLine _ _)

theorem sak_removeRx (r : Nat) (s : State) : sameBut sakParts s (removeRx r s) := by
  unfold removeRx
  split
  next a _ =>
    have hfree := sameBut_trans (sak_addRef a.kid false s) (sameBut_trans (sak_setRx r none (addRef a.kid false s))
      (sameBut_mono (ctx_freeLine (rxLine r) _) (qs := sakParts) (by decide)))
    dsimp only
    split
    · exact hfree
    · exact sameBut_trans hfree (sak_worked (worked_jIssue (worked_jAdd _ _ _ (worked_jnl rfl))))
  · exact sameBut_refl _ _

theorem sak_scLeave (c : Nat) (s : State) : sameBut sakParts s (scLeave c s) := by
  unfold scLeave
  split
  · have hsc : ∀ t, sameBut sakParts t (removeSc c t) := fun t => by
      intro x hx
      cases x <;> simp_all [Part.same, sakParts, removeSc]
    exact sameBut_trans (sak_svc s _) (hsc _)
  · exact sameBut_refl _ _

theorem sak_raiseL (u : Sub) (n : Nat) (ls : List Nat) (s : State) : sameBut sakParts s (raiseL u n ls s) := sameBut_mono (sameBut_raiseL u n ls s) (by decide)

/-! Commands may end, none begins. -/

/-- The mode and start-up stay as they are, and every command that runs did before. -/
structure Rests (s t : State) : Prop where
  glb : t.glb = s.glb
  runs : ∀ r ∈ t.mci.running, r ∈ s.mci.running

namespace Rests
variable {s t u : State}

theorem refl (s : State) : Rests s s := ⟨rfl, fun _ h => h⟩

theorem trans (h : Rests s t) (k : Rests t u) : Rests s u := ⟨k.glb.trans h.glb, fun r hr => h.runs r (k.runs r hr)⟩

theorem foldl {α : Type} {f : State → α → State} (hf : ∀ s a, Rests s (f s a)) (l : List α) (s : State) : Rests s (l.foldl f s) := by
  induction l generalizing s with
  | nil => exact refl s
  | cons a l ih => exact (hf s a).trans (ih _)

/-- A step that writes neither of the two parts. -/
theorem of_same {ps : List Part} (h : sameBut ps s t) (hg : Part.glb ∉ ps) (hm : Part.mci ∉ ps) : Rests s t :=
  ⟨h .glb hg, fun r hr => by rwa [show t.mci = s.mci from h .mci hm] at hr⟩

theorem of_sak (h : sameBut sakParts s t) : Rests s t := of_same h (by decide) (by decide)

end Rests

theorem rests_completeWhere (f : Wait → Bool) (st : Nat) (ws : List W64) (s : State) : Rests s (completeWhere f st ws s) :=
  Rests.foldl (fun t (r : Running) => ⟨(complete_keeps r.cmd st ws t).1 .glb (by decide), fun x hx => by
    rw [complete_running] at hx
    exact (List.mem_filter.1 hx).1⟩) _ s

theorem rests_retireRxDone (r : Nat) (s : State) : Rests s (retireRxDone r s) := by
  have hkey : ∀ (c : Bool) (k : Nat) (t : State), Rests t (if c then retireKey k t else t) := fun c k t => by
    cases c
    · exact .refl t
    · exact .of_same (sameBut_retireKey k t) (by decide) (by decide)
  unfold retireRxDone
  split
  · exact (((Rests.of_sak (sak_removeRx r s)).trans (hkey _ _ _)).trans (rests_completeWhere _ _ _ _)).trans (.of_sak (sak_scLeave _ _))
  · exact .refl s

theorem rests_retireUnused (l : Nat) (s : State) : Rests s (retireUnused l s) := by
  refine Rests.foldl (fun t r => ?_) _ s
  dsimp only
  split
  · exact .of_sak (sak_retireRx r t)
  · exact (Rests.of_sak (sak_retireRx r t)).trans (rests_retireRxDone r _)

theorem rests_mkaInstall (l : Nat) (b : Bool) (p : MkPart) (e d : Nat) (key : List Byte) (s : State) :
    Rests s (mkaInstall l b p e d key s) := by
  have hpart : ∀ (o : Option MkPart) (t : State), Rests t (match o with | some q => retirePart q t | none => t) := fun o t => by
    cases o
    · exact .refl t
    · exact .of_sak (sak_retirePart _ t)
  exact ((((Rests.of_sak (sak_setPart l b (some p) s)).trans (hpart _ _)).trans (rests_retireUnused l _)).trans
    (.of_sak (sak_mkaInstallRx l p d key _))).trans (.of_sak (sak_worked (worked_jIssue (worked_jAdd _ _ _ (.refl _)))))

theorem rests_makeSak (l : Nat) (b : Bool) (t : Nat) (s : State) : Rests s (makeSak l b t s) := by
  unfold makeSak
  split
  · dsimp only
    split
    · exact .of_sak (sak_setPart _ _ _ _)
    · split
      · exact .of_sak (sak_raiseL _ _ _ _)
      · have hplace : ∀ a b c, Rests s (placeSak a b c (draw s).2).2 := fun a b c =>
          (Rests.of_same (sameBut_draw s) (by decide) (by decide)).trans (.of_sak (sak_placeSak a b c _))
        split
        next e d s2 heq =>
          have hs2 : Rests s s2 := snd_keeps (hplace _ _ _) heq
          exact (((hs2.trans (.of_sak (sak_svc s2 _))).trans (rests_mkaInstall _ _ _ _ _ _ _)).trans (.of_sak (sak_svc _ _))).trans
            (.of_sak (sak_mkaSend _ _))
        next s2 heq =>
          have hs2 : Rests s s2 := snd_keeps (hplace _ _ _) heq
          exact hs2.trans (.of_sak (sak_raiseL _ _ _ _))
  · exact .refl s

theorem rests_mkaPnThr (l : Nat) (s : State) : Rests s (mkaPnThr l s) := by
  unfold mkaPnThr
  dsimp only
  split
  · exact .refl s
  · split
    · split
      · exact rests_makeSak _ _ _ s
      · exact .refl s
    · exact .refl s

theorem rests_thrAll (s : State) : Rests s (thrAll s) := by
  refine Rests.foldl (fun t i => ?_) _ s
  unfold thrCheck
  split
  · split
    · exact ((Rests.of_same (tx_only t _) (by decide) (by decide)).trans (.of_sak (sak_raiseL _ _ _ _))).trans (rests_mkaPnThr _ _)
    · exact .refl t
  · exact .refl t

theorem rekeyFabric_glb (s : State) : (rekeyFabric s).glb = s.glb := by
  have hport : ∀ t p, sameBut [.fab] t (match (portOf t p).peerAddr.bind (lsaAt t) with
      | some l => modPort p (fun x => { x with peerKeyOk := l.keyCheck == keyCheck t }) t
      | none => t) := fun t p => by
    split
    · exact fab_only t _
    · exact sameBut_refl _ _
  have hhop : ∀ p m t, sameBut sendParts t (sendHop p m t) := fun p m t => by
    unfold sendHop sendPort sendFrom
    dsimp only
    split
    · intro x hx
      cases x <;> simp_all [Part.same, sendParts, quePass]
    · exact sameBut_refl _ _
  have hlsa : ∀ t, (lsaOriginate t).glb = t.glb := fun t => by
    unfold lsaOriginate
    split
    · rfl
    · exact sameBut_foldl _ (fun u p => hhop p _ u) _ _ .glb (by decide)
  exact (hlsa _).trans ((sameBut_reroute _ .glb (by decide)).trans (sameBut_foldl _ hport _ s .glb (by decide)))

end Sys2Proof.Machine
end

section
/-! The resume: the image put in place, and its end. -/
namespace Sys2Proof.Machine

/-! The entries of an image leave the mode and start-up alone. -/

/-- What an entry returns. -/
theorem some_glb {x y : KeyMap × State} {g : Glb} (h : some x = some y) (hx : x.2.glb = g) : y.2.glb = g := by
  rwa [← Option.some.inj h]

theorem imageKey_glb {es : List ImgEntry} {num : Nat} {rx k : Bool} {km km' : KeyMap} {s t : State} {kid : Nat} {blob : List Byte}
    (h : imageKey es num rx k km s = some (kid, blob, km', t)) : t.glb = s.glb := by
  unfold imageKey at h
  split at h
  · exact absurd h (by simp)
  · dsimp only at h
    split at h
    · obtain ⟨-, -, -, rfl⟩ : _ ∧ _ ∧ _ ∧ s = t := by simpa using h
      rfl
    · split at h
      next key n s1 _ hfree =>
        have hs1 : s1.glb = s.glb := snd_keeps (P := fun u => u.glb = s.glb) (sak_freeSlot 0 8192 s .glb (by decide)) hfree
        obtain ⟨-, -, -, rfl⟩ : _ ∧ _ ∧ _ ∧ _ = t := by simpa using h
        split
        · exact hs1
        · exact (sak_writeKey _ _ _ _ _ _ _ s1 .glb (by decide)).trans hs1
      · exact absurd h (by simp)

theorem applyTx_glb {es : List ImgEntry} {e : ImgEntry} {km : KeyMap} {s : State} {y : KeyMap × State} (h : applyTx es e km s = some y) :
    y.2.glb = s.glb := by
  unfold applyTx at h
  dsimp only at h
  split at h
  · exact absurd h (by simp)
  · split at h
    · exact some_glb h rfl
    · split at h
      · exact absurd h (by simp)
      next kid blob km1 s1 hkey =>
        split at h
        · exact some_glb h rfl
        · exact some_glb h ((sak_addRef kid true s1 .glb (by decide)).trans (imageKey_glb hkey))

theorem applyRx_glb {es : List ImgEntry} {e : ImgEntry} {km : KeyMap} {s : State} {y : KeyMap × State} (h : applyRx es e km s = some y) :
    y.2.glb = s.glb := by
  unfold applyRx at h
  dsimp only at h
  split at h
  · exact absurd h (by simp)
  · split at h
    · exact absurd h (by simp)
    next kid blob km1 s1 hkey =>
      exact some_glb h ((sak_addRef kid true s1 .glb (by decide)).trans (imageKey_glb hkey))

theorem fabIckPlace_glb (key : Option (List Byte)) (s : State) : (fabIckPlace key s).glb = s.glb := by
  have hout : ∀ o : Option Nat, (match o with
      | some kid => (match kidSlot s kid with | some n => zeroSlot n s | none => s)
      | none => s).glb = s.glb := fun o => by
    split
    · split
      · exact sak_zeroSlot _ _ .glb (by decide)
      · rfl
    · rfl
  unfold fabIckPlace
  dsimp only
  split
  · exact hout _
  next k =>
    split
    next n s2 hroom =>
      have hs2 : s2.glb = _ := snd_keeps (P := fun u => u.glb = _) (sak_poolRoom _ _ .glb (by decide)) hroom
      exact (sak_writeKey n .deriveOnly true false .ick 3 (kdf k lblFabric [] 32) s2 .glb (by decide)).trans (hs2.trans (hout _))
    next s2 hroom =>
      have hs2 : s2.glb = _ := snd_keeps (P := fun u => u.glb = _) (sak_poolRoom _ _ .glb (by decide)) hroom
      exact hs2.trans (hout _)

theorem placeSc_glb {i l : Nat} {sci : W64} {s t : State} (h : placeSc i l sci s = some t) : t.glb = s.glb := by
  have hmoves : ∀ (ms : List (Nat × Nat)) (b : Nat) (u : State), (doMoves ms b u).glb = u.glb := fun ms => by
    induction ms with
    | nil => exact fun b u => rfl
    | cons m ms ih => exact fun b u => ih _ _
  unfold placeSc at h
  dsimp only at h
  split at h
  · rw [← Option.some.inj h]; rfl
  · split at h
    · obtain ⟨b, -, rfl⟩ := Option.map_eq_some_iff.1 h
      exact hmoves _ _ s
    · split at h
      · rw [← Option.some.inj h]
      · exact absurd h (by simp)

theorem applyEntry_glb {es : List ImgEntry} {e : ImgEntry} {x y : KeyMap × State} (h : applyEntry es e x = some y) : y.2.glb = x.2.glb := by
  obtain ⟨km, s⟩ := x
  unfold applyEntry at h
  dsimp only at h
  split at h
  case h_1 | h_6 | h_10 | h_11 => exact some_glb h rfl
  case h_2 =>
    split at h
    · exact absurd h (by simp)
    · split at h
      · exact some_glb h (fabIckPlace_glb _ _)
      · exact some_glb h rfl
  case h_3 =>
    split at h
    · exact absurd h (by simp)
    · exact some_glb h (sameBut_setPath _ _ _ .glb (by decide))
  case h_4 =>
    split at h
    · exact absurd h (by simp)
    · exact some_glb h rfl
  case h_5 =>
    split at h
    · exact absurd h (by simp)
    · obtain ⟨t, ht, rfl⟩ := Option.map_eq_some_iff.1 h
      exact (placeSc_glb ht : t.glb = s.glb)
  case h_7 => exact applyTx_glb h
  case h_8 => exact applyRx_glb h
  case h_9 =>
    split at h
    · exact absurd h (by simp)
    · exact some_glb h (sameBut_draw s .glb (by decide))

theorem applyEntries_glb {es rest : List ImgEntry} {x y : KeyMap × State} (h : applyEntries es rest x = some y) : y.2.glb = x.2.glb := by
  induction rest generalizing x with
  | nil => exact some_glb h rfl
  | cons e rest ih =>
    unfold applyEntries at h
    split at h
    next z hz => exact (ih h).trans (applyEntry_glb hz)
    next => exact absurd h (by simp)

/-! How a resume goes on and ends. -/

/-- The configuration is back and the region is being built (R88). -/
theorem resumeBuild_built (s : State) : (resumeBuild s).glb = { s.glb with change := s.glb.change.map (fun c => { c with kind := .built }) } ∧
    (resumeBuild s).cxm.rebuild = true ∧ (resumeBuild s).cxm.trusted = true := by
  have hglb := sameBut_buildRegion { s with ecfg := { s.ecfg with rearmed := 0 } } .glb (by decide)
  obtain ⟨htr, hre⟩ := buildRegion_cxm { s with ecfg := { s.ecfg with rearmed := 0 } }
  exact ⟨congrArg (fun g : Glb => { g with change := g.change.map (fun c : Change => { c with kind := .built }) }) hglb, hre, htr⟩

/-- What a failed resume leaves (R88). -/
structure ResumeFailed (s t : State) : Prop where
  change : t.glb.change = none
  stage : t.glb.bootStage = 6
  resume : t.glb.resume = 3
  mode : t.glb.mode = s.glb.mode
  event : eventSet t .jnl 0
  runs : ∀ r ∈ t.mci.running, r.wait ≠ .mode

theorem completeWhere_evt (f : Wait → Bool) (st : Nat) (ws : List W64) (s : State) : (completeWhere f st ws s).evt.get .jnl = s.evt.get .jnl := by
  have hall : ∀ (rs : List Running) t, (rs.foldl (fun t r => complete r.cmd st ws t) t).evt.get .jnl = t.evt.get .jnl := fun rs => by
    induction rs with
    | nil => exact fun t => rfl
    | cons r rs ih => exact fun t => (ih _).trans ((complete_keeps r.cmd st ws t).2 .jnl (by decide))
  exact hall _ s

theorem resumeFail_failed (s : State) : ResumeFailed s (settle (resumeFail s)) := by
  have hglb : (settle (resumeFail s)).glb = (setStage 6 (setResume 3 { s with glb := { s.glb with change := none } })).glb :=
    (sameBut_settle _ .glb (by decide)).trans ((rests_completeWhere _ _ _ _).glb.trans (by simp))
  have hmci : (settle (resumeFail s)).mci = (resumeFail s).mci := sameBut_settle _ .mci (by decide)
  refine ⟨?_, ?_, ?_, ?_, waiting_shows (by decide) ?_, fun r hr => ?_⟩
  iterate 4 rw [hglb]; rfl
  · unfold resumeFail
    rw [completeWhere_evt]
    simp [raise]
  · rw [hmci] at hr
    simpa using completeWhere_running r hr

/-- RESUME_COMPLETE of a running resume puts the image in place, or fails. -/
theorem resumeApply_outcome {s : State} (hf : drbgFull s = false) :
    resumeApply s = resumeFail s ∨ ∃ t, resumeApply s = resumeBuild t ∧ t.glb = s.glb := by
  unfold resumeApply
  simp only [hf]
  split
  next hif => exact absurd hif (by decide)
  next =>
    split
    next km t heq =>
      refine .inr ⟨_, rfl, ?_⟩
      exact (applyEntries_glb (Option.ite_none_right_eq_some.1 heq).2 : t.glb = s.glb)
    next => exact .inl rfl

theorem resumeApply_unsound {s : State} (hf : drbgFull s = false) (h : imageSound s = false) : resumeApply s = resumeFail s := by
  unfold resumeApply
  simp only [hf, h]
  rfl

/-- What a resume that has ended leaves (R88). -/
structure Resumed (t : State) : Prop where
  change : t.glb.change = none
  stage : t.glb.bootStage = 6
  resume : t.glb.resume = 2
  mode : t.glb.mode = .protect ∨ t.glb.mode = .degraded
  runs : ∀ r ∈ t.mci.running, r.wait ≠ .mode

theorem enterWorking_mode (c : Nat) (s : State) : (enterWorking c s).glb.mode = .protect ∨ (enterWorking c s).glb.mode = .degraded := by
  unfold enterWorking
  dsimp only
  split
  · split <;> simp [setMode]
  · split <;> simp [setMode]

theorem enterWorking_boot (c : Nat) (s : State) : (enterWorking c s).glb.change = s.glb.change ∧
    (enterWorking c s).glb.bootStage = s.glb.bootStage ∧ (enterWorking c s).glb.resume = s.glb.resume := ⟨rfl, rfl, rfl⟩

/-- The region is written: residents, SecYs, cuts and leases are there, and the BULK is on its way. -/
def resumeStarted (es : List ImgEntry) (s : State) : State :=
  let s1 := residentAll { s with cxm := { s.cxm with rebuild := false } }
  let s2 := (secyLinks s1).foldl (fun t l => rearm l (resumeSecy es l t)) s1
  resumeBulk ((smKeys s2.tx).foldl (fun t i => resumeLease i t) s2)

/-- What comes after that, whatever the state is. -/
def resumeLast (v : State) : State :=
  thrAll (completeWhere (fun w => w == .mode) stOk []
    (rekeyFabric (enterWorking 2 (setStage 6 (setResume 2 { v with glb := { v.glb with change := none } })))))

theorem resumeRun_eq (es : List ImgEntry) (s : State) : resumeRun es s = resumeLast (resumeStarted es s) := by
  simp only [resumeRun, resumeLast, resumeStarted]

/-- Traffic starts: the mode is set, the waiting command has its reply, and what follows leaves both. -/
theorem resumeLast_resumed (v : State) : Resumed (settle (resumeLast v)) := by
  unfold resumeLast
  generalize hu : enterWorking 2 (setStage 6 (setResume 2 { v with glb := { v.glb with change := none } })) = u
  have hthr := rests_thrAll (completeWhere (fun w => w == .mode) stOk [] (rekeyFabric u))
  have hglb : (settle (thrAll (completeWhere (fun w => w == .mode) stOk [] (rekeyFabric u)))).glb = u.glb :=
    (sameBut_settle _ .glb (by decide)).trans (hthr.glb.trans ((rests_completeWhere _ _ _ _).glb.trans (rekeyFabric_glb u)))
  have hmci := sameBut_settle (thrAll (completeWhere (fun w => w == .mode) stOk [] (rekeyFabric u))) .mci (by decide)
  obtain ⟨hchange, hstage, hresume⟩ := hu ▸ enterWorking_boot 2 (setStage 6 (setResume 2 { v with glb := { v.glb with change := none } }))
  refine ⟨?_, ?_, ?_, ?_, fun r hr => ?_⟩
  · rw [hglb, hchange]; rfl
  · rw [hglb, hstage]; rfl
  · rw [hglb, hresume]; rfl
  · rw [hglb, ← hu]; exact enterWorking_mode _ _
  · have hr' : r ∈ (thrAll (completeWhere (fun w => w == .mode) stOk [] (rekeyFabric u))).mci.running := by
      rwa [show (settle _).mci = _ from hmci] at hr
    simpa using completeWhere_running r (hthr.runs r hr')

/-- A change of that kind is under way. -/
theorem change_kind {s : State} {k : ChangeKind} (h : s.glb.change.any (fun c => c.kind == k) = true) : ∃ cmd, s.glb.change = some ⟨k, cmd⟩ := by
  cases hc : s.glb.change with
  | none => simp [hc] at h
  | some c =>
    rw [hc] at h
    have hk : c.kind = k := eq_of_beq h
    exact ⟨c.cmd, by rw [← hk]⟩

theorem resumeEnd_resume {s : State} (h : s.glb.change.any (fun c => c.kind == .resume) = true) : resumeEnd s = resumeApply s := by
  obtain ⟨cmd, hc⟩ := change_kind h
  simp only [resumeEnd, hc]

theorem resumeEnd_built {s : State} (h : s.glb.change.any (fun c => c.kind == .built) = true) :
    resumeEnd s = if cxmWriting s then s else resumeRun (imgEntries s) s := by
  obtain ⟨cmd, hc⟩ := change_kind h
  simp only [resumeEnd, hc]

theorem resumeEnd_other {s : State} (h : s.glb.change.all (fun c => c.kind != .resume && c.kind != .built) = true) : resumeEnd s = s := by
  unfold resumeEnd
  split
  next hc => simp [hc] at h
  next hc => simp [hc] at h
  all_goals rfl

/-! What start-up decides once the journal is resolved (R80, R88, R90). -/

theorem startupResume_none {v : State} (hm : v.glb.mode = .cold) (hi : v.jnl.image = none) :
    (startupResume v).jnl = v.jnl ∧ (startupResume v).glb = { v.glb with resume := 0, bootStage := 6 } := by
  rw [startupResume, if_neg (by rw [hm]; decide), if_pos (by rw [hi]; rfl)]
  exact ⟨rfl, rfl⟩

theorem startupResume_image {v : State} (hm : v.glb.mode = .cold) (hi : v.jnl.image.isSome = true) :
    (startupResume v).jnl = v.jnl ∧ (startupResume v).glb = if v.aon.lastMode = 5 then { v.glb with resume := 4, bootStage := 6 }
      else { v.glb with resume := 1, bootStage := 5, change := some { kind := .resume, cmd := none } } := by
  have hthere : v.jnl.image.isNone = false := Option.isNone_eq_false_iff.2 hi
  rw [startupResume, if_neg (by rw [hm]; decide), if_neg (by rw [hthere]; decide)]
  by_cases hlast : v.aon.lastMode = 5
  · rw [if_pos (by rw [hlast]; rfl), if_pos hlast]
    exact ⟨rfl, rfl⟩
  · rw [if_neg (by simpa using hlast), if_neg hlast]
    exact ⟨rfl, rfl⟩

theorem startupResume_left {v : State} (hm : v.glb.mode ≠ .cold) :
    (startupResume v).jnl = v.jnl ∧ (startupResume v).glb = { v.glb with bootStage := 6 } := by
  rw [startupResume, if_pos (bne_iff_ne.2 hm)]
  exact ⟨rfl, rfl⟩

/-- RESUME_COMPLETE of a running resume: it has failed, or the region is being built. -/
theorem resumeComplete_outcome {s : State} (hl : resetLow s = false) (hc : s.glb.change.any (fun c => c.kind == .resume) = true)
    (hf : drbgFull s = false) : ∃ t, exec .resumeComplete s = .next t ∧ (ResumeFailed s t ∨
      (t.glb.change.any (fun c => c.kind == .built) = true ∧ t.glb.resume = s.glb.resume ∧ t.glb.mode = s.glb.mode ∧
        t.cxm.rebuild = true ∧ t.cxm.trusted = true)) := by
  have hexec : exec .resumeComplete s = done (resumeApply s) := (run_high hl).trans (congrArg done (resumeEnd_resume hc))
  rcases resumeApply_outcome hf with hfail | ⟨t, hbuild, hglb⟩
  · exact ⟨_, hexec.trans (congrArg done hfail), .inl (resumeFail_failed s)⟩
  · obtain ⟨hbuilt, hrebuild, htrusted⟩ := resumeBuild_built t
    obtain ⟨cmd, hcmd⟩ := change_kind hc
    have hg : (settle (resumeBuild t)).glb = { s.glb with change := some ⟨.built, cmd⟩ } := by
      rw [show (settle (resumeBuild t)).glb = _ from sameBut_settle _ .glb (by decide), hbuilt, hglb, hcmd]
      rfl
    have hcxm : (settle (resumeBuild t)).cxm = (resumeBuild t).cxm := sameBut_settle _ .cxm (by decide)
    refine ⟨_, hexec.trans (congrArg done hbuild), .inr ?_⟩
    rw [hg, hcxm]
    exact ⟨rfl, rfl, rfl, hrebuild, htrusted⟩

/-- Settles O46: the resolution's tables without a record are `bare_resolveJournal`, what start-up decides rests on
`journalResolution_exec`, and a resume's outcomes are `resumeComplete_outcome`, `resumeFail_failed` and `resumeLast_resumed`. -/
theorem resolutionAndResume : Obligations.ResolutionAndResume := by
  unfold Obligations.ResolutionAndResume
  have hjnl : ∀ v : State, (settle v).jnl = v.jnl := fun v => sameBut_settle v .jnl (by decide)
  have hglb : ∀ v : State, (settle v).glb = v.glb := fun v => sameBut_settle v .glb (by decide)
  refine ⟨?noRecord, ?image, ?notCold, ?early, ?unsound, ?apply, ?built, ?idle⟩
  case noRecord =>
    intro s hl hr hd hm hcold hon hnone
    have hbare : Bare (resolvedOn s).jnl := by
      rw [resolvedOn_jnl]
      exact bare_resolveJournal fun e he => by simpa using List.all_eq_true.1 hnone e he
    have hmode : (resolvedOn s).glb.mode = .cold := (resolvedOn_boot s).cold.2 hcold
    obtain ⟨hj, hg⟩ := startupResume_none hmode hbare.image
    refine ⟨_, journalResolution_exec hl hr hd hm hon, ?_⟩
    rw [hjnl, hglb, hj, hg, hcold]
    generalize resolvedOn s = v at hbare hmode ⊢
    exact ⟨hbare.resolved, hbare.seq, hbare.hw, hbare.pmark, hbare.floors, hbare.image, rfl, rfl, hmode⟩
  case image =>
    intro s hl hr hd hm hcold hon himage
    have hmode : (resolvedOn s).glb.mode = .cold := (resolvedOn_boot s).cold.2 hcold
    have hres : (resolvedOn s).jnl.resolved = true := by rw [resolvedOn_jnl, resolveJournal_resolved]
    obtain ⟨hj, hg⟩ := startupResume_image hmode (by rw [resolvedOn_jnl, himage])
    refine ⟨_, journalResolution_exec hl hr hd hm hon, ?_⟩
    rw [hjnl, hglb, hj, hg, resolvedOn_aon]
    generalize resolvedOn s = v at hmode hres ⊢
    split
    · exact ⟨hres, hmode, rfl, rfl⟩
    · exact ⟨hres, hmode, rfl, rfl, rfl⟩
  case notCold =>
    intro s hl hr hd hm hcold hon
    have hboot := resolvedOn_boot s
    have hres : (resolvedOn s).jnl.resolved = true := by rw [resolvedOn_jnl, resolveJournal_resolved]
    obtain ⟨hj, hg⟩ := startupResume_left (mt hboot.cold.1 hcold)
    refine ⟨_, journalResolution_exec hl hr hd hm hon, ?_⟩
    rw [hjnl, hglb, hj, hg]
    generalize resolvedOn s = v at hboot hres ⊢
    exact ⟨hres, hboot.resume, rfl, hboot.change⟩
  case early =>
    intro s hl hearly
    have hnot : (s.jnl.resolved || s.jnl.readDone != 4096 || s.glb.mode == .lockout) = true := by simpa [or_assoc] using hearly
    have hexec : exec .journalResolution s = run s s := by
      show execJournalResolution s = _
      rw [execJournalResolution, if_pos hnot]
    exact ⟨_, hexec.trans (run_high hl), settled_settle _⟩
  case unsound =>
    intro s hl hc hf himage
    obtain ⟨hchange, hstage, hresume, hmode, hevent, hruns⟩ := resumeFail_failed s
    have hend : resumeEnd s = resumeFail s := (resumeEnd_resume hc).trans (resumeApply_unsound hf himage)
    exact ⟨_, (run_high hl).trans (congrArg done hend), hchange, hstage, hresume, hmode, hevent, hruns⟩
  case apply =>
    intro s hl hc hf
    obtain ⟨t, hexec, hfail | hbuild⟩ := resumeComplete_outcome hl hc hf
    · obtain ⟨hchange, hstage, hresume, hmode, hevent, hruns⟩ := hfail
      exact ⟨t, .inl ⟨hexec, hchange, hstage, hresume, hmode, hevent, hruns⟩⟩
    · exact ⟨t, .inr hbuild⟩
  case built =>
    intro s hl hc hw
    obtain ⟨hchange, hstage, hresume, hmode, hruns⟩ := resumeLast_resumed (resumeStarted (imgEntries s) s)
    have hend : resumeEnd s = resumeLast (resumeStarted (imgEntries s) s) :=
      (resumeEnd_built hc).trans ((if_neg (by rw [hw]; decide)).trans (resumeRun_eq _ s))
    exact ⟨_, (run_high hl).trans (congrArg done hend), hchange, hstage, hresume, hmode, hruns⟩
  case idle =>
    intro s hl hidle
    have hend : resumeEnd s = s := by
      rcases hidle with hother | ⟨hc, hf⟩ | ⟨hc, hw⟩
      · exact resumeEnd_other hother
      · rw [resumeEnd_resume hc, resumeApply]
        exact if_pos hf
      · rw [resumeEnd_built hc, if_pos hw]
    exact ⟨_, (run_high hl).trans (congrArg done hend), settled_settle _⟩

end Sys2Proof.Machine
end

section
/-! The counter mode of the lanes (R113, R140, R154). -/
namespace Sys2Proof.Machine

theorem slice_length (bs : List Byte) (i n : Nat) : (slice bs i n).length = n := by
  have hpart : ((bs.drop i).take n).length ≤ n := List.length_take_le _ _
  simp only [slice, List.length_append, List.length_replicate]
  omega

theorem aes_length (k b : List Byte) : (aes k b).length = 16 := slice_length _ _ _

theorem xorBytes_length {a b : List Byte} (h : a.length ≤ b.length) : (xorBytes a b).length = a.length := by
  rw [xorBytes, List.length_zipWith, Nat.min_eq_left h]

theorem xorBytes_cancel {a b : List Byte} (h : a.length ≤ b.length) : xorBytes (xorBytes a b) b = a := by
  refine List.ext_getElem (by rw [xorBytes_length (by rw [xorBytes_length h]; exact h), xorBytes_length h]) fun i _ _ => ?_
  simp only [xorBytes, List.getElem_zipWith, BitVec.xor_assoc, BitVec.xor_self, BitVec.xor_zero]

/-- The block cipher's output covers a block, whole or short. -/
theorem block_le_aes (k b bs : List Byte) : (bs.take 16).length ≤ (aes k b).length := by
  rw [aes_length]
  exact List.length_take_le _ _

@[simp] theorem gctr_nil (k iv : List Byte) (n i : Nat) : gctr k iv n i [] = [] := by
  cases n <;> rfl

/-- The first block and the rest; an empty run is no exception. -/
theorem gctr_succ (k iv : List Byte) (n i : Nat) (bs : List Byte) :
    gctr k iv (n + 1) i bs = xorBytes (bs.take 16) (aes k (ctrOf iv i)) ++ gctr k iv n (i + 1) (bs.drop 16) := by
  cases bs with
  | nil => simp [xorBytes]
  | cons b bs => rfl

theorem gctr_length (k iv : List Byte) (n i : Nat) (bs : List Byte) (h : bs.length ≤ 16 * n) :
    (gctr k iv n i bs).length = bs.length := by
  induction n generalizing i bs with
  | zero => exact (Nat.le_zero.1 h).symm
  | succ n ih =>
    have hrest : (bs.drop 16).length ≤ 16 * n := by rw [List.length_drop]; omega
    rw [gctr_succ, List.length_append, xorBytes_length (block_le_aes _ _ _), ih _ _ hrest, ← List.length_append,
      List.take_append_drop]

/-- The output is cut into blocks where the input is: a short first block leaves no rest. -/
theorem gctr_blocks (k iv : List Byte) (n i : Nat) (bs : List Byte) :
    (gctr k iv (n + 1) i bs).take 16 = xorBytes (bs.take 16) (aes k (ctrOf iv i)) ∧
      (gctr k iv (n + 1) i bs).drop 16 = gctr k iv n (i + 1) (bs.drop 16) := by
  have hfirst := xorBytes_length (block_le_aes k (ctrOf iv i) bs)
  rw [gctr_succ]
  rcases Nat.le_total bs.length 16 with hshort | hwhole
  · have hle : (xorBytes (bs.take 16) (aes k (ctrOf iv i))).length ≤ 16 := hfirst ▸ List.length_take_le _ _
    rw [List.drop_of_length_le hshort, gctr_nil, List.append_nil]
    exact ⟨List.take_of_length_le hle, List.drop_of_length_le hle⟩
  · have h16 := hfirst.trans (List.length_take_of_le hwhole)
    exact ⟨List.take_left' h16, List.drop_left' h16⟩

theorem gctr_gctr (k iv : List Byte) (n i : Nat) (bs : List Byte) (h : bs.length ≤ 16 * n) :
    gctr k iv n i (gctr k iv n i bs) = bs := by
  induction n generalizing i bs with
  | zero => exact (List.length_eq_zero_iff.1 (Nat.le_zero.1 h)).symm
  | succ n ih =>
    obtain ⟨hfirst, hrest⟩ := gctr_blocks k iv n i bs
    have hfuel : (bs.drop 16).length ≤ 16 * n := by rw [List.length_drop]; omega
    calc gctr k iv (n + 1) i (gctr k iv (n + 1) i bs)
        = xorBytes (xorBytes (bs.take 16) (aes k (ctrOf iv i))) (aes k (ctrOf iv i)) ++
            gctr k iv n (i + 1) (gctr k iv n (i + 1) (bs.drop 16)) := by rw [gctr_succ, hfirst, hrest]
      _ = bs.take 16 ++ bs.drop 16 := by rw [xorBytes_cancel (block_le_aes _ _ _), ih _ _ hfuel]
      _ = bs := List.take_append_drop 16 bs

theorem gcmCrypt_length (k iv bs : List Byte) : (gcmCrypt k iv bs).length = bs.length :=
  gctr_length k iv _ 1 bs (by omega)

/-- The ciphertext is as long as the plaintext, so that both passes take the same number of blocks. -/
theorem gcmCrypt_gcmCrypt (k iv bs : List Byte) : gcmCrypt k iv (gcmCrypt k iv bs) = bs := by
  rw [gcmCrypt, gcmCrypt_length]
  exact gctr_gctr k iv _ 1 bs (by omega)

/-- Settles O37: a block is XORed twice with the same output of the block cipher (`xorBytes_cancel`), block by block (`gctr_gctr`). -/
theorem lanesRunBothWays : Obligations.LanesRunBothWays := fun k iv bs =>
  ⟨gcmCrypt_gcmCrypt k iv bs, gcmCrypt_length k iv bs⟩

end Sys2Proof.Machine
end

section
/-! The SCI of a received frame (R131). -/
namespace Sys2Proof.Machine

theorem beNat_lt (bs : List Byte) : beNat bs < 256 ^ bs.length := by
  induction bs with
  | nil => simp [beNat]
  | cons b bs ih =>
    calc b.toNat * 256 ^ bs.length + beNat bs
      _ < b.toNat * 256 ^ bs.length + 256 ^ bs.length := by omega
      _ = (b.toNat + 1) * 256 ^ bs.length := by ring
      _ ≤ 256 * 256 ^ bs.length := Nat.mul_le_mul_right _ b.isLt
      _ = 256 ^ (b :: bs).length := by rw [List.length_cons, pow_succ]; ring

/-- Bytes above the `n` that are asked for do not show. -/
theorem beBytes_add_mul (n a v : Nat) : beBytes n (a * 256 ^ n + v) = beBytes n v := by
  induction n generalizing a with
  | zero => rfl
  | succ n ih =>
    have hmul : a * 256 ^ (n + 1) = a * 256 * 256 ^ n := by rw [pow_succ]; ring
    have hbyte : BitVec.ofNat 8 (a * 256 + v / 256 ^ n) = BitVec.ofNat 8 (v / 256 ^ n) := by
      apply BitVec.eq_of_toNat_eq
      simp [Nat.add_mod]
    rw [beBytes, beBytes, hmul, ih, Nat.add_comm, Nat.add_mul_div_right _ _ (by positivity), Nat.add_comm, hbyte]

theorem beBytes_beNat (bs : List Byte) : beBytes bs.length (beNat bs) = bs := by
  induction bs with
  | nil => rfl
  | cons b bs ih =>
    have hhead : (b.toNat * 256 ^ bs.length + beNat bs) / 256 ^ bs.length = b.toNat := by
      rw [Nat.add_comm, Nat.add_mul_div_right _ _ (by positivity), Nat.div_eq_of_lt (beNat_lt bs), Nat.zero_add]
    rw [List.length_cons, beBytes, beNat, hhead, beBytes_add_mul, ih, BitVec.ofNat_toNat, BitVec.setWidth_eq]

/-- The leading bytes of a number. -/
theorem beBytes_take (n k v : Nat) : (beBytes (n + k) v).take n = beBytes n (v / 256 ^ k) := by
  induction n with
  | zero => rfl
  | succ n ih => rw [Nat.succ_add, beBytes, List.take_succ_cons, ih, beBytes, Nat.div_div_eq_div_mul, ← pow_add, Nat.add_comm k n]

/-- The SCI that a SecTAG carries stands behind its PN. -/
theorem tagOf_sci {s : State} {bs : List Byte} {clear : Nat} {xpn : Bool} {t : Tag} (h : tagOf s bs clear xpn = some t) :
    t.sci = BitVec.ofNat 64 (beNat (slice bs (12 + 4 * vlanTags s bs clear + 8) 8)) := by
  unfold tagOf at h
  dsimp only at h
  split at h
  · cases h
  · rw [← Option.some.inj h]

theorem sciOf_carried {s : State} {l : Nat} {bs : List Byte} {t : Tag} (hsc : t.bit 5 = true) : sciOf s l bs t = some t.sci := if_pos hsc

theorem sciOf_endStation {s : State} {l : Nat} {bs : List Byte} {t : Tag} (hsc : t.bit 5 = false) (hes : t.bit 6 = true) :
    sciOf s l bs t = some (BitVec.ofNat 64 (beNat (slice bs 6 6) * 65536 + 1)) :=
  (if_neg (ne_true_of_eq_false hsc)).trans (if_pos hes)

theorem sciOf_only {s : State} {l : Nat} {bs : List Byte} {t : Tag} (hsc : t.bit 5 = false) (hes : t.bit 6 = false) :
    sciOf s l bs t = match scsOfLink s l with | [c] => (scOf s c).map (·.sci) | _ => none :=
  (if_neg (ne_true_of_eq_false hsc)).trans (if_neg (ne_true_of_eq_false hes))

/-- A source address with port identifier 1. -/
theorem endStation_sci {addr : List Byte} (h : addr.length = 6) :
    (beBytes 8 (BitVec.ofNat 64 (beNat addr * 65536 + 1)).toNat).take 6 = addr ∧
      (BitVec.ofNat 64 (beNat addr * 65536 + 1)).toNat % 65536 = 1 := by
  have hlt : beNat addr < 2 ^ 48 := by have := beNat_lt addr; rw [h] at this; omega
  have hnat : (BitVec.ofNat 64 (beNat addr * 65536 + 1)).toNat = beNat addr * 65536 + 1 := by
    rw [BitVec.toNat_ofNat, Nat.mod_eq_of_lt (by omega)]
  have hdiv : (beNat addr * 65536 + 1) / 256 ^ 2 = beNat addr := by omega
  rw [hnat]
  refine ⟨?_, by omega⟩
  rw [beBytes_take 6 2, hdiv, ← h, beBytes_beNat]

/-- Settles O60, bullet by bullet of R131 (`sciOf_carried`, `sciOf_endStation`, `sciOf_only`). -/
theorem frameSci : Obligations.FrameSci := by
  unfold Obligations.FrameSci
  refine ⟨?carried, ?endStation, ?only, ?unknown⟩
  case carried =>
    intro s l bs clear xpn t ht hsc
    rw [sciOf_carried hsc, tagOf_sci ht]
  case endStation =>
    intro s l bs clear xpn t _ hsc hes _
    exact ⟨_, sciOf_endStation hsc hes, endStation_sci (slice_length _ _ _)⟩
  case only =>
    intro s l bs clear xpn t c z _ hsc hes hone hz
    simp only [sciOf_only hsc hes, hone, hz, Option.map_some]
  case unknown =>
    intro s l bs clear xpn t _ hsc hes hlen
    rw [sciOf_only hsc hes]
    split
    next c hone => exact absurd (by rw [hone]; rfl) hlen
    next => rfl

end Sys2Proof.Machine
end

section
/-! The end of an overlap during a CAK change, when a CA has two participants. -/
namespace Sys2Proof.Machine

/-- A participant without peers or SAK, for AN 0. -/
def newParticipant : MkPart :=
  { ckn := [2], k256 := false, cak := [], mi := 6, mn := 0, peers := [], ks := none, kn := 0, an := 0, suite := 0, off := 0, txKid := none,
    rxKid := none, phase := .none, cutT := 0, want := false }

/-- The participant whose SAK is in use under AN 0. -/
def participantInUse : MkPart := { newParticipant with ckn := [1], mi := 5, kn := 1, phase := .done }

/-- A receive SA of AN 0. -/
def overlapSa : Sa := newSa 0 0 0 1 0 [] 0 [] 0

/-- Link 0 under MKA in a CAK change: the first participant's SAK is in use, the second has none yet; receive SC 0 has its SA of AN 0. -/
def cakChange : State :=
  { State.reset with
    glb := { Glb.reset with mode := .protect }
    secys := [(0, some (newSecy 1 0x80000000000 0))]
    sct := { ScTab.reset with scs := [(0, some ⟨0, 7⟩)] }
    rx := [(0, some overlapSa)]
    svc := { Svc.reset with cas := [(0, { MkCa.reset with enabled := true, first := some participantInUse, second := some newParticipant })] } }

/-- The SA of the SAK in use stays. -/
theorem overlapEnd_cakChange {t : State} (h : exec (.overlapEnd 0 0 0) cakChange = .next t) : rxOf t 0 = some overlapSa := by
  have hrow : exec (.overlapEnd 0 0 0) cakChange = run cakChange cakChange := by
    show execOverlapEnd 0 0 0 cakChange = _
    unfold execOverlapEnd
    rw [if_neg (by decide)]
  rw [hrow, run_high rfl] at h
  obtain rfl := Host.Outcome.next.inj h
  rfl

/-- Refutes O50, at its clause on OVERLAP_END for an SA without frames: the quantifier over the participants reaches over the rest of the
clause, so that one participant without a SAK under the AN is enough; in a CAK change (`cakChange`) the other one uses the SA, which stays. -/
theorem not_keyAgreement : ¬ Obligations.KeyAgreement := by
  unfold Obligations.KeyAgreement
  rintro ⟨-, -, -, -, -, -, -, -, -, -, -, -, hend, -⟩
  obtain ⟨t, ht, hgone, -⟩ := hend cakChange 0 0 0 ⟨0, 7⟩ rfl rfl rfl newParticipant (by decide) (.inr rfl) (by decide) (by decide)
    (by decide) (by decide)
  rw [overlapEnd_cakChange ht] at hgone
  cases hgone

end Sys2Proof.Machine
end

section
/-! Receive SCs: their table, and the commands that write it. -/
namespace Sys2Proof.Machine

/-- What acceptance leaves as it is does not see it. -/
theorem accepted_view {α : Sort*} (f : State → α) (s : State)
    (h : ∀ m t q, f { s with mci := m, tel := t, que := q } = f s) : f (accepted s) = f s := by
  rw [accepted_eq, h]

theorem linkMka_some {s : State} {l : Nat} {y : Secy} (hy : secyOf s l = some y) (h : txpMka y.txp = false) : linkMka s l = false := by
  simp [linkMka, hy, h]

theorem firstFrom_holds {p : Nat → Bool} {i n k : Nat} (h : firstFrom p i n = some k) : p k = true := by
  induction n generalizing i with
  | zero => cases h
  | succ n ih =>
    unfold firstFrom at h
    split at h
    next hi => exact Option.some.inj h ▸ hi
    next => exact ih h

/-! The operations of the SC table read and write the table alone: on any state with the same table they do the same to it. -/

theorem doMoves_table (ms : List (Nat × Nat)) (d : Nat) (b s : State) :
    doMoves ms d { b with sct := s.sct } = { b with sct := (doMoves ms d s).sct } := by
  induction ms generalizing d s with
  | nil => rfl
  | cons m ms ih =>
    obtain ⟨f, e⟩ := m
    exact ih f (setBucket f ((bucket (setBucket d (bucket s d ++ [e]) s) f).filter (· != e)) (setBucket d (bucket s d ++ [e]) s))

theorem movePath_table (n : Nat) (q : List (Nat × List (Nat × Nat))) (seen : List Nat) (b s : State) :
    movePath { b with sct := s.sct } n q seen = movePath s n q seen := by
  induction n generalizing q seen with
  | zero => rfl
  | succ n ih =>
    cases q with
    | nil => rfl
    | cons e q =>
      have hb : ∀ k, bucket { b with sct := s.sct } k = bucket s k := fun _ => rfl
      have ho : ∀ k j, otherBucket { b with sct := s.sct } k j = otherBucket s k j := fun _ _ => rfl
      simp only [movePath, ih, hb, ho]

theorem pullStash_table (b s : State) : pullStash { b with sct := s.sct } = { b with sct := (pullStash s).sct } := by
  have hsc : ∀ e, scOf { b with sct := s.sct } e = scOf s e := fun _ => rfl
  have hbs : ∀ l sci, bucketsOf { b with sct := s.sct } l sci = bucketsOf s l sci := fun _ _ => rfl
  have hb : ∀ k, bucket { b with sct := s.sct } k = bucket s k := fun _ => rfl
  unfold pullStash
  simp only [hsc, hbs, hb]
  split
  · split <;> rfl
  · rfl

theorem placeSc_table (i l : Nat) (sci : W64) (b s : State) :
    placeSc i l sci { b with sct := s.sct } = (placeSc i l sci s).map (fun u => { b with sct := u.sct }) := by
  have hbs : bucketsOf { b with sct := s.sct } l sci = bucketsOf s l sci := rfl
  have hb : ∀ k, bucket { b with sct := s.sct } k = bucket s k := fun _ => rfl
  unfold placeSc
  simp only [hbs, hb, movePath_table]
  split
  · rfl
  · split
    · rw [doMoves_table, Option.map_map]
      rfl
    · split <;> rfl

theorem addSc_table (l : Nat) (sci : W64) (b s : State) : addSc l sci { b with sct := s.sct, rng := s.rng } =
    ((addSc l sci s).1, { b with sct := (addSc l sci s).2.sct, rng := (addSc l sci s).2.rng }) := by
  have hfree : freeSc { b with sct := s.sct, rng := s.rng } = ((freeSc s).1, { b with sct := s.sct, rng := s.rng + 1 }) := rfl
  have hpull : pullStash { b with sct := s.sct, rng := s.rng + 1 } = { b with sct := (pullStash (freeSc s).2).sct, rng := s.rng + 1 } :=
    pullStash_table { b with rng := s.rng + 1 } (freeSc s).2
  have hplace : ∀ i, placeSc i l sci { b with sct := (pullStash (freeSc s).2).sct, rng := s.rng + 1 } = _ := fun i =>
    placeSc_table i l sci { b with rng := s.rng + 1 } (pullStash (freeSc s).2)
  have hrng : ∀ i u, placeSc i l sci (pullStash (freeSc s).2) = some u → u.rng = s.rng + 1 := fun i u hu => by
    have hsame : pullStash (freeSc s).2 = _ := pullStash_table (freeSc s).2 (freeSc s).2
    have := placeSc_table i l sci (pullStash (freeSc s).2) (pullStash (freeSc s).2)
    rw [hu] at this
    rw [Option.some.inj this, hsame]
    rfl
  unfold addSc
  rw [hfree]
  cases hi : freeSc s with
  | mk o u =>
    cases o with
    | none => rfl
    | some i =>
      simp only [hi] at hpull hplace hrng
      simp only [hpull, hplace]
      cases hp : placeSc i l sci (pullStash u) with
      | none => rfl
      | some w => simp only [Option.map_some, hrng i w hp]

/-- Where no place is found nothing changes. -/
theorem addSc_none {l : Nat} {sci : W64} {s : State} (h : (addSc l sci s).1 = none) : (addSc l sci s).2 = s := by
  revert h
  unfold addSc
  split
  · split
    · exact fun h => nomatch h
    · exact fun _ => rfl
  · exact fun _ => rfl

theorem freeSc_some {i : Nat} {s : State} (h : (freeSc s).1 = some i) : scOf s i = none := by
  obtain ⟨k, hk, rfl⟩ := Option.map_eq_some_iff.1 h
  exact Option.isNone_iff_eq_none.1 (firstFrom_holds (p := fun k => (scOf s ((Config.pick s.rng + k) % 16384)).isNone) hk)

/-- The index of a new SC held none, and holds it then. -/
theorem addSc_some {l i : Nat} {sci : W64} {s : State} (h : (addSc l sci s).1 = some i) :
    scOf s i = none ∧ scOf (addSc l sci s).2 i = some ⟨l, sci⟩ := by
  revert h
  unfold addSc
  split
  next hfree =>
    split
    next =>
      rintro ⟨⟩
      exact ⟨freeSc_some (congrArg Prod.fst hfree), by simp [scOf]⟩
    next => exact fun h => nomatch h
  next => exact fun h => nomatch h

/-- A packet's acceptance does not touch the placement. -/
theorem addSc_accepted (l : Nat) (sci : W64) (s : State) : (addSc l sci (accepted s)).1 = (addSc l sci s).1 ∧
    (addSc l sci (accepted s)).2.sct = (addSc l sci s).2.sct ∧ sameBut [.sct, .rng] (accepted s) (addSc l sci (accepted s)).2 := by
  have hsct : (accepted s).sct = s.sct := sameBut_accepted s .sct (by decide)
  have hrng : (accepted s).rng = s.rng := sameBut_accepted s .rng (by decide)
  have htable : addSc l sci (accepted s) = ((addSc l sci s).1,
      { accepted s with sct := (addSc l sci s).2.sct, rng := (addSc l sci s).2.rng }) := by
    have h := addSc_table l sci (accepted s) s
    rw [← hsct, ← hrng] at h
    exact h
  refine ⟨by rw [htable], by rw [htable], ?_⟩
  rw [htable]
  intro x hx
  cases x <;> simp_all [Part.same]

theorem sameBut_removeSc (i : Nat) (s : State) : sameBut [.sct] s (removeSc i s) := by
  intro x hx
  cases x <;> simp_all [Part.same, removeSc]

theorem scOf_removeSc (i : Nat) (s : State) (j : Nat) : scOf (removeSc i s) j = if j = i then none else scOf s j := by simp [scOf, removeSc]

theorem scOf_congr {s t : State} (h : t.sct = s.sct) (i : Nat) : scOf t i = scOf s i := by rw [scOf, scOf, h]

/-! The effects of the commands. -/

section
variable {p : Pkt} {s v : State} {y : Secy}

theorem scAddRxEff_there (hb : onlyBits 0x3FF (wordAt p.words 0) = true) (hy : secyOf v (fld (wordAt p.words 0) 0 10) = some y)
    (hf : (findSc v (fld (wordAt p.words 0) 0 10) (wordAt p.words 1)).isSome = true) :
    scAddRxEff (newCmd 0x20 p s) v = fail (newCmd 0x20 p s) stWrongState v := by
  have hw : ∀ k, (newCmd 0x20 p s).w k = wordAt p.words k := fun _ => rfl
  unfold scAddRxEff
  simp only [hw, hy]
  rw [if_neg (by rw [hb]; decide), if_pos hf]

/-- A new SCI on a SecY without MKA is placed. -/
theorem scAddRxEff_new (hb : onlyBits 0x3FF (wordAt p.words 0) = true) (hy : secyOf v (fld (wordAt p.words 0) 0 10) = some y)
    (hm : txpMka y.txp = false) (hf : findSc v (fld (wordAt p.words 0) 0 10) (wordAt p.words 1) = none) :
    scAddRxEff (newCmd 0x20 p s) v =
      (addSc (fld (wordAt p.words 0) 0 10) (wordAt p.words 1) v).1.elim
        (fail (newCmd 0x20 p s) stNoResource (addSc (fld (wordAt p.words 0) 0 10) (wordAt p.words 1) v).2)
        (fun i => complete (newCmd 0x20 p s) stOk [put i 0 14] (addSc (fld (wordAt p.words 0) 0 10) (wordAt p.words 1) v).2) := by
  have hw : ∀ k, (newCmd 0x20 p s).w k = wordAt p.words k := fun _ => rfl
  unfold scAddRxEff
  simp only [hw, hy, linkMka_some hy hm, hf, Bool.false_and]
  rw [if_neg (by rw [hb]; decide), if_neg (by decide), if_neg (by decide)]
  obtain ⟨o, t⟩ := addSc (fld (wordAt p.words 0) 0 10) (wordAt p.words 1) v
  cases o <;> rfl

section
variable {c : Sc} (hb : onlyBits 0x3FFF (wordAt p.words 0) = true) (hc : scOf v (fld (wordAt p.words 0) 0 14) = some c)
include hb hc

theorem scRemoveRxEff_free (hsa : ∀ a, a < 4 → rxOf v (4 * fld (wordAt p.words 0) 0 14 + a) = none) (hm : linkMka v c.link = false) :
    scRemoveRxEff (newCmd 0x21 p s) v = ok (newCmd 0x21 p s) (removeSc (fld (wordAt p.words 0) 0 14) v) := by
  have hw : ∀ k, (newCmd 0x21 p s).w k = wordAt p.words k := fun _ => rfl
  have hnone : (List.range 4).any (fun a => (rxOf v (4 * fld (wordAt p.words 0) 0 14 + a)).isSome) = false :=
    List.any_eq_false.2 fun a ha => by rw [hsa a (List.mem_range.1 ha)]; decide
  unfold scRemoveRxEff
  simp only [hw, hc, hm, Bool.false_and]
  rw [if_neg (by rw [hb]; decide), if_neg (by rw [hnone]; decide), if_neg (by decide)]

theorem scRemoveRxEff_used {a : Nat} (ha : a < 4) (hsa : (rxOf v (4 * fld (wordAt p.words 0) 0 14 + a)).isSome = true) :
    scRemoveRxEff (newCmd 0x21 p s) v = fail (newCmd 0x21 p s) stWrongState v := by
  have hw : ∀ k, (newCmd 0x21 p s).w k = wordAt p.words k := fun _ => rfl
  unfold scRemoveRxEff
  simp only [hw, hc]
  rw [if_neg (by rw [hb]; decide), if_pos (List.any_eq_true.2 ⟨a, List.mem_range.2 ha, hsa⟩)]

end

end

/-- Settles O24: the commands' checks lead to the placement (`scAddRxEff_new`, `addSc_none`, `addSc_some`) and to the removal
(`scRemoveRxEff_free`), neither of which sees that a packet was accepted (`addSc_accepted`). -/
theorem receiveChannels : Obligations.ReceiveChannels := by
  unfold Obligations.ReceiveChannels
  have hsecy : ∀ s l, secyOf (accepted s) l = secyOf s l := fun s => secyOf_congr (sameBut_accepted s .secys (by decide))
  have hsct : ∀ s, (accepted s).sct = s.sct := fun s => sameBut_accepted s .sct (by decide)
  refine ⟨?add, ?there, ?remove, ?used⟩
  case add =>
    intro p s n y hstart hb hy hm hf
    obtain ⟨hn, hr⟩ := startsNow_req hstart
    have hfind : findSc (accepted s) (fld (wordAt p.words 0) 0 10) (wordAt p.words 1) = none := (findSc_congr (hsct s) _ _).trans hf
    obtain ⟨hplace, htable, hframe⟩ := addSc_accepted (fld (wordAt p.words 0) 0 10) (wordAt p.words 1) s
    have hexec : exec (.scAddRx p) s = _ := row_now rfl hstart
    rw [scAddRxEff_new hb ((hsecy s _).trans hy) hm hfind] at hexec
    refine ⟨_, hexec, fun h => ?_, fun i h => ?_⟩
    · have hsame := addSc_none (hplace.trans h)
      rw [show addSc (fld (wordAt p.words 0) 0 10) (wordAt p.words 1) (accepted s) = (none, accepted s) from
        Prod.ext (hplace.trans h) hsame]
      exact complete_answered hn hr _ _
    · obtain ⟨hfree, -⟩ := addSc_some h
      obtain ⟨-, hnew⟩ := addSc_some (hplace.trans h)
      generalize addSc (fld (wordAt p.words 0) 0 10) (wordAt p.words 1) (accepted s) = x at *
      obtain ⟨o, u⟩ := x
      obtain rfl : o = some i := hplace.trans h
      have hdone : (settle (complete (newCmd 0x20 p s) stOk [put i 0 14] u)).sct = u.sct := complete_frame hr _ .sct (by decide)
      obtain ⟨hreply, hsame⟩ := complete_replies (st := stOk) (ws := [put i 0 14])
        (ps := [.mci, .evt, .tel, .cnt, .que, .sct, .rng]) (op := 0x20) (s := s) (u := u) hn hr
        (by rw [hframe .mci (by decide), accepted_mci])
        (sameBut_trans (sameBut_mono (sameBut_accepted s) (by decide)) (sameBut_mono hframe (by decide))) (by decide)
      exact ⟨hreply, hfree, (scOf_congr hdone i).trans hnew, hdone.trans htable, hsame⟩
  case there =>
    intro p s n y hstart hb hy hf
    obtain ⟨hn, hr⟩ := startsNow_req hstart
    refine ⟨_, row_now rfl hstart, ?_⟩
    rw [scAddRxEff_there hb ((hsecy s _).trans hy) (by rw [findSc_congr (hsct s), hf])]
    exact complete_answered hn hr _ _
  case remove =>
    intro p s n c hstart hb hc hsa hm
    obtain ⟨hn, hr⟩ := startsNow_req hstart
    have hrx : ∀ j, rxOf (accepted s) j = rxOf s j := fun j => accepted_view (fun v => rxOf v j) s fun _ _ _ => rfl
    have hmka : linkMka (accepted s) c.link = false := (accepted_view (fun v => linkMka v c.link) s fun _ _ _ => rfl).trans hm
    have hanswer : answered 0x21 n p 0 [] (removeSc (fld (wordAt p.words 0) 0 14) s)
        (settle (ok (newCmd 0x21 p s) (removeSc (fld (wordAt p.words 0) 0 14) (accepted s)))) := by
      refine complete_changed (s := s) hn hr ?_ (by rfl) (by rfl) (by rfl) (by rfl) _ _
      exact congrArg (removeSc _) (accepted_eq s)
    have hsc : ∀ j, scOf (settle (ok (newCmd 0x21 p s) (removeSc (fld (wordAt p.words 0) 0 14) (accepted s)))) j =
        if j = fld (wordAt p.words 0) 0 14 then none else scOf s j := fun j =>
      (scOf_congr (complete_frame hr [] .sct (by decide)) j).trans ((scOf_removeSc _ _ j).trans (by rw [scOf_congr (hsct s)]))
    refine ⟨_, row_now rfl hstart, ?_⟩
    rw [scRemoveRxEff_free hb ((scOf_congr (hsct s) _).trans hc) (fun a ha => (hrx _).trans (hsa a ha)) hmka]
    exact ⟨hanswer, (hsc _).trans (if_pos rfl), fun j hj => (hsc j).trans (if_neg hj)⟩
  case used =>
    intro p s n c a hstart hb hc ha hsa
    obtain ⟨hn, hr⟩ := startsNow_req hstart
    have hrx : rxOf (accepted s) (4 * fld (wordAt p.words 0) 0 14 + a) = rxOf s (4 * fld (wordAt p.words 0) 0 14 + a) :=
      accepted_view (fun v => rxOf v (4 * fld (wordAt p.words 0) 0 14 + a)) s fun _ _ _ => rfl
    refine ⟨_, row_now rfl hstart, ?_⟩
    rw [scRemoveRxEff_used hb ((scOf_congr (hsct s) _).trans hc) ha (hrx ▸ hsa)]
    exact complete_answered hn hr _ _

end Sys2Proof.Machine
end

section
/-! SAs: what installing, retiring and removing one writes, and the commands that do so. -/
namespace Sys2Proof.Machine

/-! The receive SAs. -/

theorem rx_only (s : State) (m : SMap (Option Sa)) : sameBut [.rx] s { s with rx := m } := by
  intro x hx
  cases x <;> simp_all [Part.same]

theorem sameBut_setRx (r : Nat) (a : Option Sa) (s : State) : sameBut [.rx] s (setRx r a s) := rx_only s _

theorem rxOf_of_rx {s t : State} (h : t.rx = s.rx) (i : Nat) : rxOf t i = rxOf s i := congrArg (fun m => smGet none m i) h

theorem modRx_some {s : State} {r : Nat} {a : Sa} (h : rxOf s r = some a) (f : Sa → Sa) : modRx r f s = setRx r (some (f a)) s := by
  rw [modRx, h]

/-- What a receive SA's change writes: the SA and its line. -/
def rxParts : List Part := [.rx, .cis, .cxm, .out, .cnt, .tel]

theorem rxParts_dirty (r : Nat) (a : Option Sa) (s : State) : sameBut rxParts s (dirtyLine (rxLine r) (setRx r a s)) :=
  sameBut_trans (sameBut_mono (sameBut_setRx r a s) (by decide)) (sameBut_mono (ctx_dirtyLine _ _) (by decide))

theorem rxOf_dirty (r : Nat) (a : Option Sa) (s : State) (j : Nat) :
    rxOf (dirtyLine (rxLine r) (setRx r a s)) j = if j = r then a else rxOf s j := by
  rw [rxOf_of_rx (ctx_dirtyLine _ _ .rx (by decide)), rxOf_setRx]

/-- What the installation or the removal of a receive SA writes beside the SA: its key's references, its line, its FLOOR cell. -/
def rxKeyParts : List Part := [.rx, .vlt, .cis, .cxm, .out, .cnt, .tel, .jnl, .evt]

/-- A journal cell queued leaves the receive SAs. -/
theorem rxKeyParts_worked {s t : State} (h : JWorked s t) : sameBut rxKeyParts s t ∧ t.rx = s.rx :=
  ⟨sameBut_mono h.same (by decide), h.same .rx (by decide)⟩

theorem installRx_writes (r : Nat) (a : Sa) (s : State) :
    sameBut rxKeyParts s (installRx r a s) ∧ ∀ j, rxOf (installRx r a s) j = if j = r then some { a with tInst := now s } else rxOf s j := by
  have hset : sameBut rxKeyParts s (setRx r (some { a with tInst := now s }) (addRef a.kid true s)) :=
    sameBut_trans (sameBut_mono (sameBut_addRef a.kid true s) (by decide)) (sameBut_mono (sameBut_setRx _ _ _) (by decide))
  have hrx : ∀ j, rxOf (setRx r (some { a with tInst := now s }) (addRef a.kid true s)) j =
      if j = r then some { a with tInst := now s } else rxOf s j := fun j => by
    rw [rxOf_setRx, rxOf_of_rx (sameBut_addRef a.kid true s .rx (by decide))]
  have hline : ∀ (c : Bool) (t : State), sameBut rxKeyParts t (if c then writeLine (rxLine r) t else t) ∧
      (if c then writeLine (rxLine r) t else t).rx = t.rx := fun c t => by
    cases c
    · exact ⟨sameBut_refl _ _, rfl⟩
    · exact ⟨sameBut_mono (ctx_writeLine _ _) (by decide), ctx_writeLine _ _ .rx (by decide)⟩
  unfold installRx
  dsimp only
  split
  · exact ⟨sameBut_trans hset (hline _ _).1, fun j => (rxOf_of_rx (hline _ _).2 j).trans (hrx j)⟩
  · have hcell := fun t x => rxKeyParts_worked
      (worked_jIssue (worked_jAdd 4 (.cell 5 r (markVal a.floor)) .nothing (worked_jnl (s := t) (j := { t.jnl with floors := x }) rfl)))
    exact ⟨sameBut_trans (sameBut_trans hset (hline _ _).1) (hcell _ _).1, fun j =>
      (rxOf_of_rx ((hcell _ _).2.trans (hline _ _).2) j).trans (hrx j)⟩

theorem removeRx_writes (r : Nat) (s : State) :
    sameBut rxKeyParts s (removeRx r s) ∧ ∀ j, rxOf (removeRx r s) j = if j = r then none else rxOf s j := by
  unfold removeRx
  split
  next a ha =>
    have hfree : sameBut rxKeyParts s (freeLine (rxLine r) (setRx r none (addRef a.kid false s))) :=
      sameBut_trans (sameBut_trans (sameBut_mono (sameBut_addRef a.kid false s) (by decide)) (sameBut_mono (sameBut_setRx _ _ _) (by decide)))
        (sameBut_mono (ctx_freeLine _ _) (by decide))
    have hrx : ∀ j, rxOf (freeLine (rxLine r) (setRx r none (addRef a.kid false s))) j = if j = r then none else rxOf s j := fun j => by
      rw [rxOf_of_rx (ctx_freeLine _ _ .rx (by decide)), rxOf_setRx, rxOf_of_rx (sameBut_addRef a.kid false s .rx (by decide))]
    dsimp only
    split
    · exact ⟨hfree, hrx⟩
    · have hcell := fun t x => rxKeyParts_worked
        (worked_jIssue (worked_jAdd 4 (.cell 8 r 5) .nothing (worked_jnl (s := t) (j := { t.jnl with floors := x }) rfl)))
      exact ⟨sameBut_trans hfree (hcell _ _).1, fun j => (rxOf_of_rx (hcell _ _).2 j).trans (hrx j)⟩
  next h => exact ⟨sameBut_refl _ _, fun j => by split <;> simp_all⟩

theorem retireRx_writes {r : Nat} {a : Sa} {s : State} (h : rxOf s r = some a) : sameBut rxParts s (retireRx r s) ∧
    ∀ j, rxOf (retireRx r s) j = if j = r then some { a with retiring := true, enabled := false } else rxOf s j := by
  rw [retireRx, modRx_some h]
  exact ⟨rxParts_dirty _ _ _, rxOf_dirty _ _ _⟩

/-! The transmit SAs. -/

theorem modTx_some {s : State} {i : Nat} {a : Sa} (h : txOf s i = some a) (f : Sa → Sa) : modTx i f s = setTx i (some (f a)) s := by
  rw [modTx, h]

theorem sameBut_lineChanged (n : Nat) (s : State) : sameBut [.cis, .cxm] s (lineChanged n s) := by
  unfold lineChanged
  repeat' split
  all_goals
    intro x hx
    cases x <;> simp_all [Part.same]

/-- An SA without its leases. -/
def Sa.noLease (a : Sa) : Sa := { a with lease := .none, cur := ⟨0, 0⟩, nxt := ⟨0, 0⟩ }

theorem leaseAbandon_some {s : State} {i : Nat} {a : Sa} (h : txOf s i = some a) : leaseAbandon i s = putTx i a.noLease s := by
  rw [leaseAbandon, h]
  rfl

theorem sameBut_leaseAbandon (i : Nat) (s : State) : sameBut [.tx, .cis, .cxm] s (leaseAbandon i s) := by
  unfold leaseAbandon
  split
  · exact sameBut_trans (sameBut_mono (tx_only s _) (by decide)) (sameBut_mono (sameBut_lineChanged _ _) (by decide))
  · exact sameBut_refl _ _

theorem retireTx_writes {i : Nat} {a : Sa} {s : State} (h : txOf s i = some a) : sameBut [.tx, .cis, .cxm] s (retireTx i s) ∧
    ∀ j, txOf (retireTx i s) j = if j = i then some { a.noLease with retiring := true } else txOf s j := by
  have hleft : txOf (leaseAbandon i s) i = some a.noLease := by rw [leaseAbandon_some h, txOf_putTx, if_pos rfl]
  refine ⟨sameBut_trans (sameBut_leaseAbandon i s) (sameBut_mono (sameBut_modTx _ _ _) (by decide)), fun j => ?_⟩
  rw [retireTx, modTx_some hleft, txOf_setTx, leaseAbandon_some h, txOf_putTx]
  split <;> rfl

/-- What the removal of a transmit SA writes. -/
def txKeyParts : List Part := [.tx, .vlt, .cis, .cxm, .out, .cnt, .tel]

theorem removeTx_writes (i : Nat) (s : State) :
    sameBut txKeyParts s (removeTx i s) ∧ ∀ j, txOf (removeTx i s) j = if j = i then none else txOf s j := by
  unfold removeTx
  split
  next a ha =>
    have hleft : ∀ j, j ≠ i → txOf (leaseAbandon i s) j = txOf s j := fun j hj => by rw [leaseAbandon_some ha, txOf_putTx, if_neg hj]
    have hlease : sameBut txKeyParts s (addRef a.kid false (leaseAbandon i s)) :=
      sameBut_trans (sameBut_mono (sameBut_leaseAbandon i s) (by decide)) (sameBut_mono (sameBut_addRef _ _ _) (by decide))
    refine ⟨sameBut_trans hlease (sameBut_trans (sameBut_mono (tx_only _ _) (by decide)) (sameBut_mono (ctx_freeLine _ _) (by decide))), fun j => ?_⟩
    rw [txOf_of_tx (ctx_freeLine _ _ .tx (by decide)), txOf_setTx, txOf_of_tx (sameBut_addRef _ _ _ .tx (by decide))]
    split
    · rfl
    · exact hleft j ‹_›
  next h => exact ⟨sameBut_refl _ _, fun j => by split <;> simp_all⟩

/-! The end of an SA (R246, R247). -/

theorem sameBut_scLeave (c : Nat) (s : State) : sameBut [.svc, .sct] s (scLeave c s) := by
  unfold scLeave
  split
  · exact sameBut_trans (sameBut_mono (svc_only s _) (by decide)) (sameBut_mono (sameBut_removeSc _ _) (by decide))
  · exact sameBut_refl _ _

theorem sameBut_retireKey_if (c : Bool) (k : Nat) (s : State) : sameBut [.vlt] s (if c then retireKey k s else s) := by
  cases c
  · exact sameBut_refl _ _
  · exact sameBut_retireKey k s

theorem deletePump_none {s : State} {l : Nat} (h : secyOf s l = none) : deletePump l s = s := by rw [deletePump, h]

theorem completeWhere_idle {f : Wait → Bool} {st : Nat} {ws : List W64} {s : State} (h : s.mci.running = []) :
    completeWhere f st ws s = s := completeWhere_none fun r hr => by simp [h] at hr

/-- A receive SA that ends while no command runs. -/
theorem retireRxDone_writes {r : Nat} {s : State} (hrun : s.mci.running = []) :
    sameBut (.svc :: .sct :: rxKeyParts) s (retireRxDone r s) ∧ ∀ j, rxOf (retireRxDone r s) j = if j = r then none else rxOf s j := by
  unfold retireRxDone
  split
  next a ha =>
    obtain ⟨hsame, hrx⟩ := removeRx_writes r s
    have hkey := sameBut_retireKey_if (linkMka s (rxLink s r) || sakKey s a.kid) a.kid (removeRx r s)
    have hidle := (congrArg Mci.running ((hkey .mci (by decide)).trans (hsame .mci (by decide)))).trans hrun
    dsimp only
    rw [completeWhere_idle hidle]
    refine ⟨sameBut_trans (sameBut_mono hsame (by decide)) (sameBut_trans (sameBut_mono hkey (by decide)) (sameBut_mono (sameBut_scLeave _ _) (by decide))),
      fun j => ?_⟩
    rw [rxOf_of_rx (sameBut_scLeave _ _ .rx (by decide)), rxOf_of_rx (hkey .rx (by decide)), hrx]
  next h => exact ⟨sameBut_refl _ _, fun j => by split <;> simp_all⟩

/-- A transmit SA that ends while no command runs. -/
theorem retireTxDone_writes {i : Nat} {s : State} (hrun : s.mci.running = []) :
    sameBut txKeyParts s (retireTxDone i s) ∧ ∀ j, txOf (retireTxDone i s) j = if j = i then none else txOf s j := by
  unfold retireTxDone
  split
  next a ha =>
    obtain ⟨hsame, htx⟩ := removeTx_writes i s
    have hkey := sameBut_retireKey_if (linkMka s (saLink i) || sakKey s a.kid) a.kid (removeTx i s)
    have hidle := (congrArg Mci.running ((hkey .mci (by decide)).trans (hsame .mci (by decide)))).trans hrun
    dsimp only
    rw [completeWhere_idle hidle]
    refine ⟨sameBut_trans hsame (sameBut_mono hkey (by decide)), fun j => ?_⟩
    rw [txOf_of_tx (hkey .tx (by decide)), htx]
  next h => exact ⟨sameBut_refl _ _, fun j => by split <;> simp_all⟩

end Sys2Proof.Machine
end

section
/-! The SA commands of a host. -/
namespace Sys2Proof.Machine

section
variable {op n : Nat} {p : Pkt} {s u : State} {ps qs : List Part}

/-- A command that completes at once with one receive SA written. -/
theorem rx_changed {r : Nat} {a : Option Sa} (hn : n < 4) (hr : p.req = .hq n) (hu : sameBut qs (accepted s) u)
    (hrx : ∀ j, rxOf u j = if j = r then a else rxOf (accepted s) j) (hqs : ∀ x ∈ qs, x ∈ ps) (hmci : Part.mci ∉ qs)
    (hps : ∀ x ∈ [Part.mci, .evt, .tel, .cnt, .que], x ∈ ps) :
    replyIn op n p stOk [] s (settle (ok (newCmd op p s) u)) ∧ rxOf (settle (ok (newCmd op p s) u)) r = a ∧
      (∀ j, j ≠ r → rxOf (settle (ok (newCmd op p s) u)) j = rxOf s j) ∧ sameBut ps s (settle (ok (newCmd op p s) u)) := by
  have hacc : sameBut ps s (accepted s) := sameBut_mono (sameBut_accepted s) fun x hx => hps x (by revert hx; revert x; decide)
  obtain ⟨hreply, hsame⟩ := complete_replies (op := op) (s := s) (u := u) (st := stOk) (ws := []) hn hr (by rw [hu .mci hmci, accepted_mci])
    (sameBut_trans hacc (sameBut_mono hu hqs)) hps
  have hall : ∀ j, rxOf (settle (ok (newCmd op p s) u)) j = if j = r then a else rxOf s j := fun j =>
    (rxOf_of_rx (complete_frame hr [] .rx (by decide)) j).trans
      ((hrx j).trans (by rw [rxOf_of_rx (sameBut_accepted s .rx (by decide))]))
  exact ⟨hreply, (hall r).trans (if_pos rfl), fun j hj => (hall j).trans (if_neg hj), hsame⟩

/-- A command that has started and waits: its effect wrote `qs` beside its entry in the list of running commands. -/
theorem waits_changed {w : Wait} (hu : sameBut qs (waitFor (newCmd op p s) w (accepted s)) u) (hqs : ∀ x ∈ qs, x ∈ ps) (hmci : Part.mci ∉ qs)
    (hps : ∀ x ∈ [Part.mci, .evt, .tel, .que], x ∈ ps) :
    waiting op p w s (settle u) ∧ (settle u).mci.slots = s.mci.slots ∧ sameBut ps s (settle u) := by
  have hmci : (settle u).mci = (waitFor (newCmd op p s) w (accepted s)).mci := (sameBut_settle u .mci (by decide)).trans (hu .mci hmci)
  have hwait : sameBut [.mci, .tel, .que] s (waitFor (newCmd op p s) w (accepted s)) :=
    sameBut_trans (sameBut_accepted s) (sameBut_mono (sameBut_waitFor _ _ _) (by decide))
  refine ⟨⟨_, by rw [hmci, waitFor, accepted_mci], rfl, rfl⟩, by rw [hmci, waitFor, accepted_mci], ?_⟩
  refine settle_keeps (sameBut_trans (sameBut_mono hwait fun x hx => hps x ?_) (sameBut_mono hu hqs)) (hps _ (by decide))
  revert hx; revert x; decide

end

/-! SA_INSTALL (R342). -/

/-- The checks of SA_INSTALL up to its key pass: the SecY is `y` of link `l`, the key is in slot `k`. -/
structure Installs (q : QCmd) (s : State) (l k : Nat) (y : Secy) : Prop where
  form : installForm q = true
  owner : installOwner s q = some (l, y)
  range : installRange q (txpSuite y.txp) = true
  slot : cmdSlot s (fld (q.w 1) 0 16) = some k
  noMka : txpMka y.txp = false
  live : (vslot s k).st ≠ .retiring

/-- The index of the SA that SA_INSTALL names. -/
def installIdx (q : QCmd) : Nat := 4 * fld (q.w 0) 0 14 + fld (q.w 0) 56 2

theorem installOwner_secy {s : State} {q : QCmd} {l : Nat} {y : Secy} (h : installOwner s q = some (l, y)) : secyOf s l = some y := by
  have hpair : ∀ (k : Nat), (secyOf s k).map (fun z => (k, z)) = some (l, y) → secyOf s l = some y := fun k hk => by
    obtain ⟨z, hz, hzy⟩ := Option.map_eq_some_iff.1 hk
    cases hzy
    exact hz
  unfold installOwner at h
  dsimp only at h
  split at h
  · split at h
    · exact hpair _ h
    · cases h
  · exact hpair _ h

section
variable {q : QCmd} {s : State} {l k : Nat} {y : Secy}

namespace Installs

theorem accepted (h : Installs q s l k y) : Installs q (accepted s) l k y := by
  refine ⟨h.form, ?_, h.range, ?_, h.noMka, ?_⟩
  · exact (accepted_view (fun v => installOwner v q) s fun _ _ _ => rfl).trans h.owner
  · exact (accepted_view (fun v => cmdSlot v (fld (q.w 1) 0 16)) s fun _ _ _ => rfl).trans h.slot
  · exact accepted_view (fun v => (vslot v k).st) s (fun _ _ _ => rfl) ▸ h.live

end Installs

variable (h : Installs q s l k y)
include h

/-- A key that does not fit the direction is refused. -/
theorem saInstallEff_denied (hrx : bitAt (q.w 0) 63 = true) (hfree : rxOf s (installIdx q) = none) (ha : (vslot s k).attr ≠ .decOnly) :
    saInstallEff q s = denyCmd q (fld (q.w 1) 0 16) s := by
  have hlive := h.live
  rw [installIdx] at hfree
  unfold saInstallEff
  simp [h.form, h.owner, h.range, h.slot, hrx, hfree, linkMka_some (installOwner_secy h.owner) h.noMka, hlive, ha]

theorem saInstallEff_receive {blob : List Byte} (hrx : bitAt (q.w 0) 63 = true) (hfree : rxOf s (installIdx q) = none)
    (ha : (vslot s k).attr = .decOnly) (hunw : unwInSvc s ≠ 0) (hb : trafficBlob s k = some blob) :
    saInstallEff q s = ok q (installRx (installIdx q) (installSa s q y blob) s) := by
  have hlive := h.live
  rw [installIdx] at hfree ⊢
  unfold saInstallEff
  simp [h.form, h.owner, h.range, h.slot, hrx, hfree, linkMka_some (installOwner_secy h.owner) h.noMka, hlive, ha, hunw, hb]

theorem saInstallEff_transmit {blob : List Byte} (hrx : bitAt (q.w 0) 63 = false) (hfree : txOf s (installIdx q) = none)
    (hcur : y.curAn ≠ fld (q.w 0) 56 2) (ha : (vslot s k).attr = .encOnly) (hunw : unwInSvc s ≠ 0) (hb : trafficBlob s k = some blob)
    (hro : readOnly s = false) (hres : s.jnl.resolved = true) :
    saInstallEff q s = intentWrite (installIdx q) (installSa s q y blob) (some q.id) none (waitFor q (.jnl s.jnl.nextWork) s) := by
  have hlive := h.live
  rw [installIdx] at hfree ⊢
  unfold saInstallEff
  simp [h.form, h.owner, h.range, h.slot, hrx, hfree, linkMka_some (installOwner_secy h.owner) h.noMka, hlive, ha, hunw, hb, hcur, hro, hres]

end

/-- The INTENT that is queued: its work takes the next number. -/
theorem intentWrite_writes (i : Nat) (a : Sa) (cmd : Option Nat) (offer : Option (Nat × Nat)) (s : State) :
    sameBut workParts s (intentWrite i a cmd offer s) ∧ (intentWrite i a cmd offer s).jnl.nextWork = s.jnl.nextWork + 1 := by
  have hissue : ∀ v, (jIssue v).jnl.nextWork = v.jnl.nextWork := fun v => by
    unfold jIssue
    split
    · rfl
    · split <;> rfl
  exact ⟨(worked_jIssue (worked_jAdd _ _ _ (JWorked.refl s))).same, hissue _⟩

section
variable {op n : Nat} {p : Pkt} {s u : State}

theorem complete_cnt (hr : p.req = .hq n) (st : Nat) (ws : List W64) (c : Nat) :
    smGet 0 (settle (complete (newCmd op p s) st ws u)).cnt c = if c = 0x5C then satAdd 63 (smGet 0 u.cnt c) 1 else smGet 0 u.cnt c := by
  have hque : ∀ b : Bool, (if b then modQue 6 (fun v => v.take 1) u else u).cnt = u.cnt := fun b => by cases b <;> rfl
  unfold complete completeWith
  refine (deliver_cnt s _ hr _ _ _ _ c).trans ?_
  dsimp only
  rw [hque]

/-- A use that the key does not allow is refused, counted, and raises its event (R206). -/
theorem denyCmd_replies (hn : n < 4) (hr : p.req = .hq n) (kid : Nat) :
    replyIn op n p stAttrDenied [] s (settle (denyCmd (newCmd op p s) kid (accepted s))) ∧
      eventSet (settle (denyCmd (newCmd op p s) kid (accepted s))) .vlt 0 ∧
      smGet 0 (settle (denyCmd (newCmd op p s) kid (accepted s))).cnt 0x58 = satAdd 63 (smGet 0 s.cnt 0x58) 1 ∧
      sameBut [.mci, .evt, .tel, .cnt, .que] s (settle (denyCmd (newCmd op p s) kid (accepted s))) := by
  have hdeny : sameBut [.tel, .cnt, .evt] (accepted s) (denyUse kid (accepted s)) :=
    sameBut_trans (sameBut_mono (sameBut_bump _ _ _) (by decide)) (sameBut_mono (sameBut_raiseL _ _ _ _) (by decide))
  have hcnt : (denyUse kid (accepted s)).cnt = (bump 0x58 none (accepted s)).cnt := sameBut_raiseL _ _ _ _ .cnt (by decide)
  obtain ⟨hreply, hsame⟩ := complete_replies (op := op) (s := s) (u := denyUse kid (accepted s)) (st := stAttrDenied) (ws := [])
    (ps := [.mci, .evt, .tel, .cnt, .que]) hn hr (by rw [hdeny .mci (by decide), accepted_mci])
    (sameBut_trans (sameBut_mono (sameBut_accepted s) (by decide)) (sameBut_mono hdeny (by decide))) (by decide)
  refine ⟨hreply, waiting_shows (by decide) ?_, ?_, hsame⟩
  · rw [denyCmd, fail, (complete_keeps _ _ _ _).2 .vlt (by decide)]
    exact raiseL_waits (by decide) _ _
  · rw [denyCmd, fail, complete_cnt hr, if_neg (by decide), hcnt, bump, bumpN_cnt, if_pos rfl, sameBut_accepted s .cnt (by decide)]

end

/-! The other commands. -/

section
variable {p : Pkt} {s v : State}

/-- The SA that SA_ENABLE_RX leaves. -/
def enabledSa (on : Bool) (t : Nat) (a : Sa) : Sa :=
  if on then { a with enabled := true, tStart := t, tStop := 0 } else { a with enabled := false, tStop := if a.enabled then t else a.tStop }

theorem saEnableRxEff_there {a : Sa} (hb : onlyBits 0x800000000000FFFF (wordAt p.words 0) = true)
    (ha : rxOf v (fld (wordAt p.words 0) 0 16) = some a) (hret : a.retiring = false) :
    saEnableRxEff (newCmd 0x31 p s) v = ok (newCmd 0x31 p s) (dirtyLine (rxLine (fld (wordAt p.words 0) 0 16))
      (setRx (fld (wordAt p.words 0) 0 16) (some (enabledSa (bitAt (wordAt p.words 0) 63) (now v) a)) v)) := by
  have hw : ∀ k, (newCmd 0x31 p s).w k = wordAt p.words k := fun _ => rfl
  unfold saEnableRxEff
  simp only [hw, ha]
  rw [if_neg (by rw [hb]; decide), if_neg (by rw [hret]; decide)]
  rfl

/-- An armed cut of an ON SecY waits for the lease of its stand-in. -/
theorem cutArm_waits {l an t : Nat} {svc shared : Bool} {y : Secy} (hy : secyOf v l = some y) (hon : y.st = .on)
    (hl : leaseHeld v (4 * l + an) = false) : cutArm l an t svc shared v =
      setSecy l (some { y with cut := .arming, cutAn := an, cutTime := t, cutBySvc := svc, cutShared := shared }) v := by
  have hl' : ∀ z, leaseHeld (setSecy l z v) (4 * l + an) = false := fun _ => hl
  rw [cutArm, modSecy_some hy, cutPump, secyOf_setSecy, if_pos rfl]
  simp [hon, hl']

theorem saSetTxEff_arms {y : Secy} (hb : onlyBits 0x303FF (wordAt p.words 0) = true) (hreq : isSvc p.req = false)
    (hy : secyOf v (fld (wordAt p.words 0) 0 10) = some y)
    (hc : cutCheck v (fld (wordAt p.words 0) 0 10) (fld (wordAt p.words 0) 16 2) false = none) (hon : y.st = .on)
    (hl : leaseHeld v (4 * fld (wordAt p.words 0) 0 10 + fld (wordAt p.words 0) 16 2) = false) :
    saSetTxEff (newCmd 0x32 p s) v = setSecy (fld (wordAt p.words 0) 0 10)
      (some { y with cut := .arming, cutAn := fld (wordAt p.words 0) 16 2, cutTime := 0, cutBySvc := false, cutShared := false })
      (waitFor (newCmd 0x32 p s) (.cut (fld (wordAt p.words 0) 0 10)) v) := by
  have hw : ∀ k, (newCmd 0x32 p s).w k = wordAt p.words k := fun _ => rfl
  have hsvc : isSvc (newCmd 0x32 p s).pkt.req = false := hreq
  unfold saSetTxEff
  simp only [hw, hsvc, hc]
  rw [if_neg (by rw [hb]; decide)]
  exact cutArm_waits hy hon hl

theorem saRetireEff_receive {a : Sa} (hb : saWordOk (wordAt p.words 0) = true) (hrx : bitAt (wordAt p.words 0) 63 = true)
    (ha : rxOf v (fld (wordAt p.words 0) 0 16) = some a) : saRetireEff (newCmd 0x33 p s) v =
      retireRx (fld (wordAt p.words 0) 0 16) (waitFor (newCmd 0x33 p s) (.saRetire .ing (fld (wordAt p.words 0) 0 16)) v) := by
  have hw : ∀ k, (newCmd 0x33 p s).w k = wordAt p.words k := fun _ => rfl
  unfold saRetireEff
  simp only [hw, ha]
  rw [if_neg (by rw [hb]; decide), if_pos hrx, if_neg (by simp)]

theorem saRetireEff_transmit {a : Sa} {y : Secy} (hb : saWordOk (wordAt p.words 0) = true) (hrx : bitAt (wordAt p.words 0) 63 = false)
    (ha : txOf v (fld (wordAt p.words 0) 0 16) = some a) (hy : secyOf v (saLink (fld (wordAt p.words 0) 0 16)) = some y)
    (hcur : y.curAn ≠ fld (wordAt p.words 0) 0 16 % 4) (hcut : y.cut = .none) : saRetireEff (newCmd 0x33 p s) v =
      retireTx (fld (wordAt p.words 0) 0 16) (waitFor (newCmd 0x33 p s) (.saRetire .egr (fld (wordAt p.words 0) 0 16)) v) := by
  have hw : ∀ k, (newCmd 0x33 p s).w k = wordAt p.words k := fun _ => rfl
  unfold saRetireEff
  simp only [hw, ha, hy]
  rw [if_neg (by rw [hb]; decide), if_neg (by rw [hrx]; decide), if_neg (by simp [hcur, hcut])]

end

theorem execSaRetireComplete_receive {s : State} {i : Nat} {a : Sa} (hlow : resetLow s = false) (ha : rxOf s i = some a) (hret : a.retiring = true)
    (hbusy : saBusy s .ing i = false) (hy : secyOf s (rxLink s i) = none) (hrun : s.mci.running = []) :
    exec (.saRetireComplete .ing i) s = done (retireRxDone i s) := by
  have hexec : exec (.saRetireComplete .ing i) s = run s (deletePump (rxLink s i) (retireRxDone i s)) := by
    show execSaRetireComplete .ing i s = _
    unfold execSaRetireComplete
    simp only [ha, hret, hbusy]
    rfl
  rw [hexec, run_high hlow, deletePump_none ((secyOf_congr ((retireRxDone_writes hrun).1 .secys (by decide)) _).trans hy)]

theorem execSaRetireComplete_transmit {s : State} {i : Nat} {a : Sa} (hlow : resetLow s = false) (ha : txOf s i = some a) (hret : a.retiring = true)
    (hbusy : saBusy s .egr i = false) (hy : secyOf s (saLink i) = none) (hrun : s.mci.running = []) :
    exec (.saRetireComplete .egr i) s = done (retireTxDone i s) := by
  have hexec : exec (.saRetireComplete .egr i) s = run s (deletePump (saLink i) (retireTxDone i s)) := by
    show execSaRetireComplete .egr i s = _
    unfold execSaRetireComplete
    simp only [ha, hret, hbusy]
    rfl
  rw [hexec, run_high hlow, deletePump_none ((secyOf_congr ((retireTxDone_writes hrun).1 .secys (by decide)) _).trans hy)]

end Sys2Proof.Machine
end

section
/-! The SA commands, clause by clause. -/
namespace Sys2Proof.Machine

/-- Settles O25: each command's checks lead to its effect (`saInstallEff_receive` to `saRetireEff_transmit`), and what the effect
writes is said once (`installRx_writes` to `retireTxDone_writes`). -/
theorem saCommands : Obligations.SaCommands := by
  unfold Obligations.SaCommands
  have hrxOf : ∀ s j, rxOf (accepted s) j = rxOf s j := fun s => rxOf_of_rx (sameBut_accepted s .rx (by decide))
  have htxOf : ∀ s j, txOf (accepted s) j = txOf s j := fun s => txOf_of_tx (sameBut_accepted s .tx (by decide))
  have hsecy : ∀ s l, secyOf (accepted s) l = secyOf s l := fun s => secyOf_congr (sameBut_accepted s .secys (by decide))
  have hnow : ∀ s, now (accepted s) = now s := fun s => accepted_view now s fun _ _ _ => rfl
  have hattr : ∀ s k, (vslot (accepted s) k).attr = (vslot s k).attr := fun s k => accepted_view (fun v => (vslot v k).attr) s fun _ _ _ => rfl
  have hunwOf : ∀ s, unwInSvc (accepted s) = unwInSvc s := fun s => accepted_view unwInSvc s fun _ _ _ => rfl
  have hblobOf : ∀ s k, trafficBlob (accepted s) k = trafficBlob s k := fun s k => accepted_view (fun v => trafficBlob v k) s fun _ _ _ => rfl
  have hjnl : ∀ s, (accepted s).jnl = s.jnl := fun s => sameBut_accepted s .jnl (by decide)
  refine ⟨?receive, ?transmit, ?denied, ?enable, ?setTx, ?retireRx, ?retireTx, ?doneRx, ?doneTx⟩
  case receive =>
    intro p s n l k y hstart hrx hform howner hrange hslot hmka hfree hlive ha hunw hblob
    obtain ⟨hn, hr⟩ := startsNow_req hstart
    obtain ⟨blob, hblob⟩ := Option.isSome_iff_exists.1 hblob
    have hchecks : Installs (newCmd 0x30 p s) (accepted s) l k y := Installs.accepted ⟨hform, howner, hrange, hslot, hmka, hlive⟩
    have hexec : exec (.saInstall p) s = _ := row_now rfl hstart
    rw [saInstallEff_receive hchecks hrx ((hrxOf _ _).trans hfree) ((hattr _ _).trans ha) (hunwOf s ▸ hunw) ((hblobOf _ _).trans hblob)] at hexec
    obtain ⟨hsame, hinst⟩ := installRx_writes (installIdx (newCmd 0x30 p s)) (installSa (accepted s) (newCmd 0x30 p s) y blob) (accepted s)
    obtain ⟨hreply, hnew, hothers, hframe⟩ := rx_changed (op := 0x30) (ps := [.mci, .evt, .tel, .cnt, .que, .rx, .vlt, .cis, .cxm, .out, .jnl])
      hn hr hsame hinst (by decide) (by decide) (by decide)
    exact ⟨_, hexec, hreply, ⟨_, hnew, rfl, rfl, rfl, rfl, rfl, hnow s, rfl, hblob⟩, hothers, hframe⟩
  case transmit =>
    intro p s n l k y hstart hrx hform howner hrange hslot hmka hfree hcur hlive ha hunw hblob hro hres
    obtain ⟨blob, hblob⟩ := Option.isSome_iff_exists.1 hblob
    have hchecks : Installs (newCmd 0x30 p s) (accepted s) l k y := Installs.accepted ⟨hform, howner, hrange, hslot, hmka, hlive⟩
    have hexec : exec (.saInstall p) s = _ := row_now rfl hstart
    rw [saInstallEff_transmit hchecks hrx ((htxOf _ _).trans hfree) hcur ((hattr _ _).trans ha) (hunwOf s ▸ hunw) ((hblobOf _ _).trans hblob)
      ((accepted_view readOnly s fun _ _ _ => rfl).trans hro) (by rw [hjnl, hres]), hjnl] at hexec
    obtain ⟨hsame, hnext⟩ := intentWrite_writes (installIdx (newCmd 0x30 p s)) (installSa (accepted s) (newCmd 0x30 p s) y blob)
      (some (newCmd 0x30 p s).id) none (waitFor (newCmd 0x30 p s) (.jnl s.jnl.nextWork) (accepted s))
    obtain ⟨hwait, hslots, hframe⟩ := waits_changed (ps := [.mci, .jnl, .out, .evt, .tel, .que]) hsame (by decide) (by decide) (by decide)
    refine ⟨_, hexec, hwait, ?_, hslots, hframe⟩
    calc (settle (intentWrite _ _ _ _ _)).jnl.nextWork
        = _ := congrArg Jnl.nextWork (sameBut_settle _ .jnl (by decide))
      _ = (accepted s).jnl.nextWork + 1 := hnext
      _ = s.jnl.nextWork + 1 := by rw [hjnl]
  case denied =>
    intro p s n l k y hstart hrx hform howner hrange hslot hmka hfree hlive ha
    obtain ⟨hn, hr⟩ := startsNow_req hstart
    have hchecks : Installs (newCmd 0x30 p s) (accepted s) l k y := Installs.accepted ⟨hform, howner, hrange, hslot, hmka, hlive⟩
    have hexec : exec (.saInstall p) s = _ := row_now rfl hstart
    rw [saInstallEff_denied hchecks hrx ((hrxOf _ _).trans hfree) (hattr s k ▸ ha)] at hexec
    exact ⟨_, hexec, denyCmd_replies hn hr _⟩
  case enable =>
    intro p s n a hstart hb ha hret
    obtain ⟨hn, hr⟩ := startsNow_req hstart
    have hexec : exec (.saEnableRx p) s = _ := row_now rfl hstart
    rw [saEnableRxEff_there hb ((hrxOf _ _).trans ha) hret, hnow] at hexec
    exact ⟨_, hexec, rx_changed hn hr (rxParts_dirty _ _ _) (rxOf_dirty _ _ _) (by decide) (by decide) (by decide)⟩
  case setTx =>
    intro p s n y hstart hb hy hc hon hl
    obtain ⟨-, hr⟩ := startsNow_req hstart
    have hexec : exec (.saSetTx p) s = _ := row_now rfl hstart
    rw [saSetTxEff_arms hb (by rw [hr]; rfl) ((hsecy _ _).trans hy)
      ((accepted_view (fun v => cutCheck v _ _ false) s fun _ _ _ => rfl).trans hc) hon
      ((accepted_view (fun v => leaseHeld v _) s fun _ _ _ => rfl).trans hl)] at hexec
    obtain ⟨hwait, -, hframe⟩ := waits_changed (p := p) (ps := [.mci, .evt, .tel, .que, .secys]) (sameBut_setSecy _ _ _) (by decide) (by decide)
      (by decide)
    have hall : ∀ z w j, secyOf (settle (setSecy (fld (wordAt p.words 0) 0 10) z (waitFor (newCmd 0x32 p s) w (accepted s)))) j =
        if j = fld (wordAt p.words 0) 0 10 then z else secyOf s j := fun z w j => by
      rw [secyOf_congr (sameBut_settle _ .secys (by decide)), secyOf_setSecy, ← hsecy s]
      rfl
    exact ⟨_, hexec, hwait, (hall _ _ _).trans (if_pos rfl), fun j hj => (hall _ _ j).trans (if_neg hj), hframe⟩
  case retireRx =>
    intro p s n a hstart hb hrx ha
    have hexec : exec (.saRetire p) s = _ := row_now rfl hstart
    rw [saRetireEff_receive hb hrx ((hrxOf _ _).trans ha)] at hexec
    obtain ⟨hsame, hretired⟩ := retireRx_writes (s := waitFor (newCmd 0x33 p s) (.saRetire .ing (fld (wordAt p.words 0) 0 16)) (accepted s))
      ((hrxOf _ _).trans ha)
    obtain ⟨hwait, -, hframe⟩ := waits_changed (ps := [.mci, .evt, .tel, .cnt, .que, .rx, .cis, .cxm, .out]) hsame (by decide) (by decide) (by decide)
    have hall := fun j => (rxOf_of_rx (sameBut_settle _ .rx (by decide)) j).trans (hretired j)
    exact ⟨_, hexec, hwait, (hall _).trans (if_pos rfl), fun j hj => ((hall j).trans (if_neg hj)).trans (hrxOf s j), hframe⟩
  case retireTx =>
    intro p s n a y hstart hb hrx ha hy hcur hcut
    have hexec : exec (.saRetire p) s = _ := row_now rfl hstart
    rw [saRetireEff_transmit hb hrx ((htxOf _ _).trans ha) ((hsecy _ _).trans hy) hcur hcut] at hexec
    obtain ⟨hsame, hretired⟩ := retireTx_writes (s := waitFor (newCmd 0x33 p s) (.saRetire .egr (fld (wordAt p.words 0) 0 16)) (accepted s))
      ((htxOf _ _).trans ha)
    obtain ⟨hwait, -, hframe⟩ := waits_changed (ps := [.mci, .evt, .tel, .que, .tx, .cis, .cxm]) hsame (by decide) (by decide) (by decide)
    have hall := fun j => (txOf_of_tx (sameBut_settle _ .tx (by decide)) j).trans (hretired j)
    exact ⟨_, hexec, hwait, (hall _).trans (if_pos rfl), fun j hj => ((hall j).trans (if_neg hj)).trans (htxOf s j), hframe⟩
  case doneRx =>
    intro s i a hlow ha hret hbusy hy hrun
    obtain ⟨hsame, hgone⟩ := retireRxDone_writes (r := i) hrun
    have hall := fun j => (rxOf_of_rx (sameBut_settle (retireRxDone i s) .rx (by decide)) j).trans (hgone j)
    exact ⟨_, execSaRetireComplete_receive hlow ha hret hbusy hy hrun, (hall i).trans (if_pos rfl), fun j hj => (hall j).trans (if_neg hj),
      settle_keeps (sameBut_mono hsame (by decide)) (by decide)⟩
  case doneTx =>
    intro s i a hlow ha hret hbusy hy hrun
    obtain ⟨hsame, hgone⟩ := retireTxDone_writes (i := i) hrun
    have hall := fun j => (txOf_of_tx (sameBut_settle (retireTxDone i s) .tx (by decide)) j).trans (hgone j)
    have hframe : sameBut [.evt, .tel, .cnt, .tx, .vlt, .cis, .cxm, .out] s (settle (retireTxDone i s)) :=
      settle_keeps (sameBut_mono hsame (by decide)) (by decide)
    exact ⟨_, execSaRetireComplete_transmit hlow ha hret hbusy hy hrun, (hall i).trans (if_pos rfl), fun j hj => (hall j).trans (if_neg hj),
      congrArg (fun j : Jnl => smGet 0 j.hw i) (hframe .jnl (by decide)), hframe⟩

end Sys2Proof.Machine
end

section
/-! The verdict at commit: what it writes beside the frame, and the frame that it decides. -/
namespace Sys2Proof.Machine

theorem mem_mapWhere {α : Type} {p : α → Bool} {g : α → α} {xs : List α} {y : α} (h : y ∈ mapWhere p g xs) :
    ∃ x ∈ xs, p x = true ∧ y = g x ∨ p x = false ∧ y = x := by
  obtain ⟨x, hx, rfl⟩ := List.mem_map.1 h
  refine ⟨x, hx, ?_⟩
  cases hp : p x
  · exact .inr ⟨rfl, if_neg (by simp)⟩
  · exact .inl ⟨rfl, if_pos rfl⟩

theorem modFrame_frames (l o : Nat) (g : Frame → Frame) (s : State) :
    (modFrame .ing l o g s).ing.frames = mapWhere (fun x => x.link == l && x.orderTag == o) g s.ing.frames :=
  congrArg Path.frames (pathOf_modFrame .ing l o g s)

/-! What a verdict writes beside its frame: counts, events, the SA. -/

/-- The parts of a verdict's counts and events. -/
def bookParts : List Part := [.rx, .cis, .cxm, .out, .cnt, .tel, .evt]

/-- `v` is `s` with counts, events and the receive SA `r` written. -/
structure Booked (r : Nat) (s v : State) : Prop where
  same : sameBut bookParts s v
  others : ∀ j, j ≠ r → rxOf v j = rxOf s j

theorem counted_step {c n : Nat} {l : Option Nat} {s v : State} (h : smGet 0 v.cnt c = smGet 0 s.cnt c) : counted c n s (bumpN c n l v) := by
  rw [counted, bumpN_cnt, if_pos rfl, h]

theorem counted_of_cnt {c n : Nat} {s v t : State} (h : counted c n s v) (ht : smGet 0 t.cnt c = smGet 0 v.cnt c) : counted c n s t := ht.trans h

namespace Booked
variable {r : Nat} {s v w : State}

theorem refl (s : State) : Booked r s s := ⟨sameBut_refl _ _, fun _ _ => rfl⟩

theorem trans (h : Booked r s v) (k : Booked r v w) : Booked r s w :=
  ⟨sameBut_trans h.same k.same, fun j hj => (k.others j hj).trans (h.others j hj)⟩

/-- What writes no receive SA. -/
theorem of_same {ps : List Part} (h : sameBut ps s v) (hps : ∀ x ∈ ps, x ∈ bookParts) (hrx : Part.rx ∉ ps) : Booked r s v :=
  ⟨sameBut_mono h hps, fun j _ => rxOf_of_rx (h .rx hrx) j⟩

theorem bumpN (h : Booked r s v) (c n : Nat) (l : Option Nat) : Booked r s (bumpN c n l v) :=
  h.trans (of_same (sameBut_bumpN c n l v) (by decide) (by decide))

theorem bump (h : Booked r s v) (c : Nat) (l : Option Nat) : Booked r s (bump c l v) := h.bumpN c 1 l

theorem raiseL (h : Booked r s v) (u : Sub) (n : Nat) (ls : List Nat) : Booked r s (raiseL u n ls v) :=
  h.trans (of_same (sameBut_raiseL u n ls v) (by decide) (by decide))

theorem modRx (h : Booked r s v) (g : Sa → Sa) : Booked r s (modRx r g v) := by
  refine h.trans ?_
  unfold Machine.modRx
  split
  · exact ⟨sameBut_mono (sameBut_setRx _ _ _) (by decide), fun j hj => by rw [rxOf_setRx, if_neg hj]⟩
  · exact refl v

theorem rxStat (h : Booked r s v) (k : Nat) : Booked r s (rxStat r k v) := by
  unfold Machine.rxStat
  split
  · exact (h.modRx _).trans (of_same (ctx_dirtyLine _ _) (by decide) (by decide))
  · exact h

theorem path (h : Booked r s v) : pathOf v .ing = pathOf s .ing := h.same .ing (by decide)

end Booked

section
variable {r : Nat} {s : State}

theorem rxOf_bumpN (c n : Nat) (l : Option Nat) (s : State) (j : Nat) : rxOf (bumpN c n l s) j = rxOf s j :=
  rxOf_of_rx (sameBut_bumpN c n l s .rx (by decide)) j

theorem rxOf_bump (c : Nat) (l : Option Nat) (s : State) (j : Nat) : rxOf (bump c l s) j = rxOf s j := rxOf_bumpN c 1 l s j

theorem rxOf_raiseL (u : Sub) (n : Nat) (ls : List Nat) (s : State) (j : Nat) : rxOf (raiseL u n ls s) j = rxOf s j :=
  rxOf_of_rx (sameBut_raiseL u n ls s .rx (by decide)) j

/-- A statistic of an SA leaves its PN. -/
theorem rxStat_pn (r k : Nat) (s : State) : (rxOf (rxStat r k s) r).map (·.pn) = (rxOf s r).map (·.pn) := by
  unfold rxStat
  cases h : rxOf s r with
  | none => simp [h]
  | some a =>
    rw [if_pos Option.isSome_some, modRx_some h, rxOf_dirty, if_pos rfl]
    rfl

theorem modRx_cnt (r : Nat) (g : Sa → Sa) (s : State) : (modRx r g s).cnt = s.cnt := by
  unfold modRx
  split <;> rfl

theorem rxStat_cnt {c : Nat} (h4 : c ≠ 0x54) (h5 : c ≠ 0x55) (r k : Nat) (s : State) : smGet 0 (rxStat r k s).cnt c = smGet 0 s.cnt c := by
  unfold rxStat
  split
  · rw [dirtyLine_cnt h4 h5, modRx_cnt]
  · rfl

end

/-! The fates that a commit gives. -/

/-- A change of a frame that commits it: decided, counted for good, with its place and its late count kept. -/
structure Decision (g : Frame → Frame) : Prop where
  link : ∀ x, (g x).link = x.link
  order : ∀ x, (g x).orderTag = x.orderTag
  late : ∀ x, (g x).lateSa = x.lateSa
  fate : ∀ x, (g x).fate ≠ .crypt
  placed : ∀ x, inSump (g x) = false
  tally : ∀ x, tallied (g x) = true

theorem decision_discard : Decision (fun x => { x with fate := .discard, started := x.started && Fate.discard != .discard }) := by
  refine ⟨fun _ => rfl, fun _ => rfl, fun _ => rfl, fun _ => ?_, fun _ => rfl, fun _ => ?_⟩
  · simp
  · simp [tallied, isDead]

theorem decision_verified (n : Nat) : Decision (fun x => { x with fate := .verified, pn := n }) := by
  refine ⟨fun _ => rfl, fun _ => rfl, fun _ => rfl, fun _ => ?_, fun _ => rfl, fun _ => ?_⟩
  · simp
  · simp [tallied]

theorem decision_unchecked (n : Nat) : Decision (fun x => { x with fate := .unchecked, counted := true, pn := n }) := by
  refine ⟨fun _ => rfl, fun _ => rfl, fun _ => rfl, fun _ => ?_, fun _ => rfl, fun _ => ?_⟩
  · simp
  · simp [tallied]

/-- Within the link's limit a discard is the frame's fate. -/
theorem discardFrame_decides {s : State} {f : Frame} (h : atLimit s .ing f = false) (code : Nat) :
    discardFrame .ing f code s = modFrame .ing f.link f.orderTag
      (fun x => { x with fate := .discard, started := x.started && Fate.discard != .discard }) (bump (dirCnt .ing code) (some f.link) s) := by
  have hlim : atLimit (bump (dirCnt .ing code) (some f.link) s) .ing f = false := by rw [atLimit, pathOf_bump]; exact h
  unfold discardFrame setFate
  rw [hlim]
  rfl

theorem atLimit_of_path {s t : State} {d : Dir} {f : Frame} (h : pathOf t d = pathOf s d) : atLimit t d f = atLimit s d f := by
  rw [atLimit, atLimit, h]

/-! The verdict, case by case (R137, R138). -/

/-- The frame as its commit judges it: the SecY's present parameters, the PN recovered anew. -/
def judged (y : Secy) (k : Tag) (a : Sa) (f : Frame) : Frame :=
  { f with rxp := y.rxp, pn := recoverPn a.suite (lowPn a (rxpWindow y.rxp)) k.pn }

section
variable {s : State} {f : Frame} {y : Secy} {k : Tag} {a : Sa} (ha : rxOf s f.saIdx = some a)
include ha

theorem ingVerdict_judged : ingVerdict { f with rxp := y.rxp } k s =
    if !icvOk (judged y k a f) k then
      (if rxpVal y.rxp = 1 && !k.bit 2 && !f.started then
         modFrame .ing f.link f.orderTag (fun x => { x with fate := .unchecked, counted := true, pn := (judged y k a f).pn })
           (bump 0x38 (some f.link) (rxStat f.saIdx 1 s))
       else ingReject (judged y k a f) 0x16 (raiseL .ing 3 [f.link] (rxStat f.saIdx 2 s)))
    else if (judged y k a f).pn < lowPn a (rxpWindow y.rxp) ∧ rxpReplay y.rxp = true then
      ingReject (judged y k a f) 0x15 (raiseL .ing 4 [f.link] (rxStat f.saIdx 3 s))
    else if (judged y k a f).pn < lowPn a (rxpWindow y.rxp) then ingAccept (judged y k a f) k false (bump 0x39 (some f.link) s)
    else ingAccept (judged y k a f) k true s := by
  unfold ingVerdict
  simp only [ha]
  rfl

theorem ingVerdict_unchecked (hok : icvOk (judged y k a f) k = false) (hval : rxpVal y.rxp = 1) (hc : k.bit 2 = false) (hst : f.started = false) :
    ingVerdict { f with rxp := y.rxp } k s = modFrame .ing f.link f.orderTag
      (fun x => { x with fate := .unchecked, counted := true, pn := (judged y k a f).pn }) (bump 0x38 (some f.link) (rxStat f.saIdx 1 s)) := by
  rw [ingVerdict_judged ha, if_pos (by rw [hok]; decide), if_pos (by simp [hval, hc, hst])]

theorem ingVerdict_badIcv (hok : icvOk (judged y k a f) k = false) (hval : rxpVal y.rxp ≠ 1 ∨ k.bit 2 = true ∨ f.started = true) :
    ingVerdict { f with rxp := y.rxp } k s = ingReject (judged y k a f) 0x16 (raiseL .ing 3 [f.link] (rxStat f.saIdx 2 s)) := by
  rw [ingVerdict_judged ha, if_pos (by rw [hok]; decide), if_neg]
  rcases hval with h | h | h <;> simp [h]

section
variable (hok : icvOk (judged y k a f) k = true)
include hok

theorem ingVerdict_replayed (hlate : (judged y k a f).pn < lowPn a (rxpWindow y.rxp)) (hrep : rxpReplay y.rxp = true) :
    ingVerdict { f with rxp := y.rxp } k s = ingReject (judged y k a f) 0x15 (raiseL .ing 4 [f.link] (rxStat f.saIdx 3 s)) := by
  rw [ingVerdict_judged ha, if_neg (by rw [hok]; decide), if_pos ⟨hlate, hrep⟩]

theorem ingVerdict_late (hlate : (judged y k a f).pn < lowPn a (rxpWindow y.rxp)) (hrep : rxpReplay y.rxp = false) :
    ingVerdict { f with rxp := y.rxp } k s = ingAccept (judged y k a f) k false (bump 0x39 (some f.link) s) := by
  rw [ingVerdict_judged ha, if_neg (by rw [hok]; decide), if_neg (by simp [hrep]), if_pos hlate]

theorem ingVerdict_inOrder (hlate : ¬ (judged y k a f).pn < lowPn a (rxpWindow y.rxp)) :
    ingVerdict { f with rxp := y.rxp } k s = ingAccept (judged y k a f) k true s := by
  rw [ingVerdict_judged ha, if_neg (by rw [hok]; decide), if_neg fun h => hlate h.1, if_neg hlate]

end

end

end Sys2Proof.Machine
end

section
/-! A commit on a calm path. -/
namespace Sys2Proof.Machine

/-! Delivery as verified: its counts, and the frame. -/

/-- The counts of a verified frame, and NEXT_PN where it rises. -/
def deliveryCounts (f : Frame) (t : Tag) (raisePn : Bool) (s : State) : State :=
  bumpN 0x3E (t.sd - ingClear f t) (some f.link) (bumpN 0x3D (ingClear f t) (some f.link)
    (rxStat f.saIdx 0 (bump 0x3C (some f.link) (if raisePn then modRx f.saIdx (fun a => { a with pn := Nat.max a.pn (f.pn + 1) }) s else s))))

theorem ingAccept_unstarted {f : Frame} (h : f.started = false) (t : Tag) (b : Bool) (s : State) :
    ingAccept f t b s = modFrame .ing f.link f.orderTag (fun x => { x with fate := .verified, pn := f.pn }) (deliveryCounts f t b s) := by
  unfold ingAccept
  exact if_neg (by rw [h]; decide)

theorem ingAccept_started {f : Frame} (h : f.started = true) (t : Tag) (b : Bool) (s : State) :
    ingAccept f t b s = ingFinish f (deliveryCounts f t b s) := by
  unfold ingAccept
  exact if_pos h

theorem ingReject_unstarted {f : Frame} (h : f.started = false) (code : Nat) (s : State) : ingReject f code s = discardFrame .ing f code s := by
  unfold ingReject
  exact if_neg (by rw [h]; decide)

theorem ingReject_started {f : Frame} (h : f.started = true) (code : Nat) (s : State) :
    ingReject f code s = ingFinish { f with poison := true } (poisoned f.link (bump (dirCnt .ing code) (some f.link) s)) := by
  unfold ingReject
  exact if_pos h

theorem booked_deliveryCounts (f : Frame) (t : Tag) (b : Bool) (s : State) : Booked f.saIdx s (deliveryCounts f t b s) := by
  unfold deliveryCounts
  refine ((Booked.bump ?_ _ _).rxStat 0).bumpN _ _ _ |>.bumpN _ _ _
  cases b
  · exact Booked.refl s
  · exact (Booked.refl s).modRx _

theorem deliveryCounts_cnt {c : Nat} (hd : c ≠ 0x3D) (he : c ≠ 0x3E) (h4 : c ≠ 0x54) (h5 : c ≠ 0x55) (f : Frame) (t : Tag) (b : Bool) (s : State) :
    smGet 0 (deliveryCounts f t b s).cnt c = if c = 0x3C then satAdd 63 (smGet 0 s.cnt c) 1 else smGet 0 s.cnt c := by
  have hpn : (if b then modRx f.saIdx (fun a => { a with pn := Nat.max a.pn (f.pn + 1) }) s else s).cnt = s.cnt := by
    cases b
    · rfl
    · exact modRx_cnt _ _ s
  rw [deliveryCounts, bumpN_cnt, if_neg he, bumpN_cnt, if_neg hd, rxStat_cnt h4 h5, bump, bumpN_cnt, hpn]
  split
  next hc => rw [hc]
  next => rfl

theorem deliveryCounts_pn (f : Frame) (t : Tag) (b : Bool) (s : State) : (rxOf (deliveryCounts f t b s) f.saIdx).map (·.pn) =
    (rxOf s f.saIdx).map (fun a => if b then Nat.max a.pn (f.pn + 1) else a.pn) := by
  rw [deliveryCounts, rxOf_bumpN, rxOf_bumpN, rxStat_pn, rxOf_bump]
  cases b
  · rfl
  · cases h : rxOf s f.saIdx with
    | none => simp [modRx, h]
    | some a => simp [modRx_some h]

/-! The row's end. -/

theorem calm_decision {g : Frame → Frame} (hg : Decision g) {s u : State} (hc : calm s .ing = true) (hp : pathOf u .ing = pathOf s .ing) (l o : Nat) :
    calm (modFrame .ing l o g u) .ing = true := by
  have hkeep : ∀ x, frameCalm .ing x = true → frameCalm .ing (g x) = true := fun x hx => by
    obtain ⟨-, hlate⟩ := frameCalm_ing hx
    simp [frameCalm, hg.tally x, hg.late x, hlate, hg.fate x]
  refine calm_iff.2 (List.all_eq_true.1 ?_)
  rw [pathOf_modFrame, hp]
  exact all_mapWhere hkeep (List.all_eq_true.2 (calm_iff.1 hc))

/-- What a row has done to the ingress path stays as it is at its end; a cause that waits shows. -/
structure RowEnds (w t : State) : Prop where
  same : sameBut [.que, .evt] w t
  shows : ∀ n, Sub.ing.defined.getLsbD n = true → (w.evt.get .ing).pendReal.getLsbD n = true → eventSet t .ing n

theorem rowEnds_calm {w : State} (h : calm w .ing = true) : RowEnds w (settle (settleIng w)) := by
  rw [settleIng_calm h]
  refine ⟨settle_keeps (sameBut_mono (sameBut_syncPath .ing w) (by decide)) (by decide), fun n hd hp => waiting_shows hd ?_⟩
  rw [sameBut_syncPath .ing w .evt (by decide)]
  exact hp

/-- A frame has been decided in `t`, by a row that made `u` of `s` but for the frame. -/
structure Committed (f : Frame) (v : Fate) (s u t : State) : Prop where
  fate : fateAt .ing f v s t
  same : sameBut [.ing, .que, .evt] u t
  shows : ∀ n, Sub.ing.defined.getLsbD n = true → (u.evt.get .ing).pendReal.getLsbD n = true → eventSet t .ing n

/-- A decision on a calm path. -/
theorem committed {s u : State} {f : Frame} {v : Fate} {g : Frame → Frame} {p : Frame → Nat} {c : Frame → Bool} (hc : calm s .ing = true)
    (hp : pathOf u .ing = pathOf s .ing) (hg : Decision g)
    (hform : g = fun x => { x with fate := v, pn := p x, counted := c x, started := x.started && v != .discard }) :
    Committed f v s u (settle (settleIng (modFrame .ing f.link f.orderTag g u))) := by
  obtain ⟨hsame, hshows⟩ := rowEnds_calm (calm_decision hg hc hp f.link f.orderTag)
  have hmod := sameBut_modFrame .ing f.link f.orderTag g u
  refine ⟨⟨p, c, ?_⟩, sameBut_trans (sameBut_mono hmod (by decide)) (sameBut_mono hsame (by decide)), fun n hd hpend => hshows n hd ?_⟩
  · have hpath : pathOf (settle (settleIng (modFrame .ing f.link f.orderTag g u))) .ing = _ := hsame .ing (by decide)
    rw [hpath]
    rw [show (modFrame .ing f.link f.orderTag g u).ing = _ from pathOf_modFrame .ing f.link f.orderTag g u, hp, hform]
  · rw [hmod .evt (by decide)]
    exact hpend

theorem committed_discard {s u : State} {f : Frame} (hc : calm s .ing = true) (hp : pathOf u .ing = pathOf s .ing)
    (hlim : atLimit s .ing f = false) (code : Nat) :
    Committed f .discard s (bump (dirCnt .ing code) (some f.link) u) (settle (settleIng (discardFrame .ing f code u))) := by
  rw [discardFrame_decides ((atLimit_of_path hp).trans hlim)]
  exact committed (p := (·.pn)) (c := (·.counted)) hc ((pathOf_bump _ _ _ _).trans hp) decision_discard rfl

theorem committed_verified {s u : State} {f : Frame} (hc : calm s .ing = true) (hp : pathOf u .ing = pathOf s .ing) (n : Nat) :
    Committed f .verified s u (settle (settleIng (modFrame .ing f.link f.orderTag (fun x => { x with fate := .verified, pn := n }) u))) :=
  committed (p := fun _ => n) (c := (·.counted)) hc hp (decision_verified n) (by funext x; simp)

theorem committed_unchecked {s u : State} {f : Frame} (hc : calm s .ing = true) (hp : pathOf u .ing = pathOf s .ing) (n : Nat) :
    Committed f .unchecked s u
      (settle (settleIng (modFrame .ing f.link f.orderTag (fun x => { x with fate := .unchecked, counted := true, pn := n }) u))) :=
  committed (p := fun _ => n) (c := fun _ => true) hc hp (decision_unchecked n) (by funext x; simp)

theorem Committed.counted {f : Frame} {v : Fate} {c n : Nat} {s u t : State} (h : Committed f v s u t) (hc : Machine.counted c n s u) :
    Machine.counted c n s t := counted_of_cnt hc (congrArg (smGet 0 · c) (h.same .cnt (by decide)))

theorem Committed.rx {f : Frame} {v : Fate} {s u t : State} (h : Committed f v s u t) (j : Nat) : rxOf t j = rxOf u j :=
  rxOf_of_rx (h.same .rx (by decide)) j

/-! The commit of a frame whose SecY, SecTAG and receive SA are there. -/

/-- On a calm path `f` is the next frame of link `l` to commit: its SecY is `y`, its SecTAG `k`, its receive SA `a`. -/
structure Commits (s : State) (l : Nat) (f : Frame) (y : Secy) (k : Tag) (a : Sa) : Prop where
  high : resetLow s = false
  calm : calm s .ing = true
  next : commitNext s l = some f
  crypt : f.fate = .crypt
  ended : f.ended = true
  secy : secyOf s l = some y
  tag : tagOf s f.bytes (txpClear f.txp) (isXpn (txpSuite f.txp)) = some k
  sa : rxOf s f.saIdx = some a

theorem commitNext_mem {s : State} {l : Nat} {f : Frame} (h : commitNext s l = some f) : f ∈ (pathOf s .ing).frames := List.mem_of_find?_eq_some h

/-- The frame that a commit judges: the SecY's present parameters where there is one. -/
def presentFrame (s : State) (l : Nat) (f : Frame) : Frame := { f with rxp := ((secyOf s l).map (·.rxp)).getD f.rxp }

section
variable {s : State} {l : Nat} {f : Frame} (hlow : resetLow s = false) (hnext : commitNext s l = some f) (hcrypt : f.fate = .crypt)
  (hended : f.ended = true)
include hlow hnext hcrypt hended

/-- The row of a frame with a damaged descriptor. -/
theorem ingressCommit_damaged : exec (.ingressCommit l true) s = done (settleIng (ingReject f 0x1B (raiseL .ing 1 [l] s))) := by
  show execIngressCommit l true s = _
  rw [execIngressCommit, run_high hlow]
  simp [hnext, hcrypt, hended, fdClean_iff]

theorem ingressCommit_judges :
    (∀ k, tagOf s f.bytes (txpClear f.txp) (isXpn (txpSuite f.txp)) = some k →
      exec (.ingressCommit l false) s = done (settleIng (ingVerdict (presentFrame s l f) k (queueBlocks .ing (presentFrame s l f) s)))) ∧
    (tagOf s f.bytes (txpClear f.txp) (isXpn (txpSuite f.txp)) = none →
      exec (.ingressCommit l false) s = done (settleIng (ingReject (presentFrame s l f) 0x14 s))) := by
  have hrow : exec (.ingressCommit l false) s = execIngressCommit l false s := rfl
  rw [hrow, execIngressCommit, run_high hlow]
  constructor
  · intro k hk
    cases hy : secyOf s l <;> simp [hnext, hcrypt, hended, fdClean_iff, hk, hy, presentFrame]
  · intro hk
    cases hy : secyOf s l <;> simp [hnext, hcrypt, hended, fdClean_iff, hk, hy, presentFrame]

end

namespace Commits
variable {s : State} {l : Nat} {f : Frame} {y : Secy} {k : Tag} {a : Sa} (h : Commits s l f y k a)
include h

theorem frameCalm : frameCalm .ing f = true := calm_iff.1 h.calm f (commitNext_mem h.next)

theorem row : exec (.ingressCommit l false) s = done (settleIng (ingVerdict { f with rxp := y.rxp } k s)) := by
  obtain ⟨hrow, -⟩ := ingressCommit_judges h.high h.next h.crypt h.ended
  have hf : presentFrame s l f = { f with rxp := y.rxp } := by rw [presentFrame, h.secy]; rfl
  rw [hrow k h.tag, hf, queueBlocks_calm (f := { f with rxp := y.rxp }) h.frameCalm]

section
variable (hst : f.started = false)
include hst

theorem unchecked (hok : icvOk (judged y k a f) k = false) (hval : rxpVal y.rxp = 1) (hc : k.bit 2 = false) :
    ∃ u, Committed f .unchecked s u (settle (settleIng (ingVerdict { f with rxp := y.rxp } k s))) ∧ counted 0x38 1 s u ∧
      (rxOf u f.saIdx).map (·.pn) = some a.pn := by
  have hb : Booked f.saIdx s (bump 0x38 (some f.link) (rxStat f.saIdx 1 s)) := ((Booked.refl s).rxStat 1).bump _ _
  rw [ingVerdict_unchecked h.sa hok hval hc hst]
  refine ⟨_, committed_unchecked h.calm hb.path _, counted_step (rxStat_cnt (by decide) (by decide) _ _ _), ?_⟩
  rw [rxOf_bump, rxStat_pn, h.sa]
  rfl

/-- A discard with event `e` and statistic `i`. -/
theorem discards {code e i : Nat} (hlim : atLimit s .ing f = false) (hv : ingVerdict { f with rxp := y.rxp } k s =
      ingReject (judged y k a f) code (raiseL .ing e [f.link] (rxStat f.saIdx i s)))
    (he : e < 72) (h4 : 0x20 + code ≠ 0x54) (h5 : 0x20 + code ≠ 0x55) :
    ∃ u, Committed f .discard s u (settle (settleIng (ingVerdict { f with rxp := y.rxp } k s))) ∧ counted (0x20 + code) 1 s u ∧
      (rxOf u f.saIdx).map (·.pn) = some a.pn ∧ (u.evt.get .ing).pendReal.getLsbD e = true := by
  have hb : Booked f.saIdx s (raiseL .ing e [f.link] (rxStat f.saIdx i s)) := ((Booked.refl s).rxStat i).raiseL _ _ _
  have hplace : ∀ v, discardFrame .ing (judged y k a f) code v = discardFrame .ing f code v := fun _ => rfl
  rw [hv, ingReject_unstarted (f := judged y k a f) hst, hplace]
  refine ⟨_, committed_discard h.calm hb.path hlim code, counted_step ?_, ?_, ?_⟩
  · rw [sameBut_raiseL _ _ _ _ .cnt (by decide), rxStat_cnt h4 h5]
  · rw [rxOf_bump, rxOf_raiseL, rxStat_pn, h.sa]
    rfl
  · rw [sameBut_bump _ _ _ .evt (by decide)]
    exact raiseL_pends .ing _ _ he

/-- A frame that is delivered as verified, on the state `v` that may have counted it as late. -/
theorem delivers {b : Bool} {v : State} (hb : Booked f.saIdx s v) (hrx : rxOf v f.saIdx = rxOf s f.saIdx)
    (hv : ingVerdict { f with rxp := y.rxp } k s = ingAccept (judged y k a f) k b v) :
    ∃ u, Committed f .verified s u (settle (settleIng (ingVerdict { f with rxp := y.rxp } k s))) ∧
      (∀ c, c ≠ 0x3D → c ≠ 0x3E → c ≠ 0x54 → c ≠ 0x55 →
        smGet 0 u.cnt c = if c = 0x3C then satAdd 63 (smGet 0 v.cnt c) 1 else smGet 0 v.cnt c) ∧
      (rxOf u f.saIdx).map (·.pn) = some (if b then Nat.max a.pn ((judged y k a f).pn + 1) else a.pn) := by
  have hbook : Booked f.saIdx s (deliveryCounts (judged y k a f) k b v) := hb.trans (booked_deliveryCounts (judged y k a f) k b v)
  rw [hv, ingAccept_unstarted (f := judged y k a f) hst]
  refine ⟨_, committed_verified h.calm hbook.path _, fun c hd he h4 h5 => deliveryCounts_cnt hd he h4 h5 _ _ _ _, ?_⟩
  have hpn := deliveryCounts_pn (judged y k a f) k b v
  rw [show (judged y k a f).saIdx = f.saIdx from rfl, hrx, h.sa] at hpn
  exact hpn

end

end Commits

end Sys2Proof.Machine
end

section
/-! A commit of a frame that has started, and what any commit decides. -/
namespace Sys2Proof.Machine

/-! A frame that has started ends on cli_tx_ (R145). -/

/-- A frame that the lanes decide ends as they give it. -/
theorem clientFrame_crypt {s : State} {f : Frame} {k : Tag} (h : f.fate = .crypt)
    (hk : tagOf s f.bytes (txpClear f.txp) (isXpn (txpSuite f.txp)) = some k) :
    clientFrame s f = (clientFd f (k.tci % 4) false false false, rebuilt f k (ingPlain f k)) := by
  simp [clientFrame, hk, h]

theorem booked_poisoned {r : Nat} {s v : State} (h : Booked r s v) (l : Nat) : Booked r s (poisoned l v) := (h.raiseL _ _ _).bump _ _

/-- The frame has left on cli_tx_ with this fd, these bytes and this verdict. -/
structure Sent (f : Frame) (fd : BitVec 16) (bs : List Byte) (err : Bool) (s u t : State) : Prop where
  out : [frameOut .ing s f.link fd bs err] <:+ t.out
  left : leftPath .ing f s t
  same : sameBut [.ing, .lne, .out, .que, .evt] u t
  shows : ∀ n, Sub.ing.defined.getLsbD n = true → (u.evt.get .ing).pendReal.getLsbD n = true → eventSet t .ing n

theorem sent {s u : State} {f : Frame} {k : Tag} {r : Nat} (hc : calm s .ing = true) (hready : s.ing.txReady = true) (hf : frameCalm .ing f = true)
    (hcrypt : f.fate = .crypt) (hk : tagOf s f.bytes (txpClear f.txp) (isXpn (txpSuite f.txp)) = some k) (hb : Booked r s u) :
    Sent f (clientFd f (k.tci % 4) false false false) (rebuilt f k (ingPlain f k)) (f.inErr || f.poison) s u
      (settle (settleIng (ingFinish f u))) := by
  have hsend : ingFinish f u = ingSend f u := if_pos ((congrArg Path.txReady hb.path).trans hready)
  have hleft : leftPath .ing f s (ingSend f u) := by
    have := leftPath_ingSend (s := u) hf
    rwa [leftPath, hb.path] at this
  have hcalm : calm (ingSend f u) .ing = true := calm_of_subset hc fun x hx => by
    rw [show (pathOf (ingSend f u) .ing).frames = _ from hleft] at hx
    exact List.mem_of_mem_filter hx
  have hclient : clientFrame u f = _ := clientFrame_crypt hcrypt (by rw [tagOf_ecfg (hb.same .ecfg (by decide)), hk])
  have hout : frameOut .ing u = frameOut .ing s := by
    funext l fd bs e
    rw [frameOut, frameOut, hb.path]
  obtain ⟨hsame, hshows⟩ := rowEnds_calm hcalm
  rw [hsend]
  have hkeep := sameBut_ingSend (s := u) hf
  refine ⟨?_, ?_, sameBut_trans (sameBut_mono hkeep (by decide)) (sameBut_mono hsame (by decide)), fun n hd hp => hshows n hd ?_⟩
  · rw [hsame .out (by decide), ingSend_out hf, hclient, hout]
    exact List.suffix_append _ _
  · rw [leftPath, show pathOf (settle (settleIng (ingSend f u))) .ing = _ from hsame .ing (by decide)]
    exact hleft
  · rw [hkeep .evt (by decide)]
    exact hp

/-- What a judged frame carries does not rest on the parameters that judge it. -/
theorem judged_carries (y : Secy) (k : Tag) (a : Sa) (f : Frame) (p : Bool) :
    clientFd { judged y k a f with poison := p } (k.tci % 4) false false false = clientFd f (k.tci % 4) false false false ∧
      rebuilt { judged y k a f with poison := p } k (ingPlain { judged y k a f with poison := p } k) =
        rebuilt f k (ingPlain { f with pn := recoverPn a.suite (lowPn a (rxpWindow y.rxp)) k.pn } k) := by
  unfold judged
  exact ⟨rfl, rfl⟩

/-- With cli_tx_ready at 0 a frame that has started waits decided. -/
theorem ingFinish_waits {s u : State} {f : Frame} {r : Nat} (hc : calm s .ing = true) (hready : s.ing.txReady = false) (hf : frameCalm .ing f = true)
    (hb : Booked r s u) :
    ∀ x ∈ (settle (settleIng (ingFinish f u))).ing.frames, x.link = f.link → x.orderTag = f.orderTag → x.fate = .verified := by
  have hwait : ingFinish f u = modFrame .ing f.link f.orderTag (fun x => { x with fate := .verified, poison := f.poison, pn := f.pn }) u := by
    rw [ingFinish, if_neg, queueBlocks_calm hf]
    rw [show u.ing = s.ing from hb.path, hready]
    decide
  have hdec : Decision (fun x => { x with fate := .verified, poison := f.poison, pn := f.pn }) := by
    refine ⟨fun _ => rfl, fun _ => rfl, fun _ => rfl, fun _ => ?_, fun _ => rfl, fun _ => ?_⟩
    · simp
    · simp [tallied]
  obtain ⟨hsame, -⟩ := rowEnds_calm (calm_decision hdec hc hb.path f.link f.orderTag)
  intro x hx hl ho
  rw [hwait, hsame .ing (by decide), modFrame_frames] at hx
  obtain ⟨z, -, ⟨-, rfl⟩ | ⟨hz, rfl⟩⟩ := mem_mapWhere hx
  · rfl
  · simp [hl, ho] at hz

namespace Commits
variable {s : State} {l : Nat} {f : Frame} {y : Secy} {k : Tag} {a : Sa} (h : Commits s l f y k a)
include h

/-- The verdict of a frame that has started ends it, poisoned or not. -/
theorem finishes (hst : f.started = true) :
    ∃ u p, Booked f.saIdx s u ∧ ingVerdict { f with rxp := y.rxp } k s = ingFinish { judged y k a f with poison := p } u := by
  have hreject : ∀ code v, Booked f.saIdx s v →
      ∃ u p, Booked f.saIdx s u ∧ ingReject (judged y k a f) code v = ingFinish { judged y k a f with poison := p } u := fun code v hv =>
    ⟨_, true, booked_poisoned (hv.bump _ _) _, ingReject_started (f := judged y k a f) hst code v⟩
  have haccept : ∀ b v, Booked f.saIdx s v →
      ∃ u p, Booked f.saIdx s u ∧ ingAccept (judged y k a f) k b v = ingFinish { judged y k a f with poison := p } u := fun b v hv =>
    ⟨_, f.poison, hv.trans (booked_deliveryCounts (judged y k a f) k b v), ingAccept_started (f := judged y k a f) hst k b v⟩
  have hstat : ∀ i e, Booked f.saIdx s (raiseL .ing e [f.link] (rxStat f.saIdx i s)) := fun i e => ((Booked.refl s).rxStat i).raiseL _ _ _
  cases hok : icvOk (judged y k a f) k with
  | false =>
    rw [ingVerdict_badIcv h.sa hok (.inr (.inr hst))]
    exact hreject _ _ (hstat 2 3)
  | true =>
    by_cases hlate : (judged y k a f).pn < lowPn a (rxpWindow y.rxp)
    · cases hrep : rxpReplay y.rxp with
      | true =>
        rw [ingVerdict_replayed h.sa hok hlate hrep]
        exact hreject _ _ (hstat 3 4)
      | false =>
        rw [ingVerdict_late h.sa hok hlate hrep]
        exact haccept _ _ ((Booked.refl s).bump _ _)
    · rw [ingVerdict_inOrder h.sa hok hlate]
      exact haccept _ _ (Booked.refl s)

/-- A started frame that is decided leaves on cli_tx_. -/
theorem leaves {u : State} (hready : s.ing.txReady = true) (hb : Booked f.saIdx s u) (p : Bool) :
    Sent f (clientFd f (k.tci % 4) false false false)
      (rebuilt f k (ingPlain { f with pn := recoverPn a.suite (lowPn a (rxpWindow y.rxp)) k.pn } k)) (f.inErr || p) s u
      (settle (settleIng (ingFinish { judged y k a f with poison := p } u))) := by
  have hsent := sent h.calm hready (f := { judged y k a f with poison := p }) h.frameCalm h.crypt h.tag hb
  obtain ⟨hfd, hbytes⟩ := judged_carries y k a f p
  rw [hfd, hbytes] at hsent
  exact ⟨hsent.out, hsent.left, hsent.same, hsent.shows⟩

/-- A started frame in its turn is delivered. -/
theorem sends (hst : f.started = true) (hready : s.ing.txReady = true) (hok : icvOk (judged y k a f) k = true)
    (hlate : ¬ (judged y k a f).pn < lowPn a (rxpWindow y.rxp)) :
    ∃ u, Sent f (clientFd f (k.tci % 4) false false false)
        (rebuilt f k (ingPlain { f with pn := recoverPn a.suite (lowPn a (rxpWindow y.rxp)) k.pn } k)) (f.inErr || f.poison) s u
        (settle (settleIng (ingVerdict { f with rxp := y.rxp } k s))) ∧ counted 0x3C 1 s u ∧
      (rxOf u f.saIdx).map (·.pn) = some (Nat.max a.pn ((judged y k a f).pn + 1)) := by
  have hb : Booked f.saIdx s (deliveryCounts (judged y k a f) k true s) := booked_deliveryCounts (judged y k a f) k true s
  rw [ingVerdict_inOrder h.sa hok hlate, ingAccept_started (f := judged y k a f) hst]
  refine ⟨_, h.leaves hready hb f.poison, ?_, ?_⟩
  · exact deliveryCounts_cnt (by decide) (by decide) (by decide) (by decide) _ _ _ _
  · have hpn := deliveryCounts_pn (judged y k a f) k true s
    rw [show (judged y k a f).saIdx = f.saIdx from rfl, h.sa] at hpn
    exact hpn

/-- A started frame whose ICV fails ends poisoned. -/
theorem poisons (hst : f.started = true) (hready : s.ing.txReady = true) (hok : icvOk (judged y k a f) k = false) :
    ∃ u, Sent f (clientFd f (k.tci % 4) false false false)
        (rebuilt f k (ingPlain { f with pn := recoverPn a.suite (lowPn a (rxpWindow y.rxp)) k.pn } k)) true s u
        (settle (settleIng (ingVerdict { f with rxp := y.rxp } k s))) ∧
      counted 0x36 1 s u ∧ counted 0x3A 1 s u ∧ (u.evt.get .ing).pendReal.getLsbD 5 = true ∧ (rxOf u f.saIdx).map (·.pn) = some a.pn := by
  have hb : Booked f.saIdx s (raiseL .ing 3 [f.link] (rxStat f.saIdx 2 s)) := ((Booked.refl s).rxStat 2).raiseL _ _ _
  have hcnt : ∀ c, c ≠ 0x54 → c ≠ 0x55 → smGet 0 (raiseL .ing 3 [f.link] (rxStat f.saIdx 2 s)).cnt c = smGet 0 s.cnt c := fun c h4 h5 => by
    rw [sameBut_raiseL _ _ _ _ .cnt (by decide), rxStat_cnt h4 h5]
  rw [ingVerdict_badIcv h.sa hok (.inr (.inr hst)), ingReject_started (f := judged y k a f) hst]
  refine ⟨poisoned f.link (bump 0x36 (some f.link) (raiseL .ing 3 [f.link] (rxStat f.saIdx 2 s))), ?_, ?_, ?_, ?_, ?_⟩
  · have := h.leaves hready (booked_poisoned (hb.bump (dirCnt .ing 0x16) (some f.link)) f.link) true
    rwa [Bool.or_true] at this
  · refine counted_of_cnt (counted_step (c := 0x36) (n := 1) (l := some f.link) (hcnt _ (by decide) (by decide))) ?_
    rw [poisoned, bump, bumpN_cnt, if_neg (by decide), sameBut_raiseL _ _ _ _ .cnt (by decide)]
    rfl
  · refine counted_step ?_
    rw [sameBut_raiseL _ _ _ _ .cnt (by decide), bump, bumpN_cnt, if_neg (by decide), hcnt _ (by decide) (by decide)]
  · rw [poisoned, sameBut_bump _ _ _ .evt (by decide)]
    exact raiseL_pends .ing _ _ (by decide)
  · rw [poisoned, rxOf_bump, rxOf_raiseL, rxOf_bump, rxOf_raiseL, rxStat_pn, h.sa]
    rfl

end Commits

/-! What any verdict on a frame that has not started comes to. -/

theorem ingReject_decides {s v : State} {f : Frame} {r : Nat} (hst : f.started = false) (hlim : atLimit s .ing f = false) (hb : Booked r s v)
    (code : Nat) : ∃ g u, Decision g ∧ Booked r s u ∧ ingReject f code v = modFrame .ing f.link f.orderTag g u := by
  rw [ingReject_unstarted hst, discardFrame_decides ((atLimit_of_path hb.path).trans hlim)]
  exact ⟨_, _, decision_discard, hb.bump _ _, rfl⟩

theorem ingAccept_decides {s v : State} {f : Frame} (hst : f.started = false) (hb : Booked f.saIdx s v) (t : Tag) (b : Bool) :
    ∃ g u, Decision g ∧ Booked f.saIdx s u ∧ ingAccept f t b v = modFrame .ing f.link f.orderTag g u := by
  rw [ingAccept_unstarted hst]
  exact ⟨_, _, decision_verified f.pn, hb.trans (booked_deliveryCounts f t b v), rfl⟩

theorem ingVerdict_decides {s : State} {f : Frame} (hst : f.started = false) (hlim : atLimit s .ing f = false) (t : Tag) :
    ∃ g u, Decision g ∧ Booked f.saIdx s u ∧ ingVerdict f t s = modFrame .ing f.link f.orderTag g u := by
  have hstat : ∀ i, Booked f.saIdx s (rxStat f.saIdx i s) := fun i => (Booked.refl s).rxStat i
  unfold ingVerdict
  split
  · exact ingReject_decides hst hlim (Booked.refl s) _
  next a ha =>
    extract_lets low F
    have hF : F.started = false := hst
    have hlimF : atLimit s .ing F = false := hlim
    split
    · split
      · exact ⟨_, _, decision_unchecked F.pn, (hstat 1).bump _ _, rfl⟩
      · exact ingReject_decides hF hlimF ((hstat 2).raiseL _ _ _) _
    · split
      · exact ingReject_decides hF hlimF ((hstat 3).raiseL _ _ _) _
      · split
        · exact ingAccept_decides hF ((Booked.refl s).bump _ _) t false
        · exact ingAccept_decides hF (Booked.refl s) t true

end Sys2Proof.Machine
end

section
/-! PKTS_LATE at a commit (R138, R150), and the commit row by row. -/
namespace Sys2Proof.Machine

theorem filter_mapWhere_comm {α : Type} {p q : α → Bool} {g : α → α} (h : ∀ x, q (g x) = q x) (xs : List α) :
    (mapWhere p g xs).filter q = mapWhere p g (xs.filter q) := by
  have hcomp : (q ∘ fun x => if p x then g x else x) = q := by
    funext x
    simp only [Function.comp]
    split
    · exact h x
    · rfl
  unfold mapWhere
  rw [List.filter_map, hcomp]

/-- Of the frames of link `l` all but those at `o` are the late frame `g`, which alone waits for its count. -/
structure LatePair (l o : Nat) (g : Frame) (s : State) : Prop where
  late : s.ing.frames.filter (fun x => x.lateSa.isSome) = [g]
  others : ∀ x ∈ s.ing.frames, x.link = l → x.orderTag ≠ o → x = g
  few : (s.ing.frames.filter (fun x => x.link == l)).length ≤ 2

/-- No frame of link `l` waits to be committed, and `g` alone waits for its count. -/
structure LateNext (l r : Nat) (g : Frame) (a : Sa) (s : State) : Prop where
  late : s.ing.frames.filter (fun x => x.lateSa.isSome) = [g]
  settled : ∀ x ∈ s.ing.frames, x.link = l → x.fate ≠ .crypt ∧ inSump x = false ∧ tallied x = true
  sa : rxOf s r = some a

theorem mapWhere_singleton {α : Type} {p : α → Bool} {g : α → α} {x : α} (h : p x = false) : mapWhere p g [x] = [x] :=
  mapWhere_none fun _ hy => List.mem_singleton.1 hy ▸ h

namespace LatePair
variable {l o : Nat} {g : Frame} {s t : State}

theorem of_frames (h : LatePair l o g s) (hf : t.ing.frames = s.ing.frames) : LatePair l o g t :=
  ⟨by rw [hf]; exact h.late, by rw [hf]; exact h.others, by rw [hf]; exact h.few⟩

/-- The late frame is none of those at `o`. -/
theorem apart (ho : g.orderTag ≠ o) : (g.link == l && g.orderTag == o) = false := by simp [ho]

theorem modFrame (h : LatePair l o g s) (ho : g.orderTag ≠ o) {q : Frame → Frame}
    (hq : ∀ x, (q x).link = x.link ∧ (q x).orderTag = x.orderTag ∧ (q x).lateSa = x.lateSa) : LatePair l o g (modFrame .ing l o q s) := by
  refine ⟨?_, ?_, ?_⟩
  · rw [modFrame_frames, filter_mapWhere_comm (fun x => by rw [(hq x).2.2]), h.late]
    exact mapWhere_singleton (apart ho)
  · intro x hx hl hne
    rw [modFrame_frames] at hx
    obtain ⟨z, hz, ⟨hkey, rfl⟩ | ⟨-, rfl⟩⟩ := mem_mapWhere hx
    · have hzo : z.orderTag = o := by simpa using (Bool.and_eq_true_iff.1 hkey).2
      exact absurd ((hq z).2.1.trans hzo) hne
    · exact h.others x hz hl hne
  · rw [modFrame_frames, filter_mapWhere_comm (fun x => by rw [(hq x).1]), mapWhere, List.length_map]
    exact h.few

theorem queueBlocks (h : LatePair l o g s) (ho : g.orderTag ≠ o) {f : Frame} (hl : f.link = l) (hfo : f.orderTag = o) :
    LatePair l o g (queueBlocks .ing f s) := by
  subst hl hfo
  unfold Machine.queueBlocks
  split
  · exact h
  · exact of_frames (h.modFrame ho (q := fun x => { x with queued := true }) fun _ => ⟨rfl, rfl, rfl⟩) rfl

/-- Few frames of the link are in flight. -/
theorem atLimit (h : LatePair l o g s) {f : Frame} (hl : f.link = l) : atLimit s .ing f = false := by
  subst hl
  have hcount : ∀ p : Frame → Bool, (s.ing.frames.takeWhile p).countP (fun x => x.link == f.link) ≤ 2 := fun p =>
    ((List.takeWhile_sublist p).countP_le).trans (List.countP_eq_length_filter ▸ h.few)
  exact decide_eq_false fun h2048 => by have := h2048.trans (hcount _); omega

/-- Once the frame at `o` is decided nothing is left before the late one. -/
theorem decided (h : LatePair l o g s) (ho : g.orderTag ≠ o) {d : Frame → Frame} (hd : Decision d) {r : Nat} {a : Sa} (ha : rxOf s r = some a)
    (hdead : g.fate = .discard) : LateNext l r g a (Machine.modFrame .ing l o d s) := by
  refine ⟨?_, ?_, ha⟩
  · rw [modFrame_frames, filter_mapWhere_comm (fun x => by rw [hd.late x]), h.late]
    exact mapWhere_singleton (apart ho)
  · intro x hx hl
    rw [modFrame_frames] at hx
    obtain ⟨z, hz, ⟨-, rfl⟩ | ⟨hkey, rfl⟩⟩ := mem_mapWhere hx
    · exact ⟨hd.fate z, hd.placed z, hd.tally z⟩
    · obtain rfl := h.others x hz hl fun hxo => by simp [hl, hxo] at hkey
      simp [hdead, inSump, tallied, isDead]

end LatePair

theorem wholeCount_rx (f : Frame) (s : State) : (wholeCount f s).rx = s.rx := by
  have hstat : ∀ c, (bump c (some f.link) (countStat f.link f.stat s)).rx = s.rx := fun c => by
    rw [sameBut_bump _ _ _ .rx (by decide)]
    cases f.stat with
    | none => rfl
    | some i => exact sameBut_secyStat _ _ _ .rx (by decide)
  unfold wholeCount
  split
  · exact sameBut_tapFrame f s .rx (by decide)
  · exact sameBut_bump _ _ _ .rx (by decide)
  · exact hstat _
  · exact hstat _
  · exact hstat _
  · rfl

namespace LateNext
variable {l r : Nat} {g : Frame} {a : Sa} {s : State}

/-- The end of another link's frame is counted. -/
theorem ingWhole (h : LateNext l r g a s) (hg : g.link = l) {f : Frame} (hf : f.link = l → tallied f = true) :
    LateNext l r g a (ingWhole f s) := by
  cases ht : tallied f with
  | true => rwa [ingWhole_tallied ht]
  | false =>
    have hlink : f.link ≠ l := fun hl => by rw [hf hl] at ht; cases ht
    have hother : ∀ x : Frame, x.link = l → (x.link == f.link && x.orderTag == f.orderTag) = false := fun x hx => by
      simp [hx, hlink.symm]
    have hframes : (Machine.ingWhole f s).ing.frames =
        mapWhere (fun x => x.link == f.link && x.orderTag == f.orderTag) (fun x => { x with counted := true }) s.ing.frames := by
      rw [ingWhole_counts ht, modFrame_frames]
      exact congrArg (fun q : Path => mapWhere _ _ q.frames) (pathOf_wholeCount f s .ing)
    refine ⟨?_, ?_, ?_⟩
    · have hlate : ∀ x : Frame, (fun y : Frame => y.lateSa.isSome) { x with counted := true } = x.lateSa.isSome := fun _ => rfl
      rw [hframes, filter_mapWhere_comm hlate, h.late]
      exact mapWhere_singleton (hother g hg)
    · intro x hx hl
      rw [hframes] at hx
      obtain ⟨z, hz, ⟨hkey, rfl⟩ | ⟨-, rfl⟩⟩ := mem_mapWhere hx
      · rw [hother z hl] at hkey
        cases hkey
      · exact h.settled x hz hl
    · rw [ingWhole_counts ht, rxOf_of_rx (sameBut_modFrame .ing _ _ _ _ .rx (by decide)), rxOf_of_rx (wholeCount_rx f s)]
      exact h.sa

theorem ingWholes (h : LateNext l r g a s) (hg : g.link = l) {fs : List Frame} (hfs : ∀ f ∈ fs, f.link = l → tallied f = true) :
    LateNext l r g a (fs.foldl (fun t f => Machine.ingWhole f t) s) := by
  induction fs generalizing s with
  | nil => exact h
  | cons f fs ih => exact ih (h.ingWhole hg (hfs f List.mem_cons_self)) fun x hx => hfs x (List.mem_cons_of_mem _ hx)

end LateNext

/-- Frames without a late count to come count nothing. -/
theorem foldl_lateCount (fs : List Frame) (s : State) :
    fs.foldl (fun t f => lateCount f t) s = (fs.filter (fun x => x.lateSa.isSome)).foldl (fun t f => lateCount f t) s := by
  induction fs generalizing s with
  | nil => rfl
  | cons f fs ih =>
    cases hl : f.lateSa with
    | none => rw [List.foldl_cons, lateCount_none hl, ih, List.filter_cons_of_neg (by simp [hl])]
    | some r => rw [List.filter_cons_of_pos (by simp [hl]), List.foldl_cons, List.foldl_cons, ih]

/-- What is left of the late frame once its SA has counted it. -/
structure LateDone (l o r : Nat) (a : Sa) (s : State) : Prop where
  sa : rxOf s r = some a
  frames : ∀ x ∈ s.ing.frames, x.link = l → x.orderTag = o → x.lateSa = none

theorem LateNext.lateCount {l r : Nat} {g : Frame} {a : Sa} {s : State} (h : LateNext l r g a s) (hg : g.link = l) (he : g.ended = true)
    (hlate : g.lateSa = some r) : LateDone l g.orderTag r (statOf 3 1 a) (lateCount g s) := by
  subst hg
  have hnone : (s.ing.frames.takeWhile (fun x => !(x.link == g.link && x.orderTag == g.orderTag))).any
      (fun x => x.link == g.link && (x.fate == .crypt || inSump x)) = false := List.any_eq_false.2 fun x hx => by
    simp only [Bool.and_eq_true, beq_iff_eq, not_and]
    intro hl
    obtain ⟨hfate, hsump, -⟩ := h.settled x (List.takeWhile_subset _ hx) hl
    simp [hfate, hsump]
  have hcount : Machine.lateCount g s = modFrame .ing g.link g.orderTag (fun x => { x with lateSa := none })
      (dirtyLine (rxLine r) (setRx r (some (statOf 3 1 a)) s)) := by
    simp only [Machine.lateCount, hlate, he, hnone, h.sa, modRx_some h.sa]
    rfl
  rw [hcount]
  refine ⟨?_, fun x hx hl ho => ?_⟩
  · rw [rxOf_of_rx (sameBut_modFrame .ing _ _ _ _ .rx (by decide)), rxOf_dirty, if_pos rfl]
  · rw [modFrame_frames] at hx
    obtain ⟨z, -, ⟨-, rfl⟩ | ⟨hkey, rfl⟩⟩ := mem_mapWhere hx
    · rfl
    · simp [hl, ho] at hkey

namespace LateDone
variable {l o r : Nat} {a : Sa} {s t : State}

theorem of_parts (h : LateDone l o r a s) (hrx : t.rx = s.rx) (hf : t.ing.frames = s.ing.frames) : LateDone l o r a t :=
  ⟨(rxOf_of_rx hrx r).trans h.sa, by rw [hf]; exact h.frames⟩

theorem queueBlocks (h : LateDone l o r a s) (f : Frame) : LateDone l o r a (queueBlocks .ing f s) := by
  unfold Machine.queueBlocks
  split
  · exact h
  · refine ⟨h.sa, fun x hx hl ho => ?_⟩
    have hmem : x ∈ mapWhere (fun x => x.link == f.link && x.orderTag == f.orderTag) (fun x => { x with queued := true }) s.ing.frames := hx
    obtain ⟨z, hz, ⟨-, rfl⟩ | ⟨-, rfl⟩⟩ := mem_mapWhere hmem
    · exact h.frames z hz hl ho
    · exact h.frames x hz hl ho

theorem settlePath (h : LateDone l o r a s) : LateDone l o r a (settlePath .ing s) := by
  have hfold : ∀ (fs : List Frame) (v : State), LateDone l o r a v → LateDone l o r a (fs.foldl (fun t f => Machine.queueBlocks .ing f t) v) := by
    intro fs
    induction fs with
    | nil => exact fun v hv => hv
    | cons f fs ih => exact fun v hv => ih _ (hv.queueBlocks f)
  exact (hfold s.ing.frames s h).of_parts (sameBut_syncPath .ing _ .rx (by decide)) (congrArg Path.frames (sameBut_syncPath .ing _ .ing (by decide)))

end LateDone

/-- The row's end counts the late frame. -/
theorem settleIng_late {l r : Nat} {g : Frame} {a : Sa} {s : State} (h : LateNext l r g a s) (hg : g.link = l) (he : g.ended = true)
    (hlate : g.lateSa = some r) : LateDone l g.orderTag r (statOf 3 1 a) (settleIng s) := by
  have hwhole := h.ingWholes hg fun f hf hl => (h.settled f hf hl).2.2
  unfold settleIng
  dsimp only
  rw [foldl_lateCount, hwhole.late]
  exact (hwhole.lateCount hg he hlate).settlePath

/-- A commit of a frame that has not started decides it, on the state or on one whose blocks it has queued. -/
theorem ingressCommit_decides {s : State} {l : Nat} {f : Frame} (b : Bool) (hlow : resetLow s = false) (hnext : commitNext s l = some f)
    (hcrypt : f.fate = .crypt) (hended : f.ended = true) (hst : f.started = false)
    (hlim : ∀ v, v = s ∨ v = queueBlocks .ing (presentFrame s l f) s → atLimit v .ing f = false) :
    ∃ v d u, (v = s ∨ v = queueBlocks .ing (presentFrame s l f) s) ∧ Decision d ∧ Booked f.saIdx v u ∧
      exec (.ingressCommit l b) s = done (settleIng (modFrame .ing f.link f.orderTag d u)) := by
  cases b with
  | true =>
    obtain ⟨d, u, hd, hb, hrow⟩ := ingReject_decides hst (hlim s (.inl rfl)) ((Booked.refl (r := f.saIdx) s).raiseL .ing 1 [l]) 0x1B
    exact ⟨s, d, u, .inl rfl, hd, hb, by rw [ingressCommit_damaged hlow hnext hcrypt hended, hrow]⟩
  | false =>
    obtain ⟨htag, hnone⟩ := ingressCommit_judges hlow hnext hcrypt hended
    cases hk : tagOf s f.bytes (txpClear f.txp) (isXpn (txpSuite f.txp)) with
    | none =>
      obtain ⟨d, u, hd, hb, hrow⟩ := ingReject_decides (f := presentFrame s l f) hst (hlim s (.inl rfl)) (Booked.refl (r := f.saIdx) s) 0x14
      exact ⟨s, d, u, .inl rfl, hd, hb, by rw [hnone hk, hrow]; rfl⟩
    | some k =>
      obtain ⟨d, u, hd, hb, hrow⟩ := ingVerdict_decides (f := presentFrame s l f) hst (hlim _ (.inr rfl)) k
      exact ⟨_, d, u, .inr rfl, hd, hb, by rw [htag k hk, hrow]; rfl⟩

theorem rxOf_queueBlocks (f : Frame) (s : State) (j : Nat) : rxOf (queueBlocks .ing f s) j = rxOf s j := by
  unfold queueBlocks
  split <;> rfl

/-- A commit that leaves only the late frame of its link before it counts that. -/
theorem ingressCommit_countsLate {s : State} {l r : Nat} {f g : Frame} {a : Sa} (b : Bool) (hlow : resetLow s = false)
    (hnext : commitNext s l = some f) (hcrypt : f.fate = .crypt) (hended : f.ended = true) (hst : f.started = false) (hfl : f.link = l)
    (hpair : LatePair l f.orderTag g s) (ho : g.orderTag ≠ f.orderTag) (hdead : g.fate = .discard) (he : g.ended = true)
    (hlate : g.lateSa = some r) (hgl : g.link = l) (hr : f.saIdx ≠ r) (ha : rxOf s r = some a) :
    ∃ t, exec (.ingressCommit l b) s = .next t ∧ LateDone l g.orderTag r (statOf 3 1 a) t := by
  have hpairs : ∀ v, v = s ∨ v = queueBlocks .ing (presentFrame s l f) s → LatePair l f.orderTag g v ∧ rxOf v r = some a := by
    rintro v (rfl | rfl)
    · exact ⟨hpair, ha⟩
    · exact ⟨hpair.queueBlocks ho hfl rfl, (rxOf_queueBlocks _ s r).trans ha⟩
  obtain ⟨v, d, u, hv, hd, hb, hrow⟩ := ingressCommit_decides b hlow hnext hcrypt hended hst fun v hv => (hpairs v hv).1.atLimit hfl
  obtain ⟨hvpair, hva⟩ := hpairs v hv
  have hu : LatePair l f.orderTag g u := hvpair.of_frames (congrArg Path.frames hb.path)
  have hdone := settleIng_late (hu.decided ho hd ((hb.others r hr.symm).trans hva) hdead) hgl he hlate
  subst hfl
  exact ⟨_, hrow, hdone.of_parts (sameBut_settle _ .rx (by decide)) (congrArg Path.frames (sameBut_settle _ .ing (by decide)))⟩

end Sys2Proof.Machine
end

section
/-! The commit, clause by clause. -/
namespace Sys2Proof.Machine

section
variable {s : State} {l : Nat} {f g : Frame} (h : s.ing.frames.filter (fun x => x.link == l) = [f, g])
include h

theorem link_of_pair : f.link = l ∧ g.link = l := by
  have hmem : ∀ x ∈ s.ing.frames.filter (fun x => x.link == l), x.link = l := fun x hx => by simpa using List.of_mem_filter hx
  rw [h] at hmem
  exact ⟨hmem f (by simp), hmem g (by simp)⟩

/-- The first frame of the link that goes to the lanes is committed next. -/
theorem commitNext_of_pair (hf : f.fate = .crypt) : commitNext s l = some f := by
  have hfind : (s.ing.frames.filter (fun x => x.link == l)).find? (fun x => x.fate == .crypt || inSump x) = some f := by
    rw [h]
    simp [hf]
  rw [List.find?_filter] at hfind
  rw [commitNext, ← hfind]
  congr 1
  funext x
  rw [Bool.decide_and, Bool.decide_eq_true, Bool.decide_eq_true]

theorem latePair_of_pair (hlate : s.ing.frames.filter (fun x => x.lateSa.isSome) = [g]) : LatePair l f.orderTag g s := by
  refine ⟨hlate, fun x hx hl ho => ?_, by rw [h]; exact le_rfl⟩
  have hmem : x ∈ s.ing.frames.filter (fun x => x.link == l) := List.mem_filter.2 ⟨hx, by simp [hl]⟩
  rw [h] at hmem
  rcases List.mem_cons.1 hmem with rfl | hmem
  · exact absurd rfl ho
  · exact List.mem_singleton.1 hmem

end

/-- Settles O35: the verdict's cases are `ingVerdict_judged`; a frame that has not started is decided in its place (`Commits.unchecked`,
`Commits.discards`, `Commits.delivers`), one that has started ends on cli_tx_ (`Commits.sends`, `Commits.poisons`) or waits decided
(`ingFinish_waits`), and the late frame behind it is counted (`ingressCommit_countsLate`). -/
theorem ingressCommit : Obligations.IngressCommit := by
  unfold Obligations.IngressCommit
  have hdefined : ∀ n, n < 6 → Sub.ing.defined.getLsbD n = true := by decide
  refine ⟨?verdict, ?abandoned, ?sends, ?poisons, ?waits, ?damaged, ?late, ?nothing⟩
  case verdict =>
    rintro s l f y k a r hlow hc hnext - hcrypt hended hy hk rfl ha hst hlim
    have hC : Commits s l f y k a := ⟨hlow, hc, hnext, hcrypt, hended, hy, hk, ha⟩
    refine ⟨_, hC.row, ⟨fun hok hval hbit => ?_, fun hok hval => ?_, fun hok hlate hrep => ?_, fun hok hlate hrep => ?_, fun hok hlate => ?_⟩, ?_⟩
    · obtain ⟨u, hu, hcnt, hpn⟩ := hC.unchecked hst hok hval hbit
      exact ⟨hu.fate, hu.counted hcnt, by rw [hu.rx, hpn]⟩
    · obtain ⟨u, hu, hcnt, hpn, hpend⟩ := hC.discards hst hlim (ingVerdict_badIcv ha hok (hval.imp_right .inl)) (by decide) (by decide) (by decide)
      exact ⟨hu.fate, hu.counted hcnt, hu.shows 3 (hdefined 3 (by decide)) hpend, by rw [hu.rx, hpn]⟩
    · obtain ⟨u, hu, hcnt, hpn, hpend⟩ := hC.discards hst hlim (ingVerdict_replayed ha hok (of_decide_eq_true hlate) hrep) (by decide)
        (by decide) (by decide)
      exact ⟨hu.fate, hu.counted hcnt, hu.shows 4 (hdefined 4 (by decide)) hpend, by rw [hu.rx, hpn]⟩
    · obtain ⟨u, hu, hcnt, hpn⟩ := hC.delivers hst ((Booked.refl s).bump 0x39 (some f.link)) (rxOf_bump _ _ _ _)
        (ingVerdict_late ha hok (of_decide_eq_true hlate) hrep)
      have hbump : ∀ c, smGet 0 (bump 0x39 (some f.link) s).cnt c = if c = 0x39 then satAdd 63 (smGet 0 s.cnt 0x39) 1 else smGet 0 s.cnt c := fun c =>
        bumpN_cnt _ _ _ _ _
      refine ⟨hu.fate, hu.counted ?_, hu.counted ?_, by rw [hu.rx, hpn]; rfl⟩
      · exact (hcnt 0x39 (by decide) (by decide) (by decide) (by decide)).trans (hbump 0x39)
      · exact (hcnt 0x3C (by decide) (by decide) (by decide) (by decide)).trans (by rw [hbump]; rfl)
    · obtain ⟨u, hu, hcnt, hpn⟩ := hC.delivers hst (Booked.refl s) rfl (ingVerdict_inOrder ha hok (of_decide_eq_false hlate))
      exact ⟨hu.fate, hu.counted (hcnt 0x3C (by decide) (by decide) (by decide) (by decide)), by rw [hu.rx, hpn]; rfl⟩
    · obtain ⟨d, u, hd, hb, hrow⟩ := ingVerdict_decides (s := s) (f := { f with rxp := y.rxp }) hst hlim k
      rw [hrow]
      have hends := (rowEnds_calm (calm_decision hd hc hb.path f.link f.orderTag)).same
      have hmod := sameBut_modFrame .ing f.link f.orderTag d u
      exact ⟨fun j hj => (rxOf_of_rx ((hends .rx (by decide)).trans (hmod .rx (by decide))) j).trans (hb.others j hj),
        ((hends .tx (by decide)).trans (hmod .tx (by decide))).trans (hb.same .tx (by decide)),
        ((hends .vlt (by decide)).trans (hmod .vlt (by decide))).trans (hb.same .vlt (by decide))⟩
  case abandoned =>
    rintro s l f y k a r hlow hc hnext - hcrypt hended hy hk rfl ha hst hlim hab hval
    have hC : Commits s l f y k a := ⟨hlow, hc, hnext, hcrypt, hended, hy, hk, ha⟩
    have hok : icvOk (judged y k a f) k = false := by simp [icvOk, judged, hab]
    obtain ⟨u, hu, hcnt, -, hpend⟩ := hC.discards hst hlim (ingVerdict_badIcv ha hok (.inl (by rw [hval]; decide))) (by decide) (by decide) (by decide)
    exact ⟨_, hC.row, hu.counted hcnt, hu.shows 3 (hdefined 3 (by decide)) hpend, hu.fate⟩
  case sends =>
    rintro s l f y k a r hlow hc hnext - hcrypt hended hy hk rfl ha hst herr hpoison hready hok hlate
    have hC : Commits s l f y k a := ⟨hlow, hc, hnext, hcrypt, hended, hy, hk, ha⟩
    obtain ⟨u, hu, hcnt, hpn⟩ := hC.sends hst hready hok (Nat.not_lt.2 hlate)
    have hgood : (f.inErr || f.poison) = false := by rw [herr, hpoison]; rfl
    rw [hgood] at hu
    exact ⟨_, hC.row, hu.out, hu.left, counted_of_cnt hcnt (congrArg (smGet 0 · _) (hu.same .cnt (by decide))),
      by rw [rxOf_of_rx (hu.same .rx (by decide)), hpn]; rfl⟩
  case poisons =>
    rintro s l f y k a r hlow hc hnext - hcrypt hended hy hk rfl ha hst - - hready hok
    have hC : Commits s l f y k a := ⟨hlow, hc, hnext, hcrypt, hended, hy, hk, ha⟩
    obtain ⟨u, hu, hbad, hpoison, hpend, hpn⟩ := hC.poisons hst hready hok
    have hcnt := fun c => congrArg (smGet 0 · c) (hu.same .cnt (by decide))
    exact ⟨_, hC.row, hu.out, hu.left, counted_of_cnt hbad (hcnt _), counted_of_cnt hpoison (hcnt _), hu.shows 5 (hdefined 5 (by decide)) hpend,
      by rw [rxOf_of_rx (hu.same .rx (by decide)), hpn]⟩
  case waits =>
    rintro s l f y k a r hlow hc hnext rfl hcrypt hended hy hk rfl ha hst hready
    have hC : Commits s f.link f y k a := ⟨hlow, hc, hnext, hcrypt, hended, hy, hk, ha⟩
    obtain ⟨u, p, hb, hrow⟩ := hC.finishes hst
    refine ⟨_, hC.row, ?_⟩
    rw [hrow]
    exact ingFinish_waits (f := { judged y k a f with poison := p }) hc hready hC.frameCalm hb
  case damaged =>
    rintro s l f hlow hc hnext rfl hcrypt hended hst hlim
    have hpath : pathOf (raiseL .ing 1 [f.link] s) .ing = pathOf s .ing := pathOf_raiseL _ _ _ _ _
    have hu := committed_discard hc hpath hlim 0x1B
    have hraise := sameBut_raiseL .ing 1 [f.link] s
    have hkeep := sameBut_bump (dirCnt .ing 0x1B) (some f.link) (raiseL .ing 1 [f.link] s)
    refine ⟨_, by rw [ingressCommit_damaged hlow hnext hcrypt hended, ingReject_unstarted hst]; rfl, ?_, ?_, ?_, hu.fate⟩
    · exact countedOnly_bump (hraise .cnt (by decide)) (hu.same .cnt (by decide))
    · refine hu.shows 1 (hdefined 1 (by decide)) ?_
      rw [hkeep .evt (by decide)]
      exact raiseL_pends .ing _ _ (by decide)
    · exact (hu.same .rx (by decide)).trans ((hkeep .rx (by decide)).trans (hraise .rx (by decide)))
  case late =>
    intro s l r f g a b hlow hpair ho hlate hcrypt hended hst hdead he hr hne ha
    obtain ⟨hfl, hgl⟩ := link_of_pair hpair
    obtain ⟨t, hrow, hdone⟩ := ingressCommit_countsLate b hlow (commitNext_of_pair hpair hcrypt) hcrypt hended hst hfl
      (latePair_of_pair hpair hlate) ho.symm hdead he hr hgl hne ha
    refine ⟨t, hrow, ?_, hdone.frames⟩
    rw [hdone.sa, Option.map_some, statOf]
    simp
  case nothing =>
    intro s l b hlow hnone
    have hrow : exec (.ingressCommit l b) s = run s s := by
      show execIngressCommit l b s = _
      unfold execIngressCommit
      cases hnext : commitNext s l with
      | none => rfl
      | some f =>
        have hskip : (f.fate != .crypt || !f.ended) = true := by rcases hnone f hnext with h | h <;> simp [h]
        simp only [hskip, if_true]
    exact ⟨_, hrow.trans (run_high hlow), settled_settle s⟩

end Sys2Proof.Machine
end

section
/-! A lane's fault on record: the lane's counts, its event, and what a fault that is not permanent leaves alone. -/
namespace Sys2Proof.Machine

/-- What a lane keeps of its faults: how many there were, and the last one's stage and check (R166). -/
def faultRecord (l : Lane) : Nat × Nat × Nat := (l.total, l.lastStage, l.lastCheck)

/-- The fault of a lane on record, before the lane's place in the slot map is looked at (R166). -/
def faultNoted (i stage check : Nat) (s : State) : State :=
  raise .lne i (setLane i { laneOf s i with
    stamps := stampAdd (laneOf s i).stamps (now s), total := satAdd 32 (laneOf s i).total 1, lastStage := stage, lastCheck := check } s)

/-- `t` has one fault of lane `i` more on record than `s`, and the lane's event waits. -/
structure Charged (i stage check : Nat) (s t : State) : Prop where
  record : faultRecord (laneOf t i) = (satAdd 32 (laneOf s i).total 1, stage, check)
  pends : (t.evt.get .lne).pendReal.getLsbD i = true

namespace Charged
variable {i stage check : Nat} {s t u : State}

/-- What writes no event and leaves the lane's record keeps the charge. -/
theorem keeps (h : Charged i stage check s t) (hl : faultRecord (laneOf u i) = faultRecord (laneOf t i)) (he : u.evt = t.evt) :
    Charged i stage check s u :=
  ⟨hl.trans h.record, by rw [he]; exact h.pends⟩

theorem of_lanes {r : State} (h : Charged i stage check r t) (hl : laneOf r i = laneOf s i) : Charged i stage check s t :=
  ⟨by rw [h.record, hl], h.pends⟩

/-- The registers of the lane and its event at the row's end (R166, R172). -/
theorem shows (h : Charged i stage check s t) (hi : i < 36) :
    (laneOf (settle t) i).total = satAdd 32 (laneOf s i).total 1 ∧ (laneOf (settle t) i).lastStage = stage ∧
      (laneOf (settle t) i).lastCheck = check ∧ eventSet (settle t) .lne i := by
  obtain ⟨htotal, hlast⟩ := Prod.mk.inj h.record
  obtain ⟨hstage, hcheck⟩ := Prod.mk.inj hlast
  exact ⟨htotal, hstage, hcheck, waiting_shows (lne_defined (by omega)) h.pends⟩

end Charged

theorem laneOf_faultNoted (i stage check : Nat) (s : State) (j : Nat) :
    laneOf (faultNoted i stage check s) j = if j = i then { laneOf s i with
      stamps := stampAdd (laneOf s i).stamps (now s), total := satAdd 32 (laneOf s i).total 1, lastStage := stage, lastCheck := check }
    else laneOf s j := by
  rw [faultNoted, laneOf_raise, laneOf_setLane]

/-- A fault on record changes no lane's place. -/
theorem faultNoted_place (i stage check : Nat) (s : State) (j : Nat) :
    (laneOf (faultNoted i stage check s) j).st = (laneOf s j).st ∧
      (laneOf (faultNoted i stage check s) j).ramping = (laneOf s j).ramping := by
  rw [laneOf_faultNoted]
  split
  · next h => rw [h]; exact ⟨rfl, rfl⟩
  · exact ⟨rfl, rfl⟩

theorem sameBut_faultNoted (i stage check : Nat) (s : State) : sameBut [.lne, .tel, .evt] s (faultNoted i stage check s) :=
  sameBut_trans (sameBut_mono (lne_only s _) (by decide)) (sameBut_mono (sameBut_raiseL .lne i [] _) (by decide))

theorem faultNoted_redo (i stage check : Nat) (s : State) : (faultNoted i stage check s).lne.redo = s.lne.redo := by
  have h : (faultNoted i stage check s).lne = (setLane i _ s).lne := sameBut_raiseL .lne i [] _ .lne (by decide)
  rw [h]; rfl

theorem faultNoted_charges {i : Nat} (hi : i < 36) (stage check : Nat) (s : State) :
    Charged i stage check s (faultNoted i stage check s) :=
  ⟨by rw [laneOf_faultNoted, if_pos rfl]; rfl, raiseL_pends .lne [] _ (by omega)⟩

/-! A spare that is warmed. -/

theorem spareRamp_record (k : Nat) (b : Bool) (s : State) (j : Nat) :
    faultRecord (laneOf (spareRamp k b s) j) = faultRecord (laneOf s j) := by
  rw [laneOf_spareRamp]
  split
  · next h => rw [h]; rfl
  · rfl

theorem spareRamp_redo (k : Nat) (b : Bool) (s : State) : (spareRamp k b s).lne.redo = s.lne.redo := by
  unfold spareRamp
  dsimp only
  split <;> rfl

theorem spareToWarm_record (d : Dir) (s : State) (j : Nat) :
    faultRecord (laneOf (spareToWarm d s) j) = faultRecord (laneOf s j) := by
  unfold spareToWarm
  split
  · rfl
  · split
    · exact spareRamp_record _ _ _ _
    · rfl

theorem spareToWarm_redo (d : Dir) (s : State) : (spareToWarm d s).lne.redo = s.lne.redo := by
  unfold spareToWarm
  split
  · rfl
  · split
    · exact spareRamp_redo _ _ _
    · rfl

/-! The two kinds of fault (R166). -/

section
variable {i : Nat} {s : State} (stage check : Nat)

/-- A fault that is not permanent is on record, and at most a spare is warmed for it (R167). -/
theorem laneFault_transient (h : isPermanent s.lne.retryCfg (stampAdd (laneOf s i).stamps (now s)) = false) :
    laneFault i stage check s = faultNoted i stage check s ∨
      laneFault i stage check s = spareToWarm (laneDir i) (faultNoted i stage check s) := by
  unfold laneFault
  simp only [h, Bool.false_eq_true, if_false]
  split
  · exact .inr rfl
  · exact .inl rfl

/-- What a fault that is not permanent writes. -/
theorem laneFault_transient_writes (hi : i < 36)
    (h : isPermanent s.lne.retryCfg (stampAdd (laneOf s i).stamps (now s)) = false) :
    Charged i stage check s (laneFault i stage check s) ∧ sameBut [.lne, .glb, .tel, .evt] s (laneFault i stage check s) ∧
      (laneFault i stage check s).lne.redo = s.lne.redo := by
  have hnoted := faultNoted_charges hi stage check s
  have hsame : sameBut [.lne, .glb, .tel, .evt] s (faultNoted i stage check s) := sameBut_mono (sameBut_faultNoted _ _ _ s) (by decide)
  have hredo := faultNoted_redo i stage check s
  rcases laneFault_transient stage check h with he | he <;> rw [he]
  · exact ⟨hnoted, hsame, hredo⟩
  · have hwarm := sameBut_spareToWarm (laneDir i) (faultNoted i stage check s)
    exact ⟨hnoted.keeps (spareToWarm_record _ _ _) (hwarm .evt (by decide)),
      sameBut_trans hsame (sameBut_mono hwarm (by decide)), (spareToWarm_redo _ _).trans hredo⟩

/-- A permanent fault of a lane in service that is not held yet takes the lane out (R168–R171). -/
theorem laneFault_permanent (h : isPermanent s.lne.retryCfg (stampAdd (laneOf s i).stamps (now s)) = true)
    (hst : (laneOf s i).st = .inService) (hheld : (laneOf s i).held = false) :
    laneFault i stage check s = laneLeave i (faultNoted i stage check s) := by
  unfold laneFault
  simp only [h, if_true]
  split
  · rw [if_neg (by simp [hheld])]; rfl
  all_goals next h' => rw [hst] at h'; cases h'

end

end Sys2Proof.Machine
end

section
/-! Recomputation: the pairs of copies of a block, and what becomes of its frame (R163–R165). -/
namespace Sys2Proof.Machine

/-! A frame that is marked. -/

theorem find?_mapWhere {α : Type} {p : α → Bool} {g : α → α} (h : ∀ x, p (g x) = p x) (xs : List α) :
    (mapWhere p g xs).find? p = (xs.find? p).map g := by
  have hcomp : (p ∘ fun x => if p x then g x else x) = p := by
    funext x
    simp only [Function.comp]
    split
    · exact h x
    · rfl
  rw [mapWhere, List.find?_map, hcomp]
  cases hf : xs.find? p with
  | none => rfl
  | some x => simp [List.find?_some hf]

/-- A change of a frame keeps its place. -/
def placed (g : Frame → Frame) : Prop := ∀ x, (g x).link = x.link ∧ (g x).orderTag = x.orderTag

theorem frameOf_modFrame {g : Frame → Frame} {s : State} {d : Dir} {l o : Nat} {f : Frame} (h : frameOf s d l o = some f)
    (hg : placed g := by exact fun _ => ⟨rfl, rfl⟩) : frameOf (modFrame d l o g s) d l o = some (g f) := by
  rw [frameOf, pathOf_modFrame]
  exact (find?_mapWhere (fun x => by rw [(hg x).1, (hg x).2]) _).trans (congrArg (Option.map g) h)

theorem frameOf_of_frames {s t : State} {d : Dir} (h : (pathOf t d).frames = (pathOf s d).frames) (l o : Nat) :
    frameOf t d l o = frameOf s d l o := by
  rw [frameOf, frameOf, h]

theorem atLimit_of_frames {s t : State} {d : Dir} (h : (pathOf t d).frames = (pathOf s d).frames) (f : Frame) :
    atLimit t d f = atLimit s d f := by
  rw [atLimit, atLimit, h]

/-- The frames that are older than one stay so when frames are marked (R13). -/
theorem atLimit_modFrame {g : Frame → Frame} (d : Dir) (l o : Nat) (f : Frame) (s : State)
    (hg : placed g := by exact fun _ => ⟨rfl, rfl⟩) : atLimit (modFrame d l o g s) d f = atLimit s d f := by
  have hkey : ∀ x : Frame, (if x.link == l && x.orderTag == o then g x else x).link = x.link ∧
      (if x.link == l && x.orderTag == o then g x else x).orderTag = x.orderTag := fun x => by
    split
    · exact hg x
    · exact ⟨rfl, rfl⟩
  rw [atLimit, atLimit, pathOf_modFrame]
  simp only [mapWhere, List.takeWhile_map, List.countP_map, Function.comp_def, hkey]

theorem frameOf_place {s : State} {d : Dir} {l o : Nat} {f : Frame} (h : frameOf s d l o = some f) : f.link = l ∧ f.orderTag = o := by
  simpa using List.find?_some h

/-- Below the in-flight limit a frame that has not started is discarded where it stands (R13). -/
theorem frameOf_setFate_discard {s : State} {d : Dir} {l o : Nat} {f : Frame} (h : frameOf s d l o = some f) (hst : f.started = false)
    (hlim : atLimit s d f = false) : frameOf (setFate d f .discard s) d l o = some { f with fate := .discard } := by
  obtain ⟨rfl, rfl⟩ := frameOf_place h
  unfold setFate
  simp only [hlim, Bool.false_eq_true, if_false]
  refine (frameOf_modFrame h).trans ?_
  rw [hst, Bool.false_and, ← hst]

/-! A block's recomputation. -/

theorem redoOf_key {s : State} {d : Dir} {l o b : Nat} {r : Redo} (h : redoOf s d l o b = some r) :
    r.dir = d ∧ r.link = l ∧ r.order = o ∧ r.block = b := by
  simpa [and_assoc] using List.find?_some h

theorem replaceFirst_find? {α : Type} [BEq α] [LawfulBEq α] {p : α → Bool} {g : α → α} {r : α} {xs : List α} (h : xs.find? p = some r)
    (hg : p (g r) = p r) : (replaceFirst (fun x => x == r) g xs).find? p = some (g r) := by
  induction xs with
  | nil => cases h
  | cons x xs ih =>
    rw [replaceFirst]
    by_cases hx : p x = true
    · obtain rfl : x = r := by rw [List.find?_cons_of_pos hx] at h; exact Option.some.inj h
      rw [if_pos (beq_self_eq_true x), List.find?_cons_of_pos (hg.trans hx)]
    · rw [List.find?_cons_of_neg hx] at h
      have hne : ¬(x == r) = true := fun e => hx (eq_of_beq e ▸ List.find?_some h)
      rw [if_neg hne, List.find?_cons_of_neg hx]
      exact ih h

/-- What a direction counts when it issues a pair of copies, and when it gives a block up. -/
def redoCnt (d : Dir) : Nat := match d with | .egr => 0x40 | .ing => 0x41
def abandonCnt (d : Dir) : Nat := match d with | .egr => 0x42 | .ing => 0x43

/-- `u` is `s` with these recomputations, and with paths, counters and queues written. -/
structure Redone (rs : List Redo) (s u : State) : Prop where
  lne : u.lne = { s.lne with redo := rs }
  same : sameBut [.egr, .ing, .lne, .cnt, .tel, .que] s u

namespace Redone
variable {rs rs' : List Redo} {s u v : State}

theorem trans (h : Redone rs s u) (k : Redone rs' u v) : Redone rs' s v := ⟨by rw [k.lne, h.lne], sameBut_trans h.same k.same⟩

/-- What leaves the lanes alone. -/
theorem of_same {ps : List Part} (h : sameBut ps s u) (hps : ∀ x ∈ ps, x ∈ [Part.egr, .ing, .cnt, .tel, .que]) :
    Redone s.lne.redo s u :=
  ⟨h .lne fun hm => by simpa using hps _ hm, sameBut_mono (sameBut_mono h hps) (by decide)⟩

theorem modFrame (h : Redone rs s u) (d : Dir) (l o : Nat) (g : Frame → Frame) : Redone rs s (modFrame d l o g u) :=
  ⟨(sameBut_setPath d _ u .lne (by decide)).trans h.lne, sameBut_trans h.same (sameBut_mono (sameBut_setPath d _ u) (by decide))⟩

theorem lanes (h : Redone rs s u) (j : Nat) : laneOf u j = laneOf s j := by rw [laneOf, laneOf, h.lne]

end Redone

/-- A row of a flag whose fault is not permanent: what it makes of the block, and the lane's charge. -/
theorem laneFaultFlag_transient {s u : State} {d : Dir} {i l o b : Nat} {c : Bool} {rs : List Redo} (stage check : Nat)
    (hlow : resetLow s = false) (hi : i < 18)
    (hperm : isPermanent s.lne.retryCfg (stampAdd (laneOf s (laneNo d i)).stamps (now s)) = false)
    (hredo : redoBlock d (laneNo d i) l o b c s = u) (hu : Redone rs s u) :
    ∃ t, exec (.laneFaultFlag d i stage check l o b c) s = .next t ∧ t.lne.redo = rs ∧ sameBut [.lne, .glb, .tel, .evt] u t ∧
      (laneOf t (laneNo d i)).total = satAdd 32 (laneOf s (laneNo d i)).total 1 ∧ (laneOf t (laneNo d i)).lastStage = stage ∧
      (laneOf t (laneNo d i)).lastCheck = check ∧ eventSet t .lne (laneNo d i) := by
  have hcfg : u.lne.retryCfg = s.lne.retryCfg := by rw [hu.lne]
  have hnow : now u = now s := congrArg BitVec.toNat (hu.same .time (by decide))
  rw [← hcfg, ← hu.lanes, ← hnow] at hperm
  obtain ⟨hcharge, hsame, hkeep⟩ := laneFault_transient_writes stage check (laneNo_lt d hi) hperm
  refine ⟨settle (laneFault (laneNo d i) stage check u), ?_, ?_, ?_, (hcharge.of_lanes (hu.lanes _)).shows (laneNo_lt d hi)⟩
  · refine (run_high hlow).trans ?_
    rw [if_pos hi, hredo, done]
  · exact hkeep.trans (by rw [hu.lne])
  · exact settle_keeps hsame (by decide)

/-! A pair of copies is issued (R163). -/

theorem redone_markBad (d : Dir) (l o b : Nat) (c : Option Nat) (s : State) : Redone s.lne.redo s (markBad d l o b c s) :=
  .of_same (sameBut_setPath d _ s) (by decide)

/-- The recomputations of the other blocks, and of the other frames. -/
def otherBlocks (r : Redo) (s : State) : List Redo :=
  s.lne.redo.filter (fun x => !(x.dir == r.dir && x.link == r.link && x.order == r.order && x.block == r.block))
def otherFrames (r : Redo) (s : State) : List Redo :=
  s.lne.redo.filter (fun x => !(x.dir == r.dir && x.link == r.link && x.order == r.order))

/-- The recomputations are these. -/
def setRedo (rs : List Redo) (s : State) : State := { s with lne := { s.lne with redo := rs } }

/-- The copies of a recomputation's pair go to their lanes. -/
def issueCopies (r : Redo) (s : State) : State :=
  setPath r.dir { pathOf s r.dir with pipe := r.lanes.map (fun i => laneDelivery s i true r.kept) ++ (pathOf s r.dir).pipe } s

theorem reissue_eq (r : Redo) (s : State) : reissue r s = modFrame r.dir r.link r.order (fun f => { f with redo := true })
    (bump (redoCnt r.dir) none (issueCopies r (setRedo (otherBlocks r s ++ [r]) s))) := rfl

theorem redone_setRedo (rs : List Redo) (s : State) : Redone rs s (setRedo rs s) := ⟨rfl, sameBut_mono (lne_only s _) (by decide)⟩

theorem redone_reissue (r : Redo) (s : State) : Redone (otherBlocks r s ++ [r]) s (reissue r s) := by
  have hissue : ∀ t, Redone t.lne.redo t (issueCopies r t) := fun t => .of_same (sameBut_setPath r.dir _ t) (by decide)
  have hbump : ∀ t, Redone t.lne.redo t (bump (redoCnt r.dir) none t) := fun t => .of_same (sameBut_bump _ _ t) (by decide)
  have h := (redone_setRedo (otherBlocks r s ++ [r]) s).trans ((hissue _).trans (hbump _))
  rw [reissue_eq]
  refine .modFrame ⟨h.lne.trans ?_, h.same⟩ _ _ _ _
  rw [(hissue _).lne]; rfl

theorem laneDelivery_block (s : State) (j : Nat) (c : Bool) (k : Block) :
    (laneDelivery s j c k).lane = j ∧ (laneDelivery s j c k).copy = c ∧ (laneDelivery s j c k).blk = k := by
  unfold laneDelivery
  split <;> exact ⟨rfl, rfl, rfl⟩

theorem reissue_pipe (r : Redo) (s : State) : (pathOf (reissue r s) r.dir).pipe =
    r.lanes.map (fun i => laneDelivery (setRedo (otherBlocks r s ++ [r]) s) i true r.kept) ++ (pathOf s r.dir).pipe := by
  rw [reissue_eq, pathOf_modFrame, pathOf_bump, issueCopies, setPath_eq]
  congr 2

/-- The pair stands ahead of every other block of the direction. -/
theorem reissue_copies (r : Redo) (s : State) :
    ((pathOf (reissue r s) r.dir).pipe.take r.lanes.length).map (fun x => (x.lane, x.copy, x.blk)) =
      r.lanes.map (fun j => (j, true, r.kept)) := by
  rw [reissue_pipe, List.take_left' (List.length_map _), List.map_map]
  refine List.map_congr_left fun j _ => ?_
  obtain ⟨hlane, hcopy, hblk⟩ := laneDelivery_block (setRedo (otherBlocks r s ++ [r]) s) j true r.kept
  rw [Function.comp, hlane, hcopy, hblk]

theorem reissue_counted (r : Redo) (s : State) : counted (redoCnt r.dir) 1 s (reissue r s) := by
  refine counted_bump (u := issueCopies r (setRedo (otherBlocks r s ++ [r]) s)) (l := none) ?_ ?_
  · exact congrArg (smGet 0 · _) (sameBut_setPath r.dir _ (setRedo _ s) .cnt (by decide))
  · rw [reissue_eq]
    exact sameBut_setPath r.dir _ _ .cnt (by decide)

theorem reissue_frame {r : Redo} {s : State} {f : Frame} (h : frameOf s r.dir r.link r.order = some f) :
    frameOf (reissue r s) r.dir r.link r.order = some { f with redo := true } := by
  have hframes : (pathOf (bump (redoCnt r.dir) none (issueCopies r (setRedo (otherBlocks r s ++ [r]) s))) r.dir).frames =
      (pathOf s r.dir).frames := by
    rw [pathOf_bump, issueCopies, setPath_eq]
    cases r.dir <;> rfl
  rw [reissue_eq]
  exact frameOf_modFrame ((frameOf_of_frames hframes _ _).trans h)

/-- The new pair is the block's recomputation. -/
theorem find?_otherBlocks (r : Redo) (s : State) : (otherBlocks r s ++ [r]).find?
    (fun x => x.dir == r.dir && x.link == r.link && x.order == r.order && x.block == r.block) = some r := by
  have hnone : (otherBlocks r s).find? (fun x => x.dir == r.dir && x.link == r.link && x.order == r.order && x.block == r.block) = none :=
    List.find?_eq_none.2 fun x hx => by simpa [or_assoc, imp_iff_not_or] using (List.mem_filter.1 hx).2
  rw [List.find?_append, hnone]
  simp

theorem otherBlocks_of_none {r : Redo} {s : State} (h : redoOf s r.dir r.link r.order r.block = none) : otherBlocks r s = s.lne.redo :=
  List.filter_eq_self.2 fun x hx => by simpa [or_assoc, imp_iff_not_or] using List.find?_eq_none.1 h x hx

/-! A block is given up (R165). -/

theorem find?_otherFrames (r : Redo) (s : State) : (otherFrames r s).find?
    (fun x => x.dir == r.dir && x.link == r.link && x.order == r.order && x.block == r.block) = none :=
  List.find?_eq_none.2 fun x hx => by
    have hother := (List.mem_filter.1 hx).2
    intro hkey
    rw [Bool.and_eq_true] at hkey
    rw [hkey.1] at hother
    cases hother

/-- The frame's recomputation has ended, and the frame is marked. -/
def giveUp (r : Redo) (s : State) : State :=
  modFrame r.dir r.link r.order (fun f => { f with abandoned := true }) (bump (abandonCnt r.dir) none (setRedo (otherFrames r s) s))

theorem redone_giveUp (r : Redo) (s : State) : Redone (otherFrames r s) s (giveUp r s) :=
  .modFrame (.trans (redone_setRedo _ s) (.of_same (sameBut_bump _ _ (setRedo (otherFrames r s) s)) (by decide))) _ _ _ _

theorem giveUp_counted (r : Redo) (s : State) : counted (abandonCnt r.dir) 1 s (giveUp r s) :=
  counted_bump (u := setRedo (otherFrames r s) s) (l := none) rfl (sameBut_setPath r.dir _ _ .cnt (by decide))

theorem unmarked_frames (r : Redo) (s : State) :
    (pathOf (bump (abandonCnt r.dir) none (setRedo (otherFrames r s) s)) r.dir).frames = (pathOf s r.dir).frames := by
  rw [pathOf_bump]
  cases r.dir <;> rfl

/-- An ingress frame that is given up waits for its verdict. -/
theorem abandonBlock_ing {r : Redo} (s : State) (hd : r.dir = .ing) : abandonBlock r s = giveUp r s := by
  cases r
  cases hd
  rfl

section
variable {r : Redo} {s : State} {f : Frame} (hf : frameOf s r.dir r.link r.order = some f)
include hf

theorem giveUp_frame : frameOf (giveUp r s) r.dir r.link r.order = some { f with abandoned := true } :=
  frameOf_modFrame ((frameOf_of_frames (unmarked_frames r s) _ _).trans hf)

/-- An egress frame that is given up before it starts is discarded. -/
theorem abandonBlock_egr (hd : r.dir = .egr) (hst : f.started = false) :
    abandonBlock r s = syncPath .egr (setFate .egr { f with abandoned := true } .discard (giveUp r s)) := by
  have hmarked := giveUp_frame hf
  have hopen : abandonBlock r s = match r.dir, frameOf (giveUp r s) r.dir r.link r.order with
    | .egr, some f => if f.started then giveUp r s else syncPath .egr (setFate .egr f .discard (giveUp r s))
    | _, _ => giveUp r s := rfl
  rw [hopen, hmarked, hd]
  exact if_neg (by simp [hst])

/-- What the end of a block's recomputation writes: its frame's recomputations, its count, and its frame. -/
theorem abandonBlock_writes (hcrypt : f.fate = .crypt) (hst : r.dir = .ing ∨ f.started = false) (hlim : atLimit s r.dir f = false) :
    Redone (otherFrames r s) s (abandonBlock r s) ∧ counted (abandonCnt r.dir) 1 s (abandonBlock r s) ∧
      frameOf (abandonBlock r s) r.dir r.link r.order =
        some { f with abandoned := true, fate := (if r.dir = .egr then .discard else .crypt) } := by
  have hmarked := giveUp_frame hf
  have hredone := redone_giveUp r s
  have hcount := giveUp_counted r s
  cases hd : r.dir with
  | ing =>
    rw [abandonBlock_ing s hd]
    rw [hd] at hmarked hcount
    refine ⟨hredone, hcount, hmarked.trans ?_⟩
    simp [← hcrypt]
  | egr =>
    rw [hd] at hst
    have hstarted : f.started = false := hst.resolve_left (by simp)
    have hbelow : atLimit (giveUp r s) .egr { f with abandoned := true } = false := by
      rw [hd] at hlim
      have hframes := unmarked_frames r s
      rw [giveUp, hd, atLimit_modFrame, ← hlim]
      rw [hd] at hframes
      exact atLimit_of_frames hframes _
    rw [abandonBlock_egr hf hd hstarted]
    rw [hd] at hmarked hcount
    have hfate := sameBut_setFate .egr { f with abandoned := true } .discard (giveUp r s)
    have hsync := sameBut_syncPath .egr (setFate .egr { f with abandoned := true } .discard (giveUp r s))
    have hkeep := sameBut_trans (sameBut_mono hfate (qs := [.egr, .que]) (by decide)) (sameBut_mono hsync (by decide))
    refine ⟨⟨(hkeep .lne (by decide)).trans hredone.lne, sameBut_trans hredone.same (sameBut_mono hkeep (by decide))⟩,
      counted_of_cnt hcount (congrArg (smGet 0 · _) (hkeep .cnt (by decide))), ?_⟩
    rw [frameOf_of_frames (congrArg Path.frames (pathOf_syncPath .egr .egr _)) r.link r.order]
    exact frameOf_setFate_discard hmarked hstarted hbelow

end

/-! A block whose flag comes: the first pair, the second, the end of it. -/

/-- The recomputation that a block's first flag starts, and the one that goes on when both copies of the first pair have faulted. -/
def firstPair (d : Dir) (l o b : Nat) (q : Block) (js : List Nat) : Redo :=
  { dir := d, link := l, order := o, block := b, kept := q, round := 1, lanes := js, faulted := [], age := 0 }
def secondPair (r : Redo) (js : List Nat) : Redo := { r with round := 2, faulted := [], lanes := js, age := 0 }

theorem markBad_frames (d : Dir) (l o b : Nat) (c : Option Nat) (s : State) :
    (pathOf (markBad d l o b c s) d).frames = (pathOf s d).frames := by
  rw [markBad, setPath_eq]

theorem markBad_cnt (d : Dir) (l o b : Nat) (c : Option Nat) (s : State) : (markBad d l o b c s).cnt = s.cnt :=
  sameBut_setPath d _ s .cnt (by decide)

theorem copyLanes_markBad (d : Dir) (l o b : Nat) (c : Option Nat) (s : State) (k : Nat) :
    copyLanes (markBad d l o b c s) d k = copyLanes s d k := by
  simp only [copyLanes, slotMap, (redone_markBad d l o b c s).lanes]

section
variable {s : State} {d : Dir} {l o b k : Nat} {f : Frame} (hf : frameOf s d l o = some f) (hcrypt : f.fate = .crypt)
  (hlive : f.abandoned = false)
include hf hcrypt hlive

theorem redoBlock_first {q : Block} (hr : redoOf s d l o b = none) (hq : keptBlock s d l o b = some q) :
    redoBlock d k l o b false s = reissue (firstPair d l o b q (copyLanes s d k)) (markBad d l o b none s) := by
  simp [redoBlock, firstPair, hf, hcrypt, hlive, hr, hq]

variable {r : Redo} (hr : redoOf s d l o b = some r) (hin : k ∈ r.lanes)
include hr hin

theorem redoBlock_noted (hnone : r.faulted = []) : redoBlock d k l o b true s =
    setRedo (replaceFirst (fun x => x == r) (fun x => { x with faulted := [k] }) s.lne.redo) (markBad d l o b (some k) s) := by
  have hlne : (markBad d l o b (some k) s).lne.redo = s.lne.redo := by rw [(redone_markBad d l o b (some k) s).lne]
  simp [redoBlock, hf, hcrypt, hlive, hr, hin, hnone, hlne, setRedo]

variable (hsome : r.faulted ≠ []) (hnew : k ∉ r.faulted)
include hsome hnew

theorem redoBlock_second (hround : r.round = 1) : redoBlock d k l o b true s =
    reissue (secondPair r (copyLanes s d k)) (markBad d l o b (some k) s) := by
  simp [redoBlock, secondPair, hf, hcrypt, hlive, hr, hin, hsome, hnew, hround, copyLanes_markBad]

theorem redoBlock_end (hround : 2 ≤ r.round) : redoBlock d k l o b true s = abandonBlock r (markBad d l o b (some k) s) := by
  simp [redoBlock, hf, hcrypt, hlive, hr, hin, hsome, hnew, show r.round ≠ 1 by omega]

end

/-- A row that issues a pair: the recomputations, the pair ahead of the queue, its count, the frame's mark, and the lane's charge. -/
theorem laneFaultFlag_reissues {s : State} {r : Redo} {i : Nat} {c : Bool} {m : Option Nat} {f : Frame} (stage check : Nat)
    (hlow : resetLow s = false) (hi : i < 18)
    (hperm : isPermanent s.lne.retryCfg (stampAdd (laneOf s (laneNo r.dir i)).stamps (now s)) = false)
    (hredo : redoBlock r.dir (laneNo r.dir i) r.link r.order r.block c s = reissue r (markBad r.dir r.link r.order r.block m s))
    (hf : frameOf s r.dir r.link r.order = some f) :
    ∃ t, exec (.laneFaultFlag r.dir i stage check r.link r.order r.block c) s = .next t ∧ t.lne.redo = otherBlocks r s ++ [r] ∧
      ((pathOf t r.dir).pipe.take r.lanes.length).map (fun x => (x.lane, x.copy, x.blk)) = r.lanes.map (fun j => (j, true, r.kept)) ∧
      counted (redoCnt r.dir) 1 s t ∧ frameOf t r.dir r.link r.order = some { f with redo := true } ∧
      sameBut [.egr, .ing, .lne, .cnt, .tel, .que, .glb, .evt] s t ∧
      (laneOf t (laneNo r.dir i)).total = satAdd 32 (laneOf s (laneNo r.dir i)).total 1 ∧ (laneOf t (laneNo r.dir i)).lastStage = stage ∧
      (laneOf t (laneNo r.dir i)).lastCheck = check ∧ eventSet t .lne (laneNo r.dir i) := by
  have hmark := redone_markBad r.dir r.link r.order r.block m s
  have hu := hmark.trans (redone_reissue r _)
  have hothers : otherBlocks r (markBad r.dir r.link r.order r.block m s) = otherBlocks r s := by
    rw [otherBlocks, hmark.lne, otherBlocks]
  have hframe := reissue_frame (r := r) ((frameOf_of_frames (markBad_frames r.dir r.link r.order r.block m s) _ _).trans hf)
  have hcount := reissue_counted r (markBad r.dir r.link r.order r.block m s)
  rw [hothers] at hu
  obtain ⟨t, hx, hrs, hsame, hcharge⟩ := laneFaultFlag_transient stage check hlow hi hperm hredo hu
  have hpath := pathOf_same (d := r.dir) (hsame .egr (by decide)) (hsame .ing (by decide))
  refine ⟨t, hx, hrs, ?_, counted_of_cnt ?_ (congrArg (smGet 0 · _) (hsame .cnt (by decide))), ?_,
    sameBut_trans (sameBut_mono hu.same (by decide)) (sameBut_mono hsame (by decide)), hcharge⟩
  · rw [hpath]; exact reissue_copies r _
  · rwa [counted, markBad_cnt] at hcount
  · rw [frameOf_of_frames (congrArg Path.frames hpath), hframe]

/-- A flag for a frame that is gone makes nothing of its block. -/
theorem redoBlock_gone {s : State} {d : Dir} {l o : Nat} (h : frameOf s d l o = none) (k b : Nat) (c : Bool) :
    redoBlock d k l o b c s = s := by
  simp only [redoBlock, h]

end Sys2Proof.Machine
end

section
/-! A permanent fault: the lane's place in the slot map (R168–R171). -/
namespace Sys2Proof.Machine

/-! What the record of a fault leaves of the slot map. -/

section
variable (i stage check : Nat) (s : State) (d : Dir)

theorem serving_faultNoted : serving (faultNoted i stage check s) d = serving s d :=
  serving_congr fun j => (faultNoted_place i stage check s j).1

theorem warmOf_faultNoted : warmOf (faultNoted i stage check s) d = warmOf s d := by
  simp only [warmOf, faultNoted_place]

theorem warmingOf_faultNoted : warmingOf (faultNoted i stage check s) d = warmingOf s d := by
  simp only [warmingOf, faultNoted_place]

theorem coldSpare_faultNoted : coldSpare (faultNoted i stage check s) d = coldSpare s d := by
  simp only [coldSpare, faultNoted_place]

end

/-! A lane that leaves. -/

theorem laneRetire_record (i : Nat) (s : State) (j : Nat) : faultRecord (laneOf (laneRetire i s) j) = faultRecord (laneOf s j) := by
  rw [laneOf_laneRetire]
  split
  · next h => rw [h]; rfl
  · rfl

theorem laneEnter_record (i : Nat) (s : State) (j : Nat) : faultRecord (laneOf (laneEnter i s) j) = faultRecord (laneOf s j) := by
  rw [laneOf_laneEnter]
  split
  · next h => rw [h]; rfl
  · rfl

theorem warmingOf_laneRetire {d : Dir} {s : State} (h : warmingOf s d = none) (i : Nat) : warmingOf (laneRetire i s) d = none := by
  refine List.find?_eq_none.2 fun j hj => ?_
  rw [laneOf_laneRetire]
  split
  · simp
  · exact List.find?_eq_none.1 h j hj

/-- A lane that leaves service is no spare that is switched off. -/
theorem coldSpare_laneRetire {i : Nat} {d : Dir} {s : State} (h : (laneOf s i).st = .inService) :
    coldSpare (laneRetire i s) d = coldSpare s d := by
  unfold coldSpare
  congr 1
  funext j
  rw [laneOf_laneRetire]
  split
  · next hj => rw [hj, h]; rfl
  · rfl

theorem spareForService_record (d : Dir) (s : State) (j : Nat) :
    faultRecord (laneOf (spareForService d s) j) = faultRecord (laneOf s j) := by
  unfold spareForService
  split
  · exact spareRamp_record _ _ _ _
  · split
    · exact spareRamp_record _ _ _ _
    · exact congrArg faultRecord (laneOf_lne (sameBut_setDeg _ s .lne (by decide)) j)

/-- A lane that leaves, or has to stay, keeps every lane's record. -/
theorem laneLeave_record (i : Nat) (s : State) (j : Nat) : faultRecord (laneOf (laneLeave i s) j) = faultRecord (laneOf s j) := by
  unfold laneLeave
  dsimp only
  split
  · exact (laneEnter_record _ _ _).trans (laneRetire_record _ _ _)
  · split
    · rw [laneOf_setLane]
      split
      · next h => rw [h]; rfl
      · rfl
    · exact (spareForService_record _ _ _).trans (laneRetire_record _ _ _)

theorem laneLeave_evt (i : Nat) (s : State) : (laneLeave i s).evt = s.evt := by
  unfold laneLeave
  dsimp only
  split
  · exact (sameBut_laneEnter _ _ .evt (by decide)).trans (laneRetire_evt i s)
  · split
    · rfl
    · exact (sameBut_spareForService _ _ .evt (by decide)).trans (laneRetire_evt i s)

/-- A WARM spare enters in the lane's place (R168). -/
theorem laneLeave_warm {i w : Nat} {d : Dir} {s : State} (hd : laneDir i = d) (hw : warmOf s d = some w) :
    laneLeave i s = laneEnter w (laneRetire i s) := by
  simp only [laneLeave, hd, hw]

/-- With 15 lanes in service the lane stays, held (R170). -/
theorem laneLeave_fifteen {i : Nat} {d : Dir} {s : State} (hd : laneDir i = d) (hw : warmOf s d = none) (hs : serving s d = 15) :
    laneLeave i s = setLane i { laneOf s i with held := true } s := by
  simp [laneLeave, hd, hw, hs]

/-- A spare that is off ramps into service where none is WARM or on its way to it (R168). -/
theorem spareForService_cold {d : Dir} {w : Nat} {s : State} (hw : warmingOf s d = none) (hc : coldSpare s d = some w) :
    spareForService d s = spareRamp w true s := by
  simp only [spareForService, hw, hc]

theorem spareRamp_ramps (w : Nat) (b : Bool) (s : State) : laneDomain w ∈ (spareRamp w b s).glb.ramping := by
  unfold spareRamp
  dsimp only
  split
  · next h => exact List.contains_iff_mem.1 h
  · simp

/-- A domain that is off stays off while another is switched on. -/
theorem pdSet_off {n k : Nat} {s : State} (hk : k ≠ n) (h : s.glb.pdOn.getLsbD n = false) : (pdSet k s).glb.pdOn.getLsbD n = false := by
  by_cases hn : n < 56
  · rw [pdSet, BitVec.getLsbD_or, pdOn_bit hn, h]; simp [hk]
  · exact BitVec.getLsbD_of_ge _ _ (by omega)

theorem laneRetire_off (i : Nat) (s : State) : (laneRetire i s).glb.pdOn.getLsbD (laneDomain i) = false := by
  rw [laneRetire_pdOn]
  exact pdClear_off s

/-- A held lane's PERMANENT condition holds (R170). -/
theorem level_held {i : Nat} {s : State} (hi : i < 36) (h : (laneOf s i).held = true) : (levelOf s .lne).getLsbD (36 + i) = true := by
  have hne : smGet .reset s.lne.lanes i ≠ .reset := fun e => by rw [laneOf, e] at h; cases h
  have hheld : (smGet Lane.reset s.lne.lanes i).held = true := h
  exact foldl_or_bit _ _ _ (.inr ⟨_, mem_of_smGet hne, bitIf_bit (by omega) (by simp [hheld])⟩)

/-- The PERMANENT event of a lane whose condition holds at the row's end (R172). -/
theorem permanent_shows {i : Nat} {s : State} (hi : i < 36) (h : (levelOf s .lne).getLsbD (36 + i) = true) :
    eventSet (settle s) .lne (36 + i) :=
  level_shows (settled_settle s) (by rwa [levelOf_settle]) (lne_defined (by omega))

/-! What becomes of a lane in service with a permanent fault. -/

section
variable {d : Dir} {i w : Nat} {s : State} (hi : i ∈ lanesOf d) (hst : (laneOf s i).st = .inService)
include hi hst

/-- A WARM spare takes the lane's place, and the slot map keeps its size (R168). -/
theorem laneLeave_replaced (hw : warmOf s d = some w) :
    (laneOf (laneLeave i s) i).st = .retired ∧ (laneOf (laneLeave i s) w).st = .inService ∧ serving (laneLeave i s) d = serving s d ∧
      (pathOf (laneLeave i s) d).lanes = serving s d ∧ pdIsOn (laneLeave i s) (laneDomain i) = false ∧
      pdIsOn (laneLeave i s) (laneDomain w) = true := by
  have hwin := List.mem_of_find?_eq_some hw
  obtain ⟨hwd, hwlt⟩ := mem_lanesOf hwin
  have hwst : (laneOf s w).st = .warm := by simpa using List.find?_some hw
  have hne : i ≠ w := fun e => by rw [← e, hst] at hwst; cases hwst
  have hwarm : (laneOf (laneRetire i s) w).st ≠ .inService := by
    rw [laneOf_laneRetire, if_neg hne.symm, hwst]
    simp
  have hserve : serving (laneEnter w (laneRetire i s)) d = serving s d := by
    rw [serving_laneEnter hwin hwarm, ← serving_laneRetire hi hst]
  rw [laneLeave_warm (mem_lanesOf hi).1 hw]
  refine ⟨?_, ?_, hserve, (laneEnter_lanes hwd _).trans hserve, ?_, laneEnter_on hwlt _⟩
  · rw [laneOf_laneEnter, if_neg hne, laneOf_laneRetire, if_pos rfl]
  · rw [laneOf_laneEnter, if_pos rfl]
  · rw [pdIsOn, laneEnter_pdOn]
    exact pdSet_off (fun e => hne (by unfold laneDomain at e; omega)) (laneRetire_off i s)

/-- Without a WARM spare, a lane of 16 leaves, and a spare that is off ramps into service (R168). -/
theorem laneLeave_ramps (hw : warmOf s d = none) (hwarming : warmingOf s d = none) (hcold : coldSpare s d = some w) (hs : serving s d = 16) :
    (laneOf (laneLeave i s) i).st = .retired ∧ (laneOf (laneLeave i s) w).ramping = some true ∧
      laneDomain w ∈ (laneLeave i s).glb.ramping ∧ (pathOf (laneLeave i s) d).lanes = 15 ∧ pdIsOn (laneLeave i s) (laneDomain i) = false := by
  have hd := (mem_lanesOf hi).1
  have hretired : ∀ j, j = i → (laneOf (laneRetire i s) j).st = .retired := fun j hj => by rw [laneOf_laneRetire, if_pos hj]
  rw [laneLeave_sixteen hd hw hs, spareForService_cold (warmingOf_laneRetire hwarming i) ((coldSpare_laneRetire hst).trans hcold)]
  have hkeep := sameBut_spareRamp w true (laneRetire i s)
  refine ⟨?_, ?_, spareRamp_ramps w true _, ?_, ?_⟩
  · rw [laneOf_spareRamp]
    split
    · next h => exact hretired w h.symm
    · exact hretired i rfl
  · rw [laneOf_spareRamp, if_pos rfl]
  · have hleft := serving_laneRetire hi hst
    rw [pathOf_same (hkeep .egr (by decide)) (hkeep .ing (by decide)), laneRetire_lanes hd]
    omega
  · rw [pdIsOn, spareRamp_pdOn]
    exact laneRetire_off i s

/-- One of 15 lanes stays in service, held (R170). -/
theorem laneLeave_stays (hw : warmOf s d = none) (hs : serving s d = 15) :
    (laneOf (laneLeave i s) i).st = .inService ∧ (laneOf (laneLeave i s) i).held = true ∧ serving (laneLeave i s) d = 15 := by
  rw [laneLeave_fifteen (mem_lanesOf hi).1 hw hs]
  have hplace : ∀ j, (laneOf (setLane i { laneOf s i with held := true } s) j).st = (laneOf s j).st := fun j => by
    rw [laneOf_setLane]
    split
    · next h => rw [h]
    · rfl
  exact ⟨(hplace i).trans hst, by rw [laneOf_setLane, if_pos rfl], (serving_congr hplace).trans hs⟩

end

/-- A row of a flag whose fault is permanent, for a lane in service and a frame that is gone: the lane is to leave, and is charged. -/
theorem laneFaultFlag_permanent {s : State} {d : Dir} {i l o : Nat} (stage check b : Nat) (c : Bool) (hlow : resetLow s = false) (hi : i < 18)
    (hgone : frameOf s d l o = none) (hperm : isPermanent s.lne.retryCfg (stampAdd (laneOf s (laneNo d i)).stamps (now s)) = true)
    (hst : (laneOf s (laneNo d i)).st = .inService) (hheld : (laneOf s (laneNo d i)).held = false) :
    ∃ t, exec (.laneFaultFlag d i stage check l o b c) s = .next (settle t) ∧
      t = laneLeave (laneNo d i) (faultNoted (laneNo d i) stage check s) ∧ Charged (laneNo d i) stage check s t := by
  refine ⟨_, (run_high hlow).trans ?_, rfl,
    (faultNoted_charges (laneNo_lt d hi) stage check s).keeps (laneLeave_record _ _ _) (laneLeave_evt _ _)⟩
  rw [if_pos hi, redoBlock_gone hgone, laneFault_permanent stage check hperm hst hheld, done]

end Sys2Proof.Machine
end

section
/-! Lane faults, clause by clause. -/
namespace Sys2Proof.Machine

/-- Settles O38: a fault that is not permanent leaves the block's recomputation (`laneFaultFlag_transient`, with `redoBlock_first`,
`redoBlock_noted`, `redoBlock_second` and `redoBlock_end`), a permanent one the lane's place (`laneFaultFlag_permanent`, with
`laneLeave_warm`, `laneLeave_sixteen` and `laneLeave_fifteen`). -/
theorem laneFaults : Obligations.LaneFaults := by
  unfold Obligations.LaneFaults
  refine ⟨?first, ?noted, ?second, ?ended, ?warm, ?cold, ?held⟩
  case first =>
    intro s d i stage check l o b f k hlow hi hf hcrypt hlive hr hk hperm
    obtain ⟨t, hx, hredo, hcopies, hcount, hframe, hsame, htotal, hstage, hcheck, hshow⟩ :=
      laneFaultFlag_reissues (r := firstPair d l o b k (copyLanes s d (laneNo d i))) stage check hlow hi hperm
        (redoBlock_first hf hcrypt hlive hr hk) hf
    exact ⟨t, hx, hredo.trans (congrArg (· ++ _) (otherBlocks_of_none hr)), hcopies, hcount, congrArg (Option.map _) hframe, htotal, hstage,
      hcheck, hshow, hsame .vlt (by decide), hsame .tx (by decide), hsame .rx (by decide)⟩
  case noted =>
    intro s d i stage check l o b f r hlow hi hf hcrypt hlive hr hnone hin hnew hperm
    have hu := (redone_markBad d l o b (some (laneNo d i)) s).trans
      (redone_setRedo (replaceFirst (fun x => x == r) (fun x => { x with faulted := [laneNo d i] }) s.lne.redo) _)
    obtain ⟨t, hx, hredo, hsame, htotal, hstage, hcheck, hshow⟩ :=
      laneFaultFlag_transient stage check hlow hi hperm (redoBlock_noted hf hcrypt hlive hr hin hnone) hu
    refine ⟨t, hx, ?_, htotal, hstage, hcheck, hshow, ?_⟩
    · rw [redoOf, hredo]
      exact replaceFirst_find? hr rfl
    · exact (hsame .cnt (by decide)).trans (markBad_cnt d l o b _ s)
  case second =>
    intro s d i stage check l o b f r hlow hi hf hcrypt hlive hr hround hsome hin hnew hperm
    obtain ⟨rfl, rfl, rfl, rfl⟩ := redoOf_key hr
    obtain ⟨t, hx, hredo, hcopies, hcount, -, -, htotal, hstage, hcheck, hshow⟩ :=
      laneFaultFlag_reissues (r := secondPair r (copyLanes s r.dir (laneNo r.dir i))) stage check hlow hi hperm
        (redoBlock_second hf hcrypt hlive hr hin hsome hnew hround) hf
    refine ⟨t, hx, ?_, hcopies, hcount, htotal, hstage, hcheck, hshow⟩
    rw [redoOf, hredo]
    exact find?_otherBlocks (secondPair r _) s
  case ended =>
    intro s d i stage check l o b f r hlow hi hf hcrypt hlive hr hround hsome hin hnew hst hlim hperm
    obtain ⟨rfl, rfl, rfl, rfl⟩ := redoOf_key hr
    have hmark := redone_markBad r.dir r.link r.order r.block (some (laneNo r.dir i)) s
    have hframes := markBad_frames r.dir r.link r.order r.block (some (laneNo r.dir i)) s
    obtain ⟨hends, hcount, hframe⟩ := abandonBlock_writes ((frameOf_of_frames hframes _ _).trans hf) hcrypt hst
      ((atLimit_of_frames hframes f).trans hlim)
    obtain ⟨t, hx, hredo, hsame, htotal, hstage, hcheck, hshow⟩ := laneFaultFlag_transient stage check hlow hi hperm
      (redoBlock_end hf hcrypt hlive hr hin hsome hnew hround) (hmark.trans hends)
    have hpath := pathOf_same (d := r.dir) (hsame .egr (by decide)) (hsame .ing (by decide))
    refine ⟨t, hx, ?_, counted_of_cnt ?_ (congrArg (smGet 0 · _) (hsame .cnt (by decide))), ?_, htotal, hstage, hcheck, hshow⟩
    · rw [redoOf, hredo]
      exact find?_otherFrames r _
    · rwa [counted, markBad_cnt] at hcount
    · rw [frameOf_of_frames (congrArg Path.frames hpath), hframe]
  case warm =>
    intro s d i stage check l o b w hlow hi hgone hperm hst hheld hw
    obtain ⟨_, hx, rfl, hcharge⟩ := laneFaultFlag_permanent stage check b false hlow hi hgone hperm hst hheld
    obtain ⟨hleft, hentered, hserve, hlanes, hoff, hon⟩ := laneLeave_replaced (s := faultNoted (laneNo d i) stage check s) (laneNo_mem d hi)
      ((faultNoted_place _ _ _ s _).1.trans hst) ((warmOf_faultNoted ..).trans hw)
    rw [serving_faultNoted] at hserve hlanes
    exact ⟨_, hx, hleft, hentered, hserve, (congrArg Path.lanes (pathOf_settle _ d)).trans hlanes, hoff, hon, hcharge.shows (laneNo_lt d hi)⟩
  case cold =>
    intro s d i stage check l o b w hlow hi hgone hperm hst hheld hw hwarming hcold hserve
    have hlt := laneNo_lt d hi
    obtain ⟨_, hx, rfl, hcharge⟩ := laneFaultFlag_permanent stage check b false hlow hi hgone hperm hst hheld
    obtain ⟨hleft, hramps, hdomain, hlanes, hoff⟩ := laneLeave_ramps (s := faultNoted (laneNo d i) stage check s) (laneNo_mem d hi)
      ((faultNoted_place _ _ _ s _).1.trans hst) ((warmOf_faultNoted ..).trans hw) ((warmingOf_faultNoted ..).trans hwarming)
      ((coldSpare_faultNoted ..).trans hcold) ((serving_faultNoted ..).trans hserve)
    exact ⟨_, hx, hleft, hramps, hdomain, (congrArg Path.lanes (pathOf_settle _ d)).trans hlanes, hoff,
      permanent_shows hlt (level_retired hlt hleft), hcharge.shows hlt⟩
  case held =>
    intro s d i stage check l o b hlow hi hgone hperm hst hheld hw hserve
    have hlt := laneNo_lt d hi
    obtain ⟨_, hx, rfl, hcharge⟩ := laneFaultFlag_permanent stage check b false hlow hi hgone hperm hst hheld
    obtain ⟨hserves, hstays, hlanes⟩ := laneLeave_stays (s := faultNoted (laneNo d i) stage check s) (laneNo_mem d hi)
      ((faultNoted_place _ _ _ s _).1.trans hst) ((warmOf_faultNoted ..).trans hw) ((serving_faultNoted ..).trans hserve)
    exact ⟨_, hx, hserves, hstays, hlanes, permanent_shows hlt (level_held hlt hstays), hcharge.shows hlt⟩

end Sys2Proof.Machine
end

section
/-! A journal record in its slot, and back (R189–R191). -/
namespace Sys2Proof.Machine

theorem recTag_length (key : List Byte) (slot : Nat) (head : List Byte) : (recTag key slot head).length = 8 := by
  simp [recTag, Config.cmac, Config.bytesOf]

theorem recHead_length (r : JRec) : (recHead r).length = 56 := by
  simp [recHead, beBytes_length, slice_length]

theorem recBytes_length (key : List Byte) (slot : Nat) (r : JRec) : (recBytes key slot r).length = 64 := by
  rw [recBytes, List.length_append, recHead_length, recTag_length]

/-- The fields before the payload, each where R189 puts it. -/
theorem slice_recBytes (key : List Byte) (slot : Nat) (r : JRec) :
    slice (recBytes key slot r) 0 1 = beBytes 1 r.typ ∧ slice (recBytes key slot r) 1 1 = [0x01] ∧
      slice (recBytes key slot r) 2 2 = beBytes 2 r.obj.toNat ∧ slice (recBytes key slot r) 4 4 = beBytes 4 r.wcnt ∧
      slice (recBytes key slot r) 8 8 = beBytes 8 r.seq := ⟨rfl, rfl, rfl, rfl, rfl⟩

/-- The payload stands behind the first 16 bytes. -/
theorem slice_recBytes_payload (key : List Byte) (slot : Nat) {r : JRec} (h : r.payload.length = 40) :
    slice (recBytes key slot r) 16 40 = r.payload := by
  have hdrop : (recBytes key slot r).drop 16 = r.payload ++ recTag key slot (recHead r) := by
    rw [← slice_full h]
    rfl
  rw [slice, hdrop, List.take_left' h, h]
  exact List.append_nil _

/-- Fields that fit are read as they were written. -/
theorem recFields_recBytes (key : List Byte) (slot : Nat) {r : JRec} (htyp : r.typ < 256) (hw : r.wcnt < 2 ^ 32) (hs : r.seq < 2 ^ 64)
    (hpay : r.payload.length = 40) : recFields (recBytes key slot r) = r := by
  obtain ⟨htyp0, -, hobj0, hw0, hs0⟩ := slice_recBytes key slot r
  have hobj : BitVec.ofNat 16 (r.obj.toNat % 65536) = r.obj := by
    rw [Nat.mod_eq_of_lt r.obj.isLt, BitVec.ofNat_toNat, BitVec.setWidth_eq]
  rw [recFields, htyp0, hobj0, hw0, hs0, slice_recBytes_payload key slot hpay]
  simp [beNat_beBytes, hobj, Nat.mod_eq_of_lt htyp, Nat.mod_eq_of_lt (show r.wcnt < 4294967296 from hw),
    Nat.mod_eq_of_lt (show r.seq < 18446744073709551616 from hs)]

/-- Settles O44: the 64 bytes are the fields side by side (`slice_recBytes`, `slice_recBytes_payload`), so each is read as written
(`recFields_recBytes`), and the tag is computed anew over the same 56 bytes. -/
theorem journalRecordRoundTrip : Obligations.JournalRecordRoundTrip := by
  unfold Obligations.JournalRecordRoundTrip
  intro key slot r hok hw hs hpay
  have htyp : r.typ ≤ 8 := by
    simp only [recTypeOk, Bool.and_eq_true, decide_eq_true_eq] at hok
    exact hok.1.2
  have hfields := recFields_recBytes key slot (by omega) hw hs hpay
  have hfmt : beNat (slice (recBytes key slot r) 1 1) = 1 := rfl
  have htag : (recBytes key slot r).drop 56 = recTag key slot ((recBytes key slot r).take 56) := by
    rw [recBytes, List.drop_left' (recHead_length r), List.take_left' (recHead_length r)]
  refine ⟨recBytes_length key slot r, ?_⟩
  rw [readRec, hfields, if_pos ⟨recBytes_length key slot r, htag, hfmt, hok⟩]

end Sys2Proof.Machine
end

section
/-! The effects of the journal, context store, check, telemetry and diagnostic commands. -/
namespace Sys2Proof.Machine

/-! Words. -/

theorem bitAt_of_onlyBits {m w : W64} (h : onlyBits m w = true) {i : Nat} (hi : m.getLsbD i = false) : bitAt w i = false := by
  have hzero : w &&& ~~~m = 0 := by simpa [onlyBits] using h
  by_cases hlt : i < 64
  · have hbit : (w &&& ~~~m).getLsbD i = false := by rw [hzero]; exact BitVec.getLsbD_zero
    rwa [BitVec.getLsbD_and, BitVec.getLsbD_not, hi, decide_eq_true hlt, Bool.not_false, Bool.and_self, Bool.and_true] at hbit
  · exact BitVec.getLsbD_of_ge _ _ (by omega)

theorem onlyBits_mono {m n w : W64} (h : onlyBits m w = true) (hmn : m &&& ~~~n = 0) : onlyBits n w = true := by
  have hzero : w &&& ~~~n = 0 := by
    refine BitVec.eq_of_getLsbD_eq fun i hi => ?_
    have hin : (m &&& ~~~n).getLsbD i = false := by rw [hmn]; exact BitVec.getLsbD_zero
    refine Eq.trans ?_ BitVec.getLsbD_zero.symm
    rw [BitVec.getLsbD_and] at hin ⊢
    cases hm : m.getLsbD i with
    | false => rw [show w.getLsbD i = false from bitAt_of_onlyBits h hm, Bool.false_and]
    | true => rw [hm, Bool.true_and] at hin; rw [hin, Bool.and_false]
  rw [onlyBits, hzero]
  rfl

theorem fld_of_onlyBits {m w : W64} {lo n : Nat} (h : onlyBits m w = true) (hm : ∀ i < n, m.getLsbD (lo + i) = false) : fld w lo n = 0 := by
  refine Nat.eq_of_testBit_eq fun i => ?_
  rw [fld, Nat.testBit_mod_two_pow, Nat.testBit_shiftRight, Nat.zero_testBit, Bool.and_eq_false_iff]
  by_cases hi : i < n
  · exact .inr (bitAt_of_onlyBits h (hm i hi))
  · exact .inl (decide_eq_false hi)

/-! The journal. -/

/-- Issuing a record moves the ring and takes work; the tables of the journal stay. -/
theorem jIssue_jnl (s : State) : (jIssue s).jnl = { s.jnl with
    work := (jIssue s).jnl.work, seq := (jIssue s).jnl.seq, ptr := (jIssue s).jnl.ptr, lap := (jIssue s).jnl.lap, wr := (jIssue s).jnl.wr } := by
  unfold jIssue
  split
  · rfl
  · split <;> rfl

theorem jIssue_imgWr (s : State) : (jIssue s).jnl.imgWr = s.jnl.imgWr := by rw [jIssue_jnl]

theorem jAdd_imgWr (step : Nat) (body : JBody) (done : JDone) (s : State) : (jAdd step body done s).jnl.imgWr = s.jnl.imgWr := rfl

theorem jnlGate_accepted (s : State) (wr : Bool) : jnlGate (accepted s) wr = jnlGate s wr :=
  accepted_view (fun v => jnlGate v wr) s fun _ _ _ => rfl

/-- The cells of an image join the waiting work, and the image being written stays. -/
theorem pieces_worked (kind : Nat) (ws : List W64) (is : List Nat) {s t : State} (h : JWorked s t) :
    JWorked s (is.foldl (fun t i => jAdd 5 (.cell kind i (wordAt ws i)) .nothing t) t) ∧
      (is.foldl (fun t i => jAdd 5 (.cell kind i (wordAt ws i)) .nothing t) t).jnl.imgWr = t.jnl.imgWr := by
  induction is generalizing t with
  | nil => exact ⟨h, rfl⟩
  | cons i is ih => exact ih (worked_jAdd _ _ _ h)

/-- An image is written where there is room for it. -/
theorem imageStart_first {s : State} (hwr : s.jnl.imgWr = none) (hnone : s.jnl.image = none)
    (hroom : cellsLive s + (buildImage s).length ≤ jnlCap s) :
    ∃ u im, imageStart s = (some 1, u) ∧ JWorked s u ∧ u.jnl.imgWr = some im ∧ im.gen = 1 ∧ im.words = buildImage s := by
  obtain ⟨hworked, himg⟩ := pieces_worked 7 (buildImage s) (List.range (buildImage s).length)
    (worked_jnl (s := s) (j := { s.jnl with imgWr := some { gen := 1, words := buildImage s, built := s.jnl.seq } }) rfl)
  refine ⟨_, { gen := 1, words := buildImage s, built := s.jnl.seq }, ?_, worked_jIssue (worked_jAdd 5 (.whole 6 0 (imagePayload 1 (buildImage s)))
    (.image none) hworked), ?_, rfl, rfl⟩
  · simp only [imageStart, hwr, hnone]
    rw [if_neg (by omega)]
  · rw [jIssue_imgWr, jAdd_imgWr, himg]

/-! The context store. -/

theorem mem_setAdd_self (x : Nat) (xs : List Nat) : x ∈ setAdd x xs := by
  induction xs with
  | nil => exact List.mem_singleton.2 rfl
  | cons y ys ih =>
    unfold setAdd
    split
    · exact List.mem_cons_self
    · split
      next h => exact h ▸ List.mem_cons_self
      next => exact List.mem_cons_of_mem _ ih

/-- A group that has not failed, is not being re-primed and does not wait is quarantined: alone, or with every other where too many wait
(R278). -/
theorem quarGroup_free {g : Nat} {s : State} (hf : g ∉ s.cxm.failed) (hj : s.cxm.job = none) (hq : g ∉ s.cxm.queue) :
    quarGroup g s = if !s.cxm.rebuild && decide (32 ≤ s.cxm.queue.length) then rebuildAll s
      else { s with cxm := { s.cxm with quar := setAdd g s.cxm.quar, queue := s.cxm.queue ++ [g] } } := by
  have hnf : s.cxm.failed.contains g = false := by simpa using hf
  have hnq : s.cxm.queue.contains g = false := by simpa using hq
  unfold quarGroup
  simp only [hnf, hj, hnq, Bool.false_eq_true, if_false]

section
variable {g : Nat} {s : State} (hj : s.cxm.job = none) (hq : g ∉ s.cxm.queue)
include hj hq

/-- A host's rebuild of a group: one that failed is tried again. -/
theorem rebuildGroup_free : rebuildGroup g s = quarGroup g { s with cxm := { s.cxm with failed := s.cxm.failed.filter (· != g) } } ∧
    sameBut [.cxm, .evt, .tel] s (rebuildGroup g s) ∧ (g < 1152 → g ∈ (rebuildGroup g s).cxm.quar) := by
  have hfree := quarGroup_free (g := g) (s := { s with cxm := { s.cxm with failed := s.cxm.failed.filter (· != g) } }) (by simp) hj hq
  refine ⟨rfl, ?_, fun hg => ?_⟩ <;> rw [rebuildGroup, hfree] <;> split
  · exact sameBut_trans (sameBut_mono (cxm_only s _) (by decide)) (sameBut_rebuildAll _)
  · exact sameBut_mono (cxm_only s _) (by decide)
  · simpa [rebuildAll, raise] using hg
  · exact mem_setAdd_self _ _

end

/-! Lanes. -/

/-- What a fault of a lane can write: its record and place, domains and causes, and what a YIELD sends. -/
def faultParts : List Part := [.lne, .glb, .egr, .ing, .evt, .fab, .out, .tel, .que, .cnt]

theorem sameBut_laneRetire (i : Nat) (s : State) : sameBut [.egr, .ing, .lne, .glb] s (laneRetire i s) :=
  sameBut_trans (sameBut_mono (lne_only s _) (by decide)) (sameBut_trans (sameBut_mono (glb_only _ _) (by decide))
    (sameBut_trans (sameBut_mono (glb_only _ _) (by decide)) (sameBut_mono (sameBut_setPath _ _ _) (by decide))))

theorem sameBut_laneLeave (i : Nat) (s : State) : sameBut faultParts s (laneLeave i s) := by
  have hretire : sameBut faultParts s (laneRetire i s) := sameBut_mono (sameBut_laneRetire i s) (by decide)
  unfold laneLeave
  dsimp only
  split
  · exact sameBut_trans hretire (sameBut_mono (sameBut_laneEnter _ _) (by decide))
  · split
    · exact sameBut_mono (lne_only s _) (by decide)
    · exact sameBut_trans hretire (sameBut_mono (sameBut_spareForService _ _) (by decide))

theorem sameBut_laneFault (i stage check : Nat) (s : State) : sameBut faultParts s (laneFault i stage check s) := by
  have hnoted : sameBut faultParts s (faultNoted i stage check s) := sameBut_mono (sameBut_faultNoted i stage check s) (by decide)
  cases hperm : isPermanent s.lne.retryCfg (stampAdd (laneOf s i).stamps (now s)) with
  | false =>
    rcases laneFault_transient stage check hperm with he | he <;> rw [he]
    · exact hnoted
    · exact sameBut_trans hnoted (sameBut_mono (sameBut_spareToWarm _ _) (by decide))
  | true =>
    unfold laneFault
    simp only [hperm, if_true]
    split
    · split
      · exact hnoted
      · exact sameBut_trans hnoted (sameBut_laneLeave _ _)
    · exact sameBut_trans hnoted (sameBut_mono (sameBut_laneRetire _ _) (by decide))
    · exact sameBut_trans hnoted (sameBut_mono (sameBut_laneRetire _ _) (by decide))
    · exact hnoted

theorem rng_only (s : State) (r : Nat) : sameBut [.rng] s { s with rng := r } := by
  intro p hp
  cases p <;> simp_all [Part.same]

theorem rng_accepted (s : State) (n : Nat) : { accepted s with rng := (accepted s).rng + n } =
    { s with rng := s.rng + n, mci := { s.mci with nextId := s.mci.nextId + 1 }, tel := (accepted s).tel, que := (accepted s).que } := by
  rw [accepted_eq]

/-- The slots that a test of a lane takes are telemetry's alone to count. -/
theorem sameBut_katSlots (c : Bool) (d : Dir) (s : State) : sameBut [.tel] s ((if c then katSlots d else id) s) := by
  cases c
  · exact sameBut_refl _ _
  · cases d <;> exact tel_only s _

/-! Telemetry. -/

/-- Acceptance counts in the counters of telemetry alone, whatever else telemetry holds. -/
theorem accepted_tel {s : State} {v : Tel} (hcfg : v.cfg = s.tel.cfg) (hcnt : v.cnt = s.tel.cnt) (hwrap : v.wrapPend = s.tel.wrapPend) :
    accepted { s with tel := v } =
      { accepted s with tel := { v with cnt := (accepted s).tel.cnt, wrapPend := (accepted s).tel.wrapPend } } := by
  have hon : ∀ m, telOn { s with tel := v, mci := m } = telOn s := fun _ => rfl
  have hon' : ∀ m, telOn { s with mci := m } = telOn s := fun _ => rfl
  obtain ⟨⟩ := v
  simp only at hcfg hcnt hwrap
  subst hcfg hcnt hwrap
  unfold accepted telBump
  simp only [hon, hon']
  split <;> rfl

theorem accepted_uncounted {s : State} (h : ∀ e ∈ s.tel.cfg, telCounts e.2 0x1D6 none = false) : (accepted s).tel.cnt = s.tel.cnt := by
  have hnone : s.tel.cfg.filter (fun e => telCounts e.2 0x1D6 none) = [] :=
    List.filter_eq_nil_iff.2 fun e he => by rw [h e he]; decide
  unfold accepted telBump
  split
  · simp [hnone]
  · rfl

end Sys2Proof.Machine
end

section
/-! The journal, context store, check, telemetry and diagnostic commands of a host. -/
namespace Sys2Proof.Machine

/-- Starting to wait comes before or after what an effect writes elsewhere. -/
theorem sameBut_waiting {qs : List Part} {q : QCmd} {w : Wait} {s u : State} (h : sameBut qs s u) :
    sameBut qs (waitFor q w s) (waitFor q w u) := by
  intro x hx
  have hpart := h x hx
  cases x
  case mci =>
    simp only [Part.same] at hpart
    simp only [Part.same, waitFor, hpart]
  all_goals exact hpart

section
variable {p : Pkt} {s v : State}

theorem setChk_accepted (k : Nat) (c : Chk) : setChk k c (accepted s) = { setChk k c s with
    mci := { (setChk k c s).mci with nextId := (setChk k c s).mci.nextId + 1 }, tel := (accepted s).tel, que := (accepted s).que } := by
  rw [accepted_eq]
  rfl

theorem chkRunEff_starts (h0 : onlyBits 0x8773 (wordAt p.words 0) = true) (h3 : onlyBits 0xFFFFFFFF (wordAt p.words 3) = true)
    (h5 : onlyBits 0xFF (wordAt p.words 5) = true) (hstop : bitAt (wordAt p.words 0) 15 = false)
    (hprog : chkProgOk (chkProg (newCmd 0x80 p s)) = true) (hon : pdIsOn v 54 = true) (hgate : v.glb.gating.getLsbD 2 = false)
    (hidle : (chkOf v (fld (wordAt p.words 0) 0 2)).st = .idle) :
    chkRunEff (newCmd 0x80 p s) v = ok (newCmd 0x80 p s) (setChk (fld (wordAt p.words 0) 0 2)
      { chkOf v (fld (wordAt p.words 0) 0 2) with
        st := .running, pos := (chkProg (newCmd 0x80 p s)).start, unit := [], buf := [], err := false,
        prog := some (chkProg (newCmd 0x80 p s)), skipped := 0, deferred := none } v) := by
  have hw : ∀ k, (newCmd 0x80 p s).w k = wordAt p.words k := fun _ => rfl
  unfold chkRunEff
  simp only [hw, h0, h3, h5, hstop, hprog, hon, hgate, hidle]
  rfl

theorem chkRunEff_stops (h0 : onlyBits 0x8003 (wordAt p.words 0) = true) (hstop : bitAt (wordAt p.words 0) 15 = true)
    (hrest : (p.words.drop 1).all (· == 0) = true) (hon : pdIsOn v 54 = true) (hgate : v.glb.gating.getLsbD 2 = false)
    (hrun : (chkOf v (fld (wordAt p.words 0) 0 2)).st = .running) :
    chkRunEff (newCmd 0x80 p s) v = ok (newCmd 0x80 p s) (setChk (fld (wordAt p.words 0) 0 2)
      { chkOf v (fld (wordAt p.words 0) 0 2) with st := .stopping } v) := by
  have hw : ∀ k, (newCmd 0x80 p s).w k = wordAt p.words k := fun _ => rfl
  have hzero : ∀ k, wordAt p.words (k + 1) = 0 := fun k => by
    have hd : wordAt p.words (k + 1) = (p.words.drop 1).getD k 0 := by simp [wordAt, List.getD]
    rw [hd]
    by_cases hk : k < (p.words.drop 1).length
    · rw [List.getD_eq_getElem _ _ hk]
      exact eq_of_beq (List.all_eq_true.1 hrest _ (List.getElem_mem hk))
    · exact List.getD_eq_default _ _ (Nat.le_of_not_lt hk)
  have hany : (p.words.drop 1).any (· != 0) = false := by
    rw [List.any_eq_false]
    intro w hmem
    rw [eq_of_beq (List.all_eq_true.1 hrest w hmem)]
    decide
  have hfld : fld (wordAt p.words 0) 4 7 = 0 := fld_of_onlyBits h0 (by decide)
  have hp : (newCmd 0x80 p s).pkt = p := rfl
  unfold chkRunEff
  simp only [hw, hp, onlyBits_mono h0 (n := 0x8773) (by decide), hzero 2, hzero 4, hstop, hany, hfld, hon, hgate, hrun]
  rfl

end

theorem sameBut_reply_fields (s : State) (m : Mci) (e : Evts) (v : Tel) (c : SMap Nat) (q : SMap Que) :
    sameBut [.mci, .evt, .tel, .cnt, .que] s { s with mci := m, evt := e, tel := v, cnt := c, que := q } := by
  intro x hx
  cases x <;> simp_all [Part.same]

/-- What a reply to a freeze or a release of the counters leaves: telemetry is `v`, but for its own counts. -/
theorem slate_answered {n : Nat} {p : Pkt} {s : State} {v : Tel} (hn : n < 4) (hr : p.req = .hq n) (ws : List W64)
    (hcfg : v.cfg = s.tel.cfg) (hcnt : v.cnt = s.tel.cnt) (hwrap : v.wrapPend = s.tel.wrapPend) :
    answered 0x88 n p stOk ws { s with tel := v } (settle (complete (newCmd 0x88 p s) stOk ws
      { accepted s with tel := { v with cnt := (accepted s).tel.cnt, wrapPend := (accepted s).tel.wrapPend } })) := by
  rw [← accepted_tel hcfg hcnt hwrap]
  exact complete_answered (s := { s with tel := v }) hn hr stOk ws

theorem telSlateEff_freezes {q : QCmd} {s : State} (hw : q.w 0 = 0) (hoff : s.tel.frozen = false) (hon : telOn s = true)
    (hgate : s.glb.gating.getLsbD 3 = false) :
    telSlateEff q (accepted s) = complete q stOk [s.time] { accepted s with tel := { { s.tel with
      frozen := true, slateTime := s.time, shd := (accepted s).tel.cnt, egrShd := s.tel.egr, ingShd := s.tel.ing } with
      cnt := (accepted s).tel.cnt, wrapPend := (accepted s).tel.wrapPend } } := by
  have htel : (accepted s).tel = { s.tel with cnt := (accepted s).tel.cnt, wrapPend := (accepted s).tel.wrapPend } := accepted_telSame s
  have hfrozen : (accepted s).tel.frozen = false := by rw [htel, hoff]
  have hon' : telOn (accepted s) = true := by rwa [accepted_view telOn s fun _ _ _ => rfl]
  have hgate' : (accepted s).glb.gating.getLsbD 3 = false := by rw [accepted_glb, hgate]
  have htime : (accepted s).time = s.time := sameBut_accepted s .time (by decide)
  simp only [telSlateEff, hw, hfrozen, hon', hgate', htime]
  rw [htel]
  rfl

theorem telSlateEff_releases {q : QCmd} {s : State} (hw : q.w 0 = 1) :
    telSlateEff q (accepted s) = complete q stOk [s.tel.slateTime] { accepted s with tel := { { s.tel with frozen := false } with
      cnt := (accepted s).tel.cnt, wrapPend := (accepted s).tel.wrapPend } } := by
  have htel : (accepted s).tel = { s.tel with cnt := (accepted s).tel.cnt, wrapPend := (accepted s).tel.wrapPend } := accepted_telSame s
  simp only [telSlateEff, hw]
  rw [htel]
  rfl

/-- Settles O30, command by command: the commands that wait are their entry in the list of running ones and what their effect wrote
(`waits_changed`), the others their reply and what their effect wrote (`complete_changed`, `complete_replies`). -/
theorem storeCheckAndTestCommands : Obligations.StoreCheckAndTestCommands := by
  unfold Obligations.StoreCheckAndTestCommands
  have hjnl : ∀ s, (accepted s).jnl = s.jnl := fun s => sameBut_accepted s .jnl (by decide)
  have hcxm : ∀ s, (accepted s).cxm = s.cxm := fun s => sameBut_accepted s .cxm (by decide)
  refine ⟨?imageNext, ?image, ?erase, ?sweep, ?sweepBusy, ?region, ?group, ?chkStarts, ?chkStops, ?freeze, ?release, ?laneKat, ?vaultKat⟩
  case imageNext =>
    intro p s n im h hgate hwr
    have hstart : imageStart (accepted s) = (some (im.gen + 1), { accepted s with jnl := { s.jnl with imgNext := true } }) := by
      simp only [imageStart, hjnl, hwr]
    refine ⟨_, row_now rfl h, ?_⟩
    simp only [jnlCommitImageEff, jnlGate_accepted, hgate, hstart]
    obtain ⟨hwait, -, hsame⟩ := waits_changed (s := s) (ps := [.mci, .evt, .tel, .que, .jnl])
      (sameBut_waiting (q := newCmd 0x70 p s) (w := .image (im.gen + 1)) (jnl_only (accepted s) { s.jnl with imgNext := true }))
      (by decide) (by decide) (by decide)
    exact ⟨hwait, rfl, hsame⟩
  case image =>
    intro p s n h hgate hwr hnone hroom
    have hbuild : buildImage (accepted s) = buildImage s := by
      rw [accepted_eq]
      rfl
    obtain ⟨u, im, hstart, hu, himg, hgen, hwords⟩ := imageStart_first (s := accepted s) (by rw [hjnl, hwr]) (by rw [hjnl, hnone]) (by
      rw [hbuild, accepted_view cellsLive s fun _ _ _ => rfl, accepted_view jnlCap s fun _ _ _ => rfl]
      exact hroom)
    refine ⟨_, row_now rfl h, ?_⟩
    simp only [jnlCommitImageEff, jnlGate_accepted, hgate, hstart]
    obtain ⟨hwait, -, hsame⟩ := waits_changed (s := s) (ps := [.mci, .evt, .tel, .que, .jnl, .out])
      (sameBut_waiting (q := newCmd 0x70 p s) (w := .image 1) hu.same) (by decide) (by decide) (by decide)
    exact ⟨hwait, ⟨im, himg, hgen, hwords.trans hbuild⟩, hsame⟩
  case erase =>
    intro p s n h hgate
    refine ⟨_, row_now rfl h, ?_⟩
    simp only [jnlEraseEff, jnlGate_accepted, hgate, hjnl]
    generalize hgen : imagePayload _ [] = payload
    obtain ⟨hwait, -, hsame⟩ := waits_changed (s := s) (ps := [.mci, .evt, .tel, .que, .jnl, .out])
      (worked_jIssue (worked_jAdd 5 (.whole 6 0 payload) (.erase (some (newCmd 0x72 p s).id))
        (.refl (waitFor (newCmd 0x72 p s) (.jnl s.jnl.nextWork) (accepted s))))).same (by decide) (by decide) (by decide)
    have hkept := congrArg (fun j => (j.image, j.nextWork))
      (jIssue_jnl (jAdd 5 (.whole 6 0 payload) (.erase (some (newCmd 0x72 p s).id)) (waitFor (newCmd 0x72 p s) (.jnl s.jnl.nextWork) (accepted s))))
    obtain ⟨himage, hnext⟩ := Prod.mk.inj hkept
    exact ⟨hwait, himage.trans (show (accepted s).jnl.image = s.jnl.image by rw [hjnl]),
      hnext.trans (show (accepted s).jnl.nextWork + 1 = s.jnl.nextWork + 1 by rw [hjnl]), hsame⟩
  case sweep =>
    intro p s n h hoff hunw hmix
    have hunw' : unwInSvc (accepted s) ≠ 0 := by rwa [accepted_view unwInSvc s fun _ _ _ => rfl]
    have hmix' : (vslot (accepted s) mixNextSlot).st = .loaded := by rwa [accepted_view (fun v => vslot v mixNextSlot) s fun _ _ _ => rfl]
    refine ⟨_, row_now rfl h, ?_⟩
    have heff : cxmRekeyScrambleEff (newCmd 0x78 p s) (accepted s) = waitFor (newCmd 0x78 p s) .sweep
        { accepted s with cxm := { s.cxm with sweepOn := true, sweepPtr := 0, sweepRead := false } } := by
      simp [cxmRekeyScrambleEff, hoff, hunw', hmix']
    rw [heff]
    obtain ⟨hwait, -, hsame⟩ := waits_changed (s := s) (ps := [.mci, .evt, .tel, .que, .cxm])
      (sameBut_waiting (q := newCmd 0x78 p s) (w := .sweep) (cxm_only (accepted s) _)) (by decide) (by decide) (by decide)
    exact ⟨hwait, rfl, hsame⟩
  case sweepBusy =>
    intro p s n h hon
    obtain ⟨hn, hr⟩ := startsNow_req h
    refine ⟨_, row_now rfl h, ?_⟩
    rw [cxmRekeyScrambleEff, if_pos (by rw [hcxm, hon])]
    exact complete_answered hn hr stBusy []
  case region =>
    intro p s n h hbits h63 hoff
    have hw : (newCmd 0x79 p s).w 0 = wordAt p.words 0 := rfl
    have heff : cxmRebuildEff (newCmd 0x79 p s) (accepted s) = waitFor (newCmd 0x79 p s) (.rebuild none) (rebuildAll (accepted s)) := by
      simp only [cxmRebuildEff, hw, hbits, h63, hcxm, hoff]
      rfl
    refine ⟨_, row_now rfl h, ?_⟩
    rw [heff]
    obtain ⟨hwait, -, hsame⟩ := waits_changed (s := s) (ps := [.mci, .evt, .tel, .que, .cxm])
      (sameBut_waiting (q := newCmd 0x79 p s) (w := .rebuild none) (sameBut_rebuildAll (accepted s))) (by decide) (by decide) (by decide)
    refine ⟨hwait, waiting_shows (by decide) (raiseL_waits (by decide) _ _), ?_, hsame⟩
    rw [← hcxm s]
    exact sameBut_raiseL .cxm 10 [] _ .cxm (by decide)
  case group =>
    intro p s n h hbits hg hjob hq
    have hw : (newCmd 0x79 p s).w 0 = wordAt p.words 0 := rfl
    have hbits' : onlyBits 0x80000000000007FF (wordAt p.words 0) = true := onlyBits_mono hbits (by decide)
    have h63 : bitAt (wordAt p.words 0) 63 = false := bitAt_of_onlyBits hbits (by decide)
    obtain ⟨-, hsame, hquar⟩ := rebuildGroup_free (g := fld (wordAt p.words 0) 0 11) (s := accepted s) (by rw [hcxm, hjob]) (by rwa [hcxm])
    have heff : cxmRebuildEff (newCmd 0x79 p s) (accepted s) = waitFor (newCmd 0x79 p s) (.rebuild (some (fld (wordAt p.words 0) 0 11)))
        (rebuildGroup (fld (wordAt p.words 0) 0 11) (accepted s)) := by
      simp only [cxmRebuildEff, hw, hbits', h63, decide_eq_false (Nat.not_le.2 hg)]
      rfl
    refine ⟨_, row_now rfl h, ?_⟩
    rw [heff]
    obtain ⟨hwait, -, -⟩ := waits_changed (s := s) (ps := [.mci, .evt, .tel, .que, .cxm])
      (sameBut_waiting (q := newCmd 0x79 p s) hsame) (by decide) (by decide) (by decide)
    exact ⟨hwait, hquar hg⟩
  case chkStarts =>
    intro p s n h h0 h3 h5 hstop hprog hon hgate hidle
    obtain ⟨hn, hr⟩ := startsNow_req h
    have hchk : ∀ k, chkOf (accepted s) k = chkOf s k := fun k => accepted_view (fun v => chkOf v k) s fun _ _ _ => rfl
    refine ⟨_, row_now rfl h, ?_⟩
    rw [chkRunEff_starts h0 h3 h5 hstop hprog (by rw [pdIsOn, accepted_glb]; exact hon) (by rw [accepted_glb]; exact hgate)
      (by rw [hchk]; exact hidle), hchk]
    exact complete_changed hn hr (setChk_accepted _ _) rfl rfl rfl rfl stOk []
  case chkStops =>
    intro p s n h h0 hstop hrest hon hgate hrun
    obtain ⟨hn, hr⟩ := startsNow_req h
    have hchk : ∀ k, chkOf (accepted s) k = chkOf s k := fun k => accepted_view (fun v => chkOf v k) s fun _ _ _ => rfl
    refine ⟨_, row_now rfl h, ?_⟩
    rw [chkRunEff_stops h0 hstop hrest (by rw [pdIsOn, accepted_glb]; exact hon) (by rw [accepted_glb]; exact hgate)
      (by rw [hchk]; exact hrun), hchk]
    exact complete_changed hn hr (setChk_accepted _ _) rfl rfl rfl rfl stOk []
  case freeze =>
    intro p s n h hw hoff hon hgate
    obtain ⟨hn, hr⟩ := startsNow_req h
    have hw0 : (newCmd 0x88 p s).w 0 = 0 := hw
    refine ⟨_, row_now rfl h, ?_⟩
    rw [telSlateEff_freezes hw0 hoff hon hgate]
    obtain ⟨hreply, hframe, -, -, htel, -⟩ := slate_answered hn hr [s.time] (v := { s.tel with
      frozen := true, slateTime := s.time, shd := (accepted s).tel.cnt, egrShd := s.tel.egr, ingShd := s.tel.ing }) rfl rfl rfl
    generalize settle _ = t at hreply hframe htel ⊢
    rw [htel]
    refine ⟨hreply, rfl, rfl, rfl, rfl, rfl, accepted_uncounted, ?_⟩
    rw [hframe]
    exact sameBut_reply_fields s _ _ _ _ _
  case release =>
    intro p s n h hw
    obtain ⟨hn, hr⟩ := startsNow_req h
    have hw0 : (newCmd 0x88 p s).w 0 = 1 := hw
    refine ⟨_, row_now rfl h, ?_⟩
    rw [telSlateEff_releases hw0]
    exact slate_answered hn hr _ rfl rfl rfl
  case laneKat =>
    intro p s n h hbits hlt hst
    obtain ⟨hn, hr⟩ := startsNow_req h
    generalize hd : (if bitAt (wordAt p.words 0) 5 then Dir.ing else .egr) = d at hst
    have hw : (newCmd 0xF0 p s).w 0 = wordAt p.words 0 := rfl
    have hlane : laneOf (accepted s) (laneNo d (fld (wordAt p.words 0) 0 5)) = laneOf s (laneNo d (fld (wordAt p.words 0) 0 5)) :=
      accepted_view (fun v => laneOf v (laneNo d (fld (wordAt p.words 0) 0 5))) s fun _ _ _ => rfl
    have hrng : (accepted s).rng = s.rng := sameBut_accepted s .rng (by decide)
    obtain ⟨u, heff, hu⟩ : ∃ u, diagLaneKatEff (newCmd 0xF0 p s) (accepted s) =
        complete (newCmd 0xF0 p s) stOk [put (bn (katClean (Config.laneDefect s.rng))) 0 1] u ∧ sameBut (.rng :: faultParts) (accepted s) u := by
      refine ⟨_, by
        simp only [diagLaneKatEff, hw, hbits, hd, hlane, hrng, decide_eq_false (Nat.not_le.2 hlt), beq_eq_false_iff_ne.2 hst]
        rfl, ?_⟩
      have hslots : sameBut (.rng :: faultParts) (accepted s)
          ((if (laneOf s (laneNo d (fld (wordAt p.words 0) 0 5))).st == .inService then katSlots d else id)
            { accepted s with rng := s.rng + 1 }) :=
        sameBut_trans (sameBut_mono (rng_only _ _) (by decide)) (sameBut_mono (sameBut_katSlots _ _ _) (by decide))
      split
      · exact hslots
      · exact sameBut_trans hslots (sameBut_mono (sameBut_laneFault _ _ _ _) (by decide))
    refine ⟨_, row_now rfl h, ?_⟩
    rw [heff]
    obtain ⟨hreply, hsame⟩ := complete_replies (ps := .rng :: .mci :: faultParts) (st := stOk) (s := s) hn hr
      (by rw [hu .mci (by decide), accepted_mci]) (sameBut_trans (sameBut_mono (sameBut_accepted s) (by decide)) (sameBut_mono hu (by decide)))
      (by decide)
    exact ⟨hreply, hsame .secys (by decide), hsame .tx (by decide), hsame .rx (by decide), hsame .vlt (by decide), hsame .jnl (by decide)⟩
  case vaultKat =>
    intro p s n h
    obtain ⟨hn, hr⟩ := startsNow_req h
    refine ⟨_, row_now rfl h, ?_⟩
    rw [diagVaultKatEff, accepted_view vaultKat s fun _ _ _ => rfl]
    exact complete_changed (v := { s with rng := s.rng + 10 }) hn hr (rng_accepted s 10) rfl rfl rfl rfl stOk _

end Sys2Proof.Machine
end

section
/-! The sync of a mark where the number that its work takes is in use. -/
namespace Sys2Proof.Machine

/-- A message that is heard from the partner is acted on. -/
theorem recvPartner_heard {s : State} {h : MsgHdr} {m : FabMsg} {a : Nat} (hh : heardPartner s h m a) (eff : Nat → State → State) :
    recvPartner h m eff s = eff a (msgCounted h.port s) := by
  obtain ⟨hfrom, hpartner⟩ := hh
  have hkept : (msgCounted h.port s).fab.pair.partner = some a := by rw [sameBut_msgCounted h.port s .fab (by decide), hpartner]
  exact (recvFrom_heard hfrom _).trans (if_pos (by rw [hkept]; exact beq_self_eq_true _))

/-- Waiting journal work under the number that the next work takes. -/
def workNumbered0 : JWork := { id := 0, step := 0, body := .whole 7 0 [], done := .nothing }

/-- Engine 2 with its partner, engine 6, behind port 3; one piece of journal work waits. -/
def pairOfTwo : State :=
  { homeOfTwo with
    fab := { homeOfTwo.fab with pair := { Pair.reset with partner := some 6 } }
    jnl := { Jnl.reset with resolved := true, work := [workNumbered0] } }

/-- Engine 6 tells the mark of its SA 4. -/
def markOfSix : LeaseSync := { home := 6, sa := 4, epoch := 0, mark := 1000 }

/-- The header of its message, with its MAC. -/
def syncHeader : MsgHdr := { ackUnsealed with mac := msgMac pairOfTwo ackUnsealed (.leaseSync markOfSix) }

theorem markOfSix_heard : heardPartner pairOfTwo syncHeader (.leaseSync markOfSix) 6 :=
  ⟨heardFrom_sealed (h := ackUnsealed) rfl rfl (by decide) ⟨rfl, rfl⟩ rfl (by decide), rfl⟩

/-- The record that is issued takes both pieces of work of number 0 out of the list, and carries the older one alone. -/
theorem syncTaken_pairOfTwo :
    workPending (syncTaken 4100 1000 (msgCounted 3 pairOfTwo)) (fun d => d == .syncAck 4100 1000) = false := by
  decide

theorem markOfSix_exec {t : State} (h : exec (.leaseSync syncHeader markOfSix) pairOfTwo = .next t) :
    workPending t (fun d => d == .syncAck 4100 1000) = false := by
  have hrow : exec (.leaseSync syncHeader markOfSix) pairOfTwo = run pairOfTwo (recvPartner syncHeader (.leaseSync markOfSix)
    (fun _ t => match keyNamed t 6 4 with
      | some k =>
        if 1000 ≤ smGet 0 t.jnl.pmark (k % 4096) then sendSyncAck k 1000 t
        else if readOnly t then t else syncTaken k 1000 t
      | none => t) pairOfTwo) := rfl
  rw [hrow, run_high rfl, recvPartner_heard markOfSix_heard] at h
  obtain rfl := Host.Outcome.next.inj h
  have hkey : keyNamed (msgCounted 3 pairOfTwo) 6 4 = some 4100 := by decide
  have hnew : ¬ 1000 ≤ smGet 0 (msgCounted 3 pairOfTwo).jnl.pmark (4100 % 4096) := by decide
  have hwrites : readOnly (msgCounted 3 pairOfTwo) = false := by decide
  rw [workPending, sameBut_settle _ .jnl (by decide)]
  simp only [syncHeader, ackUnsealed, hkey, hnew, hwrites, if_false, Bool.false_eq_true]
  exact syncTaken_pairOfTwo

/-- Refutes O48, at its clause on the LEASE_SYNC of a new mark. The statement ranges over every state, and so over one in which a
waiting piece of work has the number that the next work takes (`pairOfTwo`; no run reaches it, as numbers only rise). The record that
is issued for the older piece takes both out of the list by that number, and the sync is not pending. -/
theorem not_leases : ¬ Obligations.Leases := by
  unfold Obligations.Leases
  rintro ⟨-, -, -, -, -, -, -, -, -, -, -, -, -, -, -, hsync, -⟩
  obtain ⟨t, ht, hpending, -⟩ := hsync pairOfTwo syncHeader markOfSix 6 4100 rfl markOfSix_heard (by decide) (by decide) (by decide)
  exact Bool.false_ne_true ((markOfSix_exec ht).symm.trans hpending)

end Sys2Proof.Machine
end

section
/-! The partner's reply while a group with an SA that no source holds is re-primed. -/
namespace Sys2Proof.Machine

/-- A group is assembled in the context store alone. -/
theorem ctx_primeGroup (g : Nat) (s : State) : sameBut ctxParts s (primeGroup g s) :=
  sameBut_trans (sameBut_trans (ctx_cxm s _) (sameBut_trans (ctx_cxm _ _) (ctx_pumpWrites 32 _))) (ctx_pumpCxm _)

/-- The CA's only peer: live, and after this engine in the election of the key server. -/
def livePeer : MkPeer :=
  { sci := 2, mi := 9, mn := 1, prio := 200, live := true, suites := 1, offCap := 0, rxKn := 1, txKn := 1, sends := true, sc := some 0 }

/-- The participant of link 0: this engine is the key server, and the SAK is in use. -/
def keyServer : MkPart := { participantInUse with peers := [livePeer], ks := some 1 }

/-- Group 128 is re-primed and waits for the partner's values. -/
def asksForGroup : Reprime := { group := 128, asking := true, lows := [], written := false }

/-- Engine 2 with its partner, engine 6, behind port 3. Receive SA 0, of an MKA SecY, lies in the group that is re-primed; the DRBG is
off. -/
def reprimingMka : State :=
  { homeOfTwo with
    fab := { homeOfTwo.fab with pair := { Pair.reset with partner := some 6, formed := true, live := true } }
    glb := { Glb.reset with mode := .protect }
    secys := [(0, some (newSecy 1 0x80000000000 0))]
    sct := { ScTab.reset with scs := [(0, some ⟨0, 7⟩)] }
    rx := [(0, some overlapSa)]
    cxm := { State.reset.cxm with job := some asksForGroup }
    svc := { Svc.reset with cas := [(0, { MkCa.reset with enabled := true, prio := 10, first := some keyServer })] } }

/-- The header of the partner's reply, with its MAC. -/
def replyHeader : MsgHdr := { ackUnsealed with mac := msgMac reprimingMka ackUnsealed (.mirrorReply []) }

theorem reply_heard : heardPartner reprimingMka replyHeader (.mirrorReply []) 6 :=
  ⟨heardFrom_sealed (h := ackUnsealed) rfl rfl (by decide) ⟨rfl, rfl⟩ rfl (by decide), rfl⟩

/-- The partner's values are at hand for the group of job `j`. -/
def replyTaken (j : Reprime) (rs : List MirRx) (s : State) : State :=
  { s with cxm := { s.cxm with job := some { j with asking := false, lows := rs } } }

/-- With its sources at hand a group is rebuilt line by line and assembled. -/
theorem primeNow_replyTaken {j : Reprime} (rs : List MirRx) (s : State) (hj : j.written = false) :
    primeNow (replyTaken j rs s) = primeGroup j.group ((groupLines j.group).foldl (fun t n => rebuildLine rs n t)
      (replyTaken { j with written := true } rs s)) := by
  simp only [primeNow, replyTaken, hj, Bool.or_self, Bool.false_eq_true, if_false]

/-- The state in which the lines are rebuilt. -/
def rebuilding : State := replyTaken { asksForGroup with written := true } [] (msgCounted 3 reprimingMka)

/-- The CA of link 0 wants a new SAK. -/
def caWants : MkCa := { MkCa.reset with enabled := true, prio := 10, first := some { keyServer with want := true } }

/-- The SA has no source, so that it goes, and its CA wants a new SAK. -/
theorem rebuildLine_reprimingMka : (rebuildLine [] 8192 rebuilding).svc.cas = [(0, caWants)] ∧
    (rebuildLine [] 8192 rebuilding).rx = [] :=
  ⟨by decide, by decide⟩

/-- Of the lines of receive SAs that are not there, nothing is rebuilt. -/
theorem rebuildLine_noSas {lows : List MirRx} {n : Nat} {s : State} (hn : 8192 ≤ n) (hrx : s.rx = []) :
    sameBut [.cxm] s (rebuildLine lows n s) := by
  have hnone : rxOf s (n - 8192) = none := by rw [rxOf, hrx]; rfl
  unfold rebuildLine
  split
  · exact cxm_only s _
  · rw [if_neg (by omega), if_neg (by omega), if_neg (by omega), rebuildRx, hnone]
    exact sameBut_refl _ _

theorem rebuildLines_noSas {lows : List MirRx} {ns : List Nat} (hns : ∀ n ∈ ns, 8192 ≤ n) {s : State} (hrx : s.rx = []) :
    sameBut [.cxm] s (ns.foldl (fun t n => rebuildLine lows n t) s) := by
  induction ns generalizing s with
  | nil => exact sameBut_refl _ _
  | cons n ns ih =>
    have hline := rebuildLine_noSas (lows := lows) (hns n List.mem_cons_self) hrx
    exact sameBut_trans hline (ih (fun m hm => hns m (List.mem_cons_of_mem _ hm)) ((hline .rx (by decide)).trans hrx))

/-- The group is assembled with the CA's wish noted. -/
theorem primeNow_reprimingMka : (primeNow (replyTaken asksForGroup [] (msgCounted 3 reprimingMka))).svc.cas = [(0, caWants)] := by
  have hlines : groupLines asksForGroup.group = 8192 :: (groupLines 128).tail := rfl
  have hrest : ∀ n ∈ (groupLines 128).tail, 8192 ≤ n := fun n hn => by
    obtain ⟨k, -, rfl⟩ := List.mem_map.1 (List.mem_of_mem_tail hn)
    omega
  obtain ⟨hcas, hrx⟩ := rebuildLine_reprimingMka
  rw [primeNow_replyTaken [] _ rfl, ctx_primeGroup _ _ .svc (by decide), hlines, List.foldl_cons, ← rebuilding,
    rebuildLines_noSas hrest hrx .svc (by decide)]
  exact hcas

theorem mirrorReply_exec {t : State} (h : exec (.mirrorReply replyHeader []) reprimingMka = .next t) : t.svc.cas = [(0, caWants)] := by
  have hrow : exec (.mirrorReply replyHeader []) reprimingMka = run reprimingMka (recvPartner replyHeader (.mirrorReply [])
    (fun _ t => match t.cxm.job with
      | some j => if j.asking then primeNow (replyTaken j [] t) else t
      | none => t) reprimingMka) := rfl
  have hjob : (msgCounted 3 reprimingMka).cxm.job = some asksForGroup := by
    rw [sameBut_msgCounted 3 reprimingMka .cxm (by decide)]
    rfl
  have hasks : asksForGroup.asking = true := rfl
  rw [hrow, run_high rfl, recvPartner_heard reply_heard] at h
  obtain rfl := Host.Outcome.next.inj h
  rw [sameBut_settle _ .svc (by decide)]
  simp only [replyHeader, ackUnsealed, hjob, hasks, if_true]
  exact primeNow_reprimingMka

/-- Refutes O55, at its clause on the MIRROR_REPLY that a group's re-priming waits for: the group's lines are rebuilt at once, and an SA
that no source holds, as an MKA SecY's is not in the image, goes. Its CA then wants a new SAK (`reprimingMka`), which changes the state of
the services that the clause holds fixed. -/
theorem not_pairs : ¬ Obligations.Pairs := by
  unfold Obligations.Pairs
  rintro ⟨-, -, -, -, -, -, -, -, -, -, -, -, -, -, -, -, -, -, hreply, -⟩
  obtain ⟨t, ht, -, -, hsvc⟩ := hreply reprimingMka replyHeader [] 6 asksForGroup rfl reply_heard rfl rfl
  have hcas : [(0, caWants)] = reprimingMka.svc.cas := (mirrorReply_exec ht).symm.trans (congrArg Svc.cas hsvc)
  exact absurd hcas (by decide)

end Sys2Proof.Machine
end
